-- ==== Sys2Proof/Word.lean ====
section
/-! DEFINITION. Word.lean: the plain data types every other file is written over: bytes, words, an
object value (R5: little-endian), instants of external time, and a sparse table in canonical form. -/

namespace Sys2Proof

/-- One byte. -/
abbrev Byte := BitVec 8

/-- A 32-bit word: FP32 bit patterns, doorbell values. -/
abbrev Word32 := BitVec 32

/-- A 64-bit word: plane words, CRC states, generator states. -/
abbrev Word64 := BitVec 64

/-- The value of a structure of `size` bytes, read as ONE little-endian number (R5): bit 0 is the least
significant bit of the lowest-addressed byte, as the bit maps of R7 number it. -/
structure Blob where
  size : Nat
  val  : Nat
deriving DecidableEq, Repr, Inhabited

/-- An instant or a length of external time, in ns; lengths are kept exactly (R78). -/
abbrev Instant := Rat

/-- A table with few entries set: (key, value) pairs, keys strictly rising. -/
abbrev Sparse (α : Type) := List (Nat × α)

end Sys2Proof
end

