-- ==== Sys2Proof/Carried.lean ====
section
/-! DEFINITION. Carried.lean: what packets and images carry, so that commands can bring it: a trellis packet, a recipe, the
state of a tile, of a ring pair, of the serving loop, of an almanac segment, of a meter period. -/

namespace Sys2Proof

/-- A trellis packet (R146, R147). `data` is the payload. -/
structure Packet where
  ty      : Nat
  vc      : Nat
  label   : Nat
  flits   : Nat
  bytes   : Nat
  offset  : Nat
  cuvee   : Nat
  src     : Nat
  dst     : Nat
  mgroup  : Nat
  tag     : Nat
  try_    : Nat
  last    : Bool
  combine : Bool
  stamp   : Nat
  addr    : Nat
  ncomb   : Nat
  status  : Nat
  /-- Not a header field: the cache policy of the translation (R194), which the packet's route resolves. -/
  cache   : Nat
  data    : List Byte
  /-- Not header fields: its place in the order of injection, which R150 keeps, and the routers whose combining buffer it has
  waited in (R164). -/
  serial  : Nat
  held    : List Nat
deriving DecidableEq, Repr, Inhabited

/-- A WRITE_CQ, FETCH_SQ, courier or vintner access that met a translation fault (R224): its kind and VA. -/
structure XFault where
  kind : Nat
  va   : Nat
deriving DecidableEq, Repr, Inhabited

/-- A placement of a recipe (R287, R288): its tile count, groups, and each tile's program. -/
structure Placement where
  tiles    : Nat
  groups   : List Nat                       -- tile-group entries of R288, by model-relative number
  stepBase : List Nat                       -- STEP_BASE of each tile's program
  image    : List (Nat × Nat × List Byte)   -- (placement tile, tile-store byte offset, bytes)
  xferRows : List (Nat × Nat × Nat)         -- (placement tile, row, 128-bit transfer row)
deriving DecidableEq, Repr, Inhabited

/-- A recipe as its bottle carries it (R287): its header with the directory's entries (TYPE, offset, bytes), and the sections. -/
structure Recipe where
  magic      : Nat
  version    : Nat
  kind       : Nat
  sections   : List (Nat × Nat × Nat)
  placements : List Placement
  barriers   : List Nat                     -- barrier entries of R176
  multicast  : List Nat                     -- multicast entries of R158
  batch      : Blob                         -- the 32 B BATCH section (R290)
  stopSets   : List (List Nat)              -- SAMPLER: 16 stop-token sets
  /-- LIVE: placement tile, its ranges (first granule, granules), and per step-table entry the U64 mask. -/
  live       : List (Nat × List (Nat × Nat) × List Nat)
  buffers    : List Nat                     -- BUFFERS: descriptor, candidates, staging, stave pool, lists, switch area
  weights    : List (Nat × List Byte)       -- WEIGHTS: (VA, plaintext)
deriving DecidableEq, Repr, Inhabited

namespace Machine

/-- Estate time E:S.F (R10). -/
structure ETime where
  e : Nat
  s : Nat
  f : Nat
deriving DecidableEq, Repr, Inhabited

/-- The sequencer's state of a tile (R103, R117). -/
inductive TileAct where
  | idle | running | held | faulted
deriving DecidableEq, Repr, Inhabited

/-- An outstanding GET or PUT packet of a tile (R114, R168): request tag, entry, LAND limit entry, destination, what it
is, bytes, local address, VA, and for a dynamic multicast the targets not yet acknowledged. -/
structure Xfer where
  tag     : Nat
  isGet   : Bool
  entry   : Nat
  land    : Nat
  row     : Nat
  dst     : Nat
  local_  : Nat
  len     : Nat
  va      : Nat
  /-- Its issue's counter (R109). -/
  n       : Nat
  /-- READ source consumed (R110) and answered. -/
  srcRead : Bool
  mgroup  : Option Nat
  targets : List (Nat × Nat)
  missing : List Nat
deriving DecidableEq, Repr, Inhabited

/-- A transfer issue in the queue (R114): row, its n and m, the issuing entry, the entry before which a GET must have
landed, and the bytes already injected. -/
structure Issue where
  row   : Nat
  n     : Nat
  m     : Nat
  entry : Nat
  land  : Nat
  sent  : Nat
deriving DecidableEq, Repr, Inhabited

/-- Barrier participation of a tile (R177): unreleased arrival generations (at most two), the next GEN, whether it has
arrived in this run, and releases seen since the most recent arrival or the wait began. -/
structure BarSt where
  gens     : List Nat
  next     : Nat
  arrived  : Bool
  lastGen  : Nat
  released : Bool
  /-- A WAIT_B waits here without an arrival in this run. -/
  waiting  : Bool
deriving DecidableEq, Repr, Inhabited

/-- The cells of one tile: planes by 32 × cell + word; registers by 1,024 × cell + 8 × vector + lane; accumulators by
64 × cell + 8 × row + column; generator states and draws left by cell. Unlisted reads 0 (R86, R89). -/
structure Cells where
  plane0 : Sparse Word64
  plane1 : Sparse Word64
  regs   : Sparse Word32
  bank0  : Sparse Word32
  bank1  : Sparse Word32
  rng    : Sparse Word64
  draws  : Sparse Nat
deriving DecidableEq, Repr, Inhabited

/-- How far the entry in progress has come (R97, R101, R105): beats taken and in all; by cell (32 cells), MAC beats and V
beats consumed, V triggers taken, the place of a running program (24 × pass + micro-operation), and OUT beats sent; rows
that drain chains have delivered, by 8 × edge + cell of the edge; beats committed by each write stream; the cells whose swap
is due, and those whose drained bank still waits for its program (bit maps); triggers pending; events counted. -/
structure DataPath where
  beat     : Nat
  beats    : Nat
  macPos   : Sparse Nat
  vPos     : Sparse Nat
  vTrig    : Sparse Nat
  prog     : Sparse Nat
  outs     : Sparse (List Blob)
  drains   : Sparse (List Blob)
  /-- Converted rows that wait in a chain behind a cell whose own bank has not begun to leave: by 32 × direction + cell. -/
  waiting  : Sparse (List Blob)
  wr       : Sparse Nat
  swapDue  : Nat
  draining : Nat
  trig     : List Nat
  ops      : List Nat
  hopDone  : Nat
  tsDone   : Nat
deriving DecidableEq, Repr, Inhabited

/-- A logical tile (R86–R118). -/
structure Tile where
  stepBase  : Nat
  cuvee     : Nat
  ctile     : Nat
  act       : TileAct
  retired   : Bool
  cause     : Nat
  entry     : Nat
  /-- The entry now running, or the boundary reached. -/
  inEntry   : Bool
  /-- The entry's 256 bits as they were fetched at its boundary, and at a boundary that waits: whether the next entry has
  been fetched, and whether it has consumed its flag (R110). -/
  cur       : Nat
  fetched   : Bool
  flagTaken : Bool
  runTag    : Nat
  runGroup  : Nat
  firstEntry : Nat
  activeP1  : Bool
  img0      : Nat
  img1      : Nat
  /-- Plane load in progress, and the load held behind it (R111). -/
  load      : Option Nat
  loadNext  : Option Nat
  /-- LOAD_PLANE held by a quiesce or pause (R252). -/
  loadHeld  : Option Nat
  cells     : Cells
  /-- Cells whose filling bank is bank1, as a bit map. -/
  fill1     : Nat
  path      : DataPath
  /-- The streams of the entry marked LAST have finished. -/
  ended     : Bool
  /-- Transfer table and counters (R109). -/
  rows      : Sparse Nat
  cntN      : Sparse Nat
  cntM      : Sparse Nat
  rowUsed   : List Nat
  queue     : List Issue
  out       : List Xfer
  nextTag   : Nat
  /-- A translation fault waits for the boundary (R225). -/
  xfault    : Option XFault
  /-- The entry whose issue met it. -/
  xfaultAt  : Nat
  /-- Entries whose streams have finished and whose signals wait (R110, R177), with their 256 bits. -/
  completing : List (Nat × Nat)
  flags     : Sparse Nat
  bars      : Sparse BarSt
  micro     : List (Nat × Nat)
  phi       : Nat
  progress  : Instant
  lastModel : Option Nat
  /-- A held START_STEP: its entry (R64, R118). -/
  heldStart : Option Nat
  preempted : Bool
  corrected : Nat
  /-- Instants of the corrected errors of the last 24 h (R436). -/
  recent    : List Rat
  landed    : List Packet
deriving DecidableEq, Repr, Inhabited

/-- The live state of a tile saved at a model switch or in an image (R115, R262): the tile, its live bytes as (tile-store
offset, byte), the live ranges as (first granule, granules), whether cell state is live, and the parcel in whose stash it
stands, `none` for memory (R198). -/
structure SavedTile where
  tile   : Tile
  bytes  : List (Nat × Byte)
  ranges : List (Nat × Nat)
  live   : Bool
  stash  : Option Nat
deriving DecidableEq, Repr, Inhabited

/-- One ring pair (R274–R277). -/
structure Ring where
  doorbell : Nat
  head     : Nat
  sqPos    : Nat
  n        : Nat
  reserved : Nat
  state    : Nat
  cause    : Nat
  fetched  : Nat
  /-- Completions ready to be written: the 32 B entry without GEN, then the client's U16. -/
  ready    : List Blob
deriving DecidableEq, Repr, Inhabited

/-- A fetched request that has not completed: its ring pair, SQ position, entry, fetch slot count, and marks. -/
structure Job where
  pair      : Nat
  sqPos     : Nat
  entry     : Blob
  fetchAt   : Nat
  started   : Bool
  late      : Bool
  preempted : Bool
  /-- A CANCEL found it in a step. -/
  cancel    : Bool
deriving DecidableEq, Repr, Inhabited

/-- A sequence slot of a text model (R292, R302). -/
structure Seq where
  slot      : Nat
  job       : Job
  cask      : Nat
  pos       : Nat              -- cask length so far
  prompt    : List Nat         -- prompt tokens still to run
  promptLen : Nat
  done_     : Nat
  generated : List Nat
  leftOut   : Nat
  inStep    : Nat              -- tokens in the step now running
  sampling  : Bool
  outGen    : Nat
  outBytes  : Nat
  joined    : Nat
deriving DecidableEq, Repr, Inhabited

/-- A resident model (R287–R291, R304). -/
structure Model where
  state     : Nat
  recipe    : Recipe
  placement : Nat
  base      : Nat
  nextPlace : Option (Nat × Nat)
  groupBase : Nat
  barBase   : Nat
  mcBase    : Nat
  seqs      : List Seq
  /-- Steps begun whose completion the vintner core has still to take up (R291). -/
  unsampled : Nat
  steps     : Nat
  current   : List Job
  loadJob   : Option Job
  /-- BOTTLE_ID and CONTENT_BYTES of its bottle (R390). -/
  bottle    : Nat
  content   : Nat
deriving DecidableEq, Repr, Inhabited

/-- A cask-table entry (R294, R337). -/
structure Cask where
  state   : Nat
  model   : Nat
  vintage : Nat
  tokens  : Nat
  staves  : List Nat
  holder  : Nat
  uid     : Nat
  /-- Hand-over: peer device, peer's cask, port, queries sent, offering command's job. -/
  peer    : Nat
  peerCask : Nat
  port    : Nat
  queries : Nat
  job     : Option Job
  window  : Nat
  xtag    : Nat
  got     : Nat
deriving DecidableEq, Repr, Inhabited

/-- A hand-over log entry (R337). -/
structure HandLog where
  uid      : Nat
  vintage  : Nat
  offerer  : Nat
  receiver : Nat
  device   : Nat
  outcome  : Nat
  at_      : Nat
  /-- The moment of the outcome, for LogRetention. -/
  when_    : Rat
deriving DecidableEq, Repr, Inhabited

/-- A running CASK_FETCH (R338). -/
structure Fetching where
  job    : Job
  remote : Nat
  window : Nat
  model  : Nat
  /-- The local cask that the owner's offer fills. -/
  cask   : Option Nat
deriving DecidableEq, Repr, Inhabited

/-- A model switching in on a group's tiles (R299): the model, and the start that waits for it with its watch and the slot
count at which the switch began. -/
structure SwitchIn where
  model : Nat
  entry : Nat
  tag   : Nat
  watch : Nat
  since : Nat
deriving DecidableEq, Repr, Inhabited

/-- The serving loop of a cuvee (R287-R304). -/
structure Serving where
  models    : Sparse Model
  waiting   : List Job
  streamQ   : Sparse (List Job)
  stepJobs  : Sparse Job                     -- frame taken for a step, by 256 × epochs count of its row + stream
  control   : List Job                       -- CONTROL entries that act at the next boundary
  newJobs   : List Job                       -- fetched entries not yet taken by their kind's step
  groups    : Sparse Nat
  casks     : Sparse Cask
  handLog   : Sparse HandLog
  fetches   : List Fetching
  /-- FETCH messages to serve at the next boundary (R338): peer device, cask, receiver's model, slot count of arrival. -/
  serves    : List (Nat × Nat × Nat × Nat)
  counters  : List Nat
  accounts  : Sparse (Nat × Nat × Nat)
  accLatch  : Sparse (Nat × Nat × Nat)
  /-- AdviceTable: VA, length, ALT_VA, code, and the epochs count from which it acts (R236). -/
  advice    : List (Nat × Nat × Nat × Nat × Nat)
  remaps    : List (Nat × Nat × Nat × Job)    -- PREFETCH with REMAP that rewrites at the boundary
  outputs   : List Job                        -- outputs that a courier is copying
  switching : Sparse SwitchIn                -- by group
  preempts  : Sparse (List Nat)               -- group → pre-empted groups
  pageRows  : List Nat                        -- rows the vintner core will place in the next page
  /-- Epochs count in which the page was last closed (R298). -/
  closedAt  : Option Nat
  saved     : Sparse SavedTile                -- live state saved by 2,048 × model + cuvee-relative tile (R299)
deriving DecidableEq, Repr, Inhabited

/-- A segment (R55, R69, R79). -/
structure Segment where
  base      : Nat
  length    : Nat
  curPage   : Bool
  ready     : Bool
  latched   : Bool
  misses    : Nat
  skipped   : Nat
  malformed : Nat
  overruns  : Nat
  dlMisses  : Nat
  /-- Slot count (4,096 × epochs + slot) of the last FETCH_SQ fire tick (R65). -/
  lastFetch : Option Nat
deriving DecidableEq, Repr, Inhabited

/-- Metering of one cuvee (R396–R399). -/
structure Meter where
  seq       : Nat
  flags     : Nat
  start     : ETime
  ns        : Rat
  tileSlots : Nat
  pcNs      : Rat
  hbm       : Nat
  link      : Nat
  host      : Nat
  jobs      : Nat
  carry     : Nat
  energyMark : Nat
  prevDigest : Nat
  own       : List Blob
  /-- Periods ended whose records are to be signed and written: body fields. -/
  due       : List Blob
deriving DecidableEq, Repr, Inhabited

end Machine

end Sys2Proof
end

