-- ==== Sys2Proof/Syntax.lean ====
section
/-! DEFINITION. Syntax.lean: the commands of the block, one constructor of Instr per row of the table of
operations and events, each with the operands that come from outside the step (who writes, what is
written, what arrives, what a sensor reads). -/

namespace Sys2Proof

/-- A host port: A on field 0, B on field 3 (R14). -/
inductive HostPort where
  | a | b
deriving DecidableEq, Repr, Inhabited

/-- The path a request arrives on (R461); the side-band names its source address. -/
inductive Path where
  | pf (p : HostPort)
  | vf (p : HostPort) (n : Nat)
  | sideband (src : Nat)
deriving DecidableEq, Repr, Inhabited

/-- The frame of a Wizor request (R484): the fields before the request header, and the tag after the data. -/
structure WizorFrame where
  magic    : Nat
  version  : Nat
  flags    : Nat
  node     : Nat
  seq      : Nat
  lengthOk : Bool      -- the frame's length agrees with LENGTH
  tag      : Nat
deriving DecidableEq, Repr, Inhabited

/-- How the request reaches the dictionary: a REQ_GEN write of a window (R478), a Wizor frame (R484), or a
plain access of a BAR register (R477, R505–R507). -/
inductive Via where
  | window (gen wsize : Nat) (aligned : Bool)
  | wizor (f : WizorFrame)
  | bar0 (offset size value : Nat)
  | bar2 (offset size : Nat)
deriving DecidableEq, Repr, Inhabited

/-- A dictionary request: its path, its carriage, the header of R464 (less OP, which the command is) and the data. -/
structure Access where
  path     : Path
  via      : Via
  flags    : Nat
  index    : Nat
  sub      : Nat
  ty       : Nat
  tag      : Nat
  offset   : Nat
  length   : Nat
  epoch    : Nat
  reserved : Nat
  data     : Blob
deriving DecidableEq, Repr, Inhabited

/-- The fields of a cuvee command record (R245) that its sender chooses. -/
structure CmdRec where
  named    : Bool
  epoch    : Nat
  slot     : Nat
  reserved : Nat
  arg      : Nat
deriving DecidableEq, Repr, Inhabited

/-- A write of one register of a VF's BAR0 (R506): function, pair or channel number, value, size, alignment. -/
structure BarWrite where
  port    : HostPort
  vf      : Nat
  unit    : Nat
  value   : Nat
  size    : Nat
  aligned : Bool
deriving DecidableEq, Repr, Inhabited

/-- What an access to memory met (R191): the controller code's verdict on the sectors read. -/
inductive EccVerdict where
  | clean | corrected (sectors : Nat) | uncorrectable
  /-- The stack reports that its on-die code corrected so many errors (R183, R189); the data is good. -/
  | onDie (errors : Nat)
deriving DecidableEq, Repr, Inhabited

/-- What crossing the trellis did to a packet (R170). -/
inductive FlitVerdict where
  | clean | corrected | dataError | headerError
deriving DecidableEq, Repr, Inhabited

/-- A packet as it comes off the trellis, with what its flits' codes show (R170). -/
structure Received where
  pkt     : Packet
  verdict : FlitVerdict
deriving DecidableEq, Repr, Inhabited

/-- A self-test verdict on one physical tile (R16): the failed chain positions, and whether a tile-store bank,
the sequencer, a stream generator, the micro-cache or the trellis port failed. -/
structure TileVerdict where
  badCells : List Nat
  unitsBad : Bool
deriving DecidableEq, Repr, Inhabited

/-- What built-in self-test found (R20, R25): only what failed is listed. Tiles by physical ordinal (R30),
clusters (router, uplink, tendril node) by ordinal, cache banks as 9 × parcel + bank. -/
structure SelfTest where
  tiles        : Sparse TileVerdict
  clustersBad  : List Nat
  banksBad     : List Nat
  vintnerBad   : List Nat
  xlateBad     : List Nat
  crossbarBad  : List Nat
  stackBad     : List Nat
  groupsBad    : List (Nat × Nat)     -- (FabricMuster subindex - 1, wire or lane group)
  linkBad      : List Nat
  hostBad      : List HostPort
  estateBad    : Bool                 -- almanac master, ledger, security or management controller
deriving DecidableEq, Repr, Inhabited

/-- What the boot ROM found (R379): identity status (R400), for each flash slot the failing step (0 none), and the
security controller's own test. -/
structure BootFindings where
  secSelfTest  : Bool
  identity     : Nat
  slotFailA    : Nat
  slotFailB    : Nat
  diagnostics  : Bool
  copyOk0      : Bool                 -- stored dictionary copy 0 checks (R476)
  copyOk1      : Bool
deriving DecidableEq, Repr, Inhabited

/-- What the training of one stack measured (R185), by physical channel 0–15 or pseudo-channel 0–31; one that a list does not
name kept to the criterion: command/address margin in 1/256 UI; worst timing margin in 1/256 UI and worst voltage margin in mV
after repair; pseudo-channels whose memory test found an uncorrectable sector; and sectors needing correction. -/
structure TrainingResult where
  command  : List (Nat × Nat)
  timing   : List (Nat × Nat)
  voltage  : List (Nat × Nat)
  bad      : List Nat
  weak     : List (Nat × Nat)
deriving DecidableEq, Repr, Inhabited

/-- The IEEE 1588 messages that a slave-only port uses (R42): a Sync, two-step where its precise origin comes in a
Follow_Up; the Follow_Up; the answer to the Delay_Req the device has sent; any other. -/
inductive PtpKind where
  | sync (twoStep : Bool) | followUp | delayResp | other
deriving DecidableEq, Repr, Inhabited

/-- An IEEE 1588 message as it comes in on the side-band (R42): its domain and sequence number, the time it carries (the
origin of a Sync, the reception of the Delay_Req), the hardware stamp of its arrival, the port's state and the device's
servoed PTP time as it is served, all in ns. -/
structure PtpMsg where
  at_       : Instant
  domain    : Nat
  slave     : Bool
  kind      : PtpKind
  seq       : Nat
  carried   : Rat
  received  : Rat
  ptpTime   : Rat
  boundary  : Option Instant          -- a reference boundary of R41 this message's servo presents
deriving DecidableEq, Repr, Inhabited

/-- SPDM requests (R382). -/
inductive SpdmMsg where
  | getVersion | getCapabilities | negotiateAlgorithms
  | getDigests | getCertificate (slot offset length : Nat)
  | challenge (slot nonce : Nat) | getMeasurements (index nonce : Nat) (signed : Bool)
  | keyExchange (slot sharePub : Nat) | finish (session : Nat) (ok : Bool)
  | heartbeat (session : Nat) | keyUpdate (session : Nat)
  | unsupported (code : Nat)
deriving DecidableEq, Repr, Inhabited

/-- A sub-stream key name of IDE_KM (R384): stream (0 link, 1–4 selective), sub-stream, direction, key set. -/
structure IdeKey where
  stream    : Nat
  subStream : Nat
  tx        : Bool
  keySet    : Nat
deriving DecidableEq, Repr, Inhabited

/-- A CASK message of a link (R339). -/
structure CaskMsg where
  sub       : Nat
  hops      : Nat
  code      : Nat
  src       : Nat
  dst       : Nat
  group     : Nat
  window    : Nat
  rcvValid  : Bool
  offerer   : Nat
  receiver  : Nat
  vintage   : Nat
  xtag      : Nat
  uid       : Nat
  tokens    : Nat
  reserved  : Nat
deriving DecidableEq, Repr, Inhabited

/-- A cask stream header (R340). -/
structure CaskHeader where
  uid        : Nat
  vintage    : Nat
  tokens     : Nat
  staveBytes : Nat
  staves     : Nat
  model      : Nat
  digest     : Nat
deriving DecidableEq, Repr, Inhabited

/-- A link REQUEST (R321). -/
structure LinkRequest where
  vc     : Nat
  op     : Nat
  hops   : Nat
  xtag   : Nat
  src    : Nat
  dst    : Nat
  group  : Nat
  window : Nat
  offset : Nat
  length : Nat            -- bytes, 1–65,536
deriving DecidableEq, Repr, Inhabited

/-- A link DONE (R322). -/
structure LinkDone where
  status : Nat
  hops   : Nat
  xtag   : Nat
  src    : Nat
  dst    : Nat
  group  : Nat
  length : Nat
deriving DecidableEq, Repr, Inhabited

/-- The remaining link messages of R323. -/
structure TimeMsg where
  e     : Nat
  phase : Nat
  echo  : Nat
  hold  : Nat
deriving DecidableEq, Repr, Inhabited

structure GroupBarMsg where
  release : Bool
  gen     : Nat
  hops    : Nat
  src     : Nat
  dst     : Nat
  group   : Nat
  gbar    : Nat
deriving DecidableEq, Repr, Inhabited

structure MarkMsg where
  scope : Nat
  src   : Nat
  group : Nat
  cut   : Nat
deriving DecidableEq, Repr, Inhabited

structure SquashMsg where
  reason : Nat
  hops   : Nat
  src    : Nat
  dst    : Nat
  group  : Nat
deriving DecidableEq, Repr, Inhabited

structure FlareMsg where
  ttl    : Nat
  origin : Nat
  group  : Nat
  id     : Nat
deriving DecidableEq, Repr, Inhabited

/-- A KEY fragment's step data, as far as the rules use it (R329). -/
structure KeyMsg where
  step     : Nat
  last     : Bool
  frag     : Nat
  device   : Nat         -- HELLO: the peer's device ID
  port     : Nat         -- HELLO: the peer's port number
  chainOk  : Bool        -- CERTS: the chain leads to the vendor root
  digest   : Nat         -- CERTS: 14 B prefix of the identity digest
  verifies : Bool        -- SIGNATURE, FINISHED: it verifies
  data     : Nat         -- the 13 B of step data of this fragment
deriving DecidableEq, Repr, Inhabited

/-- A control message on a link (R319). -/
inductive LinkMsg where
  | request (m : LinkRequest) | done (m : LinkDone) | time (m : TimeMsg) | barrier (m : GroupBarMsg)
  | mark (m : MarkMsg) | squash (m : SquashMsg) | flare (m : FlareMsg) | cask (m : CaskMsg) | key (m : KeyMsg)
deriving DecidableEq, Repr, Inhabited

/-- A flit (R312, R313). `verifies` is the tag's verdict in UP; `msgs` are the control
payload's messages and `data` a data flit's payload; `credits` are the control payload's returns per VC. -/
structure Flit where
  kind     : Nat
  kph      : Nat
  nak      : Bool
  seq      : Nat
  ack      : Nat
  slot     : Nat
  xtag     : Nat
  offset   : Nat
  bytes    : Nat
  verifies : Bool
  credits  : List Nat
  frame    : Nat
  msgs     : List LinkMsg
  malformedMsgs : Nat
  data     : List Byte
  trailer  : Nat
  /-- Codewords that the FEC corrected on the way, and codewords it could not (R306, R349). -/
  fec      : Nat
  fecBad   : Nat
deriving DecidableEq, Repr, Inhabited

/-- The unit a shared-engine fault or replay names (R451): the EngineStatus byte and the engine kind. -/
structure Engine where
  kind : Nat      -- 0 courier, 1 check channel, 2 adder, 3 replication, 4 statistics, 5 vintner core, 6 crypto
  unit : Nat
deriving DecidableEq, Repr, Inhabited

/-- How a replay ended (R450). -/
inductive ReplayOutcome where
  | transient | named (cuvee : Nat) | retired
deriving DecidableEq, Repr, Inhabited

/-- The scope of a holiday (R441). -/
inductive Scope where
  | cuvee (c : Nat) | estate | group (g : Nat)
deriving DecidableEq, Repr, Inhabited

/-- The check of an image that is read (R267, R269). -/
inductive ImageVerdict where
  | ok | badDigest | truncated | unreachable
deriving DecidableEq, Repr, Inhabited

/-- An image as RESTORE reads it (R264): the header's PRIOR and shape, and the sections. Objects by index; memory by
cuvee-relative pseudo-channel as (byte offset, byte); flits by port. -/
structure CuveeImage where
  prior      : Nat
  /-- k_c, which travels with the per-cuvee objects (R359). -/
  correction : Nat
  tiles      : Nat
  pcs        : Nat
  ringPairs  : Nat
  pageLength : Nat
  objects    : List (Nat × Blob)
  rows       : List Nat                              -- current page, then next page
  segment    : Machine.Segment
  heldStarts : Sparse (Nat × Nat × Nat)
  records    : List Machine.SavedTile
  flits      : List (Nat × LinkMsg)
  dataFlits  : List (Nat × Bool × Flit)
  rings      : Sparse Machine.Ring
  serving    : Machine.Serving
  memory     : List (Nat × List (Nat × Byte))
  /-- CHUNKS, IMAGE_BYTES and FREEZE_TIME of the header; each chunk's plaintext with its DIGEST, in SEQ order; and the trailer's CHUNKS,
  IMAGE_BYTES and digest of digests, where it came. -/
  count      : Nat
  bytes      : Nat
  freezeTime : Nat
  chunks     : List (Blob × Nat)
  trailer    : Option (Nat × Nat × Nat)
deriving DecidableEq, Repr, Inhabited

/-- A model's candidate record of one sampled sequence (R291): SEQ_SLOT, log-sum-exp, and (token, scaled logit). -/
structure Candidates where
  seqSlot : Nat
  lse     : Word32
  cands   : List (Nat × Word32)
deriving DecidableEq, Repr, Inhabited

/-- A bottle as couriers and the crypto complex find it (R390, R391): the header and binding entries where a host window
answers the read; the binding entry that names this device; whether OWNER_DIGEST matches, the content key unwraps, every
chunk's tag verifies, and the signature verifies (what each verdict stands for is in Machine/Bottle.lean); and the recipe. -/
structure BottleFindings where
  bytes   : List Byte
  entry   : Option Nat
  owner   : Bool
  unwraps : Bool
  tags    : Bool
  signed  : Bool
  recipe  : Recipe
deriving DecidableEq, Repr, Inhabited

/-- A submission entry as fetched from host memory (R278–R282): 64 B. -/
abbrev SqEntry := Blob

/-- The commands. -/
inductive Instr where
  -- dictionary operations (R463)
  | read (a : Access)
  | write (a : Access)
  | stage (a : Access)
  | commit (a : Access)
  | abort (a : Access)
  | enumerate (a : Access)
  | store (a : Access)
  | restoreDefaults (a : Access)
  | neighborSolicitation (target : Nat)
  -- command objects
  | cadenceResume (a : Access)
  | cadenceFreeRun (a : Access)
  | adoptEpoch (a : Access)
  | create (a : Access) (c : Nat) (k : CmdRec)
  | bind (a : Access) (c : Nat) (k : CmdRec)
  | unbind (a : Access) (c : Nat) (k : CmdRec)
  | start (a : Access) (c : Nat) (k : CmdRec)
  | pause (a : Access) (c : Nat) (k : CmdRec)
  | resume (a : Access) (c : Nat) (k : CmdRec)
  | freeze (a : Access) (c : Nat) (k : CmdRec)
  | thaw (a : Access) (c : Nat) (k : CmdRec)
  | save (a : Access) (c : Nat) (k : CmdRec)
  | restore (a : Access) (c : Nat) (k : CmdRec)
  | reset (a : Access) (c : Nat) (k : CmdRec)
  | release (a : Access) (c : Nat) (k : CmdRec)
  | rebind (a : Access) (c : Nat) (k : CmdRec)
  | cancel (a : Access) (c : Nat) (k : CmdRec)
  | retrain (a : Access) (port : Nat)
  | rekey (a : Access) (port : Nat)
  | portReset (a : Access) (port : Nat)
  | take (a : Access)
  | yield (a : Access)
  | assignA (a : Access)
  | assignB (a : Access)
  | stewardHeartbeat (a : Access) (v : Nat)
  | flareCommand (a : Access) (group : Nat)
  | assign (a : Access) (c cask : Nat)
  | discard (a : Access) (c cask : Nat)
  | arm (a : Access) (part : Nat)
  | trigger (a : Access) (part : Nat)
  | stop (a : Access) (part : Nat)
  | parcel (a : Access) (p : Nat)
  | estateWarm (a : Access) (boot : BootFindings)
  | openSession (a : Access) (digest session : Nat)
  | sessionAccept (a : Access) (blob : Blob) (verifies : Bool)
  | complete (a : Access) (blob : Blob) (verifies : Bool)
  | close (a : Access) (session : Nat)
  | firmwareCommit (a : Access)
  | flashProgram (a : Access) (slot offset : Nat) (image : Blob)
  -- BAR registers of a VF
  | doorbell (w : BarWrite)
  | head (w : BarWrite)
  | checkStart (w : BarWrite)
  | feedB (w : BarWrite)
  | feedH (w : BarWrite)
  | feedW (w : BarWrite)
  -- host ports
  | configurationRequest (p : HostPort) (fn : Nat) (reg : Nat) (value : Option Nat)
  | flrPf (p : HostPort)
  | flrVf (p : HostPort) (vf : Nat)
  | perstN (p : HostPort) (asserted : Bool)
  | hotReset (p : HostPort)
  | linkDown (p : HostPort)
  | spdmRequest (p : HostPort) (m : SpdmMsg)
  | endSession (p : HostPort) (session : Nat)
  | query (p : HostPort) (session : Nat)
  | keyProg (p : HostPort) (session : Nat) (k : IdeKey) (key : Nat)
  | kSetGo (p : HostPort) (session : Nat) (k : IdeKey)
  | kSetStop (p : HostPort) (session : Nat) (k : IdeKey)
  | getTdispVersion (p : HostPort) (vf : Nat)
  | getTdispCapabilities (p : HostPort) (vf : Nat)
  | lockInterface (p : HostPort) (vf stream : Nat)
  | getDeviceInterfaceReport (p : HostPort) (vf : Nat)
  | getDeviceInterfaceState (p : HostPort) (vf : Nat)
  | startInterface (p : HostPort) (vf : Nat)
  | stopInterface (p : HostPort) (vf : Nat)
  -- power and boot
  | standbyStart (strap : Nat)
  | standbyLost
  | coldBoot (boot : BootFindings) (inputTenthsV : Nat)
  | pwrEnFall
  | mainInputFault
  | selfTestDone (v : SelfTest)
  | stackTrainingDone (p : Nat) (r : TrainingResult)
  | memoryMuster
  | estateReady
  -- cadence
  | cadenceEdge (t : Instant)
  | ptpMessage (m : PtpMsg)
  | referenceTimeout (t : Instant)
  | missedBoundary
  | epochBoundary
  | slotFire
  | deferLimit (c idx : Nat)
  -- almanac row actions
  | startStep
  | loadPlane
  | fetchSq (hostEntries : List SqEntry)
  | writeCq
  | harvest
  | holiday
  | reconcile
  | nop
  | correctionUpdate (c : Nat)
  | heldStartIssue (c g : Nat)
  | deadlineMiss (id : Nat)
  -- tiles
  | entryBoundary (t : Nat)
  | entryComplete (t : Nat)
  | planeLoadDone (t : Nat)
  | accumulatorSwap (t : Nat)
  | vectorTrigger (t : Nat)
  | transferIssue (t : Nat)
  | translationWalkDone (id : Nat) (poisoned : Bool)
  -- trellis
  | trellisRead (p : Received) (ecc : EccVerdict) (latency : Nat)
  | readData (p : Packet) (v : FlitVerdict)
  | trellisWrite (p : Packet) (v : FlitVerdict)
  | writeAddFp32 (router : Option Nat) (p : Received)
  | writeAddBf16 (router : Option Nat) (p : Received)
  | ack (p : Received)
  | nack (p : Received)
  | mcastWrite (p : Received)
  | statePkt (p : Received)
  | reductionHoldExpiry (router : Nat) (slot : Nat)
  | multicastResend (t : Nat) (idx : Nat)
  -- tendril
  | barArrive (node barrier gen count : Nat)
  | barRelease (barrier gen : Nat)
  | flagSet (c flag count : Nat)
  -- memory
  | repairWrite (pc sector : Nat)
  | patrolScrub (pc sector : Nat) (ecc : EccVerdict)
  | stackTemperatureRead (p degC : Nat)
  | wayCleaningDone (p way : Nat)
  -- cuvee processes
  | precopyPassEnd (c : Nat) (ks : List Nat)
  | quiesceStart (sc : Scope)
  | cut (sc : Scope)
  | quiesceLimit (sc : Scope)
  | applyTick (sc : Scope)
  | holidayComplete (sc : Scope)
  | rebindMovesDone (c : Nat)
  | resetSquash (c : Nat)
  | hostReadAbandon (c tag : Nat)
  | resetComplete (c : Nat)
  | releaseComplete (c : Nat)
  | imageComplete (c : Nat) (ok : Bool)
  | restoreComplete (c : Nat) (v : ImageVerdict) (img : CuveeImage)
  | clusterPowerUp (cl : Nat)
  -- serving loop
  | textSequence
  | frame
  | tensorJob
  | controlCancel
  | loadModel (b : BottleFindings)
  | unloadModel
  | place
  | prefetch (hostData : List Byte)
  | advise
  | bottleLoadDone (c model : Nat) (b : BottleFindings)
  | stepComplete (c model : Nat) (cands : List Candidates) (prompts : List (Nat × List Nat))
  | stavesExhausted (c model : Nat)
  | pageClose (c : Nat)
  | outputCopyDone (c : Nat)
  | switchDone (c g : Nat)
  | preemptedResume (c g : Nat)
  | caskOffer
  | caskFetch
  | caskFree
  -- links
  | portEnable (a : Access) (k : Nat) (on : Bool)
  | signalLoss (k : Nat)
  | trainingDone (k lanesGood : Nat)
  | laneFailure (k lane : Nat)
  | flitReceive (k : Nat) (f : Flit)
  | key (k : Nat) (m : KeyMsg)
  | rekeyDue (k : Nat)
  | request (k : Nat) (m : LinkRequest)
  | done (k : Nat) (m : LinkDone)
  | time (k : Nat) (m : TimeMsg) (arrival : Instant)
  | timeSend (k : Nat)
  | barrier (k : Nat) (m : GroupBarMsg)
  | linkHolidayMark (k : Nat) (m : MarkMsg)
  | squash (k : Nat) (m : SquashMsg)
  | flare (k : Nat) (m : FlareMsg)
  | offer (k : Nat) (m : CaskMsg)
  | accept (k : Nat) (m : CaskMsg)
  | decline (k : Nat) (m : CaskMsg)
  | caskRelease (k : Nat) (m : CaskMsg)
  | caskQuery (k : Nat) (m : CaskMsg)
  | answer (k : Nat) (m : CaskMsg)
  | fetch (k : Nat) (m : CaskMsg)
  | transferClose (k : Nat) (xtag : Nat)
  | transferTimeout (k : Nat) (xtag : Nat)
  | offerTimeout (c cask : Nat)
  | acceptTimer (c cask : Nat)
  | fetchTimeout (c : Nat) (reqId : Nat)
  -- power and heat
  | powerSample (milliW avg1ms : Nat) (tenthsV : Int)
  | dieSensorRead (degC : List Nat)
  | clockStep
  | phiStep (t : Nat) (waiting : Bool) (slope : Nat)
  | observationWindowEnd
  | harvestRecordWrite
  | meterRecordWrite
  | sessionExpiry (session : Nat)
  -- faults
  | hangDeadline (id : Nat)
  | hangStall (t : Nat)
  | hangWatchdog (c : Nat)
  | sharedEngineFault (e : Engine)
  | replayDone (e : Engine) (o : ReplayOutcome)
  | replayLimit (e : Engine)
  | estateFatal (source : Nat)
  | parcelResetDone (p : Nat) (badTiles : List Nat) (r : TrainingResult)
  -- remaining events
  | signalDetect (k : Nat)
  | pcieLinkUp (p : HostPort)
  | mainInputInRange
  | nextPageComplete (c : Nat) (rows : List Nat)
  | poolReturn (isTile : Bool) (unit : Nat) (scrubOk : Bool)
  | hostCompletion (p : HostPort) (tag : Nat) (data : List Byte)
  | flashWriteDone (ok : Bool)
  | plcaBeacon (present : Bool)
  | controlFlitSend (k : Nat)
deriving DecidableEq, Repr, Inhabited

end Sys2Proof
end

