-- ==== Sys2Proof/Decode.lean ====
section
/-! DEFINITION. Decode.lean: the commands that a word of the table spells. The table of this block gives its rows no
bits: a command is an event or a request with fields, so no word spells one. -/

namespace Sys2Proof

/-- No row of the table gives bits, so no word spells a command. DESIGN CHOICE (log 2). -/
def decodeTableWord (_nbits _w : Nat) : Option Instr := none

end Sys2Proof
end

