-- ==== Sys2Proof/Machine/Bits.lean ====
section
/-! DEFINITION. Machine/Bits.lean: bit fields of little-endian numbers (R5, R7), lists of bytes, and the
operations of a sparse table. -/

namespace Sys2Proof

/-- Bits [hi:lo] of `v` (R7: bit 0 is the least significant). -/
def bits (v hi lo : Nat) : Nat := (v >>> lo) % 2 ^ (hi + 1 - lo)

/-- Bit k of `v`, as a flag. -/
def bit (v k : Nat) : Bool := v.testBit k

/-- A field of `w` bits at `lo`, to be summed into a word. -/
def field (x w lo : Nat) : Nat := (x % 2 ^ w) <<< lo

/-- A flag as 0 or 1. -/
def b2n (b : Bool) : Nat := if b then 1 else 0

/-- A w-bit two's complement number. -/
def signed (w v : Nat) : Int := if v % 2 ^ w < 2 ^ (w - 1) then (v % 2 ^ w : Nat) else (v % 2 ^ w : Nat) - (2 ^ w : Nat)

/-- The w-bit two's complement pattern of an integer. -/
def unsigned (w : Nat) (i : Int) : Nat := (i % (2 ^ w : Nat)).toNat

/-- Integer quotient rounded up; 0 for divisor 0. -/
def ceilDiv (a b : Nat) : Nat := if b = 0 then 0 else (a + b - 1) / b

/-- The bytes of a number, lowest first (R5). -/
def toBytes : Nat → Nat → List Byte
  | 0, _ => []
  | n + 1, v => BitVec.ofNat 8 v :: toBytes n (v / 256)

/-- The number that bytes spell, lowest first (R5). -/
def ofBytes : List Byte → Nat
  | [] => 0
  | b :: bs => b.toNat + 256 * ofBytes bs

/-- The n bytes of a blob from byte offset o, as a number. -/
def Blob.get (b : Blob) (o n : Nat) : Nat := (b.val >>> (8 * o)) % 2 ^ (8 * n)

/-- A blob with the n bytes at byte offset o replaced. -/
def Blob.put (b : Blob) (o n x : Nat) : Blob :=
  { b with val := b.val - (b.get o n <<< (8 * o)) + ((x % 2 ^ (8 * n)) <<< (8 * o)) }

/-- A scalar object's value: n bytes. -/
def Blob.scalar (n v : Nat) : Blob := { size := n, val := v % 2 ^ (8 * n) }

/-- n zero bytes. -/
def Blob.zero (n : Nat) : Blob := { size := n, val := 0 }

/-- Fields of equal width n bytes, one after another from offset 0. -/
def packList (n : Nat) : List Nat → Nat
  | [] => 0
  | x :: xs => x % 2 ^ (8 * n) + (packList n xs) <<< (8 * n)

/-- An array object: each element n bytes. -/
def Blob.array (n : Nat) (xs : List Nat) : Blob := { size := n * xs.length, val := packList n xs }

/-- A record given as (bytes, value) parts in order. -/
def packFields : List (Nat × Nat) → Nat
  | [] => 0
  | (n, x) :: xs => x % 2 ^ (8 * n) + (packFields xs) <<< (8 * n)

/-- The blob of a record given as (bytes, value) parts in order. -/
def Blob.record (fs : List (Nat × Nat)) : Blob :=
  { size := (fs.map Prod.fst).foldl (· + ·) 0, val := packFields fs }

/-- The elements of n bytes that a blob holds. -/
def Blob.elems (b : Blob) (n : Nat) : List Nat :=
  (List.range (if n = 0 then 0 else b.size / n)).map fun i => b.get (n * i) n

/-! ## Sparse tables (strictly rising keys) -/

/-- The entry of key k. -/
def Sparse.find {α : Type} : Sparse α → Nat → Option α
  | [], _ => none
  | (j, x) :: m, k => if j = k then some x else Sparse.find m k

/-- The entry of key k, or d where the table lists none. -/
def Sparse.getD {α : Type} (m : Sparse α) (k : Nat) (d : α) : α := (Sparse.find m k).getD d

/-- The table with key k set to x. -/
def Sparse.insert {α : Type} : Sparse α → Nat → α → Sparse α
  | [], k, x => [(k, x)]
  | (j, y) :: m, k, x =>
    if k < j then (k, x) :: (j, y) :: m
    else if k = j then (k, x) :: m
    else (j, y) :: Sparse.insert m k x

/-- The table without key k. -/
def Sparse.erase {α : Type} (m : Sparse α) (k : Nat) : Sparse α := m.filter fun e => e.1 != k

/-- The table with key k set to x, kept canonical: an entry equal to the default d is not listed. -/
def Sparse.set {α : Type} [DecidableEq α] (d : α) (m : Sparse α) (k : Nat) (x : α) : Sparse α :=
  if x = d then Sparse.erase m k else Sparse.insert m k x

/-- The keys rise strictly from `lo`. -/
def Sparse.rising {α : Type} : Nat → Sparse α → Bool
  | _, [] => true
  | lo, (k, _) :: m => decide (lo ≤ k) && Sparse.rising (k + 1) m

/-- The canonical form: keys strictly rising and no entry equal to the default. -/
def Sparse.wf {α : Type} [DecidableEq α] (d : α) (m : Sparse α) : Bool :=
  Sparse.rising 0 m && m.all fun e => decide (e.2 ≠ d)

/-- Drop every key in [lo, lo + n). -/
def Sparse.clearRange {α : Type} (m : Sparse α) (lo n : Nat) : Sparse α :=
  m.filter fun e => e.1 < lo || lo + n ≤ e.1

/-- The index of the first element that satisfies p. -/
def firstIdx {α : Type} (p : α → Bool) : List α → Option Nat
  | [] => none
  | x :: xs => if p x then some 0 else (firstIdx p xs).map (· + 1)

/-- The sum of a list of numbers. -/
def sumNat : List Nat → Nat
  | [] => 0
  | x :: xs => x + sumNat xs

/-- The sum of a list of integers. -/
def sumInt : List Int → Int
  | [] => 0
  | x :: xs => x + sumInt xs

/-- The largest of a list of numbers, 0 for none. -/
def maxNat : List Nat → Nat
  | [] => 0
  | x :: xs => max x (maxNat xs)

/-- The numbers whose bit is set below n. -/
def setBits (v n : Nat) : List Nat := (List.range n).filter fun i => v.testBit i

/-- The word whose listed bits are set. -/
def maskOf : List Nat → Nat
  | [] => 0
  | k :: ks => maskOf ks ||| 2 ^ k

/-- A list without repeats grows by x. -/
def addOnce {α : Type} [DecidableEq α] (l : List α) (x : α) : List α := if x ∈ l then l else l ++ [x]

/-- The last n elements. -/
def lastN {α : Type} (n : Nat) (l : List α) : List α := l.drop (l.length - n)

end Sys2Proof
end

