-- ==== Sys2Proof/Machine/Fabric.lean ====
section
/-! DEFINITION. Machine/Fabric.lean: the trellis and the tendril network as the spec lays them out: ports, endpoints, routes
and flits (R143–R148, R172–R174), and the order in which an output serves what waits for it (R152, R153, R156, R167,
R179, R203). -/

namespace Sys2Proof.Machine

/-! ## Endpoints (R143, R148) -/

/-- KIND and UNIT of an endpoint ID. -/
def epKind (e : Nat) : Nat := bits e 13 11
def epUnit (e : Nat) : Nat := bits e 10 0

/-- An endpoint ID names an endpoint of R148. -/
def endpointOk (e : Nat) : Bool :=
  decide (e < 2 ^ 14) && match epKind e with
    | 0 => true
    | 1 | 3 => decide (epUnit e < 16)
    | 2 => decide (epUnit e < 32)
    | 4 => decide (epUnit e < 2)
    | 5 => decide (epUnit e < 12)
    | 6 => decide (epUnit e < 7)
    | _ => false

/-- An address keeps to the bits that the destination's KIND gives it (R148). -/
def addrOk (dst addr : Nat) : Bool :=
  match epKind dst with
  | 0 => decide (addr < 2 ^ 20)
  | 1 => decide (addr < 2 ^ 37)
  | _ => decide (addr < 2 ^ 48)

/-- The parcel of an endpoint that stands in one. -/
def endpointParcel (e : Nat) : Option Nat :=
  match epKind e with
  | 0 => some (epUnit e / 128)
  | 1 | 3 => some (epUnit e)
  | 2 => some (epUnit e / 2)
  | _ => none

/-- The field of an endpoint; an estate unit has a port on every spine (R143). -/
def endpointField (e : Nat) : Option Nat :=
  match epKind e with
  | 4 => some (if epUnit e = 0 then 0 else 3)
  | 5 => some (epUnit e / 3)
  | _ => (endpointParcel e).map (· / 4)

/-! ## Ports and links (R143, R145) -/

/-- Bytes per cycle and direction of the trellis's ports (R143). -/
inductive TrellisPort where
  | tile | uplink | parcelMemory | courier | vintner | parcelSpine | spineSwitch | link | host | estateUnit | crossing
deriving DecidableEq, Repr

def TrellisPort.width : TrellisPort → Nat
  | .tile => 128
  | .uplink => 512
  | .parcelMemory => 1024
  | .courier => 256
  | .vintner => 64
  | .parcelSpine => 1024
  | .spineSwitch => 7 * 1024
  | .link => 64
  | .host => 64
  | .estateUnit => 128
  | .crossing => 4 * 256

/-- The uplink of its cluster that a packet takes (R143). -/
def uplinkOf (dst : Nat) : Nat := dst % 2

/-- The receiving sides of the trellis's links with their flit credits for each VC (R145). -/
inductive FlitBuffer where
  | clusterFromTile | crossbarFromUplink | clusterFromUplink | spineFromBelow | crossbarFromSpine | spineFromCrossing
deriving DecidableEq, Repr

def FlitBuffer.credits : FlitBuffer → Nat
  | .clusterFromTile => 18
  | .crossbarFromUplink => 64
  | .clusterFromUplink => 64
  | .spineFromBelow => 128
  | .crossbarFromSpine => 128
  | .spineFromCrossing => 256

/-- A packet may leave its buffer only when the next one has room for all of its flits on its VC (R145).
DESIGN CHOICE (log 227). -/
def FlitBuffer.room (b : FlitBuffer) (held : Nat) (p : Packet) : Bool := decide (held + 1 + p.flits ≤ b.credits)

/-! ## Routes (R15, R144) -/

/-- The crossing that joins two adjacent fields, as a FabricMuster place (R15): X01, X23, X02, X13. -/
def crossing (f g : Nat) : Option Nat :=
  match min f g, max f g with
  | 0, 1 => some 4
  | 2, 3 => some 5
  | 0, 2 => some 6
  | 1, 3 => some 7
  | _, _ => none

/-- The fields that a packet passes from one field to another: the horizontal neighbour first, then the vertical one. -/
def fieldRoute (f g : Nat) : List Nat :=
  if f = g then [f] else if f + g = 3 then [f, f + 1 - 2 * (f % 2), g] else [f, g]

/-- The crossings of a route, in order. -/
def crossingRoute (f g : Nat) : List Nat := ((fieldRoute f g).zip (fieldRoute f g).tail).filterMap fun e => crossing e.1 e.2

/-- The crossings that a packet takes from one endpoint to another. -/
def routeCrossings (a b : Nat) : List Nat :=
  match endpointField a, endpointField b with
  | some x, some y => crossingRoute x y
  | _, _ => []

/-- The same parcel holds both endpoints: nothing outside it is on the path (R181). -/
def sameParcel (a b : Nat) : Bool := (endpointParcel a).isSome && endpointParcel a == endpointParcel b

/-- The spines on the path between two endpoints. -/
def routeSpines (a b : Nat) : List Nat :=
  if sameParcel a b then []
  else match endpointField a, endpointField b with
    | some x, some y => fieldRoute x y
    | some x, none | none, some x => [x]
    | none, none => []

/-- The resource ID of a crossing in one direction (R203). -/
def crossingResource (f g : Nat) : Nat := 0x14 + 2 * ((crossing f g).getD 4 - 4) + if f < g then 0 else 1

/-- The crossings of a path by direction, as resource IDs (R203). -/
def routeWheels (a b : Nat) : List Nat :=
  match endpointField a, endpointField b with
  | some x, some y => ((fieldRoute x y).zip (fieldRoute x y).tail).map fun e => crossingResource e.1 e.2
  | _, _ => []

/-- The memory queue, host port or link port that a request to an endpoint holds an entry of, as its resource ID (R203). -/
def endpointResource (e : Nat) : Option Nat :=
  match epKind e with
  | 1 => some (epUnit e)
  | 4 => some (0x1C + epUnit e)
  | 5 => some (0x1E + epUnit e)
  | _ => none

/-! ## Packets (R146, R147, R149) -/

/-- The packet types that carry data. -/
def carriesData (ty : Nat) : Bool := ty == 1 || ty == 2 || ty == 3 || ty == 4 || ty == 7 || ty == 8

/-- A packet keeps the rules of R146, and no field holds a reserved value (R147–R149). -/
def packetOk (p : Packet) : Bool :=
  decide (p.offset + p.bytes ≤ 256) && decide (p.offset < 32) &&
    p.flits == (if carriesData p.ty then ceilDiv (p.offset + p.bytes) 32 else 0) &&
    (!carriesData p.ty || decide (1 ≤ p.flits)) && (p.ty != 0 || decide (1 ≤ p.bytes)) &&
    decide (p.ty ≤ 8) && decide (p.vc < 4) && decide (p.try_ ≤ 8) && decide (p.status ≤ 5) &&
    endpointOk p.src && endpointOk p.dst && (!(p.ty == 0 || p.ty == 2 || p.ty == 3 || p.ty == 4 || p.ty == 7) || addrOk p.dst p.addr)

/-- The header flit (R147). -/
def packetHeader (p : Packet) : Nat :=
  field p.ty 4 252 + field p.vc 2 250 + field p.label 4 246 + field p.flits 4 242 + field p.bytes 9 233 +
    field p.offset 5 228 + field p.cuvee 8 220 + field p.src 14 206 + field p.dst 14 192 + field p.mgroup 10 182 +
    field p.tag 8 174 + field p.try_ 4 170 + field (b2n p.last) 1 169 + field (b2n p.combine) 1 168 +
    field p.stamp 16 152 + field p.addr 48 104 + field p.ncomb 8 96 + field p.status 8 88

/-- Data flit i: payload byte j stands at place OFFSET + j of the flits (R146). -/
def dataFlit (p : Packet) (i : Nat) : List Byte :=
  (((List.replicate p.offset (0 : Byte)) ++ p.data ++ List.replicate 32 0).drop (32 * i)).take 32

/-- The flits of a packet, header first, as 256-bit numbers. -/
def packetWire (p : Packet) : List Nat := packetHeader p :: (List.range p.flits).map fun i => ofBytes (dataFlit p i)

/-- Bytes of a packet on the trellis, its header included. -/
def packetSize (p : Packet) : Nat := 32 + 32 * p.flits

/-! ## What an output serves next (R152, R153, R156, R167) -/

/-- Stamp a is older than stamp b: modulo 65,536 with half range 32,768 (R152). -/
def stampOlder (a b : Nat) : Bool := a != b && decide ((b + 65536 - a % 65536) % 65536 < 32768)

/-- Of two packets of one VC at an output, p goes first: on VC1 the higher level, then the oldest STAMP, then the lower SRC.
DESIGN CHOICE (log 227). -/
def goesFirst (level : Nat → Nat) (p q : Packet) : Bool :=
  if p.vc = 1 && level p.label != level q.label then decide (level q.label < level p.label)
  else if p.stamp = q.stamp then decide (p.src < q.src)
  else stampOlder p.stamp q.stamp

/-- The packet that goes first. -/
def firstOf (level : Nat → Nat) : List Packet → Option Packet
  | [] => none
  | p :: ps => match firstOf level ps with
    | none => some p
    | some q => some (if goesFirst level q p then q else p)

/-- What an output remembers (R152): the flit cycle within its window of 20, whether VC3 has had its cycle of the window,
and whether VC3 is next where it competes with VC2. -/
structure Arbiter where
  cycle   : Nat
  served3 : Bool
  next3   : Bool
deriving DecidableEq, Repr, Inhabited

/-- The VC that has the flit cycle, given which VCs have a flit ready. -/
def Arbiter.grant (a : Arbiter) (ready : Nat → Bool) : Option Nat :=
  if ready 3 && !a.served3 then some 3
  else if ready 0 then some 0
  else if ready 1 then some 1
  else if ready 2 && ready 3 then some (if a.next3 then 3 else 2)
  else if ready 2 then some 2
  else if ready 3 then some 3
  else none

/-- The output after a flit cycle in which it granted g. -/
def Arbiter.after (a : Arbiter) (g : Option Nat) : Arbiter :=
  let c := (a.cycle + 1) % 20
  { cycle := c
    served3 := c != 0 && (a.served3 || g == some 3)
    next3 := if g == some 2 then true else if g == some 3 then false else a.next3 }

/-- The packet whose flit an output sends in this cycle, of those that have one ready. DESIGN CHOICE (log 227). -/
def Arbiter.pick (a : Arbiter) (level : Nat → Nat) (ready : List Packet) : Option Packet :=
  match a.grant fun v => ready.any fun p => p.vc == v with
  | none => none
  | some v => firstOf level (ready.filter fun p => p.vc == v)

/-- The source served next at a destination tile's last router (R167): the first after the one served last, in turn.
DESIGN CHOICE (log 227). -/
def nextSource (served : Nat) (waiting : List Nat) : Option Nat :=
  match (List.range 16384).find? fun i => waiting.contains ((served + 1 + i) % 16384) with
  | some i => some ((served + 1 + i) % 16384)
  | none => none

/-- The most that a packet's latency reaches where n sources send towards one tile, in cycles (R167).
DESIGN CHOICE (log 227). -/
def collectorBound (base n : Rat) : Rat := base + n * 9 * (1 / 4)

/-- The tile of a cluster that a fenced router's cycle belongs to (R156). DESIGN CHOICE (log 227). -/
def fenceOwner (cycle : Nat) : Nat := cycle % 64 / 4

/-! ## The tendril network (R172–R174, R179, R180) -/

/-- Nodes of the tree: 0 the root, then 4 field nodes, 16 parcel nodes and 144 physical cluster nodes. -/
def fieldNode (f : Nat) : Nat := 1 + f
def parcelNode (p : Nat) : Nat := 5 + p
def clusterNode (k : Nat) : Nat := 21 + k

/-- The node above. -/
def nodeAbove (n : Nat) : Nat :=
  if n < 5 then 0 else if n < 21 then fieldNode ((n - 5) / 4) else parcelNode ((n - 21) / 9)

/-- Node a stands at or above node n. -/
def nodeCovers (a n : Nat) : Bool := a == n || a == nodeAbove n || a == nodeAbove (nodeAbove n) || a == 0

/-- The kinds of flit with an effect on either network (R174). -/
def flitBarArrive : Nat := 1
def flitBarRelease : Nat := 2
def flitFlagSet : Nat := 3
def flitSlotTick : Nat := 4
def flitHarvest : Nat := 5
def flitHolidayMark : Nat := 6
def flitDoorbell : Nat := 7
def flitDeadline : Nat := 8

/-- A kind that travels on the ring; the others travel on the tree (R172). -/
def onRing (kind : Nat) : Bool := kind == 7 || kind == 8

/-- PAYLOAD of each kind (R174). -/
def payArrive (bar gen count : Nat) : Nat := field bar 12 16 + field gen 1 15 + field count 12 0
def payRelease (bar gen : Nat) : Nat := field bar 12 16 + field gen 1 15
def payFlag (c flag count : Nat) : Nat := field c 8 20 + field flag 7 13 + field count 8 0
def payTick (slot epoch : Nat) : Nat := field slot 12 16 + field epoch 16 0
def payHoliday (scope : Nat) (next : Bool) (slot id : Nat) : Nat :=
  field scope 2 26 + field (b2n next) 1 25 + field slot 12 13 + field id 13 0
def payDoorbell (c pair : Nat) : Nat := field c 8 20 + field pair 10 10
def payDeadline (c tag : Nat) : Nat := field c 8 20 + field tag 16 4

/-- A flit as its 32 bits (R173). -/
def tendrilWord (kind payload : Nat) : Nat := field kind 4 28 + field payload 28 0

/-- The place of a kind in a link's service order (R179). -/
def tendrilRank (kind : Nat) : Nat :=
  match kind with
  | 4 | 6 => 1
  | 5 => 2
  | 2 => 3
  | 1 => 4
  | 3 => 5
  | 8 => 6
  | 7 => 7
  | _ => 8

/-- The kind that a link serves next, of its queued flits' kinds, oldest first (R179). DESIGN CHOICE (log 227). -/
def tendrilFirst : List Nat → Option Nat
  | [] => none
  | k :: ks => match tendrilFirst ks with
    | none => some k
    | some j => some (if tendrilRank j < tendrilRank k then j else k)

/-- Unloaded delay of one hop, in cycles (R180): from or to a node, down or up. DESIGN CHOICE (log 227). -/
def hopCycles (node : Nat) : Nat := if node = 0 then 0 else if node < 5 then 40 else if node < 21 then 24 else 16
def tileHopCycles : Nat := 4
def rootDecisionCycles : Nat := 4

/-- A barrier round's unloaded delay where it tops out at a node (R180): up, the decision, down.
DESIGN CHOICE (log 227). -/
def roundCycles (cluster top : Nat) : Nat :=
  let up := if top = clusterNode cluster then tileHopCycles
    else tileHopCycles + hopCycles (clusterNode cluster) + hopCycles (nodeAbove (clusterNode cluster)) +
      hopCycles (nodeAbove (nodeAbove (clusterNode cluster)))
  2 * up + rootDecisionCycles

end Sys2Proof.Machine
end

