-- ==== Sys2Proof/Config.lean ====
section
/-! DEFINITION. Config.lean: what one module fixes (characterised values, bytes of certificates) and the free
values: results the manual leaves open. Each is opaque, so that no proof can see a value of it; a
statement that mentions one holds for every value of it. -/

namespace Sys2Proof.Config

/-! ## Free values (a counter of State, or the operands, index them) -/

/-- A value the manual leaves open, by the step's counter (State.free). DESIGN CHOICE (log 10). -/
opaque freeNat : Nat → Nat

/-- The special-function results inside the error bounds of R132, by operation code (R100) and operand.
DESIGN CHOICE (log 53). -/
opaque sfu : Nat → Word32 → Word32

/-- LSE_STEP's s′ inside its bound (R132), by m, s, a. DESIGN CHOICE (log 53). -/
opaque lseS : Word32 → Word32 → Word32 → Word32

/-- 2^x of the sampler (R296), FP32 rounded to nearest even: the manual gives no way to compute it.
DESIGN CHOICE (log 53). -/
opaque exp2Sampler : Word32 → Word32

/-- The cause code of a ring error (R304 names the byte and gives it no codes), by case: 0 reserved bit, 1 tail, 2 head
(R276), 3 read, 4 write (R277). DESIGN CHOICE (log 78). -/
opaque ringCause : Nat → Nat

/-- Staves that the pool of a recipe holds, by the pool's VA (R287 gives the pool an address and no size).
DESIGN CHOICE (log 94). -/
opaque stavePool : Nat → Nat

/-! ## Cryptography (SHAKE256, KMAC256, ML-KEM, Falcon, AES): the functions of the standards cited -/

/-- SHAKE256 of a byte string given as (length, value), n bytes out. DESIGN CHOICE (log 160). -/
opaque shake256 : Blob → Nat → Nat
/-- KMAC256 with key and the customization string of R485, 128 bits. DESIGN CHOICE (log 160). -/
opaque kmacWizor : Nat → Blob → Nat
/-- The unique device secret, 256 bits (R376). DESIGN CHOICE (log 160). -/
opaque uds : Nat
/-- Falcon-1024 with SHAKE256: the key whose generation draws from SHAKE256 of a byte string, and a signature.
DESIGN CHOICE (log 160). -/
opaque falconKey : Blob → Nat
/-- DESIGN CHOICE (log 160). -/
opaque falconSign : Nat → Blob → Nat
/-- SHA-384 of a byte string. DESIGN CHOICE (log 160). -/
opaque sha384 : Blob → Nat
/-- The body of an SPDM, IDE_KM or TDISP answer as far as its own standard alone lays it out, by answer code and a counter.
PRESUMED (log 131). -/
opaque standardBody : Nat → Nat → Blob
/-- ML-KEM-1024: the encapsulation key of a (d, z); the ciphertext and the shared secret of an encapsulation to a key with
randomness; and the shared secret that a (d, z) decapsulates from a ciphertext. DESIGN CHOICE (log 160). -/
opaque mlkemKey : Nat → Nat
/-- DESIGN CHOICE (log 160). -/
opaque mlkemCipher : Nat → Nat → Nat
/-- DESIGN CHOICE (log 160). -/
opaque mlkemSecret : Nat → Nat → Nat
/-- DESIGN CHOICE (log 160). -/
opaque decapsulate : Nat → Nat → Nat
/-- The set of a parcel cache, 0–8,191, that a line falls in: by pseudo-channel and line number (R193).
DESIGN CHOICE (log 73). -/
opaque cacheSet : Nat → Nat → Nat
/-- A random number drawn on chip, by a counter. DESIGN CHOICE (log 160). -/
opaque random : Nat → Nat
/-- AES-256-GCM of a plaintext under a key and a nonce, with associated data: the ciphertext and, above it, the tag.
DESIGN CHOICE (log 160). -/
opaque gcm : Nat → Nat → Blob → Blob → Nat
/-- The same under the key of a link's sending direction with its 64-bit tag (R330): by port, number of the key, count of
flits under it, header, payload. DESIGN CHOICE (log 160). -/
opaque linkSeal : Nat → Nat → Nat → Nat → Blob → Nat
/-- AES key wrap (R390). DESIGN CHOICE (log 160). -/
opaque keyWrap : Nat → Nat → Nat
/-- The kind of a courier command that no CONTROL subcode names, as the daybook's CODE gives it (R412): 0 an output copy.
DESIGN CHOICE (log 218). -/
opaque courierKind : Nat → Nat
/-- The value of a vendor-diagnostics object (R492), by index, subindex and a counter. DESIGN CHOICE (log 40). -/
opaque vendorValue : Nat → Nat → Nat → Blob
/-- The step data of a KEY fragment, whose layout the manual leaves open (R329): by step and a counter.
DESIGN CHOICE (log 84). -/
opaque keyData : Nat → Nat → Nat

/-! ## Values of the module (characterised at production test, or held in flash) -/

/-- StandingPower in W (R354). DESIGN CHOICE (log 159). -/
opaque standingPower : Nat
/-- RampInterval in cycles, 128–1,024 (R366, R374). DESIGN CHOICE (log 159, 217). -/
opaque rampInterval : Nat
/-- EnergyPerOp[k], subindex 1–8, as FP32 (R116). DESIGN CHOICE (log 159). -/
opaque energyPerOp : Nat → Word32
/-- EnergyPerByte[k], subindex 1–6, as FP32 (R360). DESIGN CHOICE (log 159). -/
opaque energyPerByte : Nat → Word32
/-- The price of one counted event in units of 2^-24 pJ: by counter of R359, 0–15. DESIGN CHOICE (log 157). -/
opaque price : Nat → Nat
/-- SerialNumber, FirmwareVersion (STR), ModuleVersion (R489). DESIGN CHOICE (log 159). -/
opaque serialNumber : Blob
/-- DESIGN CHOICE (log 159). -/
opaque firmwareVersion : Blob
/-- DESIGN CHOICE (log 159). -/
opaque moduleVersion : Nat
/-- The DER certificates of R378, positions 0–2; and the alias certificate, by the image that booted.
DESIGN CHOICE (log 159). -/
opaque certificate : Nat → Blob
/-- DESIGN CHOICE (log 159). -/
opaque aliasCertificate : Nat → Blob
/-- The DER SubjectPublicKeyInfo of a certificate; the identity digest is SHAKE256 of certificate 2's (R378).
DESIGN CHOICE (log 159). -/
opaque subjectKey : Blob → Blob
def identityDigest : Nat := shake256 (subjectKey (certificate 2)) 64
/-- The measurements (R383), by 8 × (the number of an image) + block. DESIGN CHOICE (log 47). -/
opaque measurement : Nat → Nat
/-- The SVNs of components 1–4 (R380), by the number of an image and component. DESIGN CHOICE (log 47). -/
opaque svn : Nat → Nat → Nat
/-- The PCIe vendor ID (R504) and the configuration registers the PCI Express Base Specification defines.
DESIGN CHOICE (log 159). -/
opaque vendorId : Nat
/-- PRESUMED (log 146). -/
opaque pcieRegister : Nat → Nat → Nat
/-- Where a function's power-management control register stands (PowerState in its bits 1:0). PRESUMED (log 146). -/
opaque pmcsr : Nat
/-- The objects of the vendor-diagnostics area (R492), in ascending order: index, subindex, type code.
DESIGN CHOICE (log 40). -/
opaque vendorObjects : List (Nat × Nat × Nat)
/-- What a write of a configuration register leaves there, by register, value before and value written: the PCI Express Base
Specification's affair. PRESUMED (log 146). -/
opaque pcieWritten : Nat → Nat → Nat → Nat
/-- Where a PF's Resizable BAR control register stands (BAR size in its bits 13:8, as a power of two of 1 MiB).
PRESUMED (log 146). -/
opaque rebarControl : Nat
/-- The mirror slot of an object for a window class (R481): fixed for a measurement M₂. DESIGN CHOICE (log 150). -/
opaque mirrorSlot : Nat → Nat → Nat → Nat

end Sys2Proof.Config
end

