-- ==== Sys2Proof/Machine/Keys.lean ====
section
/-! DEFINITION. Machine/Keys.lean: the keys that the security controller derives from the device secret (R376, R377). -/

namespace Sys2Proof.Machine

/-- A label in ASCII without a terminator, and what follows it. -/
def labelled (x : String) (rest : List (Nat × Nat)) : Blob := Blob.record ((x.toList.map fun c => (1, c.toNat)) ++ rest)

/-- A label with the device secret. -/
def withSecret (x : String) : Blob := labelled x [(32, Config.uds)]

/-- The identity key: Falcon-1024 key generation whose random source is SHAKE256 of its label and the UDS. -/
def identityKey : Nat := Config.falconKey (withSecret "GZ9 ID")
/-- The bottle key's (d, z), and its encapsulation key. -/
def bottleSeed : Nat := Config.shake256 (withSecret "GZ9 KEM") 64
def bottleKey : Nat := Config.mlkemKey bottleSeed
/-- The flash replay key, which authenticates counter commands to the flash. -/
def flashKey : Nat := Config.shake256 (withSecret "GZ9 RPMC") 32

/-- CDI₀ … CDI₄, given the measurements M₁ … M₄ (R383). -/
def cdi (m : Nat → Nat) : Nat → Nat
  | 0 => Config.shake256 (withSecret "GZ9 CDI") 64
  | k + 1 => Config.shake256 (Blob.record [(64, cdi m k), (64, m (k + 1))]) 64

/-- The alias key, which changes with any measured firmware. -/
def aliasKey (m : Nat → Nat) : Nat := Config.falconKey (labelled "GZ9 ALIAS" [(64, cdi m 4)])

/-- Signatures of the two keys over a body. DESIGN CHOICE (log 160). -/
def identitySign (b : Blob) : Nat := Config.falconSign identityKey b
/-- DESIGN CHOICE (log 160). -/
def aliasSign (m : Nat → Nat) (b : Blob) : Nat := Config.falconSign (aliasKey m) b

end Sys2Proof.Machine
end

