-- ==== Sys2Proof/Machine/Objects.lean ====
section
/-! DEFINITION. Machine/Objects.lean: the object dictionary as the tables of the chapters give it (R9, R459, R492):
type, rights, effect, sizes, Default and scalar range of every object, and the tenant's view of it (R271). -/

namespace Sys2Proof.Machine

/-- Dictionary types (R459). -/
inductive Ty where
  | bool | u8 | u16 | u32 | u64 | i32 | i64 | f32 | time | estatetime | str | blob | list
deriving DecidableEq, Repr, Inhabited

/-- Type codes of R459. -/
def Ty.code : Ty → Nat
  | .bool => 1 | .u8 => 2 | .u16 => 3 | .u32 => 4 | .u64 => 5 | .i32 => 6 | .i64 => 7 | .f32 => 8 | .time => 9
  | .estatetime => 10 | .str => 11 | .blob => 12 | .list => 13

/-- Scalar types, those that are mirrored (R481). -/
def Ty.scalar (t : Ty) : Bool := decide (t.code ≤ 10)

/-- Whose object it is: the estate's (or a port's, parcel's, label's), or one cuvee's with subindex c, or with subindex
c + 1 so that cuvee 0 has one too. -/
inductive Owner where
  | estate | cuvee | cuvee0
deriving DecidableEq, Repr, Inhabited

/-- One row of a dictionary table (R9). Rights are [0] R, [1] W. `elem` is the element size of a BLOB of elements, whose
size lies from `minSize` to `maxSize`; `range` holds a plain scalar range. -/
structure ObjDesc where
  idx     : Nat
  idxHi   : Nat
  subLo   : Nat
  subHi   : Nat
  name    : String
  ty      : Ty
  mgr     : Nat
  dep     : Nat
  side    : Nat
  epoch   : Bool
  owner   : Owner
  cmd     : Bool
  minSize : Nat
  maxSize : Nat
  elem    : Nat
  dflt    : Blob
  range   : Option (Nat × Nat)
deriving DecidableEq, Repr, Inhabited

/-- Objects of the comm chapter(s), in index order. -/
def objectsComm : List ObjDesc := [
  ⟨0x1000, 0x1000, 0x01, 0x01, "VendorName", .str, 1, 1, 1, false, .estate, false, 0, 256, 1, ⟨0, 0⟩, none⟩,
  ⟨0x1000, 0x1000, 0x02, 0x02, "ProductName", .str, 1, 1, 1, false, .estate, false, 0, 256, 1, ⟨0, 0⟩, none⟩,
  ⟨0x1000, 0x1000, 0x03, 0x03, "OrderingCode", .str, 1, 1, 1, false, .estate, false, 0, 256, 1, ⟨0, 0⟩, none⟩,
  ⟨0x1000, 0x1000, 0x04, 0x04, "SerialNumber", .str, 1, 1, 1, false, .estate, false, 0, 256, 1, ⟨0, 0⟩, none⟩,
  ⟨0x1000, 0x1000, 0x05, 0x05, "ModuleVersion", .u32, 1, 1, 1, false, .estate, false, 4, 4, 1, ⟨4, 0⟩, none⟩,
  ⟨0x1000, 0x1000, 0x06, 0x06, "FirmwareVersion", .str, 1, 1, 1, false, .estate, false, 0, 256, 1, ⟨0, 0⟩, none⟩,
  ⟨0x1000, 0x1000, 0x07, 0x07, "DictionaryVersion", .u16, 1, 1, 1, false, .estate, false, 2, 2, 1, ⟨2, 0⟩, none⟩,
  ⟨0x1001, 0x1001, 0x01, 0x01, "StewardPort", .u8, 3, 1, 3, false, .estate, false, 1, 1, 1, ⟨1, 0⟩, (some (0, 1))⟩,
  ⟨0x1001, 0x1001, 0x02, 0x02, "StewardHolder", .u8, 1, 1, 1, false, .estate, false, 1, 1, 1, ⟨1, 0⟩, none⟩,
  ⟨0x1001, 0x1001, 0x03, 0x03, "StewardCommand", .u8, 2, 2, 2, false, .estate, true, 1, 1, 1, ⟨1, 0⟩, (some (1, 4))⟩,
  ⟨0x1001, 0x1001, 0x04, 0x04, "StewardHeartbeat", .u32, 2, 0, 0, false, .estate, false, 4, 4, 1, ⟨4, 0⟩, none⟩,
  ⟨0x1001, 0x1001, 0x05, 0x05, "StewardTimeout", .time, 3, 1, 3, false, .estate, false, 8, 8, 1, ⟨8, 0⟩, none⟩,
  ⟨0x1001, 0x1001, 0x06, 0x06, "StewardLastBeat", .estatetime, 1, 1, 1, false, .estate, false, 8, 8, 1, ⟨8, 0⟩, none⟩,
  ⟨0x1002, 0x1002, 0x01, 0x01, "StagingStatus", .blob, 1, 1, 1, false, .estate, false, 32, 32, 1, ⟨32, 0⟩, none⟩,
  ⟨0x1003, 0x1003, 0x01, 0x01, "StoreStatus", .blob, 1, 1, 1, false, .estate, false, 16, 16, 1, ⟨16, 0⟩, none⟩,
  ⟨0x1010, 0x1010, 0x01, 0x01, "SidebandNode", .u8, 1, 1, 1, false, .estate, false, 1, 1, 1, ⟨1, 0⟩, none⟩,
  ⟨0x1010, 0x1010, 0x02, 0x02, "PlcaNodeCount", .u8, 3, 1, 3, false, .estate, false, 1, 1, 1, ⟨1, 17⟩, (some (2, 255))⟩,
  ⟨0x1010, 0x1010, 0x03, 0x03, "SidebandKey", .blob, 2, 0, 2, false, .estate, false, 0, 32, 32, ⟨0, 0⟩, none⟩,
  ⟨0x1010, 0x1010, 0x04, 0x04, "SidebandKeySet", .bool, 1, 1, 1, false, .estate, false, 1, 1, 1, ⟨1, 0⟩, (some (0, 1))⟩,
  ⟨0x1010, 0x1010, 0x05, 0x05, "WizorCounters", .blob, 1, 1, 1, false, .estate, false, 48, 48, 1, ⟨48, 0⟩, none⟩,
  ⟨0x1011, 0x1011, 0x01, 0x01, "WindowCounters", .blob, 1, 1, 1, false, .estate, false, 16, 16, 1, ⟨16, 0⟩, none⟩,
  ⟨0x1020, 0x1020, 0x01, 0x01, "FlashProgram", .blob, 2, 0, 2, false, .estate, true, 9, 1032, 1, ⟨9, 0⟩, none⟩,
  ⟨0x1020, 0x1020, 0x02, 0x02, "FlashStatus", .blob, 1, 1, 1, false, .estate, false, 16, 16, 1, ⟨16, 0⟩, none⟩]

/-- Objects of the cadence chapter(s), in index order. -/
def objectsCadence : List ObjDesc := [
  ⟨0x2000, 0x2000, 0x01, 0x01, "CadenceSource", .u8, 3, 1, 3, true, .estate, false, 1, 1, 1, ⟨1, 0⟩, (some (0, 2))⟩,
  ⟨0x2000, 0x2000, 0x02, 0x02, "EpochPeriod", .time, 3, 1, 3, true, .estate, false, 8, 8, 1, ⟨8, 1000000⟩, (some (50000, 1000000000))⟩,
  ⟨0x2000, 0x2000, 0x03, 0x03, "CadenceDivider", .u16, 3, 1, 3, true, .estate, false, 2, 2, 1, ⟨2, 1⟩, (some (1, 256))⟩,
  ⟨0x2000, 0x2000, 0x04, 0x04, "PtpDomain", .u8, 3, 1, 3, true, .estate, false, 1, 1, 1, ⟨1, 0⟩, (some (0, 127))⟩,
  ⟨0x2000, 0x2000, 0x05, 0x05, "PtpEpochOrigin", .time, 3, 1, 3, true, .estate, false, 8, 8, 1, ⟨8, 0⟩, none⟩,
  ⟨0x2000, 0x2000, 0x06, 0x06, "EpochSeed", .u64, 3, 1, 3, true, .estate, false, 8, 8, 1, ⟨8, 0⟩, (some (0, 1099511627775))⟩,
  ⟨0x2000, 0x2000, 0x07, 0x07, "PeerSourcePort", .u8, 3, 1, 3, true, .estate, false, 1, 1, 1, ⟨1, 0⟩, (some (0, 11))⟩,
  ⟨0x2000, 0x2000, 0x08, 0x08, "FlywheelLimit", .u8, 3, 1, 3, true, .estate, false, 1, 1, 1, ⟨1, 64⟩, (some (1, 64))⟩,
  ⟨0x2000, 0x2000, 0x09, 0x09, "CadenceCommand", .u8, 2, 0, 2, true, .estate, true, 1, 1, 1, ⟨1, 0⟩, (some (1, 3))⟩,
  ⟨0x2001, 0x2001, 0x01, 0x01, "CadenceState", .u8, 1, 1, 1, false, .estate, false, 1, 1, 1, ⟨1, 0⟩, none⟩,
  ⟨0x2001, 0x2001, 0x02, 0x02, "EpochLength", .time, 1, 1, 1, false, .estate, false, 8, 8, 1, ⟨8, 0⟩, none⟩,
  ⟨0x2001, 0x2001, 0x03, 0x03, "PhaseError", .i32, 1, 1, 1, false, .estate, false, 4, 4, 1, ⟨4, 0⟩, none⟩,
  ⟨0x2001, 0x2001, 0x04, 0x04, "FlywheelCount", .u8, 1, 1, 1, false, .estate, false, 1, 1, 1, ⟨1, 0⟩, none⟩,
  ⟨0x2001, 0x2001, 0x05, 0x05, "ReferencePresent", .bool, 1, 1, 1, false, .estate, false, 1, 1, 1, ⟨1, 0⟩, (some (0, 1))⟩,
  ⟨0x2001, 0x2001, 0x06, 0x06, "RejectedEdges", .u32, 1, 1, 1, false, .estate, false, 4, 4, 1, ⟨4, 0⟩, none⟩,
  ⟨0x2001, 0x2001, 0x07, 0x07, "MissedEdges", .u32, 1, 1, 1, false, .estate, false, 4, 4, 1, ⟨4, 0⟩, none⟩,
  ⟨0x2001, 0x2001, 0x08, 0x08, "LockTime", .estatetime, 1, 1, 1, false, .estate, false, 8, 8, 1, ⟨8, 0⟩, none⟩,
  ⟨0x2001, 0x2001, 0x09, 0x09, "LostCount", .u32, 1, 1, 1, false, .estate, false, 4, 4, 1, ⟨4, 0⟩, none⟩,
  ⟨0x2001, 0x2001, 0x0A, 0x0A, "EpochsSinceBoot", .u64, 1, 1, 1, false, .estate, false, 8, 8, 1, ⟨8, 0⟩, none⟩,
  ⟨0x2002, 0x2002, 0x01, 0x01, "EstateTimeNow", .estatetime, 1, 1, 1, false, .estate, false, 8, 8, 1, ⟨8, 0⟩, none⟩,
  ⟨0x2002, 0x2002, 0x02, 0x02, "SlotLength", .u32, 1, 1, 1, false, .estate, false, 4, 4, 1, ⟨4, 0⟩, none⟩,
  ⟨0x2003, 0x2003, 0x01, 0x3E, "EstateRow[n]", .blob, 3, 1, 3, true, .estate, false, 16, 16, 1, ⟨16, 0⟩, none⟩,
  ⟨0x2004, 0x2004, 0x01, 0xFE, "FetchSpacing[c]", .u16, 3, 1, 3, true, .cuvee, false, 2, 2, 1, ⟨2, 16⟩, (some (16, 4096))⟩,
  ⟨0x2005, 0x2005, 0x01, 0xFF, "AlmanacSegment[c]", .u64, 1, 1, 1, false, .cuvee0, false, 8, 8, 1, ⟨8, 0⟩, none⟩,
  ⟨0x2006, 0x2006, 0x01, 0xFF, "AlmanacCounters[c]", .blob, 1, 1, 1, false, .cuvee0, false, 32, 32, 1, ⟨32, 0⟩, none⟩]

/-- Objects of the energy chapter(s), in index order. -/
def objectsEnergy : List ObjDesc := [
  ⟨0x2010, 0x2010, 0x01, 0x01, "PowerCap", .u16, 3, 1, 3, true, .estate, false, 2, 2, 1, ⟨2, 1500⟩, (some (400, 1500))⟩,
  ⟨0x2010, 0x2010, 0x02, 0x02, "StandingPower", .u16, 1, 1, 1, false, .estate, false, 2, 2, 1, ⟨2, 0⟩, none⟩,
  ⟨0x2010, 0x2010, 0x03, 0x03, "ReconcileSlot", .u16, 3, 1, 3, true, .estate, false, 2, 2, 1, ⟨2, 1⟩, (some (0, 4095))⟩,
  ⟨0x2010, 0x2010, 0x04, 0x04, "KPeriod", .u16, 3, 1, 3, true, .estate, false, 2, 2, 1, ⟨2, 64⟩, (some (1, 4096))⟩,
  ⟨0x2010, 0x2010, 0x05, 0x05, "ClusterGating", .bool, 3, 1, 3, true, .estate, false, 1, 1, 1, ⟨1, 0⟩, (some (0, 1))⟩,
  ⟨0x2010, 0x2010, 0x06, 0x06, "SharesTotal", .u16, 1, 1, 1, false, .estate, false, 2, 2, 1, ⟨2, 0⟩, none⟩,
  ⟨0x2010, 0x2010, 0x07, 0x07, "RampInterval", .u16, 1, 1, 1, false, .estate, false, 2, 2, 1, ⟨2, 0⟩, none⟩,
  ⟨0x2011, 0x2011, 0x01, 0xFE, "EnergyShare[c]", .blob, 3, 1, 1, true, .cuvee, false, 8, 8, 1, ⟨8, 17592186044416⟩, none⟩,
  ⟨0x2012, 0x2012, 0x01, 0xFE, "LedgerStatus[c]", .blob, 1, 1, 1, false, .cuvee, false, 32, 32, 1, ⟨32, 0⟩, none⟩,
  ⟨0x2013, 0x2013, 0x01, 0xFE, "CuveeEnergy[c]", .u64, 1, 1, 1, false, .cuvee, false, 8, 8, 1, ⟨8, 0⟩, none⟩,
  ⟨0x2014, 0x2014, 0x01, 0x06, "EnergyPerByte[k]", .f32, 1, 1, 1, false, .estate, false, 4, 4, 1, ⟨4, 0⟩, none⟩,
  ⟨0x2015, 0x2015, 0x01, 0x01, "EstateEnergy", .blob, 1, 1, 1, false, .estate, false, 32, 32, 1, ⟨32, 0⟩, none⟩,
  ⟨0x2016, 0x2016, 0x01, 0x01, "DomainStatus", .blob, 1, 1, 1, false, .estate, false, 181, 181, 1, ⟨181, 0⟩, none⟩,
  ⟨0x2017, 0x2017, 0x01, 0x01, "ThermalStatus", .blob, 1, 1, 1, false, .estate, false, 83, 83, 1, ⟨83, 0⟩, none⟩,
  ⟨0x2018, 0x2018, 0x01, 0x01, "ThrottleLog", .blob, 1, 1, 1, false, .estate, false, 8192, 8192, 1, ⟨8192, 0⟩, none⟩,
  ⟨0x2018, 0x2018, 0x02, 0x02, "ThrottleWritten", .u32, 1, 1, 1, false, .estate, false, 4, 4, 1, ⟨4, 0⟩, none⟩,
  ⟨0x2019, 0x2019, 0x01, 0xFE, "PeerPace[c]", .blob, 1, 1, 1, false, .cuvee, false, 16, 16, 1, ⟨16, 0⟩, none⟩]

/-- Objects of the compose chapter(s), in index order. -/
def objectsCompose : List ObjDesc := [
  ⟨0x3000, 0x3000, 0x01, 0x01, "MusterGeneration", .u32, 1, 1, 1, false, .estate, false, 4, 4, 1, ⟨4, 0⟩, none⟩,
  ⟨0x3000, 0x3000, 0x02, 0x02, "TilesAvailable", .u16, 1, 1, 1, false, .estate, false, 2, 2, 1, ⟨2, 0⟩, none⟩,
  ⟨0x3000, 0x3000, 0x03, 0x03, "ClustersAvailable", .u8, 1, 1, 1, false, .estate, false, 1, 1, 1, ⟨1, 0⟩, none⟩,
  ⟨0x3000, 0x3000, 0x04, 0x04, "ParcelsPresent", .u16, 1, 1, 1, false, .estate, false, 2, 2, 1, ⟨2, 0⟩, none⟩,
  ⟨0x3000, 0x3000, 0x05, 0x05, "PseudoChannelsAvailable", .u16, 1, 1, 1, false, .estate, false, 2, 2, 1, ⟨2, 0⟩, none⟩,
  ⟨0x3000, 0x3000, 0x06, 0x06, "HostPortsPresent", .u8, 1, 1, 1, false, .estate, false, 1, 1, 1, ⟨1, 0⟩, none⟩,
  ⟨0x3000, 0x3000, 0x07, 0x07, "CellRepairs", .u16, 1, 1, 1, false, .estate, false, 2, 2, 1, ⟨2, 0⟩, none⟩,
  ⟨0x3000, 0x3000, 0x08, 0x08, "MusterState", .u8, 1, 1, 1, false, .estate, false, 1, 1, 1, ⟨1, 0⟩, none⟩,
  ⟨0x3000, 0x3000, 0x09, 0x09, "MusterFailCause", .u8, 1, 1, 1, false, .estate, false, 1, 1, 1, ⟨1, 0⟩, none⟩,
  ⟨0x3000, 0x3000, 0x0A, 0x0A, "LinkPortsPresent", .u16, 1, 1, 1, false, .estate, false, 2, 2, 1, ⟨2, 0⟩, none⟩,
  ⟨0x3001, 0x3001, 0x01, 0x10, "ParcelMuster[p]", .u64, 1, 1, 1, false, .estate, false, 8, 8, 1, ⟨8, 0⟩, none⟩,
  ⟨0x3002, 0x3002, 0x01, 0x90, "ClusterMuster[c]", .u32, 1, 1, 1, false, .estate, false, 4, 4, 1, ⟨4, 0⟩, none⟩,
  ⟨0x3003, 0x3003, 0x01, 0x01, "CellRepairMap", .blob, 1, 1, 1, false, .estate, false, 2448, 2448, 1, ⟨2448, 0⟩, none⟩,
  ⟨0x3004, 0x3004, 0x01, 0x01, "TileMap", .blob, 1, 1, 1, false, .estate, false, 4096, 4096, 1, ⟨4096, 0⟩, none⟩,
  ⟨0x3005, 0x3005, 0x01, 0x01, "PseudoChannelMap", .blob, 1, 1, 1, false, .estate, false, 1024, 1024, 1, ⟨1024, 0⟩, none⟩,
  ⟨0x3006, 0x3006, 0x01, 0x08, "FabricMuster[s]", .u16, 1, 1, 1, false, .estate, false, 2, 2, 1, ⟨2, 0⟩, none⟩,
  ⟨0x3007, 0x3007, 0x00, 0x00, "ExclusionList", .list, 3, 1, 3, false, .estate, false, 4, 1028, 1, ⟨4, 262144⟩, none⟩,
  ⟨0x3010, 0x3010, 0x01, 0x01, "FreeTiles", .u16, 1, 1, 1, false, .estate, false, 2, 2, 1, ⟨2, 0⟩, none⟩,
  ⟨0x3010, 0x3010, 0x02, 0x02, "FreePseudoChannels", .u16, 1, 1, 1, false, .estate, false, 2, 2, 1, ⟨2, 0⟩, none⟩,
  ⟨0x3010, 0x3010, 0x03, 0x03, "FreeRingPairs", .u16, 1, 1, 1, false, .estate, false, 2, 2, 1, ⟨2, 0⟩, none⟩,
  ⟨0x3010, 0x3010, 0x04, 0x04, "FreeAlmanacRun", .u32, 1, 1, 1, false, .estate, false, 4, 4, 1, ⟨4, 0⟩, none⟩,
  ⟨0x3010, 0x3010, 0x05, 0x05, "CuveesExisting", .u8, 1, 1, 1, false, .estate, false, 1, 1, 1, ⟨1, 0⟩, none⟩,
  ⟨0x3011, 0x3011, 0x01, 0xFE, "CuveeState[c]", .u16, 1, 1, 1, false, .cuvee, false, 2, 2, 1, ⟨2, 0⟩, none⟩,
  ⟨0x3012, 0x3012, 0x01, 0xFE, "CuveeCommand[c]", .blob, 2, 0, 2, true, .cuvee, true, 16, 16, 1, ⟨16, 0⟩, none⟩,
  ⟨0x3013, 0x3013, 0x01, 0xFE, "CommandStatus[c]", .blob, 1, 1, 1, false, .cuvee, false, 32, 32, 1, ⟨32, 0⟩, none⟩,
  ⟨0x3014, 0x3014, 0x01, 0xFE, "CuveeTiles[c]", .blob, 3, 1, 1, true, .cuvee, false, 0, 4096, 2, ⟨0, 0⟩, none⟩,
  ⟨0x3015, 0x3015, 0x01, 0xFE, "CuveePseudoChannels[c]", .blob, 3, 1, 1, true, .cuvee, false, 0, 1024, 2, ⟨0, 0⟩, none⟩,
  ⟨0x3016, 0x3016, 0x01, 0xFE, "CuveeShape[c]", .u64, 3, 1, 1, true, .cuvee, false, 8, 8, 1, ⟨8, 0⟩, none⟩,
  ⟨0x3017, 0x3017, 0x01, 0xFE, "ServiceSlots[c]", .blob, 3, 1, 1, true, .cuvee, false, 32, 32, 1, ⟨32, 0⟩, none⟩,
  ⟨0x3018, 0x3018, 0x01, 0xFE, "CuveeGroup[c]", .u16, 3, 1, 1, true, .cuvee, false, 2, 2, 1, ⟨2, 0⟩, none⟩,
  ⟨0x3019, 0x3019, 0x01, 0xFE, "Binding[c]", .u16, 1, 1, 1, false, .cuvee, false, 2, 2, 1, ⟨2, 0⟩, none⟩,
  ⟨0x301A, 0x301A, 0x01, 0xFE, "RebindPlan[c]", .blob, 3, 1, 0, true, .cuvee, false, 16, 12304, 4, ⟨0, 0⟩, none⟩,
  ⟨0x301B, 0x301B, 0x01, 0xFE, "RebindStatus[c]", .blob, 1, 1, 1, false, .cuvee, false, 32, 32, 1, ⟨32, 0⟩, none⟩,
  ⟨0x301C, 0x301C, 0x01, 0xFE, "ImageTarget[c]", .blob, 3, 1, 0, false, .cuvee, false, 32, 32, 1, ⟨32, 0⟩, none⟩,
  ⟨0x301D, 0x301D, 0x01, 0xFE, "ResetCount[c]", .u32, 1, 1, 1, false, .cuvee, false, 4, 4, 1, ⟨4, 0⟩, none⟩,
  ⟨0x301E, 0x301E, 0x01, 0x01, "RebindQuiesceLimit", .time, 3, 1, 3, true, .estate, false, 8, 8, 1, ⟨8, 1000000⟩, (some (10000, 100000000))⟩,
  ⟨0x301E, 0x301E, 0x02, 0x02, "FinalCopyThreshold", .u32, 3, 1, 3, true, .estate, false, 4, 4, 1, ⟨4, 1048576⟩, (some (65536, 67108864))⟩,
  ⟨0x301E, 0x301E, 0x03, 0x03, "PassLimit", .u8, 3, 1, 3, true, .estate, false, 1, 1, 1, ⟨1, 8⟩, (some (2, 32))⟩,
  ⟨0x301E, 0x301E, 0x04, 0x04, "FinalCopyLimit", .u32, 3, 1, 3, true, .estate, false, 4, 4, 1, ⟨4, 67108864⟩, (some (65536, 1207959552))⟩]

/-- Objects of the fabric chapter(s), in index order. -/
def objectsFabric : List ObjDesc := [
  ⟨0x3080, 0x3080, 0x01, 0x01, "TileStateMap", .blob, 1, 1, 1, false, .estate, false, 2048, 2048, 1, ⟨2048, 0⟩, none⟩,
  ⟨0x3080, 0x3080, 0x02, 0x02, "TilePositionMap", .blob, 1, 1, 1, false, .estate, false, 8192, 8192, 1, ⟨8192, 0⟩, none⟩,
  ⟨0x3080, 0x3080, 0x03, 0x03, "TileFaultCause", .blob, 1, 1, 1, false, .estate, false, 2048, 2048, 1, ⟨2048, 0⟩, none⟩,
  ⟨0x3081, 0x3081, 0x01, 0x08, "EnergyPerOp[k]", .f32, 1, 1, 1, false, .estate, false, 4, 4, 1, ⟨4, 0⟩, none⟩,
  ⟨0x3090, 0x3090, 0x01, 0xFE, "StochasticSeed[c]", .u64, 3, 1, 0, true, .cuvee, false, 8, 8, 1, ⟨8, 0⟩, none⟩,
  ⟨0x3091, 0x3091, 0x01, 0xFE, "SeedMode[c]", .u8, 3, 1, 0, true, .cuvee, false, 1, 1, 1, ⟨1, 1⟩, (some (0, 1))⟩,
  ⟨0x3092, 0x3092, 0x01, 0x01, "FormatSupport", .u16, 1, 1, 1, false, .estate, false, 2, 2, 1, ⟨2, 0⟩, none⟩,
  ⟨0x30A0, 0x30A0, 0x01, 0xFE, "BarrierAllotment[c]", .u32, 3, 1, 1, true, .cuvee, false, 4, 4, 1, ⟨4, 0⟩, none⟩,
  ⟨0x30A1, 0x30A1, 0x01, 0xFE, "MulticastAllotment[c]", .u32, 3, 1, 1, true, .cuvee, false, 4, 4, 1, ⟨4, 0⟩, none⟩,
  ⟨0x30A2, 0x30A2, 0x01, 0x01, "FencePolicy", .u8, 3, 1, 3, true, .estate, false, 1, 1, 1, ⟨1, 0⟩, (some (0, 1))⟩,
  ⟨0x30A2, 0x30A2, 0x02, 0x02, "FencedClusters", .blob, 1, 1, 1, false, .estate, false, 16, 16, 1, ⟨16, 0⟩, none⟩,
  ⟨0x30A3, 0x30A3, 0x01, 0x01, "ReductionHold", .u8, 3, 1, 3, true, .estate, false, 1, 1, 1, ⟨1, 8⟩, (some (0, 64))⟩,
  ⟨0x30A4, 0x30A4, 0x01, 0xFE, "MulticastIncomplete[c]", .u32, 1, 1, 1, false, .cuvee, false, 4, 4, 1, ⟨4, 0⟩, none⟩,
  ⟨0x30A5, 0x30A5, 0x01, 0xFE, "BarrierErrors[c]", .u32, 1, 1, 1, false, .cuvee, false, 4, 4, 1, ⟨4, 0⟩, none⟩,
  ⟨0x30A6, 0x30A6, 0x01, 0xFE, "FlagOverflow[c]", .u32, 1, 1, 1, false, .cuvee, false, 4, 4, 1, ⟨4, 0⟩, none⟩,
  ⟨0x30A7, 0x30A7, 0x01, 0x01, "TrellisErrors", .blob, 1, 1, 1, false, .estate, false, 32, 32, 1, ⟨32, 0⟩, none⟩]

/-- Objects of the memory chapter(s), in index order. -/
def objectsMemory : List ObjDesc := [
  ⟨0x5001, 0x5001, 0x01, 0x10, "ParcelMemoryStatus[p]", .u64, 1, 1, 1, false, .estate, false, 8, 8, 1, ⟨8, 0⟩, none⟩,
  ⟨0x5002, 0x5002, 0x01, 0x10, "StashEnable[p]", .bool, 3, 1, 3, true, .estate, false, 1, 1, 1, ⟨1, 1⟩, (some (0, 1))⟩,
  ⟨0x5003, 0x5003, 0x01, 0xFE, "CacheWays[c]", .blob, 3, 1, 1, true, .cuvee, false, 32, 32, 1, ⟨32, 0⟩, none⟩,
  ⟨0x5004, 0x5004, 0x01, 0xFE, "StashAllotment[c]", .blob, 3, 1, 1, true, .cuvee, false, 16, 16, 1, ⟨16, 0⟩, none⟩,
  ⟨0x5005, 0x5005, 0x01, 0xFE, "QueueReserve[c]", .blob, 3, 1, 1, true, .cuvee, false, 84, 84, 1, ⟨84, 0⟩, none⟩,
  ⟨0x5006, 0x5006, 0x01, 0xFE, "MemorySets[c]", .blob, 3, 1, 0, true, .cuvee, false, 512, 512, 1, ⟨512, 0⟩, none⟩,
  ⟨0x5010, 0x5010, 0x01, 0x10, "Label[l]", .u64, 3, 1, 3, true, .estate, false, 8, 8, 1, ⟨8, 0⟩, none⟩,
  ⟨0x5011, 0x5011, 0x01, 0xFE, "LabelPermit[c]", .u16, 3, 1, 1, true, .cuvee, false, 2, 2, 1, ⟨2, 1⟩, none⟩,
  ⟨0x5012, 0x5012, 0x01, 0x01, "LabelLevels", .blob, 1, 1, 1, false, .estate, false, 256, 256, 1, ⟨256, 0⟩, none⟩,
  ⟨0x5012, 0x5012, 0x02, 0x02, "LabelLatency", .blob, 1, 1, 1, false, .estate, false, 1024, 1024, 1, ⟨1024, 0⟩, none⟩,
  ⟨0x5013, 0x5013, 0x01, 0x01, "ReservedTotal", .blob, 1, 1, 1, false, .estate, false, 84, 84, 1, ⟨84, 0⟩, none⟩,
  ⟨0x5014, 0x5014, 0x01, 0x01, "EffectiveCapacity", .blob, 1, 1, 1, false, .estate, false, 84, 84, 1, ⟨84, 0⟩, none⟩,
  ⟨0x5020, 0x5020, 0x01, 0x01, "ShortfallLog", .blob, 1, 1, 1, false, .estate, false, 2048, 2048, 1, ⟨2048, 0⟩, none⟩,
  ⟨0x5020, 0x5020, 0x02, 0x02, "ShortfallWritten", .u32, 1, 1, 1, false, .estate, false, 4, 4, 1, ⟨4, 0⟩, none⟩,
  ⟨0x5021, 0x5021, 0x01, 0xFE, "ShortfallSeen[c]", .bool, 1, 1, 1, false, .cuvee, false, 1, 1, 1, ⟨1, 0⟩, (some (0, 1))⟩,
  ⟨0x5030, 0x5030, 0x01, 0x01, "EccCounters", .blob, 1, 1, 1, false, .estate, false, 8192, 8192, 1, ⟨8192, 0⟩, none⟩,
  ⟨0x5031, 0x5031, 0x01, 0x01, "ScrubPeriod", .time, 3, 1, 3, true, .estate, false, 8, 8, 1, ⟨8, 86400000000000⟩, (some (3600000000000, 604800000000000))⟩,
  ⟨0x5032, 0x5032, 0x01, 0x01, "TrainingMargins", .blob, 1, 1, 1, false, .estate, false, 512, 512, 1, ⟨512, 0⟩, none⟩]

/-- Objects of the translate chapter(s), in index order. -/
def objectsTranslate : List ObjDesc := [
  ⟨0x5040, 0x5040, 0x01, 0xFE, "TranslationRoot[c]", .u64, 3, 1, 0, true, .cuvee, false, 8, 8, 1, ⟨8, 0⟩, none⟩,
  ⟨0x5041, 0x5041, 0x01, 0xFE, "HostWindows[c]", .blob, 3, 1, 0, true, .cuvee, false, 2048, 2048, 1, ⟨2048, 0⟩, none⟩,
  ⟨0x5042, 0x5042, 0x01, 0xFE, "LinkWindows[c]", .blob, 3, 1, 1, true, .cuvee, false, 8192, 8192, 1, ⟨8192, 0⟩, none⟩,
  ⟨0x5043, 0x5043, 0x01, 0xFE, "TranslationGroups[c]", .blob, 3, 1, 1, true, .cuvee, false, 16, 16, 1, ⟨16, 0⟩, none⟩,
  ⟨0x5044, 0x5044, 0x01, 0xFE, "TranslationInvalidate[c]", .blob, 2, 0, 0, true, .cuvee, false, 16, 16, 1, ⟨16, 0⟩, none⟩,
  ⟨0x5045, 0x5045, 0x01, 0xFE, "TranslationSync[c]", .u32, 1, 1, 1, false, .cuvee, false, 4, 4, 1, ⟨4, 0⟩, none⟩,
  ⟨0x5046, 0x5046, 0x01, 0xFE, "WalkLabel[c]", .u8, 3, 1, 0, true, .cuvee, false, 1, 1, 1, ⟨1, 0⟩, (some (0, 15))⟩,
  ⟨0x5047, 0x5047, 0x01, 0xFE, "AdviceTable[c]", .blob, 1, 1, 0, false, .cuvee, false, 512, 512, 1, ⟨512, 0⟩, none⟩,
  ⟨0x5048, 0x5048, 0x01, 0xFE, "TranslationCounters[c]", .blob, 1, 1, 1, false, .cuvee, false, 32, 32, 1, ⟨32, 0⟩, none⟩,
  ⟨0x5050, 0x506F, 0x01, 0x80, "InboundWindow[i]", .blob, 3, 1, 3, true, .estate, false, 16, 16, 1, ⟨16, 0⟩, none⟩,
  ⟨0x5070, 0x5070, 0x01, 0x01, "InboundRejects", .blob, 1, 1, 1, false, .estate, false, 16384, 16384, 1, ⟨16384, 0⟩, none⟩]

/-- Objects of the link chapter(s), in index order. -/
def objectsLink : List ObjDesc := [
  ⟨0x6000, 0x6000, 0x01, 0x01, "DeviceId", .u16, 3, 1, 3, false, .estate, false, 2, 2, 1, ⟨2, 0⟩, (some (1, 4095))⟩,
  ⟨0x6001, 0x6001, 0x01, 0x0C, "PortEnable[k]", .bool, 3, 1, 3, false, .estate, false, 1, 1, 1, ⟨1, 0⟩, (some (0, 1))⟩,
  ⟨0x6002, 0x6002, 0x01, 0x0C, "PortStatus[k]", .u64, 1, 1, 1, false, .estate, false, 8, 8, 1, ⟨8, 0⟩, none⟩,
  ⟨0x6003, 0x6003, 0x01, 0x0C, "ExpectedPeer[k]", .blob, 3, 1, 3, false, .estate, false, 16, 16, 1, ⟨16, 0⟩, none⟩,
  ⟨0x6004, 0x6004, 0x01, 0x0C, "PortCommand[k]", .u8, 2, 0, 2, false, .estate, true, 1, 1, 1, ⟨1, 0⟩, (some (1, 3))⟩,
  ⟨0x6005, 0x6005, 0x01, 0x01, "RouteTable", .blob, 3, 1, 3, true, .estate, false, 1024, 1024, 1, ⟨1024, 0⟩, none⟩,
  ⟨0x6006, 0x6006, 0x01, 0x0C, "LinkCounters[k]", .blob, 1, 1, 1, false, .estate, false, 56, 56, 1, ⟨56, 0⟩, none⟩,
  ⟨0x6007, 0x6007, 0x01, 0x01, "GroupBarriers", .blob, 3, 1, 3, true, .estate, false, 512, 512, 1, ⟨512, 0⟩, none⟩,
  ⟨0x6010, 0x6010, 0x01, 0x01, "TransferTimeout", .time, 3, 1, 3, true, .estate, false, 8, 8, 1, ⟨8, 10000000⟩, (some (100000, 1000000000))⟩,
  ⟨0x6010, 0x6010, 0x02, 0x02, "OfferTimeout", .time, 3, 1, 3, true, .estate, false, 8, 8, 1, ⟨8, 50000000⟩, (some (1000000, 10000000000))⟩,
  ⟨0x6010, 0x6010, 0x03, 0x03, "AcceptTimeout", .time, 3, 1, 3, true, .estate, false, 8, 8, 1, ⟨8, 20000000⟩, (some (1000000, 1000000000))⟩,
  ⟨0x6010, 0x6010, 0x04, 0x04, "QueryLimit", .u8, 3, 1, 3, true, .estate, false, 1, 1, 1, ⟨1, 32⟩, (some (1, 255))⟩,
  ⟨0x6010, 0x6010, 0x05, 0x05, "FetchTimeout", .time, 3, 1, 3, true, .estate, false, 8, 8, 1, ⟨8, 100000000⟩, (some (1000000, 10000000000))⟩,
  ⟨0x6010, 0x6010, 0x06, 0x06, "LogRetention", .time, 3, 1, 3, true, .estate, false, 8, 8, 1, ⟨8, 10000000000⟩, (some (1000000000, 600000000000))⟩,
  ⟨0x6011, 0x6011, 0x01, 0xFE, "FlareOnFault[c]", .bool, 3, 1, 0, true, .cuvee, false, 1, 1, 1, ⟨1, 1⟩, (some (0, 1))⟩,
  ⟨0x6012, 0x6012, 0x01, 0x01, "FlareCommand", .u16, 2, 0, 2, false, .estate, true, 2, 2, 1, ⟨2, 0⟩, (some (1, 4095))⟩,
  ⟨0x6012, 0x6012, 0x02, 0x02, "FlareTtl", .u8, 3, 1, 3, true, .estate, false, 1, 1, 1, ⟨1, 8⟩, (some (1, 15))⟩,
  ⟨0x6013, 0x6013, 0x01, 0x01, "FlareLog", .blob, 1, 1, 1, false, .estate, false, 256, 256, 1, ⟨256, 0⟩, none⟩,
  ⟨0x6020, 0x6020, 0x01, 0x01, "LimboLog", .blob, 1, 1, 1, false, .estate, false, 2048, 2048, 1, ⟨2048, 0⟩, none⟩,
  ⟨0x6020, 0x6020, 0x02, 0x02, "LimboWritten", .u32, 1, 1, 1, false, .estate, false, 4, 4, 1, ⟨4, 0⟩, none⟩,
  ⟨0x6021, 0x6021, 0x01, 0x01, "LimboCommand", .blob, 2, 0, 2, false, .estate, true, 8, 8, 1, ⟨8, 0⟩, none⟩,
  ⟨0x6022, 0x6022, 0x01, 0xFE, "LinkTransferErrors[c]", .blob, 1, 1, 1, false, .cuvee, false, 32, 32, 1, ⟨32, 0⟩, none⟩,
  ⟨0x6023, 0x6023, 0x01, 0xFE, "CaskCounters[c]", .blob, 1, 1, 1, false, .cuvee, false, 56, 56, 1, ⟨56, 0⟩, none⟩]

/-- Objects of the serving chapter(s), in index order. -/
def objectsServing : List ObjDesc := [
  ⟨0x7000, 0x7000, 0x01, 0xFE, "ServingConfig[c]", .blob, 3, 1, 0, true, .cuvee, false, 16, 16, 1, ⟨16, 0⟩, none⟩,
  ⟨0x7001, 0x7001, 0x01, 0xFE, "RingPairs[c]", .blob, 3, 1, 0, true, .cuvee, false, 0, 32768, 32, ⟨0, 0⟩, none⟩,
  ⟨0x7002, 0x7002, 0x01, 0xFE, "RingStatus[c]", .blob, 1, 1, 1, false, .cuvee, false, 0, 16384, 1, ⟨0, 0⟩, none⟩,
  ⟨0x7003, 0x7003, 0x01, 0xFE, "ModelStatus[c]", .blob, 1, 1, 1, false, .cuvee, false, 512, 512, 1, ⟨512, 0⟩, none⟩,
  ⟨0x7004, 0x7004, 0x01, 0xFE, "TileGroups[c]", .blob, 1, 1, 1, false, .cuvee, false, 2040, 2040, 1, ⟨2040, 0⟩, none⟩,
  ⟨0x7005, 0x7005, 0x01, 0xFE, "StreamTable[c]", .blob, 3, 1, 0, true, .cuvee, false, 4096, 4096, 1, ⟨4096, 0⟩, none⟩,
  ⟨0x7006, 0x7006, 0x01, 0xFE, "PreemptEnable[c]", .bool, 3, 1, 0, true, .cuvee, false, 1, 1, 1, ⟨1, 0⟩, (some (0, 1))⟩,
  ⟨0x7007, 0x7007, 0x01, 0xFE, "ClientAccounts[c]", .blob, 1, 1, 0, false, .cuvee, false, 32768, 32768, 1, ⟨32768, 0⟩, none⟩,
  ⟨0x7008, 0x7008, 0x01, 0xFE, "ServingCounters[c]", .blob, 1, 1, 1, false, .cuvee, false, 80, 80, 1, ⟨80, 0⟩, none⟩]

/-- Objects of the observe chapter(s), in index order. -/
def objectsObserve : List ObjDesc := [
  ⟨0x8000, 0x8000, 0x01, 0x01, "HarvestSlot", .u16, 3, 1, 3, true, .estate, false, 2, 2, 1, ⟨2, 0⟩, (some (0, 4095))⟩,
  ⟨0x8000, 0x8000, 0x02, 0x02, "HarvestEvery", .u16, 3, 1, 3, true, .estate, false, 2, 2, 1, ⟨2, 1⟩, (some (1, 256))⟩,
  ⟨0x8000, 0x8000, 0x03, 0x03, "HarvestDepth", .u16, 3, 1, 3, true, .estate, false, 2, 2, 1, ⟨2, 64⟩, (some (4, 1024))⟩,
  ⟨0x8001, 0x8001, 0x01, 0x01, "HarvestWritten", .u32, 1, 1, 1, false, .estate, false, 4, 4, 1, ⟨4, 0⟩, none⟩,
  ⟨0x8001, 0x8001, 0x02, 0x02, "HarvestSelect", .u32, 3, 3, 3, false, .estate, false, 4, 4, 1, ⟨4, 0⟩, none⟩,
  ⟨0x8001, 0x8001, 0x03, 0x03, "HarvestRecord", .blob, 1, 1, 1, false, .estate, false, 147456, 147456, 1, ⟨147456, 0⟩, none⟩,
  ⟨0x8002, 0x8002, 0x01, 0x01, "EstatePseudoChannels", .list, 3, 1, 3, false, .estate, false, 4, 36, 1, ⟨4, 196608⟩, none⟩,
  ⟨0x8002, 0x8002, 0x02, 0x02, "EstateSpace", .list, 1, 1, 1, false, .estate, false, 4, 1028, 1, ⟨4, 196608⟩, none⟩,
  ⟨0x8004, 0x8004, 0x01, 0xFE, "HarvestForward[c]", .bool, 3, 1, 0, true, .cuvee, false, 1, 1, 1, ⟨1, 0⟩, (some (0, 1))⟩,
  ⟨0x8005, 0x8005, 0x01, 0xFE, "HarvestTarget[c]", .u64, 3, 1, 0, true, .cuvee, false, 8, 8, 1, ⟨8, 0⟩, none⟩,
  ⟨0x8006, 0x8006, 0x01, 0xFE, "CuveeCounters[c]", .blob, 1, 1, 1, false, .cuvee, false, 256, 256, 1, ⟨256, 0⟩, none⟩,
  ⟨0x9000, 0x9000, 0x01, 0x01, "DaybookReserve", .u32, 3, 1, 3, true, .estate, false, 4, 4, 1, ⟨4, 0⟩, (some (0, 4096))⟩,
  ⟨0x9000, 0x9000, 0x02, 0x02, "DaybookCapacity", .u32, 1, 1, 1, false, .estate, false, 4, 4, 1, ⟨4, 0⟩, none⟩,
  ⟨0x9001, 0x9001, 0x01, 0xFF, "DaybookAllot[c]", .blob, 3, 1, 3, true, .cuvee0, false, 8, 8, 1, ⟨8, 0⟩, none⟩,
  ⟨0x9002, 0x9002, 0x01, 0xFF, "DaybookSetup[c]", .blob, 3, 1, 3, true, .cuvee0, false, 32, 32, 1, ⟨32, 0⟩, none⟩,
  ⟨0x9003, 0x9003, 0x01, 0xFF, "DaybookControl[c]", .u8, 2, 0, 2, false, .cuvee0, true, 1, 1, 1, ⟨1, 0⟩, (some (1, 3))⟩,
  ⟨0x9004, 0x9004, 0x01, 0xFF, "DaybookStatus[c]", .blob, 1, 1, 1, false, .cuvee0, false, 32, 32, 1, ⟨32, 0⟩, none⟩,
  ⟨0x9005, 0x9005, 0x01, 0x01, "DaybookPageSelect", .u64, 3, 3, 3, false, .estate, false, 8, 8, 1, ⟨8, 0⟩, none⟩,
  ⟨0x9005, 0x9005, 0x02, 0x02, "DaybookPage", .blob, 1, 1, 1, false, .estate, false, 4096, 4096, 1, ⟨4096, 0⟩, none⟩,
  ⟨0x9010, 0x9010, 0x01, 0xFE, "WatchPoints[c]", .blob, 3, 1, 0, true, .cuvee, false, 512, 512, 1, ⟨512, 0⟩, none⟩,
  ⟨0x9011, 0x9011, 0x01, 0xFE, "WatchTarget[c]", .u64, 3, 1, 0, true, .cuvee, false, 8, 8, 1, ⟨8, 0⟩, none⟩,
  ⟨0x9020, 0x9020, 0x01, 0x01, "CheckChannelOwner", .blob, 1, 1, 1, false, .estate, false, 64, 64, 1, ⟨64, 0⟩, none⟩]

/-- Objects of the identity chapter(s), in index order. -/
def objectsIdentity : List ObjDesc := [
  ⟨0xA000, 0xA000, 0x01, 0x01, "IdentityDigest", .blob, 1, 1, 1, false, .estate, false, 64, 64, 1, ⟨64, 0⟩, none⟩,
  ⟨0xA000, 0xA000, 0x02, 0x02, "CertificateChain", .blob, 1, 1, 1, false, .estate, false, 0, 65536, 1, ⟨0, 0⟩, none⟩,
  ⟨0xA000, 0xA000, 0x03, 0x03, "BottleKey", .blob, 1, 1, 1, false, .estate, false, 1568, 1568, 1, ⟨1568, 0⟩, none⟩,
  ⟨0xA000, 0xA000, 0x04, 0x04, "IdentityStatus", .u8, 1, 1, 1, false, .estate, false, 1, 1, 1, ⟨1, 0⟩, none⟩,
  ⟨0xA001, 0xA001, 0x01, 0x01, "Measurements", .blob, 1, 1, 1, false, .estate, false, 289, 289, 1, ⟨289, 0⟩, none⟩,
  ⟨0xA001, 0xA001, 0x02, 0x02, "RollbackCounters", .blob, 1, 1, 1, false, .estate, false, 16, 16, 1, ⟨16, 0⟩, none⟩,
  ⟨0xA001, 0xA001, 0x03, 0x03, "FirmwareCommit", .u8, 2, 0, 2, false, .estate, true, 1, 1, 1, ⟨1, 0⟩, (some (1, 1))⟩,
  ⟨0xA001, 0xA001, 0x04, 0x04, "BootSlot", .u8, 3, 1, 3, false, .estate, false, 1, 1, 1, ⟨1, 0⟩, (some (0, 1))⟩,
  ⟨0xA001, 0xA001, 0x05, 0x05, "BootRecord", .blob, 1, 1, 1, false, .estate, false, 3, 3, 1, ⟨3, 0⟩, none⟩,
  ⟨0xA002, 0xA002, 0x01, 0x02, "SpdmStatus[port]", .blob, 1, 1, 1, false, .estate, false, 16, 16, 1, ⟨16, 0⟩, none⟩,
  ⟨0xA003, 0xA003, 0x01, 0xFE, "TdiState[c]", .u8, 1, 1, 1, false, .cuvee, false, 1, 1, 1, ⟨1, 0⟩, none⟩,
  ⟨0xA004, 0xA004, 0x01, 0xFE, "OwnerKey[c]", .blob, 3, 1, 0, false, .cuvee, false, 0, 1793, 1793, ⟨0, 0⟩, none⟩,
  ⟨0xA005, 0xA005, 0x01, 0xFE, "BottleStatus[c]", .blob, 1, 1, 0, false, .cuvee, false, 32, 32, 1, ⟨32, 0⟩, none⟩,
  ⟨0xA006, 0xA006, 0x01, 0x01, "SessionCommand", .blob, 2, 0, 2, false, .estate, true, 8, 8192, 1, ⟨8, 0⟩, none⟩,
  ⟨0xA006, 0xA006, 0x02, 0x02, "SessionBlob", .blob, 1, 1, 1, false, .estate, false, 0, 8192, 1, ⟨0, 0⟩, none⟩,
  ⟨0xA006, 0xA006, 0x03, 0x03, "SessionStatus", .blob, 1, 1, 1, false, .estate, false, 512, 512, 1, ⟨512, 0⟩, none⟩,
  ⟨0xA006, 0xA006, 0x04, 0x04, "SessionLifetime", .time, 3, 1, 3, true, .estate, false, 8, 8, 1, ⟨8, 600000000000⟩, (some (1000000000, 3600000000000))⟩,
  ⟨0xA007, 0xA007, 0x01, 0x01, "MeterEpochs", .u32, 3, 1, 3, true, .estate, false, 4, 4, 1, ⟨4, 60000⟩, (some (1000, 1200000))⟩,
  ⟨0xA007, 0xA007, 0x02, 0x02, "MeterTarget", .blob, 3, 1, 0, false, .estate, false, 16, 16, 1, ⟨16, 0⟩, none⟩,
  ⟨0xA007, 0xA007, 0x03, 0x03, "MeterLog", .blob, 1, 1, 1, false, .estate, false, 1572864, 1572864, 1, ⟨1572864, 0⟩, none⟩,
  ⟨0xA007, 0xA007, 0x04, 0x04, "MeterWritten", .u32, 1, 1, 1, false, .estate, false, 4, 4, 1, ⟨4, 0⟩, none⟩,
  ⟨0xA008, 0xA008, 0x01, 0xFE, "MeterTag[c]", .u64, 3, 1, 0, true, .cuvee, false, 8, 8, 1, ⟨8, 0⟩, none⟩,
  ⟨0xA009, 0xA009, 0x01, 0xFE, "ConfigDigest[c]", .blob, 1, 1, 1, false, .cuvee, false, 64, 64, 1, ⟨64, 0⟩, none⟩,
  ⟨0xA00A, 0xA00A, 0x01, 0xFE, "MigrationConsent[c]", .bool, 1, 1, 0, false, .cuvee, false, 1, 1, 1, ⟨1, 0⟩, (some (0, 1))⟩]

/-- Objects of the fault chapter(s), in index order. -/
def objectsFault : List ObjDesc := [
  ⟨0xB000, 0xB000, 0x01, 0xFE, "FaultLog[c]", .blob, 1, 1, 1, false, .cuvee, false, 4096, 4096, 1, ⟨4096, 0⟩, none⟩,
  ⟨0xB001, 0xB001, 0x01, 0xFE, "FaultWritten[c]", .u32, 1, 1, 1, false, .cuvee, false, 4, 4, 1, ⟨4, 0⟩, none⟩,
  ⟨0xB002, 0xB002, 0x01, 0xFE, "HangConfig[c]", .blob, 3, 1, 3, true, .cuvee, false, 16, 16, 1, ⟨16, 1844674407370955161600524304⟩, none⟩,
  ⟨0xB010, 0xB010, 0x01, 0x01, "EstateFaultLog", .blob, 1, 1, 1, false, .estate, false, 16384, 16384, 1, ⟨16384, 0⟩, none⟩,
  ⟨0xB010, 0xB010, 0x02, 0x02, "EstateFaultWritten", .u32, 1, 1, 1, false, .estate, false, 4, 4, 1, ⟨4, 0⟩, none⟩,
  ⟨0xB011, 0xB011, 0x00, 0x00, "RetiredUnits", .list, 1, 1, 1, false, .estate, false, 4, 262144, 1, ⟨4, 262144⟩, none⟩,
  ⟨0xB012, 0xB012, 0x01, 0x01, "RetireThresholds", .blob, 3, 1, 3, true, .estate, false, 8, 8, 1, ⟨8, 17592186306624⟩, none⟩,
  ⟨0xB013, 0xB013, 0x01, 0x01, "EngineStatus", .blob, 1, 1, 1, false, .estate, false, 273, 273, 1, ⟨273, 0⟩, none⟩,
  ⟨0xB014, 0xB014, 0x01, 0x01, "ReplayLimit", .time, 3, 1, 3, true, .estate, false, 8, 8, 1, ⟨8, 1000000⟩, (some (100000, 100000000))⟩,
  ⟨0xB020, 0xB020, 0x01, 0x01, "EstateState", .u8, 1, 1, 1, false, .estate, false, 1, 1, 1, ⟨1, 0⟩, none⟩,
  ⟨0xB020, 0xB020, 0x02, 0x02, "EstateFault", .blob, 1, 1, 1, false, .estate, false, 64, 64, 1, ⟨64, 0⟩, none⟩,
  ⟨0xB021, 0xB021, 0x01, 0x01, "ResetCommand", .blob, 2, 0, 2, false, .estate, true, 8, 8, 1, ⟨8, 0⟩, none⟩,
  ⟨0xB021, 0xB021, 0x02, 0x02, "ResetStatus", .blob, 1, 1, 1, false, .estate, false, 16, 16, 1, ⟨16, 0⟩, none⟩,
  ⟨0xB022, 0xB022, 0x01, 0x01, "TripRecord", .blob, 1, 1, 1, false, .estate, false, 16, 16, 1, ⟨16, 0⟩, none⟩,
  ⟨0xB023, 0xB023, 0x01, 0x01, "HolidayStatus", .blob, 1, 1, 1, false, .estate, false, 88, 88, 1, ⟨88, 0⟩, none⟩,
  ⟨0xB024, 0xB024, 0x01, 0x01, "HolidayRecordLimit", .u16, 3, 1, 3, true, .estate, false, 2, 2, 1, ⟨2, 16⟩, (some (1, 256))⟩]

/-- Every object of the dictionary but the per-cuvee view and the vendor area, in index order (R492). -/
def objects : List ObjDesc :=
  objectsComm ++ objectsCadence ++ objectsEnergy ++ objectsCompose ++ objectsFabric ++ objectsMemory ++ objectsTranslate ++ objectsLink ++ objectsServing ++ objectsObserve ++ objectsIdentity ++ objectsFault

/-- What a view object shows (R271 and the chapters' view tables): an object of the tenant's own cuvee with subindex c,
the same with subindex c + 1, an estate object at a fixed subindex, or an object that exists only in the view. -/
inductive ViewTo where
  | own (idx : Nat) | own1 (idx : Nat) | fixed (idx sub : Nat) | only
deriving DecidableEq, Repr, Inhabited

/-- A row of the per-cuvee view: address, target, type, the tenant's rights, and the largest size. -/
structure ViewDesc where
  idx    : Nat
  sub    : Nat
  target : ViewTo
  ty     : Ty
  rights : Nat
  max    : Nat
deriving DecidableEq, Repr, Inhabited

/-- The base objects of the view (R271). -/
def viewBase : List ViewDesc := [
  ⟨0x4000, 1, .own 0x3011, .u16, 1, 2⟩,
  ⟨0x4000, 2, .own 0x3012, .blob, 2, 16⟩,
  ⟨0x4000, 3, .own 0x3013, .blob, 1, 32⟩,
  ⟨0x4000, 4, .only, .u32, 1, 4⟩,
  ⟨0x4000, 5, .own 0x3016, .u64, 1, 8⟩,
  ⟨0x4000, 6, .own 0x301D, .u32, 1, 4⟩,
  ⟨0x4001, 1, .only, .blob, 1, 2048⟩,
  ⟨0x4001, 2, .only, .blob, 1, 8192⟩,
  ⟨0x4001, 3, .only, .blob, 1, 2048⟩,
  ⟨0x4002, 1, .fixed 0x2002 1, .estatetime, 1, 8⟩,
  ⟨0x4002, 2, .fixed 0x2002 2, .u32, 1, 4⟩,
  ⟨0x4002, 3, .fixed 0x2001 1, .u8, 1, 1⟩,
  ⟨0x4002, 4, .own 0x2004, .u16, 1, 2⟩,
  ⟨0x4002, 5, .own1 0x2005, .u64, 1, 8⟩,
  ⟨0x4002, 6, .own1 0x2006, .blob, 1, 32⟩,
  ⟨0x4003, 1, .own 0x3090, .u64, 3, 8⟩,
  ⟨0x4003, 2, .own 0x3091, .u8, 3, 1⟩,
  ⟨0x4003, 3, .fixed 0x3092 1, .u16, 1, 2⟩,
  ⟨0x4004, 1, .own 0x30A0, .u32, 1, 4⟩,
  ⟨0x4004, 2, .own 0x30A1, .u32, 1, 4⟩,
  ⟨0x4004, 3, .own 0x30A4, .u32, 1, 4⟩,
  ⟨0x4004, 4, .own 0x30A5, .u32, 1, 4⟩,
  ⟨0x4004, 5, .own 0x30A6, .u32, 1, 4⟩]

/-- Memory and translation in the view (R271). -/
def viewMemory : List ViewDesc := [
  ⟨0x4005, 1, .own 0x5006, .blob, 3, 512⟩,
  ⟨0x4005, 2, .own 0x5003, .blob, 1, 32⟩,
  ⟨0x4005, 3, .own 0x5004, .blob, 1, 16⟩,
  ⟨0x4005, 4, .own 0x5005, .blob, 1, 84⟩,
  ⟨0x4005, 5, .only, .blob, 1, 128⟩,
  ⟨0x4005, 6, .own 0x5021, .bool, 1, 1⟩,
  ⟨0x4005, 7, .only, .blob, 1, 8192⟩,
  ⟨0x4006, 1, .own 0x5040, .u64, 3, 8⟩,
  ⟨0x4006, 2, .own 0x5041, .blob, 3, 2048⟩,
  ⟨0x4006, 3, .own 0x5046, .u8, 3, 1⟩,
  ⟨0x4006, 4, .own 0x5044, .blob, 2, 16⟩,
  ⟨0x4006, 5, .own 0x5042, .blob, 1, 8192⟩,
  ⟨0x4006, 6, .own 0x5043, .blob, 1, 16⟩,
  ⟨0x4006, 7, .own 0x5045, .u32, 1, 4⟩,
  ⟨0x4006, 8, .own 0x5047, .blob, 1, 512⟩,
  ⟨0x4006, 9, .own 0x5048, .blob, 1, 32⟩]

/-- The tenant objects of the later chapters (R304, R350, R375, R401, R432, R458, R491). -/
def viewLater : List ViewDesc := [
  ⟨0x4010, 1, .own 0x7000, .blob, 3, 16⟩,
  ⟨0x4010, 2, .own 0x7001, .blob, 3, 32768⟩,
  ⟨0x4010, 3, .own 0x7002, .blob, 1, 16384⟩,
  ⟨0x4010, 4, .own 0x7003, .blob, 1, 512⟩,
  ⟨0x4010, 5, .own 0x7004, .blob, 1, 2040⟩,
  ⟨0x4010, 6, .own 0x7005, .blob, 3, 4096⟩,
  ⟨0x4010, 7, .own 0x7006, .bool, 3, 1⟩,
  ⟨0x4010, 8, .own 0x7007, .blob, 1, 32768⟩,
  ⟨0x4010, 9, .own 0x7008, .blob, 1, 80⟩,
  ⟨0x4011, 1, .own 0x6022, .blob, 1, 32⟩,
  ⟨0x4011, 2, .own 0x6023, .blob, 1, 56⟩,
  ⟨0x4012, 1, .own 0x2011, .blob, 1, 8⟩,
  ⟨0x4012, 2, .own 0x2012, .blob, 1, 32⟩,
  ⟨0x4012, 3, .only, .blob, 1, 2048⟩,
  ⟨0x4012, 4, .only, .bool, 1, 1⟩,
  ⟨0x4012, 5, .only, .blob, 1, 24⟩,
  ⟨0x4012, 6, .only, .u8, 1, 1⟩,
  ⟨0x4012, 7, .own 0x2019, .blob, 1, 16⟩]

/-- Security, observation, faults and staging in the view (R401, R432, R458, R491). -/
def viewLast : List ViewDesc := [
  ⟨0x4013, 1, .own 0xA003, .u8, 1, 1⟩,
  ⟨0x4013, 2, .own 0xA009, .blob, 1, 64⟩,
  ⟨0x4013, 3, .own 0xA004, .blob, 3, 1793⟩,
  ⟨0x4013, 4, .own 0xA005, .blob, 1, 32⟩,
  ⟨0x4013, 5, .own 0xA00A, .bool, 3, 1⟩,
  ⟨0x4013, 6, .only, .blob, 1, 24576⟩,
  ⟨0x4013, 7, .only, .blob, 1, 65536⟩,
  ⟨0x4014, 1, .own 0x8004, .bool, 1, 1⟩,
  ⟨0x4014, 2, .own 0x8005, .u64, 3, 8⟩,
  ⟨0x4014, 3, .own 0x8006, .blob, 1, 256⟩,
  ⟨0x4014, 4, .own1 0x9001, .blob, 1, 8⟩,
  ⟨0x4014, 5, .own1 0x9002, .blob, 3, 32⟩,
  ⟨0x4014, 6, .own1 0x9003, .u8, 2, 1⟩,
  ⟨0x4014, 7, .own1 0x9004, .blob, 1, 32⟩,
  ⟨0x4014, 8, .only, .u64, 3, 8⟩,
  ⟨0x4014, 9, .only, .blob, 1, 4096⟩,
  ⟨0x4014, 10, .own 0x9010, .blob, 3, 512⟩,
  ⟨0x4014, 11, .own 0x9011, .u64, 3, 8⟩,
  ⟨0x4014, 12, .only, .u8, 1, 1⟩,
  ⟨0x4015, 1, .own 0xB000, .blob, 1, 4096⟩,
  ⟨0x4015, 2, .own 0xB001, .u32, 1, 4⟩,
  ⟨0x4015, 3, .own 0xB002, .blob, 1, 16⟩,
  ⟨0x4016, 1, .fixed 0x1002 1, .blob, 1, 32⟩]

/-- The whole view, in address order. -/
def views : List ViewDesc := viewBase ++ viewMemory ++ viewLater ++ viewLast

/-- The row that defines an object, if there is one. -/
def objAt (i sub : Nat) : Option ObjDesc :=
  objects.find? fun d => d.idx ≤ i && i ≤ d.idxHi && d.subLo ≤ sub && sub ≤ d.subHi

/-- The view row of an address. -/
def viewAt (i sub : Nat) : Option ViewDesc := views.find? fun v => v.idx == i && v.sub == sub

/-- Some object has that index. -/
def hasIndex (i : Nat) : Bool := objects.any fun d => d.idx ≤ i && i ≤ d.idxHi

/-- Some view object has that index. -/
def viewHasIndex (i : Nat) : Bool := views.any fun v => v.idx == i

/-- The address that a view object of cuvee c stands for; a view-only object stands for itself. -/
def ViewDesc.base (v : ViewDesc) (c : Nat) : Nat × Nat :=
  match v.target with
  | .own i => (i, c)
  | .own1 i => (i, c + 1)
  | .fixed i sub => (i, sub)
  | .only => (v.idx, v.sub)

/-- The view address of an object of cuvee c, for what a tenant is told (R271). -/
def viewOf (c i sub : Nat) : Nat × Nat :=
  match views.find? fun v => v.base c == (i, sub) with
  | some v => (v.idx, v.sub)
  | none => (i, sub)

/-- The cuvee that an object belongs to; 0 for the estate (R515). -/
def ObjDesc.cuveeOf (d : ObjDesc) (sub : Nat) : Nat :=
  match d.owner with
  | .estate => 0
  | .cuvee => sub
  | .cuvee0 => sub - 1

/-- The key of an object in `DictSt.vals`. -/
def objKey (i sub : Nat) : Nat := 256 * i + sub

/-- The Default of an object (R9). Label 0 alone differs from its row's (R212). -/
def defaultOf (i sub : Nat) : Blob :=
  if i = 0x5010 && sub = 1 then ⟨8, 0xC000_0000_FFFF_0000⟩
  else match objAt i sub with
    | some d => d.dflt
    | none => ⟨0, 0⟩

/-- Storable objects (R475): writable by the manager or the side-band accessor, not per-cuvee, no command object. -/
def ObjDesc.storable (d : ObjDesc) : Bool :=
  (bit d.mgr 1 || bit d.side 1) && d.owner == .estate && !d.cmd

end Sys2Proof.Machine
end

