-- ==== Sys2Proof/Machine/State.lean ====
section
/-! DEFINITION. Machine/State.lean: the state of the block, every piece the manual gives it, as plain data; the reasons
a step can stop; and the state after reset. -/

namespace Sys2Proof.Machine

/-- Reasons the block stops. -/
inductive Fault where
  /-- Raised by POWER_SAMPLE for an input outside the absolute ratings of R512, beyond which the manual gives no
  behaviour ("the module may be damaged"). Safe: the model stops where hardware may do anything. -/
  | beyondAbsoluteRating
deriving DecidableEq, Repr

/-- Reasons a command has no meaning. -/
inductive Refusal where
  /-- Raised by the dispatcher for a row that has no meaning yet. Safe: nothing can be proved of the effect. -/
  | notModelled (mnemonic : String)
deriving DecidableEq, Repr

/-! ## Time and cadence (chapter 2) -/

/-- The epoch in progress (R38, R52, R54). -/
structure TimeSt where
  /-- 40-bit epoch number. -/
  e          : Nat
  /-- Slot whose fire tick came last, 0–4,095. -/
  slot       : Nat
  /-- Epoch boundaries since cadence acquisition began. -/
  epochs     : Nat
  /-- Cadence acquisition has begun, so epochs run (R52). -/
  running    : Bool
  epochStart : Instant
  epochLen   : Instant
  /-- Length of the epoch before (R46). -/
  prevLen    : Instant
  /-- The moment of the latest event that carried one. -/
  now        : Instant
  /-- First lock has cut the epoch in progress short at this instant (R51). -/
  lockCut    : Option Instant
  /-- The next boundary takes I as its length (R51). -/
  lockLen    : Option Instant
  /-- An epoch jump acted at the last boundary (R52, R473). -/
  jumped     : Bool
  /-- Arithmetic cycles run up to `now` (R2, R361): packets are stamped with them (R147). -/
  cycles     : Rat
deriving DecidableEq, Repr, Inhabited

/-- CadenceState (R47). -/
inductive CadState where
  | unlocked | locked | slewing | flywheel | cadenceLost | freeRun
deriving DecidableEq, Repr, Inhabited

structure CadenceSt where
  state       : CadState
  phaseError  : Int
  flywheel    : Nat
  present     : Bool
  rejected    : Nat
  missed      : Nat
  lockTime    : ETime
  lostCount   : Nat
  /-- Last counted edge and the latest intervals between counted edges, newest first (R44, R49). -/
  lastEdge    : Option Instant
  intervals   : List Instant
  /-- Counted edges since the count started (R514). -/
  divCount    : Nat
  /-- Reference boundaries presented since the count started, newest first, at most two (R514). -/
  presented   : List Instant
  /-- Latest accepted reference boundary, and the count (epochs) of the boundary it is paired with (R46). -/
  accepted    : Option (Instant × Nat)
  /-- The count of the boundary whose window holds an accepted reference boundary of any source (R46). -/
  paired      : Option Nat
  /-- Latest presented reference boundary since the boundary before the last (R45). -/
  lastPresented : Option Instant
  /-- The window of the last boundary has closed (R46). -/
  windowClosed : Bool
  /-- CadenceSource in force for acquisition (R51); the dictionary value acts at boundary step 4. -/
  source      : Nat
  /-- PTP: consecutive Sync messages below 1 µs while SLAVE (R42), PTP time minus estate external time. -/
  goodSyncs   : Nat
  ptpOffset   : Rat
  /-- The port is in the SLAVE state; a two-step Sync that waits for its Follow_Up, with its arrival stamp; the Delay_Req
  sent for a Sync, with the Sync's offset before the delay is taken off and the stamp of its departure; the path delay (R42). -/
  ptpSlave    : Bool
  ptpSync     : Option (Nat × Rat)
  ptpReq      : Option (Nat × Rat × Rat)
  ptpDelay    : Rat
  /-- Source 2: last TIME of the source port: E, boundary instant, peer's epoch length (R332). -/
  peerE       : Nat
  peerBoundary : Option Instant
  peerLen     : Option Instant
deriving DecidableEq, Repr, Inhabited

/-! ## Dictionary access (chapter 15) -/

/-- An accessor class, each tenant its own (R461, R471). -/
inductive Acc where
  | manager | deputy | tenant (c : Nat) | side
deriving DecidableEq, Repr, Inhabited

/-- A checked write: object index, subindex, data, and the class that made it. -/
structure ObjWrite where
  idx  : Nat
  sub  : Nat
  data : Blob
deriving DecidableEq, Repr, Inhabited

/-- A pending write or commit (R470, R471): it acts at the boundary that makes `epochs` reach `due`, or for a NAMED
commit at the boundary that begins `named`. -/
structure Pending where
  seq    : Nat
  cls    : Acc
  commit : Bool
  writes : List ObjWrite
  due    : Nat
  named  : Option Nat
deriving DecidableEq, Repr, Inhabited

/-- StagingStatus's lasting fields of one class (R490). -/
structure StageStat where
  epoch    : Nat
  result   : Nat
  cause    : Nat
  failIdx  : Nat
  failSub  : Nat
  commits  : Nat
deriving DecidableEq, Repr, Inhabited

/-- A response header with its data (R465). -/
structure Response where
  op     : Nat
  status : Nat
  index  : Nat
  sub    : Nat
  ty     : Nat
  tag    : Nat
  offset : Nat
  length : Nat
  total  : Nat
  stamp  : Nat
  data   : Blob
deriving DecidableEq, Repr, Inhabited

/-- The dictionary window of one function (R477). -/
structure Window where
  reqGen    : Nat
  respGen   : Nat
  discarded : Nat
  response  : Option Response
  /-- A request whose answer waits for a flash write (R476). -/
  inFlight  : Option Nat
  /-- REQUEST and REQ_DATA as last written. -/
  reqArea   : Blob
  reqData   : Blob
deriving DecidableEq, Repr, Inhabited

/-- A fragment assembly (R469). -/
structure Assembly where
  path : Path
  op   : Nat
  idx  : Nat
  sub  : Nat
  data : Blob
deriving DecidableEq, Repr, Inhabited

/-- The flash write in progress (R476, R489) and who waits for it. -/
inductive FlashJob where
  | store (path : Path) (gen : Nat) (resp : Response) (objs : List ObjWrite)
  | restore (path : Path) (gen : Nat) (resp : Response) (keys : List (Nat × Nat)) (cls : Acc)
  | erase (path : Path) (gen : Nat) (resp : Response) (slot : Nat)
deriving DecidableEq, Repr, Inhabited

/-- The flash (R376, R380, R476, R485, R489). -/
structure FlashSt where
  /-- The two copies of the store record (R476): store count and stored objects. -/
  copy0       : Option (Nat × List ObjWrite)
  copy1       : Option (Nat × List ObjWrite)
  storeState  : Nat
  copyLoaded  : Nat
  stores      : Nat
  lastStore   : ETime
  job         : Option FlashJob
  /-- FlashProgram: slot, state 0 idle 1 erasing 2 written, bytes; and the slot images. -/
  progSlot    : Nat
  progState   : Nat
  progBytes   : Nat
  imageA      : List Byte
  imageB      : List Byte
  rollback    : List Nat
  wizorSeq    : Nat
  tripTime    : ETime
  tripSensor  : Nat
  tripDegC    : Nat
  trips       : Nat
deriving DecidableEq, Repr, Inhabited

/-- The side-band responder (R482–R487). -/
structure SidebandSt where
  node        : Nat
  highSeq     : Nat
  accepted    : Nat
  /-- Last response per source address, at most 8, newest last (R486): source, SEQ, response. -/
  kept        : List (Nat × Nat × Response)
  counters    : List Nat
  plca        : Bool
deriving DecidableEq, Repr, Inhabited

structure DictSt where
  /-- In-force values of writable objects, by 256 × index + subindex; what is not listed holds its Default. -/
  vals      : Sparse Blob
  staging   : List (Acc × List ObjWrite)
  pend      : List Pending
  nextSeq   : Nat
  stats     : List (Acc × StageStat)
  asm       : List Assembly
  windows   : List (Path × Window)
  winServed : Nat
  winDiscarded : Nat
  /-- Steward role (R462): the holder, and the moment TAKE counts from. -/
  steward   : HostPort
  beatFrom  : Instant
  lastBeat  : ETime
  /-- Per-class select values (R430, R431). -/
  selects   : List (Acc × Nat × Nat)
  /-- Composition writes accepted and not yet acted hold their units (R238): (cuvee, is tile, unit). -/
  reserved  : List (Nat × Bool × Nat)
  /-- Units dropped by a cuvee that wait for their scrub (R238, R253): (is tile, unit). -/
  scrubbing : List (Bool × Nat)
deriving DecidableEq, Repr, Inhabited

/-! ## Almanac and ledger (chapters 2 and 11) -/

/-- A row presented to the ledger, deferred or issued (R356, R357): its segment, index and 128 bits, the epoch it fell
due in, the slots it was deferred, and what it was charged. -/
structure RowInst where
  seg      : Nat
  idx      : Nat
  row      : Nat
  dueE     : Nat
  /-- Slot count at which it fell due. -/
  dueAt    : Nat
  deferred : Nat
  chargeR  : Int
  chargeG  : Int
deriving DecidableEq, Repr, Inhabited

/-- Work that a row with a deadline started (R61, R437). -/
structure Watch where
  id        : Nat
  cuvee     : Nat
  tgroup    : Nat
  tag       : Nat
  tileWork  : Bool
  /-- Slot count of the deadline; `none` for no deadline. -/
  deadline  : Option Nat
  complete  : Bool
  late      : Bool
  hung      : Bool
  /-- The row that started it. -/
  row       : RowInst
deriving DecidableEq, Repr, Inhabited

structure AlmanacSt where
  segs      : Sparse Segment
  rows      : Sparse Nat
  /-- Admitted rows that the almanac master has yet to issue, in the order of R62. -/
  issue     : List RowInst
  /-- Rows of the slot in progress that the ledger has still to take, deferred ones first (R357). -/
  present   : List RowInst
  deferred  : List RowInst
  watches   : List Watch
  nextWatch : Nat
  /-- Held starts by (256 × cuvee + group) (R64): entry, tag, watch. -/
  heldStarts : Sparse (Nat × Nat × Nat)
  /-- Slot count of the last harvest, and the first epochs count at which the next may fall (R405). -/
  lastHarvestEpoch : Option Nat
  harvestNotBefore : Nat
  /-- HarvestSlot, HarvestEvery and ReconcileSlot as the device-maintained rows hold them (R67). -/
  harvestSlot  : Nat
  harvestEvery : Nat
  reconcileSlot : Nat
deriving DecidableEq, Repr, Inhabited

/-- One cuvee's ledger (R355–R359). -/
structure LedgerC where
  gen      : Int
  res      : Int
  genRem   : Rat
  resRem   : Rat
  k        : Nat
  overflow : Nat
  defers   : Nat
  ticks    : Nat
  /-- The latest RECONCILE tick ended a period, whose correction has not been made (R359). -/
  due      : Bool
  sumA     : Nat
  sumE     : Nat
  /-- Estimates admitted since the last RECONCILE tick. -/
  curE     : Nat
  /-- Counters of R408 at the last RECONCILE tick. -/
  mark     : List Nat
  energy   : Nat
  /-- ENERGY_BUDGET episode in progress (R370): start, start slot count, rows deferred. -/
  episode  : Option (ETime × Nat × Nat)
deriving DecidableEq, Repr, Inhabited

/-- A throttle episode of an estate-scope reason (R370). -/
structure Episode where
  start : ETime
  at_   : Nat
  clkMin : Nat
  sensor : Nat
  count : Nat
  peak  : Nat
deriving DecidableEq, Repr, Inhabited

structure PowerSt where
  /-- Arithmetic clock, and the limits of POWER_CAP, THERMAL_DIE, THERMAL_HBM, INPUT_VOLTAGE, in 100 MHz units (R361, R362). -/
  clk        : Nat
  limits     : List Nat
  /-- Samples of the 1 ms condition: counts of 10 µs samples above, below 0.95, and above 43 V in a row. -/
  overRun    : Nat
  underRun   : Nat
  voltRun    : Nat
  dieTemps   : List Nat
  stackTemps : List Nat
  dieState   : Nat
  hbmState   : Nat
  /-- 10 µs sensor readings since the THERMAL limits last moved. -/
  dieRun     : Nat
  hbmRun     : Nat
  avg1ms     : Nat
  tenthsV    : Nat
  eMeas      : Nat
  excess     : Int
  shareScale : Nat
  /-- Domain states (R363, R374): 0 OFF, 1 POWERING_UP, 2 ON, 3 POWERING_DOWN, 4 DARK; default 2. -/
  domains    : Sparse Nat
  episodes   : Sparse Episode
  slopeHold  : Bool
  throttleLog : Sparse Blob
  throttleWritten : Nat
  /-- Reasons of estate scope that held since the last window ended (R372). -/
  heldInWindow : Bool
  /-- A window has ended whose flags are not shown yet (R209, R372): whether a reason held in it, and the thermal state then. -/
  windowEnded : Option (Bool × Nat)
  thermalView : Nat
  /-- Windows that the thermal state shown still holds for (R394). -/
  thermalHold : Nat
  windowStart : Nat
  windowLen   : Nat
  /-- How long reasons 1–6 have held in all, in ns. -/
  reasonNs    : List Rat
  /-- Module input energy since the last RECONCILE tick, from the samples, in units of 0.01 µJ; and the tick's instant. -/
  energyAcc   : Nat
  reconciledAt : Instant
deriving DecidableEq, Repr, Inhabited

/-! ## Fabric: tiles (chapters 3 and 4) -/

/-! ## Trellis and tendril (chapter 5) -/

/-- A combine record with the packet that waits in a router's combining buffer (R164, R165). -/
structure Combine where
  router   : Nat
  slot     : Nat
  pkt      : Packet
  contribs : List (Nat × Nat)
  sent     : Bool
deriving DecidableEq, Repr, Inhabited

/-- An installed multicast group (R158, R159). -/
structure McGroup where
  cuvee  : Nat
  sched  : Bool
  depth  : Nat
  tgroup : Nat
  model  : Nat
  /-- The replication tree: routers with their branch masks, places as in `res`. -/
  tree   : List (Nat × Nat)
  /-- Buffers reserved: landing buffers by tile; router buffers by 2,048 + cluster, 2,176 + parcel, 2,192 + field. -/
  res    : List (Nat × Nat)
deriving DecidableEq, Repr, Inhabited

/-- A barrier's definition and counts at the root for both GEN values (R176, R177). -/
structure Barrier where
  cuvee    : Nat
  vintners : Nat
  tgroup   : Nat
  count0   : Nat
  count1   : Nat
  /-- Group barrier rounds complete locally, awaiting the master (R333), and arrivals held by a master. -/
  await    : List Nat
  members  : List (Nat × Nat)
  /-- The vintner cores' next GEN. -/
  vgen     : Nat
  model    : Nat
deriving DecidableEq, Repr, Inhabited

/-- A tendril flit that waits at a node of the tree (R172–R174): arrivals and flag sets, which act when a node takes them. -/
structure TendrilFlit where
  node    : Nat
  kind    : Nat
  payload : Nat
deriving DecidableEq, Repr, Inhabited

structure NetSt where
  /-- Packets injected and not yet arrived. -/
  flight    : List Packet
  /-- Packets injected so far. -/
  serial    : Nat
  combines  : List Combine
  mcast     : Sparse McGroup
  barriers  : Sparse Barrier
  tendril   : List TendrilFlit
  /-- The latest flit of each other kind that the root or the almanac master sent (R174): its payload. -/
  signals   : Sparse Nat
  fenced    : Nat
  /-- Tiles whose clusters' tenancy has changed since the last epoch boundary (R155). -/
  fenceDue  : List Nat
  errors    : List Nat
  /-- NACKed multicast copies that wait out their backoff (R161): tile, tag, target, TRY, cycles. -/
  resends   : List (Nat × Nat × Nat × Nat × Nat)
  /-- Routers whose combining is retired, and those whose replication is (R451). -/
  noCombine : List Nat
  noReplicate : List Nat
  /-- Tensor-watch statistics in progress by 64 × tile + watch point (R422). -/
  stats     : Sparse (List Nat)
  watchRun  : Sparse Nat
  watchOff  : List Nat
deriving DecidableEq, Repr, Inhabited

/-! ## Memory (chapters 6 and 7) -/

/-- A logical pseudo-channel (R187). -/
structure Pc where
  /-- 0–254 the owner when held; `none` free. -/
  owner     : Option Nat
  retired   : Bool
  corrected : Nat
  uncorr    : Nat
  stackRep  : Nat
  poisoned  : List Nat
  /-- Sectors poisoned so far (R211). -/
  poisonRun : Nat
  ucSectors : List Nat
  scrubbed  : Instant
  /-- Instants of the corrected errors of the last 24 h (R436). -/
  recent    : List Instant
  /-- Regions of 64 KiB written since it was last zeroed (R264); those written in the pass in progress of a copy of it (R252). -/
  written   : List Nat
  dirty     : Option (List Nat)
deriving DecidableEq, Repr, Inhabited

/-- A cache line (R193): pseudo-channel, line number, way, and its valid and dirty sectors as bit maps. -/
structure Line where
  pc    : Nat
  line  : Nat
  way   : Nat
  valid : Nat
  dirty : Nat
  lru   : Nat
deriving DecidableEq, Repr, Inhabited

/-- A parcel (R183–R212, R218–R222). -/
structure ParcelSt where
  present     : Bool
  cacheOn     : Bool
  temp        : Nat
  refresh2    : Bool
  refreshNext : Bool
  lines       : List Line
  /-- Ways being cleaned (R196). -/
  cleaning    : List Nat
  /-- Repair writes waiting, and holding entries (R191): (pseudo-channel, sector). -/
  repairs     : List (Nat × Nat)
  /-- Label moving averages and levels (R201). -/
  avg         : Sparse Nat
  level       : Sparse Nat
  /-- Translation-unit contents: (cuvee, virtual page, level, entry) (R220). -/
  xlate       : List (Nat × Nat × Nat)
deriving DecidableEq, Repr, Inhabited

/-- A shortfall in progress on a resource (R208). -/
structure Shortfall where
  start  : ETime
  at_    : Nat
  cause  : Nat
  f16    : Nat
  effMin : Nat
  rsv    : Nat
  cutMax : Nat
  risk   : Bool
deriving DecidableEq, Repr, Inhabited

/-- How a shortfall degrades a resource (R207): F in sixteenths, D and B, whether bulk holds nothing, and whether VC0 is at
risk. -/
structure Cut where
  f16     : Nat
  short   : Nat
  bulk    : Nat
  starved : Bool
  risk    : Bool
deriving DecidableEq, Repr, Inhabited

structure MemSt where
  /-- HBM bytes: pseudo-channel × 2^31 + byte offset; unlisted bytes are 0 (R185). -/
  hbm       : List Host.Cell
  /-- Tile-store bytes: tile × 2^20 + byte; unlisted bytes are 0 (R86). -/
  store     : List Host.Cell
  pcs       : Sparse Pc
  parcels   : Sparse ParcelSt
  shortfalls : Sparse Shortfall
  shortLog  : Sparse Blob
  shortWritten : Nat
  eff       : Sparse Nat
  /-- Degradations in force, and those found at the last fire tick, which act from the next slot (R206). -/
  cuts      : Sparse Cut
  cutsNext  : Sparse Cut
  /-- Cuvees that a shortfall cut in the window in progress (R209), and in the window that ended last. -/
  shortTouched : List Nat
  shortEnded   : List Nat
  /-- Walks in flight (R218): id, cuvee, tile, VA, is write. -/
  walks     : List (Nat × Nat × Nat × Nat × Bool × Issue)
  nextWalk  : Nat
  lruClock  : Nat
deriving DecidableEq, Repr, Inhabited

/-! ## Cuvees (chapter 8) -/

/-- Cuvee states (R243). -/
inductive CvState where
  | none | defined | bound | running | paused | frozen | saved | resetting | releasing
deriving DecidableEq, Repr, Inhabited

/-- A staged command (R247): its code and record, due boundary or named epoch, and who wrote it. -/
structure Staged where
  /-- Place in the order of acceptance among pending writes. -/
  seq    : Nat
  code   : Nat
  cmd    : CmdRec
  due    : Nat
  by_    : Acc
  /-- FREEZE with NAMED 0: slots left to the 16th slot start, and the instant 200 ns after acceptance (R262). -/
  slots  : Nat
  notBefore : Instant
deriving DecidableEq, Repr, Inhabited

/-- CommandStatus (R249). -/
structure CmdStatus where
  actedAt : ETime
  code    : Nat
  result  : Nat
  cause   : Nat
  phase   : Nat
  seq     : Nat
deriving DecidableEq, Repr, Inhabited

/-- A quiesce in progress (R442): what started it, its limit, and once cut, T and A. -/
structure Quiesce where
  scope   : Nat              -- 0 cuvee, 1 estate, 2 group (R59), 3 re-binding
  target  : Nat
  cause   : Nat              -- FREEZE_CAUSE to set; 0 for a re-binding holiday
  limit   : Option Instant
  begun   : Bool
  cutAt   : Option Nat       -- estate time of T
  apply   : Option Nat       -- slot count of A
  applied : Bool
  marks   : List Nat         -- ports whose marker is awaited
  complete : Bool            -- a re-binding holiday that is complete stands until resumption
deriving DecidableEq, Repr, Inhabited

/-- Re-binding (R252, R273): phase, per copied pseudo-channel the dirty bytes at its last pass end and passes run. -/
structure Rebind where
  phase   : Nat
  cause   : Nat
  cut     : Nat
  resumed : Nat
  dirty   : Nat
  passes  : Nat
  pcDirty : Sparse Nat
  pcPass  : Sparse Nat
  /-- By copied pseudo-channel, the regions that the pass in progress copies; its first pass copies all (R252). -/
  todo    : Sparse (List Nat)
  freezeAfter : Nat          -- FREEZE_CAUSE that a contained fault or freeze in the pause adds (R248)
  poisoned : List Nat        -- destination tiles that received poisoned STATE data (R256)
  /-- Pieces of state records that have landed (R253): destination tile, place in the record, bytes. -/
  landed   : List (Nat × Nat × List Byte)
deriving DecidableEq, Repr, Inhabited

/-- The reset or release sequence (R259, R261): orders done, and whether it ends in NONE. -/
structure ResetSeq where
  release  : Bool
  /-- Slot count at the trigger. -/
  at_      : Nat
  squashed : Bool
  /-- Host reads still outstanding. -/
  reads    : List Nat
  tdiReply : Bool
deriving DecidableEq, Repr, Inhabited

/-- A daybook partition (R413–R419). -/
structure Daybook where
  state    : Nat
  tokens   : Rat
  accepted : Nat
  lost     : Nat
  trigPos  : Nat
  next     : Nat
  post     : Nat
  gap      : Option (Nat × Nat × Nat)        -- count lost, first time, last time
  recs     : Sparse Nat
  ignored  : Nat
deriving DecidableEq, Repr, Inhabited

/-- Everything the device keeps of one cuvee beyond its dictionary values. -/
structure Cuvee where
  state      : CvState
  prior      : Nat
  freezeCause : Nat
  cutIncomplete : Bool
  /-- Estate time of the cut that froze it (R264, R443). -/
  cutTime    : Nat
  rebindActive : Bool
  saveActive : Bool
  restoreActive : Bool
  binding    : Option (HostPort × Nat)
  staged     : Option Staged
  status     : CmdStatus
  resets     : Nat
  quiesce    : Option Quiesce
  /-- A contained fault waits for the next slot (R248). -/
  faultNext  : Bool
  rebind     : Rebind
  seq        : Option ResetSeq
  ledger     : LedgerC
  rings      : Sparse Ring
  serving    : Serving
  meter      : Meter
  tdi        : Nat
  tdiStream  : Nat
  bottle     : List Nat                      -- last reason, loads, rejects, BOTTLE_ID
  faultLog   : Sparse Blob
  faults     : Nat
  mcIncomplete : Nat
  barErrors  : Nat
  flagOver   : Nat
  sync       : Nat
  xCounters  : List Nat
  missRun    : Nat
  counters   : List Nat                      -- running totals of R408, 22 fields from BUSY
  cntShadow  : List Nat                      -- totals latched by the last harvest
  cntMark    : List Nat                      -- totals latched by the harvest before it
  cntFlags   : Nat
  /-- CuveeCounters as the last harvest record left it (R408). -/
  cntBlock   : Blob
  fwdOn      : Bool
  fwdCount   : Nat
  shortSeen  : Bool
  throttleSeen : Bool
  thrSummary : List Nat
  /-- PowerSt.reasonNs as the meter period in progress began (R372). -/
  thrMark    : List Rat
  ownLog     : Sparse Blob
  ownWritten : Nat
  /-- PeerPace (R373): slots of the last epoch, of the epoch in progress, and in all. -/
  peerPace   : Nat × Nat × Nat
  /-- CaskCounters and LinkTransferErrors (R304, R326). -/
  caskCounters : List Nat
  linkErrors : List Nat
  /-- Flits recorded for this cuvee by a holiday (R445). -/
  holdFlits  : List (Nat × LinkMsg)
  /-- The same of data flits: port, whether the credit has gone back, the flit. -/
  holdData   : List (Nat × Bool × Flit)
deriving DecidableEq, Repr, Inhabited

/-! ## Links (chapter 10) -/

/-- A link transfer (R324–R326). -/
structure LinkXfer where
  xtag   : Nat
  mine   : Bool              -- this device is the requester
  cuvee  : Nat
  req    : LinkRequest
  pkts   : List Packet
  open_  : Bool
  /-- Bytes to send or received so far, and how many of them have been sent. -/
  data   : List Byte
  sent   : Nat
  /-- The other half of a forwarded transfer: its port and tag (R328). -/
  fwdPort : Option (Nat × Nat)
  /-- An answer that waits for the data to leave: DONE STATUS (R325). -/
  answer : Option Nat
  /-- The traffic label whose level its data flits compete with on VC1 (R153, R314). -/
  label  : Nat
deriving DecidableEq, Repr, Inhabited

/-- A Zeder link port (R306–R350). -/
structure LinkPort where
  state    : Nat
  cause    : Nat
  lanes    : Nat
  spare    : Nat
  peerDev  : Nat
  peerPort : Nat
  kph      : Bool
  rekeys   : Nat
  retrains : Nat
  signal   : Bool
  /-- Instants of the latest retrains; keying failures in a row; successive replays of one flit. -/
  recent   : List Instant
  keyFails : Nat
  replays  : Nat
  keyStep  : Nat
  /-- The same exchange for a rekey while UP. -/
  rekeying : Bool
  keyCount : Nat
  keyAge   : Instant
  peerDigest : Nat
  nextRx   : Nat
  nextTx   : Nat
  nak      : Bool
  replay   : List Flit
  credits  : List Nat
  owed     : List Nat
  ctl      : List LinkMsg
  /-- Messages of accepted flits that have not acted yet, in order of arrival (R319). -/
  inbox    : List LinkMsg
  frame    : Nat
  counters : List Nat
  xfers    : List LinkXfer
  nextTag  : Nat
  lastPhase : Nat
  lastPhaseAt : Instant
  sentPhase : Nat
  sentAt   : Instant
  delay    : Rat
  recorded : List LinkMsg
  /-- Data flits recorded to a marker, with their cuvee and whether their credit has gone back (R445). -/
  recData  : List (Nat × Bool × Flit)
  recording : Bool
  recFlits : Nat
  sentFlits : List Flit
  /-- The arbiter of its data slots (R152, R314). -/
  arb : Arbiter
deriving DecidableEq, Repr, Inhabited

structure LinkSt where
  ports     : Sparse LinkPort
  flareLog  : Sparse Blob
  flares    : Nat
  handled   : List (Nat × Nat)
  limboLog  : Sparse Blob
  limboWritten : Nat
  dropped   : Nat
  /-- InboundRejects by window (R233). -/
  rejects   : Sparse Nat
deriving DecidableEq, Repr, Inhabited

/-! ## Host ports, security, observation, faults, boot -/

/-- A posted write to the host (R74): function, bus address, bytes, the No Snoop attribute of its window (R226), and the
selective stream with whose TEE bit it goes (R385). -/
structure HostWrite where
  fn      : Nat
  addr    : Nat
  data    : List Byte
  noSnoop : Bool
  tee     : Option Nat
deriving DecidableEq, Repr, Inhabited

/-- A read of the host that awaits its completion: tag, cuvee, the packet that asked, bus address, and the attributes of its
window (R226, R227). -/
structure HostRead where
  tag     : Nat
  cuvee   : Nat
  pkt     : Packet
  addr    : Nat
  noSnoop : Bool
  relaxed : Bool
  tee     : Option Nat
deriving DecidableEq, Repr, Inhabited

/-- One host port (R382–R384, R502–R508). -/
structure HostSt where
  present   : Bool
  perst     : Bool
  linkUp    : Bool
  /-- SPDM sessions active: IDs; and those between KEY_EXCHANGE and FINISH. -/
  sessions  : List Nat
  handshakes : List Nat
  /-- IDE keys: name, key, programming session, active. -/
  ideKeys   : List (IdeKey × Nat × Nat × Bool)
  busMaster : List Nat
  config    : Sparse Nat
  /-- Posted writes issued to the host, newest first (R74). -/
  writes    : List HostWrite
  /-- Posted writes that wait for their function's Bus Master Enable, oldest first (R504). -/
  held      : List HostWrite
  /-- Reads issued and not completed. -/
  reads     : List HostRead
  nextTag   : Nat
  negotiated : Bool
deriving DecidableEq, Repr, Inhabited

/-- A migration session (R388, R400). -/
structure Session where
  id      : Nat
  state   : Nat
  role    : Nat
  peer    : Nat
  created : ETime
  key     : Nat
  /-- The (d, z) of the key pair that an offer was made with. -/
  seed    : Nat
deriving DecidableEq, Repr, Inhabited

/-- What boot found and runs (R376–R383). -/
structure SecSt where
  identity  : Nat
  booted    : Nat
  failA     : Nat
  failB     : Nat
  debug     : Nat
  sessions  : List Session
  blob      : Blob
  meterLog  : Sparse Blob
  meterWritten : Nat
deriving DecidableEq, Repr, Inhabited

/-- A check channel (R426). -/
structure CheckCh where
  owner   : Nat
  config  : Nat
  fold    : Nat
  crc     : Word64
  bytes   : Nat
  overrun : Bool
  queue   : List (Nat × Nat)
  running : Bool
deriving DecidableEq, Repr, Inhabited

structure ObsSt where
  /-- Always-on unit counters (R402, R407), running totals by 8 × unit + field: logical tile t (BUSY, STALL, MACs,
  TS_BYTES); 4,096 + pseudo-channel (bytes read, written, scrub and repair bytes, corrected, uncorrectable);
  5,000 + port (flits sent, received, FEC, NAKs, tag failures, retrains); 5,100 (throttle reasons 1–6, E_meas, estate
  deadline misses). -/
  unit      : Sparse Nat
  /-- The totals latched by the last harvest, and by the harvest before it (R404, R406). -/
  shadow    : Sparse Nat
  mark      : Sparse Nat
  harvestWritten : Nat
  /-- Harvest records by ring position: header fields and blocks as the record's bytes. -/
  records   : Sparse Blob
  /-- A harvest latched and not yet gathered: STAMP, FLAGS, the epochs counter, and each cuvee's own FLAGS. -/
  latched   : Option (Nat × Nat × Nat × List (Nat × Nat))
  prevStamp : Nat
  prevEpochs : Nat
  flags     : Nat
  books     : Sparse Daybook
  checks    : Sparse CheckCh
  estate    : List Nat                       -- estate pseudo-channels in interleave order
deriving DecidableEq, Repr, Inhabited

structure FaultSt where
  log       : Sparse Blob
  written   : Nat
  retired   : List Nat
  engines   : Sparse Nat
  /-- A replay in progress by engine key: when it began, its slot count, and the suspects, the estate as 0 (R448). -/
  suspects  : Sparse (Instant × Nat × List Nat)
  estateState : Nat
  estateFault : Blob
  resetOp   : Nat
  resetPhase : Nat
  resetDone : ETime
  resetParcel : Nat
  holiday   : Blob
  /-- Units whose corrected error is already recorded in this harvest interval (R433). -/
  correctedSeen : List Nat
deriving DecidableEq, Repr, Inhabited

/-- The muster's results (R14–R37): self-test and training verdicts, and the logical numbering. -/
structure MusterSt where
  state     : Nat
  cause     : Nat
  generation : Nat
  test      : SelfTest
  /-- Physical pseudo-channels (32 × parcel + p) that failed training, and units retired since the last cold boot. -/
  pcBad     : List Nat
  /-- Those that failed the memory test of the last cold boot or parcel reset (R186). -/
  pcTestBad : List Nat
  trained   : Nat
  margins   : Sparse Nat
  retiredTiles : List Nat
  retiredPcs : List Nat
  /-- Logical tile → physical tile ID; logical pseudo-channel → parcel and physical number. -/
  tileMap   : Sparse Nat
  pcMap     : Sparse Nat
  tiles     : Nat
  clusters  : Nat
  pcCount   : Nat
  repairs   : Nat
  parcels   : Nat
  hosts     : Nat
  links     : Nat
  /-- Exclusion entries as the core pass read them (R37). -/
  excluded  : List Nat
  /-- Retired tiles and pseudo-channels that the core and the memory pass took as bad, as each found them (R20, R24). -/
  outTiles  : List Nat
  outPcs    : List Nat
  /-- The memory pass has completed (R20). -/
  memDone   : Bool
deriving DecidableEq, Repr, Inhabited

/-- Where the power-up sequence stands (R499, R501). -/
inductive BootStep where
  | off | standby | waitInput | selfTest | training | memory | vintner | ready | failed
deriving DecidableEq, Repr, Inhabited

structure BootSt where
  step      : BootStep
  standby   : Bool
  pwrEn     : Bool
  pwrGood   : Bool
  thermTrip : Bool
  /-- The main-input fault latch: off until PWR_EN has been low (R499). -/
  latched   : Bool
  warm      : Bool
  findings  : Option BootFindings
deriving DecidableEq, Repr, Inhabited

/-- What the device has sent that leaves the block other than host writes and link flits: SPDM, IDE_KM, TDISP,
configuration and neighbour-discovery answers, Wizor responses, and images streamed to a peer device (R263). -/
inductive Out where
  | wizor (src seq : Nat) (r : Response) (tag : Option Nat)
  | neighbour (target : Nat)
  | config (p : HostPort) (fn reg value : Nat)
  | spdm (p : HostPort) (code : Nat) (body : Blob)
  | ideKm (p : HostPort) (code : Nat) (body : Blob)
  | tdisp (p : HostPort) (vf code : Nat) (body : Blob)
  | bar (p : Path) (offset size value : Nat)
  | ptpDelayReq (seq : Nat)
  | image (device route session : Nat) (b : Blob)
deriving DecidableEq, Repr, Inhabited

/-- The state of the block. -/
structure State where
  /-- Commands waiting, first in, first out. -/
  pending : List Instr
  time    : TimeSt
  cad     : CadenceSt
  dict    : DictSt
  flash   : FlashSt
  side    : SidebandSt
  alm     : AlmanacSt
  power   : PowerSt
  tiles   : Sparse Tile
  net     : NetSt
  mem     : MemSt
  cuvees  : Sparse Cuvee
  links   : LinkSt
  hostA   : HostSt
  hostB   : HostSt
  sec     : SecSt
  obs     : ObsSt
  faults  : FaultSt
  muster  : MusterSt
  boot    : BootSt
  out     : List Out
  /-- The model's own counter that indexes the free values. -/
  free    : Nat
deriving DecidableEq, Repr, Inhabited

/-! ## Values at reset

`default` of a structure of this file is every number 0, every flag false, every table and list empty, every Option
none, and the first name of every enumeration (UNLOCKED, NONE, IDLE, off). A definition below names only what differs. -/

/-- A ledger before BIND: k_c is 256 at BIND, and is held at that value before it (R359). -/
def LedgerC.init : LedgerC := { (default : LedgerC) with k := 256 }

/-- A serving loop that has done nothing: its ten counters at 0 (R304). -/
def Serving.init : Serving := { (default : Serving) with counters := List.replicate 10 0 }

/-- A cuvee in NONE: nothing held, nothing recorded. DESIGN CHOICE (log 5). -/
def Cuvee.init : Cuvee :=
  { (default : Cuvee) with
    ledger := LedgerC.init, counters := List.replicate 22 0, cntMark := List.replicate 22 0
    cntShadow := List.replicate 22 0, bottle := [0, 0, 0, 0], xCounters := [0, 0, 0, 0]
    serving := Serving.init, thrSummary := [0, 0, 0, 0, 0], caskCounters := List.replicate 7 0, linkErrors := [0, 0, 0, 0] }

/-- A tile that no cuvee holds. DESIGN CHOICE (log 5). -/
def Tile.init : Tile := default

/-- A free pseudo-channel. DESIGN CHOICE (log 5). -/
def Pc.init : Pc := default

/-- A parcel before its muster. DESIGN CHOICE (log 5). -/
def ParcelSt.init : ParcelSt := default

/-- A link port that is DOWN. DESIGN CHOICE (log 5). -/
def LinkPort.init : LinkPort :=
  { (default : LinkPort) with counters := List.replicate 7 0, credits := [0, 0, 0, 0], owed := [0, 0, 0, 0] }

/-- An empty window of a function. DESIGN CHOICE (log 5). -/
def Window.init : Window := default

/-- A host port's function registers after PERST_N. DESIGN CHOICE (log 5). -/
def HostSt.init : HostSt := default

/-- No host function has written anything, the module has never been powered, and flash holds no stored object: the
machine before its standby input first comes into range (R501). DESIGN CHOICE (log 5, 6). -/
def State.reset : State :=
  { (default : State) with
    time := { (default : TimeSt) with epochLen := 1000000, prevLen := 1000000 }
    flash := { (default : FlashSt) with copyLoaded := 255, rollback := [0, 0, 0, 0] }
    side := { (default : SidebandSt) with counters := List.replicate 6 0 }
    power := { (default : PowerSt) with
      clk := 16, limits := [16, 16, 16, 16], dieTemps := List.replicate 64 0, stackTemps := List.replicate 16 0
      shareScale := 65536, reasonNs := List.replicate 6 0 }
    net := { (default : NetSt) with errors := [0, 0, 0, 0] }
    faults := { (default : FaultSt) with
      estateState := 3, estateFault := ⟨64, 0⟩, holiday := ⟨88, 0⟩ } }

end Sys2Proof.Machine
end

