-- ==== Sys2Proof/Machine/Ops.lean ====
section
/-! DEFINITION. Machine/Ops.lean: the named operations over the state that every family uses: object values, units,
memory, estate time, queues of what leaves the block, and free values. -/

namespace Sys2Proof.Machine

/-! ## Object values in force -/

/-- The value in force of a writable object; one never written holds its Default (R9, R476). -/
def State.val (s : State) (i sub : Nat) : Blob :=
  match s.dict.vals.find (objKey i sub) with
  | some b => b
  | none => defaultOf i sub

/-- The same as a number. -/
def State.num (s : State) (i sub : Nat) : Nat := (s.val i sub).val

/-- Put a value in force. -/
def State.setVal (s : State) (i sub : Nat) (b : Blob) : State :=
  { s with dict := { s.dict with vals := s.dict.vals.insert (objKey i sub) b } }

/-- Return an object to its Default. -/
def State.unsetVal (s : State) (i sub : Nat) : State :=
  { s with dict := { s.dict with vals := s.dict.vals.erase (objKey i sub) } }

/-! ## Units -/

/-- Cuvee c. -/
def State.cuvee (s : State) (c : Nat) : Cuvee := s.cuvees.getD c Cuvee.init
/-- Replace cuvee c. -/
def State.setCuvee (s : State) (c : Nat) (x : Cuvee) : State := { s with cuvees := s.cuvees.set Cuvee.init c x }
/-- Change cuvee c. -/
def State.updCuvee (s : State) (c : Nat) (f : Cuvee → Cuvee) : State := s.setCuvee c (f (s.cuvee c))
/-- Logical tile t. -/
def State.tile (s : State) (t : Nat) : Tile := s.tiles.getD t Tile.init
/-- Replace tile t. -/
def State.setTile (s : State) (t : Nat) (x : Tile) : State := { s with tiles := s.tiles.set Tile.init t x }
/-- Change tile t. -/
def State.updTile (s : State) (t : Nat) (f : Tile → Tile) : State := s.setTile t (f (s.tile t))
/-- Logical pseudo-channel k. -/
def State.pc (s : State) (k : Nat) : Pc := s.mem.pcs.getD k Pc.init
/-- Change pseudo-channel k. -/
def State.updPc (s : State) (k : Nat) (f : Pc → Pc) : State :=
  { s with mem := { s.mem with pcs := s.mem.pcs.set Pc.init k (f (s.pc k)) } }
/-- Parcel p. -/
def State.parcel (s : State) (p : Nat) : ParcelSt := s.mem.parcels.getD p ParcelSt.init
/-- Change parcel p. -/
def State.updParcel (s : State) (p : Nat) (f : ParcelSt → ParcelSt) : State :=
  { s with mem := { s.mem with parcels := s.mem.parcels.set ParcelSt.init p (f (s.parcel p)) } }
/-- Link port k. -/
def State.port (s : State) (k : Nat) : LinkPort := s.links.ports.getD k LinkPort.init
/-- Change link port k. -/
def State.updPort (s : State) (k : Nat) (f : LinkPort → LinkPort) : State :=
  { s with links := { s.links with ports := s.links.ports.set LinkPort.init k (f (s.port k)) } }
/-- Host port p. -/
def State.host (s : State) (p : HostPort) : HostSt := match p with | .a => s.hostA | .b => s.hostB
/-- Change host port p. -/
def State.updHost (s : State) (p : HostPort) (f : HostSt → HostSt) : State :=
  match p with
  | .a => { s with hostA := f s.hostA }
  | .b => { s with hostB := f s.hostB }
/-- 0 for A, 1 for B. -/
def portNo (p : HostPort) : Nat := match p with | .a => 0 | .b => 1
/-- The port of a number, A for 0. -/
def portOf (n : Nat) : HostPort := if n = 0 then .a else .b
/-- The other host port. -/
def otherPort (p : HostPort) : HostPort := match p with | .a => .b | .b => .a
/-- Both host ports. -/
def bothPorts : List HostPort := [.a, .b]

/-- The cuvee's logical tiles, in cuvee-relative order (R239). -/
def State.cvTiles (s : State) (c : Nat) : List Nat := (s.val 0x3014 c).elems 2
/-- The cuvee's logical pseudo-channels, in cuvee-relative order (R239). -/
def State.cvPcs (s : State) (c : Nat) : List Nat := (s.val 0x3015 c).elems 2
/-- The cuvee's page length (R272). -/
def State.pageLength (s : State) (c : Nat) : Nat := bits (s.num 0x3016 c) 47 32
/-- The cuvee's ring-pair count (R272). -/
def State.ringPairs (s : State) (c : Nat) : Nat := bits (s.num 0x3016 c) 31 21
/-- The cuvee's group, 0 for none (R272). -/
def State.group (s : State) (c : Nat) : Nat := bits (s.num 0x3018 c) 11 0
/-- The VF of a cuvee as a function number of its port, and the port. -/
def State.boundFn (s : State) (c : Nat) : HostPort × Nat := ((s.cuvee c).binding.getD (.a, 0))

/-- Cuvee IDs 1–254. -/
def allCuvees : List Nat := (List.range 254).map (· + 1)
/-- Tile IDs. -/
def allTiles : List Nat := List.range 2048
/-- Pseudo-channel IDs. -/
def allPcs : List Nat := List.range 512
/-- The cuvees that exist, in ascending ID. -/
def State.existing (s : State) : List Nat := (s.cuvees.filter fun e => e.2.state ≠ .none).map Prod.fst
/-- The parcel of a logical tile (R27). -/
def tileParcel (t : Nat) : Nat := t / 128
/-- The logical cluster 0–127 of a logical tile (R27). -/
def tileCluster (t : Nat) : Nat := t / 16
/-- The parcel of a logical pseudo-channel (R29). -/
def pcParcel (k : Nat) : Nat := k / 32

/-- The state codes of R243. -/
def CvState.code : CvState → Nat
  | .none => 0 | .defined => 1 | .bound => 2 | .running => 3 | .paused => 4 | .frozen => 5 | .saved => 6
  | .resetting => 7 | .releasing => 8

/-- RUNNING or PAUSED. -/
def Cuvee.live (v : Cuvee) : Bool := v.state == .running || v.state == .paused

/-! ## Estate time (R10–R12, R38, R54) -/

/-- The length of a slot of the epoch in progress (R38). -/
def State.slotLen (s : State) : Rat := s.time.epochLen / 4096
/-- When slot n of the epoch in progress begins (R38). DESIGN CHOICE (log 4). -/
def State.slotStart (s : State) (n : Nat) : Instant := s.time.epochStart + s.slotLen * n
/-- Slots since epochs began: 4,096 a whole epoch. -/
def State.slotCount (s : State) : Nat := 4096 * s.time.epochs + s.time.slot
/-- The F field at the moment of the latest event (R54). -/
def State.fraction (s : State) : Nat :=
  if s.slotLen ≤ 0 then 0
  else min 4095 (((s.time.now - s.slotStart s.time.slot) / s.slotLen * 4096).floor.toNat)
/-- Estate time now, as R10's 64-bit value. -/
def State.stamp (s : State) : Nat := s.time.e % 2 ^ 40 * 2 ^ 24 + s.time.slot % 4096 * 4096 + s.fraction
/-- Estate time now, by field. -/
def State.etime (s : State) : ETime := ⟨s.time.e, s.time.slot, s.fraction⟩
/-- R10's 64-bit value of an estate time. -/
def ETime.raw (t : ETime) : Nat := t.e % 2 ^ 40 * 2 ^ 24 + t.s % 4096 * 4096 + t.f % 4096
/-- Epoch a is later than epoch b (R12). -/
def epochLater (a b : Nat) : Bool := let d := (a + 2 ^ 40 - b % 2 ^ 40) % 2 ^ 40; 0 < d && d < 2 ^ 39
/-- Epochs from b to a, modulo 2^40. -/
def epochAhead (a b : Nat) : Nat := (a + 2 ^ 40 - b % 2 ^ 40) % 2 ^ 40
/-- One arithmetic cycle at the clock in force (R2, R361). -/
def State.cycle (s : State) : Rat := if s.power.clk = 0 then 10 / 16 else 10 / s.power.clk
/-- Move the clock of events forward to t. DESIGN CHOICE (log 4). -/
def State.at_ (s : State) (t : Instant) : State :=
  if s.time.now < t then
    { s with time := { s.time with now := t, cycles := s.time.cycles + (t - s.time.now) / s.cycle } }
  else s

/-- The clock of estate time runs: epochs have begun and the estate has power. -/
def State.ticking (s : State) : Bool := s.time.running

/-! ## Free values -/

/-- Take the next free value. DESIGN CHOICE (log 10). -/
def State.fresh (s : State) : Nat × State := (Config.freeNat s.free, { s with free := s.free + 1 })
/-- Take the next random number drawn on chip. DESIGN CHOICE (log 10). -/
def State.draw (s : State) : Nat × State := (Config.random s.free, { s with free := s.free + 1 })

/-! ## Memory (R86, R185): bytes of HBM and of the tile stores -/

/-- Bytes that a pseudo-channel holds: 36 GiB over 32 (R183). -/
def pcBytes : Nat := 1207959552
/-- The key of a byte of HBM: pseudo-channel and byte offset. -/
def hbmKey (k off : Nat) : Nat := k * 2 ^ 31 + off
/-- The key of a byte of a tile store. DESIGN CHOICE (log 8). -/
def storeKey (t off : Nat) : Nat := t * 2 ^ 20 + off
/-- Read one byte; a byte never written since it was zeroed reads 0 (R185, R89). DEDUCED (log 7). -/
def readByte (m : List Host.Cell) (a : Nat) : Byte := Sparse.getD m a 0
/-- Write one byte, in canonical form. -/
def writeByte (m : List Host.Cell) (a : Nat) (b : Byte) : List Host.Cell := Sparse.set 0 m a b
/-- Read n bytes from a. -/
def readBytes (m : List Host.Cell) (a : Nat) : Nat → List Byte
  | 0 => []
  | n + 1 => readByte m a :: readBytes m (a + 1) n
/-- Write bytes from a. -/
def writeBytes (m : List Host.Cell) (a : Nat) : List Byte → List Host.Cell
  | [] => m
  | b :: bs => writeBytes (writeByte m a b) (a + 1) bs
/-- Zero n bytes from a. DEDUCED (log 7). -/
def zeroBytes (m : List Host.Cell) (a n : Nat) : List Host.Cell := Sparse.clearRange m a n
/-- The canonical form of a memory: addresses strictly rising, no zero byte listed. DEDUCED (log 7). -/
def Memory.wf (m : List Host.Cell) : Bool := Sparse.wf (0 : Byte) m

/-- Replace the HBM contents. -/
def State.setHbm (s : State) (m : List Host.Cell) : State := { s with mem := { s.mem with hbm := m } }
/-- Replace the tile stores' contents. -/
def State.setStore (s : State) (m : List Host.Cell) : State := { s with mem := { s.mem with store := m } }
/-- Bytes of tile t's store; addresses wrap at the store's end. DESIGN CHOICE (log 8). -/
def State.storeRead (s : State) (t off n : Nat) : List Byte :=
  (List.range n).map fun i => readByte s.mem.store (storeKey t ((off + i) % 2 ^ 20))
/-- n bytes of tile t's store as a number; addresses wrap at the store's end. -/
def State.storeNat (s : State) (t a n : Nat) : Nat :=
  ofBytes ((List.range n).map fun i => readByte s.mem.store (storeKey t ((a + i) % 2 ^ 20)))
/-- The tile stores with bytes written from an offset of tile t's; addresses wrap at the store's end. -/
def storePut (m : List Host.Cell) (t off : Nat) (bs : List Byte) : List Host.Cell :=
  bs.zipIdx.foldl (fun m e => writeByte m (storeKey t ((off + e.2) % 2 ^ 20)) e.1) m
/-- Write bytes of tile t's store. DESIGN CHOICE (log 8). -/
def State.storeWrite (s : State) (t off : Nat) (bs : List Byte) : State := s.setStore (storePut s.mem.store t off bs)
/-- Write single bytes of tile t's store, given as (offset, byte). DESIGN CHOICE (log 8). -/
def State.storePatch (s : State) (t : Nat) (l : List (Nat × Byte)) : State :=
  s.setStore (l.foldl (fun m e => writeByte m (storeKey t (e.1 % 2 ^ 20)) e.2) s.mem.store)
/-- Bytes of pseudo-channel k. -/
def State.hbmRead (s : State) (k off n : Nat) : List Byte := readBytes s.mem.hbm (hbmKey k off) n
/-- The regions of 64 KiB that n bytes from an offset touch. -/
def regionsOf (off n : Nat) : List Nat :=
  if n = 0 then [] else (List.range ((off + n - 1) / 65536 + 1 - off / 65536)).map (off / 65536 + ·)
/-- Regions of pseudo-channel k have been written (R252, R264). -/
def State.markWritten (s : State) (k : Nat) (rs : List Nat) : State :=
  s.updPc k fun x => { x with
    written := rs.foldl addOnce x.written, dirty := x.dirty.map fun d => rs.foldl addOnce d }
/-- Write bytes of pseudo-channel k. -/
def State.hbmWrite (s : State) (k off : Nat) (bs : List Byte) : State :=
  (s.setHbm (writeBytes s.mem.hbm (hbmKey k off) bs)).markWritten k (regionsOf off bs.length)

/-! ## Counters -/

/-- Add to an always-on unit counter (R402); 64 bits, wrapping. -/
def State.count (s : State) (key n : Nat) : State :=
  { s with obs := { s.obs with unit := s.obs.unit.set 0 key ((s.obs.unit.getD key 0 + n) % 2 ^ 64) } }
/-- Add n to place k of a list of counters that wrap at 2^w. -/
def bump (w : Nat) (l : List Nat) (k n : Nat) : List Nat := l.modify k fun x => (x + n) % 2 ^ w
/-- Add to field k of cuvee c's running totals (R408: 0 BUSY … 15 HOST_BYTES, 16 JOBS, 17 and 18 ECC, 19 BUDGET_SLOTS,
20 and 21 daybook records accepted and lost). Cuvee 0 has no block. -/
def State.tally (s : State) (c k n : Nat) : State :=
  if c = 0 then s else s.updCuvee c fun v => { v with counters := bump 64 v.counters k n }

/-! ## What leaves the block -/

/-- The stream with whose TEE bit the host requests of cuvee c go: in RUN the one named at lock (R385).
DEDUCED (log 221). -/
def State.teeOf (s : State) (c : Nat) : Option Nat :=
  if (s.cuvee c).tdi = 2 then some (s.cuvee c).tdiStream else none

/-- A posted write to a host port's function, issued in order (R74); while the function's Bus Master Enable is 0 it waits
(R504). DEDUCED (log 145, 221). -/
def State.hostWrite (s : State) (p : HostPort) (fn addr : Nat) (bs : List Byte) (noSnoop : Bool := false) (tee : Option Nat := none) : State :=
  s.updHost p fun h =>
    if h.busMaster.contains fn then { h with writes := ⟨fn, addr, bs, noSnoop, tee⟩ :: h.writes }
    else { h with held := h.held ++ [⟨fn, addr, bs, noSnoop, tee⟩] }
/-- Data of a flit joins its transfer on port k, and gives its credit back where it is still owed (R318, R445). -/
def State.landData (s : State) (k : Nat) (owed : Bool) (f : Flit) : State :=
  let mine := f.xtag.testBit 11
  let tag := f.xtag % 2048
  s.updPort k fun p =>
    let vc := ((p.xfers.find? fun x => x.mine == mine && x.xtag == tag).map fun x => x.req.vc).getD 0
    { p with
      owed := if owed then p.owed.modify vc (· + 1) else p.owed
      xfers := p.xfers.map fun x => if x.mine = mine ∧ x.xtag = tag then { x with data := x.data ++ f.data } else x }
/-- Something else the block sends. -/
def State.emit (s : State) (o : Out) : State := { s with out := o :: s.out }
/-- Add to TrellisErrors (R182): 0 corrected, 1 poisoned deliveries, 2 malformed, 3 adder and replication faults. -/
def State.netError (s : State) (i : Nat) : State := { s with net := { s.net with errors := bump 64 s.net.errors i 1 } }
/-- Crossings between two endpoints (R144). -/
def crossings (a b : Nat) : Nat := (routeCrossings a b).length
/-- The cycle that packets injected now are stamped with (R147). -/
def State.issueCycle (s : State) : Nat := s.time.cycles.floor.toNat % 65536
/-- A packet as its source injects it now: stamped, and last in the order of injection. DESIGN CHOICE (log 184). -/
def State.stamped (s : State) (p : Packet) : Packet := { p with stamp := s.issueCycle, serial := s.net.serial }
/-- A packet under way as it stands: a copy that a router makes, or one that a router held. DESIGN CHOICE (log 184). -/
def State.copyPacket (s : State) (p : Packet) : State := { s with net := { s.net with flight := s.net.flight ++ [p] } }
/-- A packet injected into the trellis, counted (R402). -/
def State.inject (s : State) (p : Packet) : State :=
  let q := s.stamped p
  let s := (s.tally p.cuvee 12 (packetSize p)).tally p.cuvee 13 (packetSize p * crossings p.src p.dst)
  { s with net := { s.net with flight := s.net.flight ++ [q], serial := s.net.serial + 1 } }
/-- The answer to a packet, on its VC (R147, R149): READ_DATA carries the payload, an ACK one target.
DESIGN CHOICE (log 183). -/
def State.answer (s : State) (p : Packet) (ty status : Nat) (data : List Byte) : State :=
  let off := if data.isEmpty then 0 else p.offset
  s.inject { p with
    ty := ty, src := p.dst, dst := p.src, bytes := data.length, offset := off, addr := 0, last := false
    flits := if data.isEmpty then 0 else ceilDiv (off + data.length) 32
    data := data, status := status, combine := false, mgroup := 0, held := [], ncomb := if ty = 5 then 1 else 0 }
/-- The packet is in flight. -/
def State.inFlight (s : State) (p : Packet) : Bool := s.net.flight.contains p
/-- Take a packet out of the trellis. -/
def State.arrive (s : State) (p : Packet) : State := { s with net := { s.net with flight := s.net.flight.erase p } }
/-- A tendril flit sent up the tree (R173): it waits at a node. DESIGN CHOICE (log 70). -/
def State.tendrilSend (s : State) (node kind payload : Nat) : State :=
  { s with net := { s.net with tendril := s.net.tendril ++ [⟨node, kind, payload⟩] } }
/-- A flit sent down the tree or on the ring (R174). DESIGN CHOICE (log 70, 189). -/
def State.signal (s : State) (kind payload : Nat) : State :=
  { s with net := { s.net with signals := s.net.signals.insert kind payload } }
/-- A control message queued on a link port, sent by its next control flit (R314). -/
def State.linkSend (s : State) (k : Nat) (m : LinkMsg) : State :=
  s.updPort k fun p => { p with ctl := p.ctl ++ [m] }

/-- Apply an action for each element in turn. -/
def State.each {α : Type} (s : State) (l : List α) (f : State → α → State) : State := l.foldl f s

/-- The 1/16-bit exponent code of an estimate (R58): m × 4^x in µJ. DESIGN CHOICE (log 157). -/
def energyOf (code : Nat) : Nat := bits code 11 0 * 4 ^ bits code 15 12

/-! ## What has booted (R379–R383) -/

/-- The image of a slot as a number that no other slot or contents shares: measurements and SVNs hang on it. The recovery
image is slot 255. DESIGN CHOICE (log 47). -/
def FlashSt.imageKey (f : FlashSt) (slot : Nat) : Nat :=
  let img := if slot = 0 then f.imageA else if slot = 1 then f.imageB else []
  (256 ^ img.length + ofBytes img) * 256 + slot % 256

/-- The SVN of component k, 1–4, of a slot's image (R380). DESIGN CHOICE (log 47). -/
def State.svnOf (s : State) (slot k : Nat) : Nat := Config.svn (s.flash.imageKey slot) k

end Sys2Proof.Machine
end

