-- ==== Sys2Proof/Machine/Bottle.lean ====
section
/-! DEFINITION. Machine/Bottle.lean: the layout of a bottle and its checks (R390–R392), the recipe's own checks (R158, R176, R287,
R288, R290, R8), and the layout of the switch area (R287). -/

namespace Sys2Proof.Machine

/-! ## The header (R390) -/

def boId (h : Blob) : Nat := h.get 8 16
def boMinSvn (h : Blob) : Nat := h.get 24 4
def boBindings (h : Blob) : Nat := h.get 28 1
def boKind (h : Blob) : Nat := h.get 29 1
def boContent (h : Blob) : Nat := h.get 32 8
def boRecipe (h : Blob) : Nat := h.get 40 4
def boChunks (h : Blob) : Nat := h.get 44 4
def boOwner (h : Blob) : Nat := h.get 48 32

/-- Bytes of a bottle with this header: header, binding entries, chunks with their tags, and the trailer. -/
def bottleBytes (h : Blob) : Nat := 256 + 1640 * boBindings h + boContent h + 16 * boChunks h + 1280

/-- The header is malformed, or its sizes disagree with the bytes that the command names (R392, reason 1). -/
def bottleHeaderBad (h : Blob) (named : Nat) : Bool :=
  h.get 0 4 != 0x42543947 || h.get 4 2 != 1 || h.get 6 2 != 256 || h.get 30 2 != 0 || h.get 80 176 != 0 ||
    boBindings h == 0 || decide (64 < boBindings h) || boKind h == 0 || decide (3 < boKind h) ||
    boChunks h != ceilDiv (boContent h) 1048576 || decide (boContent h < boRecipe h) || bottleBytes h != named

/-! ## What the verdicts of BottleFindings stand for -/

/-- The binding entries, 1,640 B each: the identity digest's prefix, the ciphertext, the wrapped content key. -/
def boPrefix (es : Blob) (i : Nat) : Nat := es.get (1640 * i) 32
def boCipher (es : Blob) (i : Nat) : Nat := es.get (1640 * i + 32) 1568
def boWrapped (es : Blob) (i : Nat) : Nat := es.get (1640 * i + 1600) 40

/-- `entry`: the first binding entry whose prefix is this device's (R391 step 1). -/
def bottleEntry (es : Blob) (n : Nat) : Option Nat :=
  (List.range n).find? fun i => boPrefix es i == Config.identityDigest % 2 ^ 256

/-- `owner`: OWNER_DIGEST is the first 32 B of SHAKE256 of the owner's key. -/
def bottleOwner (h key : Blob) : Bool := boOwner h == Config.shake256 key 64 % 2 ^ 256

/-- The key-wrapping key: the first 32 B of SHAKE256 over "GZ9 BOTTLE", BOTTLE_ID and the shared secret. -/
def bottleKek (h : Blob) (secret : Nat) : Nat :=
  Config.shake256 (Blob.record [(10, 0x454C54544F4220395A47), (16, boId h), (32, secret)]) 64 % 2 ^ 256

/-- `unwraps`: the content key is what the entry's wrapped key holds (R391 step 2). DESIGN CHOICE (log 208). -/
def bottleUnwraps (h es : Blob) (i content : Nat) : Bool :=
  Config.keyWrap (bottleKek h (Config.decapsulate bottleSeed (boCipher es i))) content == boWrapped es i

/-- Chunk i of the content. -/
def bottleChunk (content : Blob) (i : Nat) : Blob :=
  let n := min 1048576 (content.size - 1048576 * i)
  ⟨n, content.get (1048576 * i) n⟩

/-- Chunk i as it stands in a bottle, ciphertext and tag: the IV is 32 zero bits and i, the associated data BOTTLE_ID and i. -/
def bottleSealed (h : Blob) (key : Nat) (content : Blob) (i : Nat) : Nat :=
  Config.gcm key (i * 2 ^ 32) (Blob.record [(16, boId h), (8, i)]) (bottleChunk content i)

/-- `tags`: the chunks decrypt to the content, every tag verifying (R391 step 3). DESIGN CHOICE (log 208). -/
def bottleTags (h : Blob) (key : Nat) (content : Blob) (chunks : List Nat) : Bool :=
  chunks == (List.range (boChunks h)).map (bottleSealed h key content)

/-- `signed`: what the trailer's signature is over, the 64 B SHAKE256 of the header, the binding entries and every chunk's tag
in order. DESIGN CHOICE (log 208). -/
def bottleSigned (h es : Blob) (tags : List Nat) : Nat :=
  Config.shake256 (Blob.record ([(256, h.val), (es.size, es.val)] ++ tags.map fun t => (16, t))) 64

/-! ## The recipe (R287) -/

/-- A GROUPS entry has a reserved bit set or, VALID, a count or stride outside its range (R288). -/
def recipeGroupBad (e : Nat) : Bool :=
  bits e 60 44 != 0 || bits e 31 27 != 0 || bits e 15 11 != 0 || decide (2 ^ 64 ≤ e) ||
    (bit e 63 && (bits e 43 32 == 0 || decide (2048 < bits e 43 32) || bits e 26 16 == 0))

/-- A BARRIERS entry has a reserved bit set (R176). -/
def recipeBarrierBad (e : Nat) : Bool := bits e 62 48 != 0 || bits e 23 12 != 0 || decide (2 ^ 64 ≤ e)

/-- A MULTICAST entry has a reserved bit set, or a dynamic group a DEPTH (R158). -/
def recipeMcastBad (e : Nat) : Bool :=
  bits e 59 40 != 0 || bits e 31 10 != 0 || decide (2 ^ 64 ≤ e) || (!bit e 62 && bits e 61 60 != 0)

/-- The batch rules of a text model break R290. -/
def recipeBatchBad (b : Blob) : Bool :=
  b.size != 32 || b.get 0 2 == 0 || decide (4096 < b.get 0 2) || b.get 2 2 == 0 || decide (8192 < b.get 2 2) ||
    decide (b.get 4 4 < b.get 0 2) || decide (4095 < b.get 20 2) || decide (4095 < b.get 22 2) || decide (15 < b.get 25 1) ||
    b.get 27 1 != 0

/-- A section of the directory: a known TYPE, inside the recipe after its header. -/
def recipeSectionBad (bytes : Nat) (e : Nat × Nat × Nat) : Bool :=
  e.1 == 0 || decide (0x0A < e.1) || decide (e.2.1 < 64) || decide (bytes < e.2.1 + e.2.2)

/-- The recipe is malformed (R287, R392 reason 8), in a bottle with this header. DEDUCED (log 209). -/
def recipeBad (r : Recipe) (h : Blob) : Bool :=
  r.magic != 0x45523947 || r.version != 1 || r.kind != boKind h || decide (12 < r.sections.length) ||
    (r.sections.map Prod.fst).dedup.length != r.sections.length || r.sections.any (recipeSectionBad (boRecipe h)) ||
    r.placements.isEmpty || decide (8 < r.placements.length) ||
    (r.placements.any fun p => decide (64 < p.groups.length) || p.groups.any recipeGroupBad) ||
    r.barriers.any recipeBarrierBad || r.multicast.any recipeMcastBad || (r.kind == 1 && recipeBatchBad r.batch) ||
    decide (16 < r.stopSets.length) || (r.stopSets.any fun l => decide (16 < l.length)) ||
    (r.live.any fun e => decide (64 < e.2.1.length)) ||
    sumNat (r.weights.map fun w => w.2.length) != boContent h - boRecipe h

/-! ## The switch area (R287, R299) -/

/-- Things laid one after another, each with its offset from the first. DESIGN CHOICE (log 211). -/
def placed {α : Type} (len : α → Nat) : List α → Nat → List (α × Nat)
  | [], _ => []
  | x :: xs, o => (x, o) :: placed len xs (o + len x)

/-- Bytes of a placement's programs: resident ranges, then transfer rows of 16 B. -/
def programBytes (p : Placement) : Nat := sumNat (p.image.map fun e => e.2.2.length) + 16 * p.xferRows.length

/-- The programs of every placement, in order, as the switch area keeps them. DESIGN CHOICE (log 211). -/
def switchArea (r : Recipe) : List Byte :=
  r.placements.flatMap fun p => (p.image.flatMap fun e => e.2.2) ++ p.xferRows.flatMap fun e => toBytes 16 e.2.2

/-- Where the programs of placement k begin in the switch area. DESIGN CHOICE (log 211). -/
def programBase (r : Recipe) (k : Nat) : Nat := sumNat ((r.placements.take k).map programBytes)

end Sys2Proof.Machine
end

