-- ==== Sys2Proof/Machine/Records.lean ====
section
/-! DEFINITION. Machine/Records.lean: what the device records: daybook records (R411–R417), fault records (R434, R435),
retired units (R436); the contained fault (R248, R433), raising a flare (R347), squash notices (R335), TDI errors (R385)
and the end of a meter period (R396). -/

namespace Sys2Proof.Machine

/-! ## Daybook -/

/-- A daybook record as a 256-bit number (R411). -/
def dayRec (stamp kind engine c unit code tag arg0 arg1 arg2 : Nat) : Nat :=
  field stamp 64 192 + field kind 4 188 + field engine 4 184 + field c 8 176 + field unit 16 160 + field code 16 144 +
    field tag 16 128 + field arg0 32 96 + field arg1 32 64 + field arg2 64 0

/-- Positions of a partition: 32,768 per MiB of SIZE (R413). -/
def State.bookPositions (s : State) (c : Nat) : Nat := bits (s.num 0x9001 (c + 1)) 31 0 * 32768
/-- MODE, PRE and TRIGGERS of a partition (R415, R417). -/
def State.bookMode (s : State) (c : Nat) : Nat := bits (s.num 0x9002 (c + 1)) 7 0
def State.bookPre (s : State) (c : Nat) : Nat := bits (s.num 0x9002 (c + 1)) 15 8
def State.bookTriggers (s : State) (c : Nat) : Nat := bits (s.num 0x9002 (c + 1)) 23 16
/-- The partition of cuvee c. -/
def State.book (s : State) (c : Nat) : Daybook := s.obs.books.getD c default
/-- Replace it. -/
def State.setBook (s : State) (c : Nat) (b : Daybook) : State :=
  { s with obs := { s.obs with books := s.obs.books.set default c b } }

/-- Place one record at the next position and move on (R415): RING and TRIGGERED wrap over the ordinary positions,
STOP_WHEN_FULL stops at the last, POST counts down to STOPPED. -/
def bookPlace (mode ordinary : Nat) (b : Daybook) (r : Nat) : Daybook :=
  let b := { b with recs := b.recs.set 0 (if mode = 2 then b.next else b.next % ordinary) r, next := b.next + 1 }
  if b.state = 2 then
    if b.post ≤ 1 then { b with state := 3, post := 0 } else { b with post := b.post - 1 }
  else if mode = 2 && ordinary ≤ b.next then { b with state := 3 } else b

/-- The GAP record of a run of losses (R416). -/
def gapRecord (c : Nat) (g : Nat × Nat × Nat) : Nat :=
  dayRec g.2.1 3 0 c 0 0 0 (min g.1 (2 ^ 32 - 1)) 0 g.2.2

/-- Count records as lost (R416). -/
def bookLose (b : Daybook) (n stamp : Nat) : Daybook :=
  { b with
    lost := (b.lost + n) % 2 ^ 64
    gap := match b.gap with
      | none => some (n, stamp, stamp)
      | some (k, first, _) => some (k + n, first, stamp) }

/-- Take a trigger of a source in partition c (R417): in RUNNING with MODE 3 and the source enabled it writes a TRIGGER
record and enters POST; otherwise an enabled one is ignored and counted. -/
def State.bookTrigger (s : State) (c src : Nat) (tag : Nat) : State :=
  let b := s.book c
  if !bit (s.bookTriggers c) src then s
  else if b.state = 1 && s.bookMode c = 3 && 0 < s.bookPositions c then
    let ordinary := s.bookPositions c - 1
    let rec_ := dayRec s.stamp 4 0 c 0 (src + 1) tag 0 0 0
    let b := { b with trigPos := b.next % ordinary, state := 2, post := ordinary * (16 - s.bookPre c) / 16 }
    s.setBook c (bookPlace 3 ordinary b rec_)
  else s.setBook c { b with ignored := b.ignored + 1 }

/-- Ordinary positions that a partition fills before it stops (R415): to its end under STOP_WHEN_FULL, to the end of POST;
else there are always `n`. DEDUCED (log 219). -/
def bookRoom (mode ordinary n : Nat) (b : Daybook) : Nat :=
  if b.state = 3 then 0 else if mode = 2 then ordinary - b.next else if b.state = 2 then b.post else n

/-- Offer n records to partition c, accepted or lost as one (R414–R416); then the match trigger.
DESIGN CHOICE (log 161); DEDUCED (log 219). -/
def State.bookOffer (s : State) (c : Nat) (recs : List Nat) : State :=
  let b := s.book c
  let n := recs.length
  let ordinary := s.bookPositions c - 1
  if b.state = 0 || s.bookPositions c = 0 then s
  else if b.state = 3 || b.tokens < (n : Nat) then
    (s.setBook c (bookLose b n s.stamp)).tally c 21 n
  else
    let b := match b.gap with
      | some g => { bookPlace (s.bookMode c) ordinary b (gapRecord c g) with gap := none }
      | none => b
    if bookRoom (s.bookMode c) ordinary n b < n then (s.setBook c (bookLose b n s.stamp)).tally c 21 n
    else
    let b := recs.foldl (bookPlace (s.bookMode c) ordinary)
      { b with tokens := b.tokens - (n : Nat), accepted := (b.accepted + n) % 2 ^ 64 }
    let s := (s.setBook c b).tally c 20 n
    let setup := s.num 0x9002 (c + 1)
    if recs.any fun r => (bits r 191 128 ^^^ bits setup 127 64) &&& bits setup 191 128 = 0 then s.bookTrigger c 1 0 else s

/-- UNIT as the partition of its owner stores it (R419): a cuvee's partition keeps the cuvee-relative tile of ENGINE 1 and
the cuvee-relative channel of ENGINE 3, and 0 otherwise. -/
def State.bookUnit (s : State) (c engine unit : Nat) : Nat :=
  if c = 0 then unit
  else if engine = 1 then (s.tile unit).ctile
  else if engine = 3 then unit
  else 0

/-- Write a daybook record of cuvee c (R411). For ENGINE 3 the caller gives the channel as the partition stores it.
DESIGN CHOICE (log 161). -/
def State.daybook (s : State) (c kind engine unit code tag arg0 arg1 arg2 : Nat) : State :=
  s.bookOffer c [dayRec s.stamp kind engine c (s.bookUnit c engine unit) code tag arg0 arg1 arg2]

/-- BEGIN and END of a command of ENGINE 2, 4, 5 or 6 of cuvee c, whose partition keeps UNIT 0 (R412, R419); the estate's own
are not kept apart by unit, so none is written. -/
def State.jobBegin (s : State) (c engine code tag arg0 arg2 : Nat) : State :=
  if c = 0 then s else s.daybook c 0 engine 0 code tag (arg0 % 2 ^ 32) 0 arg2
/-- DESIGN CHOICE (log 218). -/
def State.jobEnd (s : State) (c engine code tag arg0 status arg2 : Nat) : State :=
  if c = 0 then s else s.daybook c 1 engine 0 code tag (arg0 % 2 ^ 32) status arg2

/-- A vintner task: 1 descriptor, 2 sampling, 3 page write, 4 cask message. DESIGN CHOICE (log 218). -/
def State.vintnerTask (s : State) (c code slot items step : Nat) : State :=
  (s.jobBegin c 6 code slot items step).jobEnd c 6 code slot items 0 step

/-- The crypto jobs of chunks 0 … of a bottle (1) or an image (2), given each chunk's bytes and status.
DESIGN CHOICE (log 218). -/
def State.cryptoJobs (s : State) (c code : Nat) (chunks : List (Nat × Nat)) : State :=
  s.each chunks.zipIdx fun s e => (s.jobBegin c 5 code 0 e.1.1 e.2).jobEnd c 5 code 0 e.1.1 e.1.2 e.2

/-- Write an EVENT with its PAYLOAD record (R412). -/
def State.daybookPair (s : State) (c code payload : Nat) : State :=
  s.bookOffer c [dayRec s.stamp 2 7 c 0 code 0 0 0 0, payload]

/-! ## Fault logs -/

/-- A fault record (R434); `detail` is 32 bytes. -/
def faultRecord (stamp kind cls c flags unit arg0 arg1 detail : Nat) : Blob :=
  Blob.record [(8, stamp), (1, kind), (1, cls), (1, c), (1, flags), (4, unit), (8, arg0), (8, arg1), (32, detail)]

/-- Write a record to the estate log (R434). -/
def State.logEstate (s : State) (b : Blob) : State :=
  { s with faults := { s.faults with
    log := s.faults.log.insert (s.faults.written % 256) b, written := (s.faults.written + 1) % 2 ^ 32 } }

/-- UNIT of a cuvee record as the estate log gives it: logical for a tile or a pseudo-channel (R434). -/
def State.estateUnit (s : State) (c kind unit : Nat) : Nat :=
  if unit = 0xFFFF then unit
  else if kind = 1 || kind = 3 || kind = 5 || kind = 8 then (s.cvTiles c).getD unit unit
  else if kind = 4 then (s.cvPcs c).getD unit unit
  else unit

/-- Write a record of cuvee c to its own log and the estate's (R434). `tileUnit` marks a TRANSLATION whose UNIT is a tile. -/
def State.logCuvee (s : State) (c kind cls flags unit arg0 arg1 detail : Nat) (tileUnit : Bool := false) : State :=
  let own := faultRecord s.stamp kind cls c flags unit arg0 arg1 detail
  let eu := if tileUnit then (s.cvTiles c).getD unit unit else s.estateUnit c kind unit
  let s := s.updCuvee c fun v =>
    { v with faultLog := v.faultLog.insert (v.faults % 64) own, faults := (v.faults + 1) % 2 ^ 32 }
  s.logEstate (faultRecord s.stamp kind cls c flags eu arg0 arg1 detail)

/-- Corrected errors: the estate log records the first event of each unit in each harvest interval (R433).
DEDUCED (log 69). -/
def State.logCorrected (s : State) (key unit source n : Nat) : State :=
  if key ∈ s.faults.correctedSeen then s
  else
    let s := s.logEstate (faultRecord s.stamp 0x0C 0 0 0 unit source n 0)
    { s with faults := { s.faults with correctedSeen := key :: s.faults.correctedSeen } }

/-! ## Link notices -/

/-- A port is UP (R310: state 3). -/
def LinkPort.up (p : LinkPort) : Bool := p.state == 3
/-- The ports that are UP. -/
def State.upPorts (s : State) : List Nat := (List.range 12).filter fun k => (s.port k).up
/-- DeviceId (R349). -/
def State.deviceId (s : State) : Nat := s.num 0x6000 1

/-- Send SQUASH to every device to which cuvee c has transfers or cask hand-overs outstanding (R335). -/
def State.sendSquash (s : State) (c reason : Nat) : State :=
  let xs := (List.range 12).flatMap fun k =>
    ((s.port k).xfers.filter fun x => x.mine && x.cuvee == c).map fun x => (k, x.req.dst)
  let cs := ((s.cuvee c).serving.casks.filter fun e => 2 ≤ e.2.state && e.2.state ≤ 5).map fun e => (e.2.port, e.2.peer)
  s.each (xs ++ cs).dedup fun s e =>
    s.linkSend e.1 (.squash ⟨reason, 0, s.deviceId, e.2, s.group c⟩)

/-- Raise a flare for a group (R347): FLARE on every UP port, with FLARE_ID from E and S (R323). -/
def State.raiseFlare (s : State) (g : Nat) : State :=
  let id := s.time.e % 2 ^ 20 * 4096 + s.time.slot % 4096
  let s := { s with links := { s.links with handled := lastN 64 (s.links.handled ++ [(s.deviceId, id)]) } }
  s.each s.upPorts fun s k => s.linkSend k (.flare ⟨s.num 0x6012 2, s.deviceId, g, id⟩)

/-! ## Contained faults (R248, R256, R433, R447) -/

/-- A contained fault of cuvee c that freezes: logged, in the daybook, and a RUNNING or PAUSED cuvee begins its quiesce at
the next slot. One that arrives before a cut sets FREEZE_CAUSE 2, and the quiesce of a plan becomes the freeze's (R256); one
in the pause of a plan leaves the cuvee FROZEN when it would resume. -/
def State.containedFault (s : State) (c kind cls unit arg0 arg1 detail : Nat) (tileUnit : Bool := false) : State :=
  let v := s.cuvee c
  let freezes := v.live
  let s := s.logCuvee c kind cls (b2n freezes) unit arg0 arg1 detail tileUnit
  let s := s.daybook c 2 7 0 5 0 0 0 0
  let s := s.bookTrigger c 2 0
  if !freezes then s
  else s.updCuvee c fun v => match v.quiesce with
    | some q =>
      if q.cutAt.isNone then
        { v with quiesce := some { q with cause := 2, scope := if q.scope = 3 then 0 else q.scope } }
      else { v with rebind := { v.rebind with freezeAfter := 2 } }
    | none => { v with faultNext := true }

/-- A record that does not freeze the cuvee (R435). -/
def State.plainFault (s : State) (c kind cls unit arg0 arg1 detail : Nat) : State :=
  s.logCuvee c kind cls 0 unit arg0 arg1 detail

/-! ## Retired units (R36, R436) -/

/-- The R36 entry of a physical tile ID (R28). -/
def tileEntry (phys : Nat) : Nat :=
  field 2 4 28 + field (bits phys 12 11) 2 17 + field (bits phys 10 9) 2 15 + field (bits phys 8 5) 4 11 +
    field (bits phys 4 0) 5 6

/-- The R36 entry of a pseudo-channel: parcel and physical number. -/
def pcEntry (phys : Nat) : Nat :=
  field 4 4 28 + field (bits phys 8 7) 2 17 + field (bits phys 6 5) 2 15 + field (bits phys 4 0) 5 6

/-- Retire a logical tile. -/
def State.retireTile (s : State) (t : Nat) : State :=
  let phys := s.muster.tileMap.getD t 0xFFFF
  let s := s.updTile t fun x => { x with retired := true }
  { s with
    faults := { s.faults with retired := addOnce s.faults.retired (tileEntry phys) }
    muster := { s.muster with retiredTiles := addOnce s.muster.retiredTiles phys } }

/-- Retire a logical pseudo-channel. -/
def State.retirePc (s : State) (k : Nat) : State :=
  let phys := s.muster.pcMap.getD k 0xFFFF
  let s := s.updPc k fun x => { x with retired := true }
  { s with
    faults := { s.faults with retired := addOnce s.faults.retired (pcEntry phys) }
    muster := { s.muster with retiredPcs := addOnce s.muster.retiredPcs phys } }

/-- PLANE_TAG of the active plane (R91): cell 0's. DEDUCED (log 63). -/
def Tile.planeTag (x : Tile) : Nat := ((if x.activeP1 then x.cells.plane1 else x.cells.plane0).getD 7 0).toNat % 2 ^ 32

/-- A tile stops FAULTED (R113) with a cause; the cuvee suffers the contained fault. -/
def State.faultTile (s : State) (t cause : Nat) (kind : Nat := 1) (arg0 arg1 : Nat := 0) : State :=
  let x := s.tile t
  let s := s.updTile t fun x => { x with act := .faulted, cause := cause, inEntry := false }
  let s := if x.act = .running then s.daybook x.cuvee 1 1 t x.entry x.runTag x.planeTag cause 0 else s
  if x.cuvee = 0 then s
  else if kind = 1 then s.containedFault x.cuvee 1 1 x.ctile cause x.entry 0
  else s.containedFault x.cuvee kind 1 x.ctile arg0 arg1 0 true

/-! ## TDIs (R385) and meter periods (R396–R399) -/

/-- FLR, RESET or RELEASE, or a change of a report-covered object: CONFIG_LOCKED and RUN become ERROR. -/
def State.tdiError (s : State) (c : Nat) : State :=
  s.updCuvee c fun v => if v.tdi = 1 || v.tdi = 2 then { v with tdi := 3 } else v

/-- The cuvee is metered (R397). -/
def CvState.metered : CvState → Bool
  | .bound | .running | .paused | .frozen | .saved | .resetting => true
  | _ => false

/-- The body of a meter record (R398): flags, END, and whether it closes. PREV_DIGEST is filled in when it is signed. -/
def State.meterBody (s : State) (c flags endRaw : Nat) (closing : Bool) : Blob :=
  let v := s.cuvee c
  let m := v.meter
  let uj := m.carry + (v.ledger.energy + 2 ^ 64 - m.energyMark) % 2 ^ 64
  let joules := if closing then ceilDiv uj 1000000 else uj / 1000000
  Blob.record [(4, 0x544D3947), (2, 1), (2, flags), (8, s.num 0xA008 c), (4, m.seq), (2, s.deviceId), (2, 0),
    (8, m.start.raw), (8, endRaw), (8, m.ns.floor.toNat), (8, m.tileSlots), (8, (m.pcNs / 1000000).floor.toNat),
    (8, m.hbm), (8, m.link), (8, m.host), (8, m.jobs), (4, joules), (28, 0), (64, Config.identityDigest),
    (64, 0)]

/-- ThrottleSummary of a meter period that ends now: the duration of each reason 2–6 in 10 ms units, rounded up (R372). -/
def State.throttleShown (s : State) (c : Nat) : List Nat :=
  (List.range 5).map fun k =>
    ((s.power.reasonNs.getD (k + 1) 0 - (s.cuvee c).thrMark.getD (k + 1) 0) / 10000000).ceil.toNat

/-- End cuvee c's meter period at the boundary now: its record falls due, and the next period begins (R396, R397).
DEDUCED (log 136). -/
def State.meterEnd (s : State) (c extra : Nat) (closing : Bool) : State :=
  let v := s.cuvee c
  let m := v.meter
  let body := s.meterBody c (m.flags ||| extra ||| (if closing then 2 else 0)) s.stamp closing
  let uj := m.carry + (v.ledger.energy + 2 ^ 64 - m.energyMark) % 2 ^ 64
  let shown := s.throttleShown c
  s.updCuvee c fun v => { v with thrSummary := shown, thrMark := s.power.reasonNs, meter := { m with
    due := m.due ++ [body], seq := (m.seq + 1) % 2 ^ 32, flags := 0, start := s.etime, ns := 0, tileSlots := 0
    pcNs := m.pcNs - ((m.pcNs / 1000000).floor : Int) * 1000000
    hbm := 0, link := 0, host := 0, jobs := 0, carry := uj % 1000000, energyMark := v.ledger.energy } }

/-- Metering begins at SEQ 0 with FLAGS OPENING, RESTORED for a restore, and CADENCE in an epoch that is not LOCKED (R398,
R399). DEDUCED (log 138). -/
def State.meterOpen (s : State) (c : Nat) (restored : Bool) : State :=
  s.updCuvee c fun v => { v with thrMark := s.power.reasonNs, meter := { (default : Meter) with
    flags := (if restored then 17 else 1) + (if s.cad.state = .locked then 0 else 8), start := s.etime, energyMark := v.ledger.energy, due := v.meter.due
    own := v.meter.own } }

end Sys2Proof.Machine
end

