-- ==== Sys2Proof/Machine/Almanac.lean ====
section
/-! DEFINITION. Machine/Almanac.lean: almanac rows and segments (R55–R69, R79), tile groups (R288), and the ledger that
admits rows (R354–R357, R359). -/

namespace Sys2Proof.Machine

/-! ## The row format (R58) -/

def rowValid (r : Nat) : Bool := bit r 127
def rowAction (r : Nat) : Nat := bits r 126 123
def rowSlot (r : Nat) : Nat := bits r 122 111
def rowMod (r : Nat) : Nat := bits r 110 103
def rowPhase (r : Nat) : Nat := bits r 102 95
def rowCuvee (r : Nat) : Nat := bits r 94 87
def rowGroup (r : Nat) : Nat := bits r 86 79
def rowOperand (r : Nat) : Nat := bits r 78 55
def rowEnergy (r : Nat) : Nat := energyOf (bits r 54 39)
def rowDlSlot (r : Nat) : Nat := bits r 38 27
def rowDlEpochs (r : Nat) : Nat := bits r 26 23
def rowReserve (r : Nat) : Bool := bit r 22
def rowSkipBusy (r : Nat) : Bool := bit r 21
def rowDeferMax (r : Nat) : Nat := bits r 20 16
def rowTag (r : Nat) : Nat := bits r 15 0

/-- A row from its fields (R58), MSB first. -/
def makeRow (action slot md phase c tgroup operand energy dlSlot dlEpochs : Nat) (reserve skipBusy : Bool)
    (deferMax tag : Nat) : Nat :=
  2 ^ 127 + field action 4 123 + field slot 12 111 + field md 8 103 + field phase 8 95 + field c 8 87 +
    field tgroup 8 79 + field operand 24 55 + field energy 16 39 + field dlSlot 12 27 + field dlEpochs 4 23 +
    field (b2n reserve) 1 22 + field (b2n skipBusy) 1 21 + field deferMax 5 16 + field tag 16 0

/-- The row has a deadline (R61). -/
def rowHasDeadline (r : Nat) : Bool := decide (rowDlSlot r ≠ 0 ∨ rowDlEpochs r ≠ 0)

/-! ## Tile groups (R288) -/

/-- A group entry of cuvee c. -/
def State.groupEntry (s : State) (c g : Nat) : Nat := (s.cuvee c).serving.groups.getD g 0
/-- The group is defined; 0xFF is every tile (R58). -/
def State.groupDefined (s : State) (c g : Nat) : Bool := g == 255 || bit (s.groupEntry c g) 63
/-- Cuvee-relative members of a group entry. -/
def groupMembers (e : Nat) : List Nat := (List.range (bits e 43 32)).map fun i => bits e 10 0 + i * bits e 26 16
/-- Logical tiles of a group. -/
def State.groupTiles (s : State) (c g : Nat) : List Nat :=
  let ts := s.cvTiles c
  if g = 255 then ts else (groupMembers (s.groupEntry c g)).filterMap fun n => ts[n]?

/-- A tile is busy while RUNNING or HELD (R64, R103). -/
def Tile.busy (t : Tile) : Bool := t.act == .running || t.act == .held
/-- A group is busy when any of its tiles is. -/
def State.groupBusy (s : State) (c g : Nat) : Bool := (s.groupTiles c g).any fun t => (s.tile t).busy

/-! ## Segments (R55, R79) -/

/-- Cuvee c's segment. -/
def State.seg (s : State) (c : Nat) : Segment := s.alm.segs.getD c default
/-- Change it. -/
def State.updSeg (s : State) (c : Nat) (f : Segment → Segment) : State :=
  { s with alm := { s.alm with segs := s.alm.segs.set default c (f (s.seg c)) } }
/-- First row of the current page. -/
def Segment.current (g : Segment) : Nat := if g.curPage then g.base + g.length else g.base
/-- First row of the next page. -/
def Segment.nextPage (g : Segment) : Nat := if g.curPage then g.base else g.base + g.length
/-- A row of the almanac. -/
def State.row (s : State) (i : Nat) : Nat := s.alm.rows.getD i 0
/-- Write a row. -/
def State.setRow (s : State) (i r : Nat) : State := { s with alm := { s.alm with rows := s.alm.rows.set 0 i r } }

/-- Count rows skipped by R65, R66 or R68 (R79). -/
def State.countSkip (s : State) (c : Nat) : State := s.updSeg c fun g => { g with skipped := (g.skipped + 1) % 2 ^ 64 }
/-- Count an overrun (R64, R79). -/
def State.countOverrun (s : State) (c : Nat) : State :=
  s.updSeg c fun g => { g with overruns := (g.overruns + 1) % 2 ^ 32 }
/-- Count a malformed row (R60, R79). -/
def State.countMalformed (s : State) (c : Nat) : State :=
  s.updSeg c fun g => { g with malformed := (g.malformed + 1) % 2 ^ 32 }

/-- What R60 and R59 say of a row by itself, in the segment of cuvee c. -/
def rowAloneBad (c r : Nat) : Bool :=
  let a := rowAction r
  let op := rowOperand r
  let estateRow := c == 0
  let place := match a with
    | 0 => true
    | 1 | 2 | 3 | 4 => !estateRow
    | 5 | 6 | 7 => estateRow
    | _ => false
  let operandBad := match a with
    | 1 => bits op 23 10 ≠ 0
    | 2 => bits op 23 7 ≠ 0
    | 3 => bits op 11 10 ≠ 0
    | 4 => bits op 23 10 ≠ 0
    | 6 => bits op 11 2 ≠ 0 || bits op 1 0 = 3 || (bits op 1 0 ≠ 2 && bits op 23 12 ≠ 0)
    | _ => op ≠ 0
  let cuveeBad := if a = 6 then
      (if bits op 1 0 = 0 then rowCuvee r = 0 || rowCuvee r = 255 else rowCuvee r ≠ 0)
    else if estateRow then rowCuvee r = 255 else rowCuvee r ≠ c
  let groupBad := a ≠ 1 && a ≠ 2 && rowGroup r ≠ 0
  let deadlineBad := rowHasDeadline r && rowDlEpochs r = 0 && rowDlSlot r ≤ rowSlot r
  !place || rowMod r < rowPhase r || operandBad || cuveeBad || groupBad || deadlineBad

/-- A valid row at position i of the current page of c's segment is malformed (R60); estate rows 0 and 1 are outside the
order (R56). -/
def State.rowMalformed (s : State) (c i r : Nat) : Bool :=
  let g := s.seg c
  let first := if c = 0 then 2 else 0
  let disorder := decide (first ≤ i) && (List.range i).any fun j =>
    let q := s.row (g.current + j)
    decide (first ≤ j) && rowValid q && decide (rowSlot r < rowSlot q)
  rowAloneBad c r || disorder ||
    ((rowAction r == 1 || rowAction r == 2) && !s.groupDefined c (rowGroup r))

/-- A row is due in the epoch in progress (R62); the HARVEST row waits out a change (R405). -/
def State.rowDue (s : State) (r : Nat) : Bool :=
  decide (s.time.e % 2 ^ 40 % (rowMod r + 1) = rowPhase r) &&
    !(rowAction r == 5 && decide (s.time.epochs < s.alm.harvestNotBefore))

/-- R66, R68 and R452: whether the cuvee's state fires an action. -/
def State.rowFires (s : State) (c r : Nat) : Bool :=
  if c = 0 then true
  else if s.faults.estateState = 2 then false
  else
    let lost := s.cad.state == .cadenceLost && (rowAction r == 1 || rowAction r == 3)
    match (s.cuvee c).state with
    | .running => !lost
    | .paused => rowAction r == 4 || rowAction r == 0
    | _ => false

/-! ## The ledger (R354–R357) -/

/-- EnergyShare's fields (R374). -/
def State.share (s : State) (c : Nat) : Nat := bits (s.num 0x2011 c) 15 0
def State.reserve16 (s : State) (c : Nat) : Nat := bits (s.num 0x2011 c) 23 16
def State.depthSlots (s : State) (c : Nat) : Nat := bits (s.num 0x2011 c) 63 32

/-- One slot's credit in 1/256 µJ, exactly (R355). DESIGN CHOICE (log 120). -/
def State.credit (s : State) (c : Nat) : Rat := (s.share c : Nat) * s.time.epochLen * 256 / (4096 * 1000)
/-- The general bucket's depth D and the reserve's part of it, in whole 1/256 µJ (R355). DESIGN CHOICE (log 120). -/
def State.depth (s : State) (c : Nat) : Int := (s.credit c * (s.depthSlots c : Nat)).floor
/-- DESIGN CHOICE (log 120). -/
def State.reserveDepth (s : State) (c : Nat) : Int := (s.credit c * (s.depthSlots c : Nat) * (s.reserve16 c : Nat) / 16).floor

/-- Change cuvee c's ledger. -/
def State.updLedger (s : State) (c : Nat) (f : LedgerC → LedgerC) : State :=
  s.updCuvee c fun v => { v with ledger := f v.ledger }

/-- Accrue one slot's credit (R355). -/
def State.accrue (s : State) (c : Nat) : State :=
  let cr := s.credit c
  let part := cr * (s.reserve16 c : Nat) / 16
  let l := (s.cuvee c).ledger
  let r := part + l.resRem
  let g := (cr - part) + l.genRem
  let res := l.res + r.floor
  let spill := max 0 (res - s.reserveDepth c)
  let gen := l.gen + g.floor + spill
  s.updLedger c fun l =>
    { l with res := res - spill, gen := min gen (s.depth c), resRem := r - (r.floor : Int), genRem := g - (g.floor : Int) }

/-- Both buckets full (R355). -/
def State.fillBuckets (s : State) (c : Nat) : State :=
  s.updLedger c fun l => { l with gen := s.depth c, res := s.reserveDepth c, genRem := 0, resRem := 0 }

/-- The charge of a row in whole µJ: its estimate × k_c / 256, rounded up (R356). -/
def State.charge (s : State) (c r : Nat) : Nat := ceilDiv (rowEnergy r * (s.cuvee c).ledger.k) 256

/-- Rows that pass the ledger uncharged (R356). -/
def uncharged (c r : Nat) : Bool := c == 0 || rowEnergy r == 0 || rowAction r == 6

/-- Queue a row for issue (R62): its BEGIN record comes when it is issued. -/
def State.queueRow (s : State) (x : RowInst) : State := { s with alm := { s.alm with issue := s.alm.issue ++ [x] } }

/-- Charge a row to its buckets and queue it: RESERVE rows draw on the reserve first (R357). -/
def State.admitRow (s : State) (x : RowInst) : State :=
  let cost : Int := (s.charge x.seg x.row : Nat) * 256
  let l := (s.cuvee x.seg).ledger
  let fromR := if rowReserve x.row then min cost (max 0 l.res) else 0
  let s := s.updLedger x.seg fun l =>
    { l with res := l.res - fromR, gen := l.gen - (cost - fromR), curE := l.curE + rowEnergy x.row }
  s.queueRow { x with chargeR := fromR, chargeG := cost - fromR }

/-- Refund a row that R64 or R65 skips (R356). -/
def State.refund (s : State) (x : RowInst) : State :=
  if uncharged x.seg x.row then s
  else s.updLedger x.seg fun l =>
    { l with res := l.res + x.chargeR, gen := l.gen + x.chargeG, curE := l.curE - rowEnergy x.row }

/-- The buckets cover a row, or the general bucket is full (R357). -/
def State.covers (s : State) (x : RowInst) : Bool :=
  let l := (s.cuvee x.seg).ledger
  let cost : Int := (s.charge x.seg x.row : Nat) * 256
  let full := decide (s.depth x.seg ≤ l.gen)
  if rowReserve x.row then decide (cost ≤ l.res + l.gen) || full
  else !(s.alm.deferred.any fun y => y.seg == x.seg) && (decide (cost ≤ l.gen) || full)

/-- The deferral of a row has reached its limit (R357): DEFER_MAX, or slot 4,095 of the epoch after its own. -/
def State.deferSpent (s : State) (x : RowInst) : Bool :=
  (rowDeferMax x.row != 31 && decide (rowDeferMax x.row ≤ x.deferred)) ||
    decide ((x.dueAt / 4096 + 1) * 4096 + 4095 ≤ s.slotCount)

/-- The row that the ledger takes next cannot be admitted and cannot wait either: DEFER_LIMIT must act (R357). -/
def State.limitDue (s : State) : Option RowInst :=
  match s.alm.present with
  | [] => none
  | x :: _ =>
    if s.rowFires x.seg x.row && !uncharged x.seg x.row && !s.covers x &&
      (s.deferSpent x || decide (1024 ≤ s.alm.deferred.length)) then some x else none

/-- Drop the first row of those presented. -/
def State.popPresent (s : State) : State := { s with alm := { s.alm with present := s.alm.present.tail } }

/-- Take the first presented row: admitted, deferred one more slot, or dropped and counted as skipped (R356, R357). A row
at its limit is left for DEFER_LIMIT. -/
def State.presentOne (s : State) (x : RowInst) : State :=
  if !s.rowFires x.seg x.row then s.popPresent.countSkip x.seg
  else if uncharged x.seg x.row then s.popPresent.queueRow x
  else if s.covers x then s.popPresent.admitRow x
  else if (s.limitDue).isSome then s
  else
    let s := s.popPresent
    let s := if x.deferred = 0 then s.updLedger x.seg fun l => { l with defers := (l.defers + 1) % 2 ^ 64 } else s
    { s with alm := { s.alm with deferred := s.alm.deferred ++ [{ x with deferred := x.deferred + 1 }] } }

/-- Take presented rows until none is left or one stands at its limit. DEDUCED (log 117). -/
def State.presentAll : Nat → State → State
  | 0, s => s
  | n + 1, s =>
    match s.alm.present with
    | [] => s
    | x :: _ => if (s.limitDue).isSome then s else State.presentAll n (s.presentOne x)

/-- DEFER_LIMIT: the row at its limit is admitted and charged, whatever that makes of the bucket (R357); then the rows
after it are taken. -/
def State.deferLimit (s : State) (c idx : Nat) : State :=
  match s.limitDue with
  | none => s
  | some x =>
    if x.seg ≠ c || x.idx ≠ idx then s else
    let full := !s.deferSpent x
    let s := s.popPresent.admitRow x
    let s := if full then s.updLedger c fun l => { l with overflow := (l.overflow + 1) % 2 ^ 32 } else s
    State.presentAll s.alm.present.length s

/-- Force every row still at its limit, so that no slot begins with rows of the slot before (R357). -/
def State.presentFinish : Nat → State → State
  | 0, s => s
  | n + 1, s =>
    match s.limitDue with
    | none => State.presentAll (s.alm.present.length) s
    | some x => State.presentFinish n (s.deferLimit x.seg x.idx)

/-! ## Reconciliation (R359) -/

/-- The value of a positive or zero FP32 pattern, exactly. -/
def f32Value (w : Nat) : Rat :=
  let e := bits w 30 23
  let m := bits w 22 0
  if e = 0 then (m : Rat) / 2 ^ 149
  else if e < 150 then ((2 ^ 23 + m : Nat) : Rat) / 2 ^ (150 - e)
  else ((2 ^ 23 + m : Nat) : Rat) * 2 ^ (e - 150)

/-- The price in pJ of one unit of field k of R408's counters: MAC_8 to PLANE_LOADS from EnergyPerOp, HBM_BYTES to
HOST_BYTES from EnergyPerByte (R116, R359, R360). DESIGN CHOICE (log 157). -/
def counterPrice (k : Nat) : Rat :=
  match k with
  | 2 => f32Value (Config.energyPerOp 1).toNat
  | 3 => f32Value (Config.energyPerOp 2).toNat
  | 4 => f32Value (Config.energyPerOp 3).toNat
  | 5 => f32Value (Config.energyPerOp 4).toNat
  | 6 => f32Value (Config.energyPerOp 5).toNat
  | 7 => f32Value (Config.energyPerOp 6).toNat
  | 8 => f32Value (Config.energyPerOp 7).toNat
  | 9 => f32Value (Config.energyPerOp 8).toNat
  | 10 => f32Value (Config.energyPerByte 1).toNat
  | 11 => f32Value (Config.energyPerByte 2).toNat
  | 12 => f32Value (Config.energyPerByte 3).toNat
  | 13 => f32Value (Config.energyPerByte 4).toNat
  | 14 => f32Value (Config.energyPerByte 5).toNat
  | 15 => f32Value (Config.energyPerByte 6).toNat
  | _ => 0

/-- The activity energy of the counter increments of an interval, in µJ, exactly. -/
def activityOf (now before : List Nat) : Rat :=
  ((List.range 16).map fun k =>
    (((now.getD k 0 + 2 ^ 64 - before.getD k 0) % 2 ^ 64 : Nat) : Rat) * counterPrice k).sum / 1000000

/-- CORRECTION_UPDATE's new k_c (R359): a quarter of the way to r_c, ties up, within 64–1,024. -/
def correctedK (k sumA sumE : Nat) : Nat :=
  if sumE = 0 then k
  else
    let r : Rat := (256 * sumA : Nat) / (sumE : Rat)
    let x : Rat := k + (r - k) / 4
    (max 64 (min 1024 (x + 1 / 2).floor)).toNat

end Sys2Proof.Machine
end

