-- ==== Sys2Proof/Machine/Cadence.lean ====
section
/-! DEFINITION. Machine/Cadence.lean: the reference, its acceptance, the cadence states and the length of an epoch
(R41–R52, R514). -/

namespace Sys2Proof.Machine

/-- An outcome of the block. -/
abbrev Result := Host.Outcome State Fault Refusal

/-- Change the cadence record. -/
def State.updCad (s : State) (f : CadenceSt → CadenceSt) : State := { s with cad := f s.cad }

/-- A rational rounded to an integer where the manual states no rounding: one of the two neighbours, freely.
DESIGN CHOICE (log 15). -/
def State.roundOpen (s : State) (x : Rat) : Int × State :=
  let between := decide (((x.floor : Int) : Rat) ≠ x)
  (x.floor + (if between then Config.freeNat s.free % 2 else 0 : Nat), { s with free := s.free + b2n between })

/-- The measured reference interval I (R514). -/
def State.interval (s : State) : Rat :=
  match s.cad.source with
  | 0 => match s.cad.presented with
    | a :: b :: _ => a - b
    | _ => (s.num 0x2000 3 : Nat) * s.cad.intervals.headD 0
  | 1 => (s.num 0x2000 2 : Nat)
  | _ => s.cad.peerLen.getD 0

/-- Four consecutive intervals agree to 1/256 and each lies between 50 µs and 1 s (R49). -/
def intervalsAgree (l : List Rat) : Bool :=
  match l with
  | [a, b, c, d] =>
    let hi := max (max a b) (max c d)
    let lo := min (min a b) (min c d)
    decide (hi - lo ≤ lo / 256) && decide (50000 ≤ lo) && decide (hi ≤ 1000000000)
  | _ => false

/-- ReferencePresent takes a value (R49): in FLYWHEEL its rise enters SLEWING. -/
def State.setPresent (s : State) (b : Bool) : State :=
  s.updCad fun c =>
    { c with present := b, state := if b && !c.present && c.state == .flywheel then .slewing else c.state }

/-- Enter LOCKED; LockTime stamps an entry (R47, R78). -/
def State.enterLocked (s : State) : State :=
  s.updCad fun c => if c.state = .locked then c else { c with state := .locked, lockTime := s.etime }

/-- The device boundary whose window holds an instant, as its count of R54, with its instant (R46): the boundary that
began the epoch in progress, or the one that will end it. -/
def State.windowOf (s : State) (t : Instant) : Option (Nat × Instant) :=
  let b0 := s.time.epochStart
  let b1 := s.time.epochStart + s.time.epochLen
  if b0 - s.time.prevLen / 64 ≤ t ∧ t ≤ b0 + s.time.prevLen / 64 then some (s.time.epochs, b0)
  else if b1 - s.time.epochLen / 64 ≤ t ∧ t ≤ b1 + s.time.epochLen / 64 then some (s.time.epochs + 1, b1)
  else none

/-- A reference boundary that is not accepted; a source-0 one counts in RejectedEdges (R46). -/
def State.discardReference (s : State) : State :=
  if s.cad.source = 0 then s.updCad fun c => { c with rejected := (c.rejected + 1) % 2 ^ 32 } else s

/-- The state in which acceptance pairs boundaries (R46). -/
def CadState.tracks : CadState → Bool
  | .locked | .slewing | .flywheel | .cadenceLost => true
  | _ => false

/-- The instant at which first lock ends the epoch in progress (R51): the accepted reference boundary, or, where it is
known only after the event (a peer's), the first predicted one (R45) that has not passed. DEDUCED (log 170). -/
def State.lockInstant (s : State) (t i : Rat) : Instant :=
  if s.time.now ≤ t || i ≤ 0 then max t s.time.now else t + (((s.time.now - t) / i).ceil : Int) * i

/-- The source presents a reference boundary at instant t (R46, R51). DESIGN CHOICE (log 168). -/
def State.referenceBoundary (s : State) (t : Instant) : State :=
  let s := s.updCad fun c => { c with lastPresented := some t }
  if s.cad.state = .unlocked then
    if s.cad.present && s.time.lockCut.isNone then
      { s with time := { s.time with lockCut := some (s.lockInstant t s.interval), lockLen := some s.interval } }
    else s.discardReference
  else if !s.cad.state.tracks || !s.cad.present then s.discardReference
  else match s.windowOf t with
    | none => s.discardReference
    | some (n, b) =>
      if s.cad.paired = some n then s.discardReference
      else
        let r := s.roundOpen ((t - b) * 16777216 / s.time.epochLen)
        let s := r.2.updCad fun c => { c with accepted := some (t, n), paired := some n, phaseError := r.1, flywheel := 0 }
        if s.cad.state = .cadenceLost then s else s.enterLocked

/-- A counted edge meets the divider: the first and every CadenceDivider-th after it present a boundary (R514). -/
def State.dividedEdge (s : State) (t : Instant) : State :=
  if s.cad.source ≠ 0 then s else
  let presents := s.cad.divCount % max 1 (s.num 0x2000 3) = 0
  let s := s.updCad fun c => { c with divCount := c.divCount + 1 }
  if presents then
    (s.updCad fun c => { c with presented := (t :: c.presented).take 2 }).referenceBoundary t
  else s

/-- CADENCE_EDGE: a rising edge of CADENCE_P/N at t (R44, R49, R514). The divider's count and the reference's presence begin
with cadence acquisition. DEDUCED (log 163). -/
def State.cadenceEdge (s : State) (t : Instant) : State :=
  let s := s.at_ t
  match s.cad.lastEdge with
  | some e =>
    if t - e < 50000 then s.updCad fun c => { c with rejected := (c.rejected + 1) % 2 ^ 32 }
    else
      let s := s.updCad fun c => { c with lastEdge := some t, intervals := ((t - e) :: c.intervals).take 4 }
      if !s.time.running then s
      else
        let s := if s.cad.source ≠ 0 then s
          else if intervalsAgree s.cad.intervals then s.setPresent true
          else if 1000000000 < t - e then s.setPresent false else s
        s.dividedEdge t
  | none =>
    let s := s.updCad fun c => { c with lastEdge := some t }
    if !s.time.running then s else s.dividedEdge t

def execCadenceEdge (t : Instant) (s : State) : Result := .next (s.cadenceEdge t)

/-- The condition of R42: SLAVE, and 16 consecutive Syncs measured below 1 µs (a message outside SLAVE restarts the run). -/
def CadenceSt.ptpGood (c : CadenceSt) : Bool := decide (16 ≤ c.goodSyncs)

/-- The condition of R43: the port named is UP and carries TIME messages, of two of the peer's epochs at least, so that its
epoch length is known (R514). DEDUCED (log 173). -/
def State.peerGood (s : State) : Bool := (s.port (s.num 0x2000 7)).up && s.cad.peerLen.isSome

/-- Port k no longer carries time: what it brought as the source port is gone, and source 2 loses its reference (R43, R49).
DEDUCED (log 173). -/
def State.peerGone (s : State) (k : Nat) : State :=
  if k ≠ s.num 0x2000 7 then s
  else
    let s := s.updCad fun c => { c with peerBoundary := none, peerLen := none }
    if s.cad.source = 2 then s.setPresent false else s

/-- The offset from the master that a message completes (R42): Sync arrival less origin, less the path delay.
PRESUMED (log 171). -/
def CadenceSt.ptpMeasured (c : CadenceSt) (m : PtpMsg) : Option Rat :=
  match m.kind with
  | .sync false => some (m.received - m.carried - c.ptpDelay)
  | .followUp => match c.ptpSync with
    | some (n, t2) => if n = m.seq then some (t2 - m.carried - c.ptpDelay) else none
    | none => none
  | _ => none

/-- What the slave-only port keeps of a message: a two-step Sync waits for its Follow_Up; each offset measured sends a
Delay_Req; its answer gives the path delay as half of the two one-way times (R42). PRESUMED (log 171). -/
def CadenceSt.ptpStep (c : CadenceSt) (m : PtpMsg) : CadenceSt :=
  let c := { c with ptpSlave := m.slave, ptpOffset := m.ptpTime - m.at_ }
  if !m.slave then { c with goodSyncs := 0, ptpSync := none, ptpReq := none }
  else match c.ptpMeasured m, m.kind with
    | some o, _ =>
      { c with
        goodSyncs := if -1000 < o ∧ o < 1000 then c.goodSyncs + 1 else 0
        ptpSync := none, ptpReq := some (m.seq, o + c.ptpDelay, m.ptpTime) }
    | none, .sync _ => { c with ptpSync := some (m.seq, m.received) }
    | none, .delayResp => match c.ptpReq with
      | some (n, down, t3) =>
        if n = m.seq then { c with ptpDelay := (down + (m.carried - t3)) / 2, ptpReq := none } else c
      | none => c
    | none, _ => c

/-- PTP_MESSAGE (R41, R42): the servo follows, ReferencePresent follows for source 1, and a PTP instant that is a whole
multiple of EpochPeriod from the origin presents a boundary. PRESUMED (log 171). -/
def State.ptpMessage (s : State) (m : PtpMsg) : State :=
  if m.domain ≠ s.num 0x2000 4 then s else
  let s := s.at_ m.at_
  let asks := m.slave && (s.cad.ptpMeasured m).isSome
  let s := s.updCad fun c => c.ptpStep m
  let s := if asks then { s with out := s.out ++ [.ptpDelayReq m.seq] } else s
  if s.cad.source ≠ 1 then s else
  let s := s.setPresent s.cad.ptpGood
  match m.boundary with
  | none => s
  | some t =>
    let n := (t + s.cad.ptpOffset - (s.num 0x2000 5 : Nat)) / (s.num 0x2000 2 : Nat)
    if s.time.running && ((n.floor : Int) : Rat) = n then s.referenceBoundary t else s

def execPtpMessage (m : PtpMsg) (s : State) : Result := .next (s.ptpMessage m)

/-- A counted edge has come within 1 + 1/32 of the most recent interval before t (R49). -/
def CadenceSt.edgesLive (c : CadenceSt) (t : Instant) : Bool :=
  match c.lastEdge, c.intervals with
  | some e, i :: _ => decide (t < e + i * 33 / 32)
  | _, _ => false

/-- REFERENCE_TIMEOUT (R49): for source 0 when no counted edge has come for 1 + 1/32 of the last interval; for source 1 when
the master has fallen silent, so that the port leaves SLAVE; for source 2 when the port named has carried no TIME for an
epoch of the peer. DESIGN CHOICE (log 172). -/
def State.referenceTimeout (s : State) (t : Instant) : State :=
  let s := s.at_ t
  match s.cad.source with
  | 0 => if s.cad.edgesLive t || s.cad.intervals.isEmpty then s else s.setPresent false
  | 1 =>
    (s.updCad fun c => { c with ptpSlave := false, goodSyncs := 0, ptpSync := none, ptpReq := none }).setPresent false
  | _ =>
    let k := s.num 0x2000 7
    if s.peerGood && decide (t < (s.port k).lastPhaseAt + s.cad.peerLen.getD 0) then s else s.peerGone k

def execReferenceTimeout (t : Instant) (s : State) : Result := .next (s.referenceTimeout t)

/-- The count after a missed boundary that leaves the state FLYWHEEL, and CADENCE_LOST at the limit (R48). -/
def State.flywheelRise (s : State) : State :=
  s.updCad fun c =>
    let n := c.flywheel + 1
    if s.num 0x2000 8 ≤ n then
      { c with flywheel := n, state := .cadenceLost, lostCount := (c.lostCount + 1) % 2 ^ 32 }
    else { c with flywheel := n, state := .flywheel }

/-- The window of the boundary that began the epoch in progress is open and holds no accepted boundary (R46). -/
def State.boundaryMissable (s : State) : Bool :=
  s.time.running && s.cad.state.tracks && !s.cad.windowClosed &&
    decide (s.cad.paired ≠ some s.time.epochs)

/-- MISSED_BOUNDARY (R46–R48): the window closes without an accepted reference boundary. DEDUCED (log 226). -/
def State.missedBoundary (s : State) : State :=
  if !s.boundaryMissable then s else
  let s := s.at_ (s.time.epochStart + s.time.prevLen / 64)
  let s := s.updCad fun c => { c with windowClosed := true, missed := (c.missed + 1) % 2 ^ 32 }
  match s.cad.state with
  | .locked | .slewing =>
    if s.cad.present then s.updCad fun c => { c with state := .slewing } else s.flywheelRise
  | .flywheel => s.flywheelRise
  | _ => s

/-- An epoch that is not LOCKED marks the meter period and the harvest interval it belongs to (R398, R407). -/
def State.markUnlocked (s : State) : State :=
  if s.cad.state = .locked then s
  else
    let s := { s with obs := { s.obs with flags := s.obs.flags ||| 1 } }
    s.each (s.existing.filter fun c => (s.cuvee c).state.metered) fun s c =>
      s.updCuvee c fun v => { v with meter := { v.meter with flags := v.meter.flags ||| 8 } }

def execMissedBoundary (s : State) : Result := .next (if s.boundaryMissable then s.missedBoundary.markUnlocked else s)

/-! ## At the boundary (R45, R50–R52) -/

/-- The predicted reference boundary that follows the one nearest to b (R45). -/
def steerTarget (r i b : Rat) : Rat := r + (((b - r) / i + 1 / 2).floor + 1 : Int) * i

/-- A new length, within 1/64 of the previous one (R45). -/
def withinSixtyFourth (prev new : Rat) : Rat := max (prev * 63 / 64) (min (prev * 65 / 64) new)

/-- First lock cuts the epoch in progress at this instant (R51): one that lies beyond its end cuts the epoch it falls in.
DEDUCED (log 13). -/
def State.cutHere (s : State) : Option Instant :=
  s.time.lockCut.filter fun t => decide (t ≤ s.time.epochStart + s.time.epochLen)

/-- The instant of the boundary that ends the epoch in progress (R38, R51). -/
def State.boundaryAt (s : State) : Instant := s.cutHere.getD (s.time.epochStart + s.time.epochLen)

/-- No further slot of the epoch in progress fires: the last one has, or the cut comes before the next (R51).
DEDUCED (log 13). -/
def State.epochSpent (s : State) : Bool :=
  decide (4095 ≤ s.time.slot) || match s.cutHere with
    | some t => decide (t ≤ s.slotStart (s.time.slot + 1))
    | none => false

/-- The length of the epoch that the boundary now reached begins (R45, R51, R52). The state is the one before the boundary:
`epochs` still counts the boundary before. -/
def State.nextLength (s : State) : Rat :=
  let b := s.boundaryAt
  let i := s.interval
  let prev := s.time.epochLen
  match s.cutHere, s.time.lockLen with
  | some _, some l => l
  | _, _ =>
    if s.cad.state = .unlocked then (s.num 0x2000 2 : Nat)
    else
      let acc := match s.cad.accepted with
        | some (t, n) => if s.cad.state.tracks && s.time.epochs ≤ n then some t else none
        | none => none
      let slew := match s.cad.lastPresented with
        | some t => if s.cad.state = .slewing ∧ s.time.epochStart ≤ t then some t else none
        | none => none
      match acc, slew with
      | some r, _ => if i ≤ 0 then prev else withinSixtyFourth prev (steerTarget r i b - b)
      | none, some r => if i ≤ 0 then prev else withinSixtyFourth prev (steerTarget r i b - b)
      | none, none => prev

/-- E at first lock and at ADOPT_EPOCH, at the boundary that began the epoch in progress (R52). -/
def State.adoptedE (s : State) : Nat :=
  match s.cad.source with
  | 0 => s.num 0x2000 6
  | 1 =>
    let n := (s.time.epochStart + s.cad.ptpOffset - (s.num 0x2000 5 : Nat)) / (s.num 0x2000 2 : Nat)
    ((n + 1 / 2).floor % (2 ^ 40 : Nat)).toNat
  | _ => match s.cad.peerBoundary, s.cad.peerLen with
    | some b, some l =>
      if l ≤ 0 then s.cad.peerE
      else (((s.cad.peerE : Int) + ((s.time.epochStart - b) / l + 1 / 2).floor) % (2 ^ 40 : Nat)).toNat
    | _, _ => s.cad.peerE

/-- E jumps (R52): the stamp of FLAGS, and what follows a jump elsewhere, hang on `jumped`. DEDUCED (log 17). -/
def State.jumpE (s : State) : State :=
  let e := s.adoptedE
  { s with time := { s.time with e := e, jumped := decide (e ≠ s.time.e) || s.time.jumped } }

/-- Legality of a CadenceCommand (R50): 0 accepted, else STATE_CONFLICT. -/
def State.cadenceCommandOk (s : State) (code : Nat) : Bool :=
  let busy := s.cuvees.any fun e => e.2.live
  match code, s.cad.state with
  | 1, .cadenceLost | 1, .freeRun => s.cad.present
  | 1, _ => false
  | 2, .unlocked | 2, .flywheel | 2, .cadenceLost => true
  | 2, _ => false
  | 3, st =>
    (st == .unlocked || !busy) && (s.num 0x2000 1 == 0 || s.cad.present)
  | _, _ => false

/-- An accepted CadenceCommand acts (R50). -/
def State.cadenceCommandAct (s : State) (code : Nat) : State :=
  match code with
  | 1 => s.updCad fun c => { c with state := .slewing, flywheel := 0 }
  | 2 => s.updCad fun c => { c with state := .freeRun, flywheel := 0 }
  | 3 => s.jumpE
  | _ => s

/-- The divider count restarts (R514). DEDUCED (log 21). -/
def State.restartDivider (s : State) : State := s.updCad fun c => { c with divCount := 0, presented := [] }

/-- ReferencePresent of the source in force, as its condition stands (R49). DESIGN CHOICE (log 14, 169). -/
def State.presentNow (s : State) : Bool :=
  match s.cad.source with
  | 0 => intervalsAgree s.cad.intervals && s.cad.edgesLive s.time.now
  | 1 => s.cad.ptpGood
  | _ => s.peerGood

/-- R70 step 4: a change of source takes effect (R51). DEDUCED (log 21). -/
def State.sourceChange (s : State) : State :=
  let src := s.num 0x2000 1
  if s.cad.source = src then s else
  let s := s.updCad fun c =>
    { c with source := src, flywheel := 0, accepted := none, lastPresented := none, present := false
             state := match c.state with
               | .cadenceLost => .cadenceLost
               | .unlocked => .unlocked
               | _ => .flywheel }
  let s := if src = 0 then s.restartDivider else s
  s.setPresent s.presentNow

end Sys2Proof.Machine
end

