-- ==== Sys2Proof/Machine/TileBase.lean ====
section
/-! DEFINITION. Machine/TileBase.lean: what the rest of the device does to a tile: plane loads (R90, R111), random streams
(R137, R138), holding, resuming, squashing and zeroing a tile (R110, R115, R252, R259). -/

namespace Sys2Proof.Machine

/-! ## Stochastic streams (R137, R138) -/

/-- One step of a stream's generator (R137). -/
def rngStep (s : Word64) : Word64 :=
  let s := s ^^^ (s <<< 13)
  let s := s ^^^ (s >>> 7)
  s ^^^ (s <<< 17)

/-- n steps. -/
def rngSteps : Nat → Word64 → Word64
  | 0, s => s
  | n + 1, s => rngSteps n (rngStep s)

/-- The state of cell k's stream when it has been seeded: sixteen steps taken (R138). -/
def rngSeed (seed ctile k emix : Nat) (resumed : Bool) : Word64 :=
  let s : Word64 := BitVec.ofNat 64 seed ^^^ (BitVec.ofNat 64 ctile <<< 48) ^^^ (BitVec.ofNat 64 k <<< 43) ^^^
    BitVec.ofNat 64 (emix % 2 ^ 40) ^^^ (if resumed then (1 : Word64) <<< 42 else 0)
  rngSteps 16 (if s = 0 then 1 else s)

/-- Seed every stream of tile t: at a START_STEP, or at a resumption, when E counts in either mode (R138). -/
def State.seedStreams (s : State) (t : Nat) (resumed : Bool) : State :=
  let x := s.tile t
  let emix := if resumed || s.num 0x3091 x.cuvee = 1 then s.time.e else 0
  let rng := (List.range 32).map fun k => (k, rngSeed (s.num 0x3090 x.cuvee) x.ctile k emix resumed)
  s.setTile t { x with cells := { x.cells with rng := rng, draws := [] } }

/-! ## Plane loads (R90, R111) -/

/-- The words of plane image `img` in tile t's store: word w of cell k has key 32 × k + w. -/
def State.planeImage (s : State) (t img : Nat) : Sparse Word64 :=
  (List.range 1024).foldl (fun m i =>
    Sparse.set 0 m i (BitVec.ofNat 64 (ofBytes (s.storeRead t (img * 8192 + 8 * i) 8)))) []

/-- Write an image into plane 0 or 1 and note its index. -/
def State.loadInto (s : State) (t : Nat) (p1 : Bool) (img : Nat) : State :=
  let ws := s.planeImage t img
  s.updTile t fun x =>
    if p1 then { x with cells := { x.cells with plane1 := ws }, img1 := img }
    else { x with cells := { x.cells with plane0 := ws }, img0 := img }

/-- A plane load is asked for: it starts, or waits for the one in progress; a later one replaces the one that waits. -/
def Tile.askLoad (x : Tile) (img : Nat) : Tile :=
  match x.load with
  | none => { x with load := some img }
  | some _ => { x with loadNext := some img }

/-- PLANE_LOAD_DONE: the image is in the shadow plane; a load that waited starts (R111). -/
def State.planeLoadDone (s : State) (t : Nat) : State :=
  let x := s.tile t
  match x.load with
  | none => s
  | some img =>
    let s := s.loadInto t (!x.activeP1) img
    let s := s.updTile t fun x => { x with load := x.loadNext, loadNext := none }
    (s.tally x.cuvee 9 1).tally x.cuvee 7 8192

/-! ## What a tile shows -/

/-- The tile control word (R88). -/
def Tile.controlWord (x : Tile) : Nat := field x.stepBase 5 43 + field x.cuvee 8 24 + field x.ctile 11 13

/-- A TilePositionMap entry (R118); the tenant's names no cuvee. -/
def Tile.position (x : Tile) (own : Bool) : Nat :=
  field (b2n x.heldStart.isSome) 1 31 + field (b2n x.load.isSome) 1 30 + field (b2n x.activeP1) 1 29 +
    field x.entry 10 19 + field (if own then 0 else x.cuvee) 8 11 + field x.ctile 11 0

/-! ## Holding and resuming -/

/-- The tile stands at an entry boundary: running, with no entry's streams in progress. -/
def Tile.atBoundary (x : Tile) : Bool := x.act == .running && !x.inEntry

/-- A tile counts as held for a cut (R442): HELD, IDLE or FAULTED, with no plane load in progress. -/
def Tile.cutReady (x : Tile) : Bool := x.act != .running && x.load.isNone

/-- Hold a tile that stands at a boundary. DEDUCED (log 123). -/
def Tile.hold (x : Tile) : Tile := if x.atBoundary then { x with act := .held } else x

/-- A held tile goes on from its boundary, and a plane load held for it is issued (R252, R262). Its streams are reseeded. -/
def State.resumeTile (s : State) (t : Nat) : State :=
  let x := s.tile t
  let s := if x.act = .held then (s.updTile t fun x => { x with act := .running, progress := s.time.now }).seedStreams t true
    else s
  s.updTile t fun x =>
    match x.loadHeld with
    | some img => { x.askLoad img with loadHeld := none }
    | none => x

/-- Squash a tile mid-entry: its entry's partial results are dropped and nothing more is injected (R259). The daybook's
END record carries 0xFF. -/
def State.squashTile (s : State) (t : Nat) (act : TileAct) : State :=
  let x := s.tile t
  let s := if x.act = .running || x.act = .held then s.daybook x.cuvee 1 1 t x.entry x.runTag x.planeTag 0xFF 0 else s
  s.updTile t fun x =>
    { x with act := act, inEntry := false, fetched := false, flagTaken := false, queue := [], out := [], completing := [], path := default
             ended := false, load := none, loadNext := none, loadHeld := none
             heldStart := none, xfault := none }

/-- Zero a tile: store, planes, registers, accumulators, counters (R253, R259). Retirement stays. -/
def State.zeroTile (s : State) (t : Nat) : State :=
  let x := s.tile t
  let s := s.setTile t { Tile.init with retired := x.retired }
  s.setStore (zeroBytes s.mem.store (storeKey t 0) (2 ^ 20))

/-- Write the control word of tile t (R88, R242). -/
def State.bindTile (s : State) (t c n : Nat) : State := s.updTile t fun x => { x with cuvee := c, ctile := n }

/-- Every tile of a cuvee. -/
def State.eachTile (s : State) (c : Nat) (f : State → Nat → State) : State := s.each (s.cvTiles c) f

end Sys2Proof.Machine
end

