-- ==== Sys2Proof/Machine/Holiday.lean ====
section
/-! DEFINITION. Machine/Holiday.lean: quiesce, cut, apply tick and completion of a holiday (R252, R254, R262, R441–R447),
and what a cuvee's command record shows (R249). -/

namespace Sys2Proof.Machine

/-! ## CommandStatus (R249) -/

/-- Record an outcome of the command in CommandStatus. ACTED_AT is when it acted, or was dropped: a command that acted before
it is done keeps that moment. DEDUCED (log 204). -/
def State.cmdStatus (s : State) (c phase result cause : Nat) : State :=
  let t := s.etime
  s.updCuvee c fun v => { v with status := { v.status with
    phase := phase, result := result, cause := cause
    actedAt := if phase = 3 && v.status.phase = 2 then v.status.actedAt else t } }

/-- The same, only while CommandStatus still holds a command of that code in phase `acting`. DEDUCED (log 204). -/
def State.cmdStatusIf (s : State) (c code phase result cause : Nat) : State :=
  if (s.cuvee c).status.code = code && (s.cuvee c).status.phase = 2 then
    s.cmdStatus c phase result cause
  else s

/-! ## Scopes -/

/-- The number of a scope in a HOLIDAY row (R59). -/
def Scope.code : Scope → Nat
  | .cuvee _ => 0 | .estate => 1 | .group _ => 2

/-- This device's cuvee of a group (R336): at most one. -/
def State.groupCuvee (s : State) (g : Nat) : Option Nat :=
  if g = 0 then none else s.existing.find? fun c => s.group c == g

/-- The cuvees of a scope that are RUNNING or PAUSED (R441). -/
def State.scopeLive (s : State) (sc : Scope) : List Nat :=
  let l := match sc with
    | .cuvee c => [c]
    | .estate => s.existing
    | .group g => (s.groupCuvee g).toList
  l.filter fun c => (s.cuvee c).live

/-- The cuvees with a quiesce in progress that the scope names: a cuvee's own or re-binding holiday, the estate's, a
group's. -/
def State.scopeHeld (s : State) (sc : Scope) : List Nat :=
  match sc with
  | .cuvee c => match (s.cuvee c).quiesce with
    | some q => if q.scope = 0 || q.scope = 3 then [c] else []
    | none => []
  | .estate => s.existing.filter fun c => match (s.cuvee c).quiesce with
    | some q => q.scope == 1
    | none => false
  | .group g => s.existing.filter fun c => match (s.cuvee c).quiesce with
    | some q => q.scope == 2 && q.target == g
    | none => false

/-- Change a cuvee's quiesce. -/
def State.updQuiesce (s : State) (c : Nat) (f : Quiesce → Quiesce) : State :=
  s.updCuvee c fun v => { v with quiesce := v.quiesce.map f }

/-- How wide a scope is here: a plan's own quiesce, a cuvee's, a group's one cuvee with its links, the estate.
DEDUCED (log 202). -/
def scopeWidth (scope : Nat) : Nat := if scope = 3 then 0 else if scope = 0 then 1 else if scope = 2 then 2 else 3

/-- A quiesce of cuvee c falls due now (R442), with its FREEZE_CAUSE and limit. A RUNNING or PAUSED cuvee only. It widens one
not yet cut (R447), that of a plan too, whose cut is then the freeze's (R256); in the pause of a plan it freezes the cuvee
when that would resume. DEDUCED (log 202). -/
def State.callQuiesce (s : State) (c scope target cause : Nat) (limit : Instant) : State :=
  let v := s.cuvee c
  if !v.live then s
  else match v.quiesce with
    | some q =>
      if scope = 3 then s
      else if q.cutAt.isSome then
        s.updCuvee c fun v => { v with rebind := { v.rebind with
          freezeAfter := if v.rebind.freezeAfter = 0 then cause else v.rebind.freezeAfter } }
      else
        let wider := decide (scopeWidth q.scope < scopeWidth scope)
        s.updQuiesce c fun q => { q with
          scope := if wider then scope else q.scope, target := if wider then target else q.target
          cause := if q.cause = 0 then cause else q.cause
          limit := some (match q.limit with | some l => min l limit | none => limit) }
    | none => s.updCuvee c fun v => { v with
        quiesce := some ⟨scope, target, cause, some limit, false, none, none, false, [], false⟩, faultNext := false }

/-- RebindQuiesceLimit after now (R254, R262). -/
def State.quiesceBy (s : State) : Instant := s.time.now + (s.num 0x301E 1 : Nat)

/-- QUIESCE_START (R442): tiles at a boundary are held there and new entries wait; engines of the scope park.
DEDUCED (log 123). -/
def State.quiesceStart (s : State) (sc : Scope) : State :=
  s.each (s.scopeHeld sc) fun s c =>
    match (s.cuvee c).quiesce with
    | some q =>
      if q.begun then s
      else
        let s := s.updQuiesce c fun q => { q with begun := true }
        s.eachTile c fun s t => s.updTile t Tile.hold
    | none => s

/-- Every tile of the cuvee is held (R442). DEDUCED (log 123). -/
def State.allHeld (s : State) (c : Nat) : Bool := (s.cvTiles c).all fun t => (s.tile t).cutReady

/-- The slot count of the first slot that begins at least 240 cycles from now (R443). -/
def State.applySlot (s : State) : Nat :=
  if s.slotLen ≤ 0 then s.slotCount + 1
  else
    let n := ((s.time.now + 240 * s.cycle - s.time.epochStart) / s.slotLen).ceil.toNat
    max (s.slotCount + 1) (4096 * s.time.epochs + n)

/-- The last RUNNING or PAUSED cuvee of a STOPPING estate has frozen: STOPPED (R452). -/
def State.stopIfFrozen (s : State) : State :=
  if s.faults.estateState = 1 && !(s.existing.any fun c => (s.cuvee c).live) then
    { s with faults := { s.faults with estateState := 2 } }
  else s

/-- A cuvee freezes: PRIOR, FREEZE_CAUSE (R243, R244); one with a group and FlareOnFault that freezes on a contained fault
raises a flare (R347). While the estate stops, a freeze records ESTATE_STOP (R452). -/
def State.freezeCuvee (s : State) (c cause : Nat) (incomplete : Bool) : State :=
  let v := s.cuvee c
  let s := s.updCuvee c fun v =>
    { v with state := .frozen, prior := v.state.code, freezeCause := cause
             cutIncomplete := incomplete || v.cutIncomplete, faultNext := false
             cutTime := (v.quiesce.bind Quiesce.cutAt).getD s.stamp }
  let s := s.cmdStatusIf c 7 3 0 0
  let s := if cause = 3 then s.sendSquash c 2 else s
  let s := if s.faults.estateState = 1 && cause = 2 then s.logCuvee c 0x0B 3 1 0 0 0 0 else s
  let s := if v.live && cause = 2 && s.group c ≠ 0 && s.num 0x6011 c = 1 then
      (s.raiseFlare (s.group c)).sendSquash c 2 else s
  s.stopIfFrozen

/-- HolidayStatus of a holiday at its cut (R457). -/
def State.holidayRecord (s : State) (scope target : Nat) (incomplete : Bool) : State :=
  let b := Blob.record
    [(1, scope), (1, b2n incomplete), (2, target), (4, 0), (8, s.stamp), (8, 0), (8, 0), (48, 0), (8, 0)]
  { s with faults := { s.faults with holiday := b } }

/-- A plan of the cuvee is under way and not yet cut (R252). -/
def Cuvee.planOpen (v : Cuvee) : Bool := v.rebindActive && (v.rebind.phase == 2 || v.rebind.phase == 3)

/-- The cut of one cuvee at T = now (R443): frozen, or in the pause of its plan; a freeze's cut is the plan's too (R256). -/
def State.cutCuvee (s : State) (c : Nat) (incomplete : Bool) : State :=
  match (s.cuvee c).quiesce with
  | none => s
  | some q =>
    let stamp := s.stamp
    let apply := s.applySlot
    let s := s.updQuiesce c fun q => { q with cutAt := some stamp, apply := some apply }
    let s := s.daybook c 2 7 0 6 0 0 0 0
    let s := s.signal flitHolidayMark (payHoliday (if q.scope = 3 then 0 else q.scope) (apply / 4096 != s.time.epochs)
      (apply % 4096) (if q.scope = 1 then 0 else if q.scope = 2 then q.target else c))
    let s := s.holidayRecord q.scope (if q.scope = 2 then q.target else if q.scope = 1 then 0 else c) incomplete
    let s := s.updCuvee c fun v =>
      if v.planOpen then { v with rebind := { v.rebind with phase := 4, cut := stamp } } else v
    if q.scope = 3 then s else s.freezeCuvee c q.cause incomplete

/-- CUT (R443): taken when every tile of every cuvee of the scope is held. -/
def State.cut (s : State) (sc : Scope) : State :=
  let cs := (s.scopeHeld sc).filter fun c => ((s.cuvee c).quiesce.bind Quiesce.cutAt).isNone
  if cs.all fun c => s.allHeld c && ((s.cuvee c).quiesce.map Quiesce.begun).getD false then
    s.each cs fun s c => s.cutCuvee c false
  else s

/-- Squash the tiles of a cuvee that have not reached a boundary (R262). -/
def State.squashMid (s : State) (c : Nat) : State :=
  s.eachTile c fun s t => if (s.tile t).cutReady then s else s.squashTile t .held

/-- A plan is abandoned (R254, R256): its own quiesce ends and tiles go on from their boundaries, a freeze that joined it
stands, and its destinations wait for a scrub. -/
def State.abandonPlan (s : State) (c cause : Nat) : State :=
  let v := s.cuvee c
  let own := ((v.quiesce.map Quiesce.scope) == some 3)
  let s := s.updCuvee c fun v =>
    { v with rebindActive := false
             rebind := { v.rebind with phase := 6, cause := cause, freezeAfter := 0, todo := [], landed := [] }
             quiesce := if own then none else v.quiesce }
  let s := s.each (s.cvPcs c) fun s k => s.updPc k fun x => { x with dirty := none }
  let dests := (s.dict.reserved.filter fun e => e.1 == c).map fun e => (e.2.1, e.2.2)
  let s := { s with dict := { s.dict with
    reserved := s.dict.reserved.filter fun e => e.1 != c, scrubbing := s.dict.scrubbing ++ dests } }
  let s := if v.live && own then s.eachTile c State.resumeTile else s
  if cause = 9 then s else s.cmdStatusIf c 0x0D 4 6 cause

/-- QUIESCE_LIMIT (R254, R262, R348, R452): a plan is abandoned with CAUSE 3; any other quiesce is cut now with the tiles
still mid-entry squashed and CUT_INCOMPLETE set, and a plan that it met ends too. DEDUCED (log 203, 226). -/
def State.quiesceLimit (s : State) (sc : Scope) : State :=
  let cs := (s.scopeHeld sc).filter fun c => ((s.cuvee c).quiesce.bind Quiesce.cutAt).isNone
  s.each cs fun s c =>
    match (s.cuvee c).quiesce with
    | none => s
    | some q =>
      let s := match q.limit with
        | some l => s.at_ l
        | none => s
      if q.scope = 3 then s.abandonPlan c 3
      else
        let incomplete := !s.allHeld c
        let s := if incomplete && (s.cuvee c).planOpen then s.abandonPlan c 3 else s
        (s.squashMid c).cutCuvee c incomplete

/-- Ports whose marker a holiday sends and awaits: UP ports, for the estate's scope or a group's (R334). -/
def State.markPorts (s : State) (scope : Nat) : List Nat := if scope = 1 || scope = 2 then s.upPorts else []

/-- APPLY_TICK (R443, R334): units record their parked state and ports send their markers and record. -/
def State.applyTick (s : State) (sc : Scope) : State :=
  let cs := (s.scopeHeld sc).filter fun c => match (s.cuvee c).quiesce with
    | some q => q.cutAt.isSome && !q.applied && decide (q.apply.getD 0 ≤ s.slotCount)
    | none => false
  match cs with
  | [] => s
  | c0 :: _ =>
    let scope := ((s.cuvee c0).quiesce.map Quiesce.scope).getD 0
    let cutAt := ((s.cuvee c0).quiesce.bind Quiesce.cutAt).getD 0
    let ports := s.markPorts scope
    let stamp := s.stamp
    let s := { s with faults := { s.faults with holiday := s.faults.holiday.put 16 8 stamp } }
    let s := s.each ports fun s k =>
      let s := s.linkSend k (.mark ⟨scope, s.deviceId, if scope = 2 then s.group c0 else 0, cutAt⟩)
      s.updPort k fun p => { p with recording := true, recFlits := 0 }
    s.each cs fun s c => s.updQuiesce c fun q => { q with applied := true, marks := ports }

/-- A cuvee's holiday takes in no peer: its link transfers run to their DONE, and its TransferTimeout goes on (R444).
DEDUCED (log 225). -/
def Cuvee.linksRun (v : Cuvee) : Bool := (v.quiesce.map fun q => q.scope == 0).getD false

/-- The drain of cuvee c has ended (R444): none of its packets travels and none of its host reads is open; nor any link
transfer that the holiday lets run to its DONE. DEDUCED (log 225). -/
def State.drained (s : State) (c : Nat) : Bool :=
  !(s.net.flight.any fun p => p.cuvee == c) &&
    !((s.cuvee c).linksRun && (List.range 12).any fun k => (s.port k).xfers.any fun x => x.mine && x.cuvee == c) &&
    !((s.hostA.reads ++ s.hostB.reads).any fun r => r.cuvee == c)

/-- HOLIDAY_COMPLETE (R444): the drain has ended and every link of the scope has received its marker. A re-binding
holiday stands on, complete, until the plan resumes. -/
def State.holidayComplete (s : State) (sc : Scope) : State :=
  let cs := (s.scopeHeld sc).filter fun c => match (s.cuvee c).quiesce with
    | some q => q.applied && q.marks.isEmpty && !q.complete
    | none => false
  if cs.isEmpty || !(cs.all s.drained) then s
  else
    let flits := packList 4 ((List.range 12).map fun k => (s.port k).recFlits)
    let s := { s with faults := { s.faults with holiday := (s.faults.holiday.put 24 8 s.stamp).put 32 48 flits } }
    s.each cs fun s c => s.updCuvee c fun v =>
      { v with quiesce := v.quiesce.bind fun q => if q.scope = 3 then some { q with complete := true } else none }

def execQuiesceStart (sc : Scope) (s : State) : Result := .next (s.quiesceStart sc)
def execApplyTick (sc : Scope) (s : State) : Result := .next (s.applyTick sc)

end Sys2Proof.Machine
end

