-- ==== Sys2Proof/Machine/Muster.lean ====
section
/-! DEFINITION. Machine/Muster.lean: the muster (R16–R37): which physical units are good, the logical numbers they get,
and whether the estate can become ready. -/

namespace Sys2Proof.Machine

/-- The physical tile ID (R28) of a tile of a cluster ordinal (R30). -/
def physTile (clOrd tile : Nat) : Nat := clOrd / 9 * 512 + clOrd % 9 * 32 + tile

/-- The cluster ordinal of a physical tile ID. -/
def physCluster (phys : Nat) : Nat := bits phys 12 9 * 9 + bits phys 8 5

/-- Fields of an exclusion entry (R36): KIND, parcel 0–15, cluster, tile or pseudo-channel, cell. -/
def exKind (e : Nat) : Nat := bits e 31 28
def exParcel (e : Nat) : Nat := bits e 18 15
def exCluster (e : Nat) : Nat := bits e 14 11
def exUnit (e : Nat) : Nat := bits e 10 6
def exCell (e : Nat) : Nat := bits e 5 0

/-- The failed chain positions of a physical tile: self-test's and the exclusion list's (R16, R24). -/
def MusterSt.badCells (m : MusterSt) (clOrd tile : Nat) : List Nat :=
  ((m.test.tiles.getD (17 * clOrd + tile) ⟨[], false⟩).badCells ++
    (m.excluded.filter fun e =>
      exKind e == 1 && exParcel e * 9 + exCluster e == clOrd && exUnit e == tile).map exCell).dedup

/-- A tile is good (R16, R24). -/
def MusterSt.tileGood (m : MusterSt) (clOrd tile : Nat) : Bool :=
  !(m.test.tiles.getD (17 * clOrd + tile) ⟨[], false⟩).unitsBad &&
    decide ((m.badCells clOrd tile).length ≤ 1) &&
    !(m.outTiles.contains (physTile clOrd tile)) &&
    !(m.excluded.any fun e => exKind e == 2 && exParcel e * 9 + exCluster e == clOrd && exUnit e == tile)

/-- The good physical tiles of a cluster, in physical order. -/
def MusterSt.goodTiles (m : MusterSt) (clOrd : Nat) : List Nat := (List.range 17).filter (m.tileGood clOrd)

/-- A cluster is good (R17). -/
def MusterSt.clusterGood (m : MusterSt) (clOrd : Nat) : Bool :=
  !(m.test.clustersBad.contains clOrd) && decide (16 ≤ (m.goodTiles clOrd).length) &&
    !(m.excluded.any fun e => exKind e == 3 && exParcel e * 9 + exCluster e == clOrd)

/-- The good physical clusters of parcel p, in physical order. -/
def MusterSt.goodClusters (m : MusterSt) (p : Nat) : List Nat :=
  (List.range 9).filter fun k => m.clusterGood (9 * p + k)

/-- Good parcel-cache banks (R18). -/
def MusterSt.goodBanks (m : MusterSt) (p : Nat) : Nat :=
  ((List.range 9).filter fun b => !(m.test.banksBad.contains (9 * p + b))).length

/-- The banks that form the parcel cache (R18): the first eight good ones. -/
def MusterSt.cacheBanks (m : MusterSt) (p : Nat) : List Nat :=
  ((List.range 9).filter fun b => !(m.test.banksBad.contains (9 * p + b))).take 8

/-- The physical bank that holds a set (R193). -/
def MusterSt.bankOf (m : MusterSt) (p set : Nat) : Option Nat := (m.cacheBanks p)[set % 8]?

/-- A timing margin in 1/256 UI reaches 0.20 UI (R185). -/
def marginOk (m : Nat) : Bool := decide (256 ≤ 5 * m)

/-- Pseudo-channels 0–31 of a stack that failed a training step (R185): a channel that fails command/address training fails
both of its own. -/
def trainFailed (r : TrainingResult) : List Nat :=
  (List.range 32).filter fun k =>
    (r.command.any fun e => e.1 == k / 2 && !marginOk e.2) || (r.timing.any fun e => e.1 == k && !marginOk e.2) ||
      r.voltage.any fun e => e.1 == k && decide (e.2 < 40)

/-- Pseudo-channels of a stack that failed the memory test (R185). -/
def testFailed (r : TrainingResult) : List Nat :=
  (List.range 32).filter fun k => r.bad.contains k || r.weak.any fun e => e.1 == k && decide (16 < e.2)

/-- Good wire or lane groups of a FabricMuster subindex s + 1 (R19, R35): 8 of a spine, 5 of a crossing. -/
def MusterSt.goodGroups (m : MusterSt) (s : Nat) : List Nat :=
  (List.range (if s < 4 then 8 else 5)).filter fun g => !(m.test.groupsBad.contains (s, g))

/-- Groups needed for the rated width (R35). -/
def neededGroups (s : Nat) : Nat := if s < 4 then 7 else 4

/-- Field f's spine carries traffic. -/
def MusterSt.spineUp (m : MusterSt) (f : Nat) : Bool := !(m.goodGroups f).isEmpty

/-- The fields reached by one more crossing from those listed. -/
def MusterSt.widen (m : MusterSt) (fs : List Nat) : List Nat :=
  (List.range 4).filter fun f => fs.contains f ||
    (m.spineUp f && fs.any fun g => match crossing f g with
      | some x => !(m.goodGroups x).isEmpty
      | none => false)

/-- The fields that a passed host port reaches (R25). -/
def MusterSt.reached (m : MusterSt) : List Nat :=
  let start := (List.range 4).filter fun f => m.spineUp f &&
    ((f == 0 && !(m.test.hostBad.contains .a)) || (f == 3 && !(m.test.hostBad.contains .b)))
  m.widen (m.widen (m.widen start))

/-- Good physical pseudo-channels of parcel p (R21, R24). -/
def MusterSt.goodPcs (m : MusterSt) (p : Nat) : List Nat :=
  (List.range 32).filter fun k => !(m.pcBad.contains (32 * p + k)) && !(m.pcTestBad.contains (32 * p + k)) &&
    !(m.outPcs.contains (32 * p + k)) &&
    !(m.excluded.any fun e => exKind e == 4 && exParcel e == p && exUnit e == k)

/-- A parcel's own units pass (R22). -/
def MusterSt.parcelUnits (m : MusterSt) (p : Nat) : Bool :=
  !(m.test.vintnerBad.contains p) && !(m.test.xlateBad.contains p) && !(m.test.crossbarBad.contains p) &&
    !(m.test.stackBad.contains p)

/-- A parcel is present (R22, R25). -/
def MusterSt.parcelPresent (m : MusterSt) (p : Nat) : Bool :=
  m.parcelUnits p && m.reached.contains (p / 4) && !(m.goodPcs p).isEmpty

/-- The numbering of a parcel's tiles (R21): logical tile and physical tile ID, in logical order. -/
def MusterSt.parcelTiles (m : MusterSt) (p : Nat) : Sparse Nat :=
  ((m.goodClusters p).take 8).zipIdx.flatMap fun ck =>
    ((m.goodTiles (9 * p + ck.1)).take 16).zipIdx.map fun tk =>
      (128 * p + 16 * ck.2 + tk.2, physTile (9 * p + ck.1) tk.1)

/-- The numbering of a parcel's pseudo-channels (R21, R29). -/
def MusterSt.parcelPcs (m : MusterSt) (p : Nat) : Sparse Nat :=
  (m.goodPcs p).zipIdx.map fun kk => (32 * p + kk.2, 32 * p + kk.1)

/-- Mustered tiles that use their spare cell (R32). DESIGN CHOICE (log 164). -/
def MusterSt.countRepairs (m : MusterSt) (map : Sparse Nat) : Nat :=
  (map.filter fun e => !(m.badCells (physCluster e.2) (bits e.2 4 0)).isEmpty).length

/-- Clusters assigned in a numbering. -/
def clusterCount (map : Sparse Nat) : Nat := (map.map fun e => e.1 / 16).dedup.length

/-- The core muster (R20): cells, tiles, clusters, cache banks and fabric widths, from the exclusion list and the retired
tiles as they stand. It also advances MusterGeneration. DEDUCED (log 167). -/
def MusterSt.core (m : MusterSt) (excluded : List Nat) : MusterSt :=
  let m := { m with excluded := excluded, outTiles := m.retiredTiles, generation := (m.generation + 1) % 2 ^ 32 }
  let map := ((List.range 16).filter fun p => m.parcelUnits p && m.reached.contains (p / 4)).flatMap m.parcelTiles
  { m with
    state := 2, tileMap := map, tiles := map.length, clusters := clusterCount map, repairs := m.countRepairs map
    hosts := maskOf ((bothPorts.filter fun p => !(m.test.hostBad.contains p)).map portNo)
    links := maskOf ((List.range 12).filter fun k => !(m.test.linkBad.contains k)) }

/-- R25's test after the core pass: an estate unit, then the host ports. -/
def MusterSt.coreCause (m : MusterSt) : Nat :=
  if m.test.estateBad then 1 else if m.hosts = 0 then 2 else 0

/-- The memory muster (R20–R22): pseudo-channels, and the units of parcels that turn out not to be present.
DEDUCED (log 142). -/
def MusterSt.memory (m : MusterSt) : MusterSt :=
  let m := { m with outPcs := m.retiredPcs, memDone := true }
  let present := (List.range 16).filter m.parcelPresent
  let map := m.tileMap.filter fun e => present.contains (e.1 / 128)
  let pcs := present.flatMap m.parcelPcs
  { m with
    state := if present.isEmpty then 4 else 3, cause := if present.isEmpty then 3 else 0
    tileMap := map, tiles := map.length, clusters := clusterCount map, repairs := m.countRepairs map
    pcMap := pcs, pcCount := pcs.length, parcels := maskOf present }

/-- The pseudo-channels of the estate (R410): those of the list that exist, or the highest of the lowest present parcel.
DEDUCED (log 143). -/
def estateChoice (listed : List Nat) (m : MusterSt) : List Nat :=
  if listed.isEmpty then
    match (List.range 16).find? fun p => bit m.parcels p with
    | none => []
    | some p => match (m.pcMap.filter fun e => e.1 / 32 == p).getLast? with
      | some e => [e.1]
      | none => []
  else listed.filter fun k => (m.pcMap.find k).isSome

/-! ## Words of the muster objects (R33–R35) -/

/-- The core pass has completed, so that what it sets can be read. -/
def MusterSt.coreDone (m : MusterSt) : Bool := decide (2 ≤ m.state)

/-- ParcelMuster (R33). DESIGN CHOICE (log 165). -/
def MusterSt.parcelWord (m : MusterSt) (p : Nat) : Nat :=
  if !m.coreDone then 0 else
  let cl := m.goodClusters p
  let pcs := if m.memDone then m.goodPcs p else []
  field (maskOf pcs) 32 32 + field (maskOf cl) 9 23 + field pcs.length 6 17 + field (min 8 cl.length) 4 13 +
    field (m.goodBanks p) 4 9 + field (b2n (decide (8 ≤ m.goodBanks p))) 1 8 + field (b2n (bit m.parcels p)) 1 7

/-- ClusterMuster (R34). -/
def MusterSt.clusterWord (m : MusterSt) (c : Nat) : Nat :=
  if !m.coreDone then 0 else
  let tiles := m.goodTiles c
  let logical := firstIdx (· == c % 9) ((m.goodClusters (c / 9)).take 8)
  let mustered := m.tileMap.any fun e => physCluster e.2 == c
  field (b2n mustered) 1 31 + field (if mustered then logical.getD 0 else 0) 3 28 +
    field (b2n (!(m.test.clustersBad.contains c))) 1 27 + field (maskOf tiles) 17 10 + field tiles.length 5 5 +
    field (tiles.filter fun t => !(m.badCells c t).isEmpty).length 5 0

/-- FabricMuster (R35). -/
def MusterSt.fabricWord (m : MusterSt) (s : Nat) : Nat :=
  if !m.coreDone then 0 else
  let good := m.goodGroups s
  field (maskOf good) 8 8 + field (min good.length (neededGroups s)) 4 4 + field (neededGroups s) 4 0

/-- A byte of CellRepairMap (R32). -/
def MusterSt.repairByte (m : MusterSt) (ord : Nat) : Nat :=
  if !(m.tileGood (ord / 17) (ord % 17)) then 0xFE
  else (m.badCells (ord / 17) (ord % 17)).head?.getD 0xFF

/-- The ExclusionList's entries in force (R36). -/
def State.exclusions (s : State) : List Nat :=
  let b := s.val 0x3007 0
  (List.range (b.get 0 2)).map fun i => b.get (4 + 4 * i) 4

end Sys2Proof.Machine
end

