-- ==== Sys2Proof/Machine/Admission.lean ====
section
/-! DEFINITION. Machine/Admission.lean: the limits that admission checks hold over all cuvees together (R181, R195, R198,
R200, R205, R220, R240, R241, R354, R413, R516). -/

namespace Sys2Proof.Machine

/-- Status codes (R467). -/
def stOk : Nat := 0
def stNoObject : Nat := 1
def stNoSub : Nat := 2
def stType : Nat := 3
def stDenied : Nat := 4
def stRange : Nat := 5
def stConflict : Nat := 6
def stOver : Nat := 7
def stBusy : Nat := 8
def stStaged : Nat := 9
def stNotReady : Nat := 10

/-- The staging set of a class (R471). -/
def State.staging (s : State) (a : Acc) : List ObjWrite :=
  match s.dict.staging.find? fun e => e.1 == a with
  | some e => e.2
  | none => []

/-- A value as admission counts it for a write of class a (R516): its own staged value, else the latest pending one of any
class, else the value in force. DEDUCED (log 18). -/
def State.counted (s : State) (a : Acc) (i sub : Nat) : Blob :=
  let mine := (s.staging a).filter fun w => w.idx == i && w.sub == sub
  let pend := (s.dict.pend.flatMap Pending.writes).filter fun w => w.idx == i && w.sub == sub
  match mine.getLast?, pend.getLast? with
  | some w, _ => w.data
  | none, some w => w.data
  | none, none => s.val i sub

/-- The values that a check sees: those counted, with some replaced by what is being written. -/
def State.view (s : State) (a : Acc) (ws : List ObjWrite) (i sub : Nat) : Blob :=
  match (ws.filter fun w => w.idx == i && w.sub == sub).getLast? with
  | some w => w.data
  | none => s.counted a i sub

/-! ## Limits, over a valuation v of objects and the cuvees that exist -/

/-- Admission limit of resource r (R203, R205). -/
def queueLimit (r : Nat) : Nat :=
  if r < 0x10 then 652 else if r < 0x14 then 870 else if r < 0x1C then 54 else 217

/-- The cuvee's units in a valuation. -/
def vTiles (v : Nat → Nat → Blob) (c : Nat) : List Nat := (v 0x3014 c).elems 2
def vPcs (v : Nat → Nat → Blob) (c : Nat) : List Nat := (v 0x3015 c).elems 2

/-- Cuvee c's reservation on resource r, at least 4 on the memory queue of a parcel where it holds a pseudo-channel (R205). -/
def vQueue (v : Nat → Nat → Blob) (c r : Nat) : Nat :=
  let q := (v 0x5005 c).get (2 * r) 2
  if r < 16 && (vPcs v c).any fun k => pcParcel k == r then max 4 q else q

/-- Reservations fit on every resource (R205). DEDUCED (log 42). -/
def queuesFit (v : Nat → Nat → Blob) (cs : List Nat) : Bool :=
  (List.range 42).all fun r => decide (sumNat (cs.map fun c => vQueue v c r) ≤ queueLimit r)

/-- The cuvee's way mask in parcel p. -/
def vWays (v : Nat → Nat → Blob) (c p : Nat) : Nat := (v 0x5003 c).get (2 * p) 2
/-- StashEnable[p]. -/
def vStash (v : Nat → Nat → Blob) (p : Nat) : Bool := (v 0x5002 (p + 1)).val == 1
/-- Ones in a mask of 16 bits. -/
def popcount (m : Nat) : Nat := (setBits m 64).length

/-- Way allotments of parcel p do not overlap, lie in the ways the stash leaves, and stay within 13 or 6 (R195, R198). -/
def waysFit (v : Nat → Nat → Blob) (cs : List Nat) (p : Nat) : Bool :=
  let masks := cs.map fun c => vWays v c p
  let total := sumNat (masks.map popcount)
  decide (total = popcount (masks.foldl (· ||| ·) 0)) &&
    (if vStash v p then decide (total ≤ 6) && masks.all (fun m => decide (m < 256)) else decide (total ≤ 13))

/-- Stash allotments of parcel p fit in 16 MiB where it is enabled (R198). -/
def stashFit (v : Nat → Nat → Blob) (cs : List Nat) (p : Nat) : Bool :=
  decide (sumNat (cs.map fun c => (v 0x5004 c).get p 1) ≤ if vStash v p then 16 else 0)

/-- Translation groups of parcel p, at least one for a cuvee with tiles there (R220). -/
def groupsFit (v : Nat → Nat → Blob) (cs : List Nat) (p : Nat) : Bool :=
  decide (sumNat (cs.map fun c =>
    let g := (v 0x5043 c).get p 1
    if (vTiles v c).any fun t => tileParcel t == p then max 1 g else g) ≤ 64)

/-- Service slots fit (R240): courier positions per parcel, check-unit channels, crypto positions. -/
def serviceFit (v : Nat → Nat → Blob) (cs : List Nat) : Bool :=
  ((List.range 16).all fun p => decide (sumNat (cs.map fun c => (v 0x3017 c).get p 1) ≤ 13)) &&
    decide (sumNat (cs.map fun c => (v 0x3017 c).get 16 1) ≤ 56) &&
    decide (sumNat (cs.map fun c => (v 0x3017 c).get 17 1) ≤ 13)

/-- The sum of shares stays within PowerCap − StandingPower (R354). -/
def sharesFit (v : Nat → Nat → Blob) (cs : List Nat) : Bool :=
  decide (sumNat (cs.map fun c => (v 0x2011 c).get 0 2) + Config.standingPower ≤ (v 0x2010 1).val)

/-- Ring pairs of the estate (R239). -/
def ringsFit (v : Nat → Nat → Blob) (cs : List Nat) : Bool :=
  decide (sumNat (cs.map fun c => bits (v 0x3016 c).val 31 21) ≤ 8192)

/-- QSHAREs of a cuvee's permitted labels (R200). -/
def labelsFit (v : Nat → Nat → Blob) (c : Nat) : Bool :=
  decide (sumNat ((setBits (v 0x5011 c).val 16).map fun l => bits (v 0x5010 (l + 1)).val 8 0) ≤ 256)

/-- Daybook partitions fit the reserve and the capacity (R413); partition 0 counts too. -/
def daybookFit (v : Nat → Nat → Blob) (cs : List Nat) (estatePcs : Nat) : Bool :=
  let ps := 0 :: cs
  decide (sumNat (ps.map fun c => (v 0x9001 (c + 1)).get 0 4) ≤ (v 0x9000 1).val) &&
    decide (sumNat (ps.map fun c => (v 0x9001 (c + 1)).get 4 4) ≤ 650000 * estatePcs)

/-- Two ranges do not overlap. -/
def rangesApart (a n b m : Nat) : Bool := n == 0 || m == 0 || decide (a + n ≤ b) || decide (b + m ≤ a)

/-- A cuvee's barrier range overlaps no other's (R182). -/
def barriersFit (v : Nat → Nat → Blob) (cs : List Nat) (c : Nat) : Bool :=
  let r := fun c => (v 0x30A0 c).val
  cs.all fun d => d == c || rangesApart (bits (r c) 11 0) (bits (r c) 28 16) (bits (r d) 11 0) (bits (r d) 28 16)

/-- A cuvee's multicast range overlaps no other's (R182). -/
def multicastFit (v : Nat → Nat → Blob) (cs : List Nat) (c : Nat) : Bool :=
  let r := fun c => (v 0x30A1 c).val
  cs.all fun d => d == c || rangesApart (bits (r c) 9 0) (bits (r c) 26 16) (bits (r d) 9 0) (bits (r d) 26 16)

/-! ## The free pool (R238, R241) -/

/-- A unit is held: by a cuvee's composition in force, an accepted write's reservation, or the scrub it waits for. `c` is
left out, so that its own units are not counted against it. -/
def State.heldByOther (s : State) (c : Nat) (isTile : Bool) (u : Nat) : Bool :=
  (s.existing.any fun d => d != c && (if isTile then s.cvTiles d else s.cvPcs d).contains u) ||
    (s.dict.reserved.any fun e => e.1 != c && e.2.1 == isTile && e.2.2 == u) ||
    s.dict.scrubbing.contains (isTile, u) ||
    (!isTile && s.obs.estate.contains u)

/-- A unit is assigned and not retired (R241). -/
def State.unitGood (s : State) (isTile : Bool) (u : Nat) : Bool :=
  if isTile then (s.muster.tileMap.find u).isSome && !(s.tile u).retired
  else (s.muster.pcMap.find u).isSome && !(s.pc u).retired

/-- R241's check of the units that a composition write or plan names. -/
def State.unitsStatus (s : State) (c : Nat) (isTile : Bool) (us : List Nat) : Nat :=
  if !(us.all (s.unitGood isTile)) || us.dedup.length ≠ us.length then stRange
  else if us.any (s.heldByOther c isTile) then stOver
  else stOk

/-- A unit is in the free pool (R238). -/
def State.unitFree (s : State) (isTile : Bool) (u : Nat) : Bool :=
  s.unitGood isTile u && !s.heldByOther 0 isTile u

/-- Units leave the pool when a write that names them is accepted (R238). DEDUCED (log 41). -/
def State.reserveUnits (s : State) (c : Nat) (isTile : Bool) (us : List Nat) : State :=
  { s with dict := { s.dict with reserved := s.dict.reserved ++ us.map fun u => (c, isTile, u) } }

/-- Reservations of a cuvee end without its holding the unit: it returns to the pool after a scrub (R238). -/
def State.dropReserved (s : State) (c : Nat) (isTile : Bool) (keep : List Nat) : State :=
  let gone := s.dict.reserved.filter fun e => e.1 == c && e.2.1 == isTile && !keep.contains e.2.2
  { s with dict := { s.dict with
    reserved := s.dict.reserved.filter fun e => !(e.1 == c && e.2.1 == isTile)
    scrubbing := (s.dict.scrubbing ++ gone.map fun e => (e.2.1, e.2.2)).dedup } }

/-- Units that a cuvee no longer holds wait for their scrub (R253); a retired one does not return (R23). -/
def State.giveBack (s : State) (isTile : Bool) (us : List Nat) : State :=
  { s with dict := { s.dict with scrubbing := (s.dict.scrubbing ++ us.map fun u => (isTile, u)).dedup } }

/-! ## Power domains of clusters (R363, R364) -/

/-- The domain of a logical tile: its physical cluster's ordinal. -/
def State.tileDomain (s : State) (t : Nat) : Nat := physCluster (s.muster.tileMap.getD t 0)
/-- A domain's state: 0 OFF … 4 DARK (R374). -/
def State.domain (s : State) (d : Nat) : Nat := s.power.domains.getD d 0
/-- Set a domain's state. -/
def State.setDomain (s : State) (d st : Nat) : State :=
  { s with power := { s.power with domains := s.power.domains.set 0 d st } }
/-- An accepted write that names a tile of a gated cluster starts its power-up (R364). DEDUCED (log 129). -/
def State.wakeClusters (s : State) (ts : List Nat) : State :=
  s.each (ts.map s.tileDomain).dedup fun s d => if s.domain d = 0 || s.domain d = 3 then s.setDomain d 1 else s
/-- Every cluster of the tiles is ON (R364). DEDUCED (log 129). -/
def State.clustersOn (s : State) (ts : List Nat) : Bool := ts.all fun t => s.domain (s.tileDomain t) == 2

end Sys2Proof.Machine
end

