-- ==== Sys2Proof/Machine/Trees.lean ====
section
/-! DEFINITION. Machine/Trees.lean: the trees that the vintner core lays over the networks for a cuvee's placement: the
replication tree of a multicast group with its reservations (R158, R159), and the counts that the nodes of the tendril tree
owe for a barrier (R172, R176–R178). -/

namespace Sys2Proof.Machine

/-! ## Allotments (R158, R175) -/

def State.mcBase (s : State) (c : Nat) : Nat := bits (s.num 0x30A1 c) 9 0
def State.mcCount (s : State) (c : Nat) : Nat := bits (s.num 0x30A1 c) 26 16
def State.barBase (s : State) (c : Nat) : Nat := bits (s.num 0x30A0 c) 11 0
def State.barCount (s : State) (c : Nat) : Nat := bits (s.num 0x30A0 c) 28 16

/-! ## Multicast trees (R158, R159) -/

/-- Places with buffers: 0–2,047 a tile's landing buffer, then the routers of 128 logical clusters, 16 crossbars and four
spines. -/
def clusterPlace (k : Nat) : Nat := 2048 + k
def crossbarPlace (p : Nat) : Nat := 2176 + p
def spinePlace (f : Nat) : Nat := 2192 + f

/-- The crossings, as pairs of fields, that the routes between a set of fields take. -/
def fieldEdges (fs : List Nat) : List (Nat × Nat) :=
  (fs.flatMap fun a => fs.flatMap fun b => (fieldRoute a b).zip (fieldRoute a b).tail).dedup

/-- The replication tree of a target set: every router on it with its branch mask. Branches of a cluster router: tile ports 0–15
and 16 the uplinks; of a crossbar: its logical clusters 0–7 and 8 the spine; of a spine: its parcels 0–3 and 4 + f the
crossing towards field f. DEDUCED (log 185). -/
def mcTree (ts : List Nat) : List (Nat × Nat) :=
  let cls := (ts.map tileCluster).dedup
  let ps := (ts.map tileParcel).dedup
  let fs := (ps.map (· / 4)).dedup
  let es := fieldEdges fs
  let spines := (fs ++ es.map Prod.fst).dedup
  cls.map (fun k => (clusterPlace k,
    maskOf ((ts.filter fun t => tileCluster t == k).map (· % 16) ++ if 1 < cls.length then [16] else []))) ++
    (if cls.length ≤ 1 then [] else ps.map fun p => (crossbarPlace p,
      maskOf ((cls.filter fun k => k / 8 == p).map (· % 8) ++ if 1 < ps.length then [8] else []))) ++
    (if ps.length ≤ 1 then [] else spines.map fun f => (spinePlace f,
      maskOf ((ps.filter fun p => p / 4 == f).map (· % 4) ++ (es.filter fun e => e.1 == f).map fun e => 4 + e.2)))

/-- The buffers that a scheduled group of DEPTH reserves (R159): each target's landing buffers, and DEPTH for each branch of
every router on the tree. DEDUCED (log 72, 185). -/
def mcBuffers (ts : List Nat) (depth : Nat) : List (Nat × Nat) :=
  ts.map (fun t => (t, depth)) ++ (mcTree ts).map fun r => (r.1, depth * popcount r.2)

/-- The pool of a place (R159): 8 of a tile's landing buffers, 32, 64 and 128 of a router. -/
def mcPool (k : Nat) : Nat := if k < 2048 then 8 else if k < 2176 then 32 else if k < 2192 then 64 else 128

/-- Buffers reserved at a place. -/
def State.mcReserved (s : State) (k : Nat) : Nat :=
  sumNat (s.net.mcast.flatMap fun e => (e.2.res.filter fun r => r.1 == k).map Prod.snd)

/-- Reservations fit beside those that stand. DEDUCED (log 72). -/
def State.mcFits (s : State) (res : List (Nat × Nat)) : Bool :=
  res.all fun r => decide (s.mcReserved r.1 + sumNat ((res.filter fun q => q.1 == r.1).map Prod.snd) ≤ mcPool r.1)

/-- The routers, as R451 counts them, that replicate for a set of targets: the clusters' and, past one cluster, the crossbars'.
DEDUCED (log 224). -/
def State.replicators (s : State) (ts : List Nat) : List Nat :=
  let cls := (ts.map s.tileDomain).dedup
  cls ++ if cls.length ≤ 1 then [] else (ts.map fun t => 144 + tileParcel t).dedup

/-- A group with the tree and the reservations of its targets as the cuvee's tiles stand. -/
def State.laidOut (s : State) (e : McGroup) : McGroup :=
  let ts := s.groupTiles e.cuvee e.tgroup
  { e with tree := mcTree ts, res := if e.sched then mcBuffers ts e.depth else [] }

/-! ## The tendril tree (R172, R176) -/

/-- The node of the tree that tile t attaches to. -/
def State.tileNode (s : State) (t : Nat) : Nat := clusterNode (s.tileDomain t)

/-- Take from the flits that wait at a node the first ones of a kind and address whose COUNTs add up to n: the rest, when they
do. DESIGN CHOICE (log 70). -/
def takeFlits (node kind head cw : Nat) : List TendrilFlit → Nat → Option (List TendrilFlit)
  | [], n => if n = 0 then some [] else none
  | f :: fs, n =>
    let k := f.payload % 2 ^ cw
    if n = 0 then some (f :: fs)
    else if f.node = node && f.kind = kind && f.payload / 2 ^ cw = head && 0 < k && k ≤ n then
      takeFlits node kind head cw fs (n - k)
    else (takeFlits node kind head cw fs n).map (f :: ·)

/-- The COUNT sum of the flits of a kind and address, at every node. -/
def flitSum (kind head cw : Nat) (fs : List TendrilFlit) : Nat :=
  sumNat ((fs.filter fun f => f.kind == kind && f.payload / 2 ^ cw == head).map fun f => f.payload % 2 ^ cw)

/-- The address part of a BAR_ARRIVE's payload above its COUNT. -/
def arriveHead (b gen : Nat) : Nat := (2 * b + gen) * 8

/-- The estate barrier b, when it is defined. -/
def State.barrier (s : State) (b : Nat) : Option Barrier := s.net.barriers.find b
/-- Change it. -/
def State.updBarrier (s : State) (b : Nat) (f : Barrier → Barrier) : State :=
  match s.barrier b with
  | some x => { s with net := { s.net with barriers := s.net.barriers.insert b (f x) } }
  | none => s

/-- The count of a round at the node where the barrier tops out. -/
def Barrier.count (r : Barrier) (gen : Nat) : Nat := if gen = 0 then r.count0 else r.count1
def Barrier.setCount (r : Barrier) (gen n : Nat) : Barrier := if gen = 0 then { r with count0 := n } else { r with count1 := n }

/-- The nodes that the participants of a barrier attach to: tiles at cluster nodes, vintner cores at parcel nodes. -/
def State.barrierNodes (s : State) (r : Barrier) : List Nat :=
  (s.groupTiles r.cuvee r.tgroup).map s.tileNode ++ (setBits r.vintners 16).map parcelNode

/-- Arrivals that a round is owed in all, and in the subtree of a node (R176). -/
def State.barrierTotal (s : State) (r : Barrier) : Nat := (s.barrierNodes r).length
def State.barrierOwed (s : State) (r : Barrier) (n : Nat) : Nat := ((s.barrierNodes r).filter fun m => nodeCovers n m).length

/-- The node that releases the barrier: the root, or the cluster node that all of its participants attach to (R176, R180).
DEDUCED (log 187). -/
def State.topNode (s : State) (r : Barrier) : Nat :=
  match (s.barrierNodes r).dedup with
  | [n] => if 21 ≤ n then n else 0
  | _ => 0

/-- The round stands complete at its top node. -/
def State.roundFull (s : State) (r : Barrier) (gen : Nat) : Bool := decide (s.barrierTotal r ≤ r.count gen)

/-- Arrivals under way for a set of barriers are gone. -/
def State.dropArrivals (s : State) (bs : List Nat) : State :=
  { s with net := { s.net with
    tendril := s.net.tendril.filter fun f => !(f.kind == flitBarArrive && bs.contains (bits f.payload 27 16)) } }

/-- Flag sets of cuvee c under way are gone. -/
def State.dropFlags (s : State) (c : Nat) : State :=
  { s with net := { s.net with
    tendril := s.net.tendril.filter fun f => !(f.kind == flitFlagSet && bits f.payload 27 20 == c) } }

/-- The estate barriers of a cuvee, or of one of its models. -/
def State.barriersOf (s : State) (c : Nat) (model : Option Nat) : List Nat :=
  (s.net.barriers.filter fun e => e.2.cuvee == c && (model.isNone || model == some e.2.model)).map Prod.fst

/-! ## A new placement (R178, R253) -/

/-- The counts of a round that is not complete, laid out anew over the nodes of a new placement: each tile's unreleased
arrival waits at its own node, the vintner cores' arrivals at theirs. DEDUCED (log 188). -/
def State.relayRound (s : State) (b gen : Nat) : State :=
  match s.barrier b with
  | none => s
  | some r =>
    if s.roundFull r gen then s
    else
      let ts := (s.groupTiles r.cuvee r.tgroup).filter fun t =>
        (((s.tile t).bars.getD (b - s.barBase r.cuvee) default).gens).contains gen
      let total := r.count gen + flitSum flitBarArrive (arriveHead b gen) 12 s.net.tendril
      let cores := if ts.length < total then setBits r.vintners 16 else []
      let s := s.updBarrier b fun r => r.setCount gen 0
      let s := { s with net := { s.net with
        tendril := s.net.tendril.filter fun f => !(f.kind == flitBarArrive && f.payload / 2 ^ 12 == arriveHead b gen) } }
      let s := s.each ts fun s t => s.tendrilSend (s.tileNode t) flitBarArrive (payArrive b gen 1)
      s.each cores fun s p => s.tendrilSend (parcelNode p) flitBarArrive (payArrive b gen 1)

/-- The vintner core lays the cuvee's multicast groups and barriers out for a new placement. DEDUCED (log 188). -/
def State.relayNet (s : State) (c : Nat) : State :=
  let s := { s with net := { s.net with
    mcast := s.net.mcast.map fun (e : Nat × McGroup) => if e.2.cuvee = c then (e.1, s.laidOut e.2) else e } }
  s.each (s.barriersOf c none) fun s b => (s.relayRound b 0).relayRound b 1

/-! ## Fencing (R155) -/

/-- Logical cluster k must run fenced. -/
def State.fencedNow (s : State) (k : Nat) : Bool :=
  let owners := ((List.range 16).map fun i => (s.tile (16 * k + i)).cuvee).filter (· != 0)
  decide (2 ≤ owners.dedup.length) || (s.num 0x30A2 1 == 1 && !owners.isEmpty)

/-- Recompute the fencing of the clusters of the tiles listed. -/
def State.refence (s : State) (ts : List Nat) : State :=
  s.each (ts.map tileCluster).dedup fun s k =>
    let bitv := 2 ^ k
    let f := if s.net.fenced.testBit k then s.net.fenced - bitv else s.net.fenced
    { s with net := { s.net with fenced := if s.fencedNow k then f + bitv else f } }

/-- The tenancy of these tiles' clusters has changed: the mode of their routers follows at the epoch boundary (R155). -/
def State.fenceLater (s : State) (ts : List Nat) : State :=
  { s with net := { s.net with fenceDue := s.net.fenceDue ++ ts } }

/-- The boundary at which those modes change. -/
def State.fenceBoundary (s : State) : State :=
  let s' := s.refence s.net.fenceDue
  { s' with net := { s'.net with fenceDue := [] } }

end Sys2Proof.Machine
end

