-- ==== Sys2Proof/Machine/Compose.lean ====
section
/-! DEFINITION. Machine/Compose.lean: what a cuvee holds and how it comes and goes: fencing (R155), BIND and UNBIND (R242),
live state of a tile (R115, R262), scrubbing, the reset and release sequences (R259–R261), freeze, thaw, and how
images begin and end (R266–R269). -/

namespace Sys2Proof.Machine

/-! ## Fencing and binding (R155, R242) -/

/-- Rows that segments occupy, as (first, count); estate rows 0–127 are never free (R55, R56). -/
def State.rowRuns (s : State) : List (Nat × Nat) :=
  (0, 128) :: (s.alm.segs.filter fun e => e.1 != 0 && e.2.length != 0).map fun e => (e.2.base, 2 * e.2.length)

/-- The rows from a on that no segment occupies, up to the next segment or the end. -/
def State.freeRunAt (s : State) (a : Nat) : Nat :=
  if s.rowRuns.any fun r => r.1 ≤ a && a < r.1 + r.2 then 0
  else (s.rowRuns.filter fun r => a < r.1).foldl (fun m r => min m r.1) 65536 - a

/-- Places where a free run can begin: just after each segment. DEDUCED (log 90). -/
def State.runStarts (s : State) : List Nat :=
  ((s.rowRuns.map fun r => r.1 + r.2).filter (· < 65536)).mergeSort

/-- The lowest free run of n rows (R242). DEDUCED (log 90). -/
def State.findRun (s : State) (n : Nat) : Option Nat := s.runStarts.find? fun a => decide (n ≤ s.freeRunAt a)

/-- The largest free run (R272). -/
def State.largestRun (s : State) : Nat := maxNat (s.runStarts.map s.freeRunAt)

/-- The conditions of R242 for BIND to (port, VF): a status code. -/
def State.bindStatus (s : State) (c arg : Nat) : Nat :=
  let p := portOf (bits arg 8 8)
  let vf := bits arg 7 0
  if (s.cvTiles c).isEmpty || (s.cvPcs c).isEmpty || s.ringPairs c = 0 || s.pageLength c = 0 then stConflict
  else if s.cuvees.any fun e => e.1 != c && e.2.binding == some (p, vf) then stOver
  else if (s.findRun (2 * s.pageLength c)).isNone then stOver
  else if !(bit s.muster.hosts (portNo p)) then stOver
  else stOk

/-- BIND acts (R242). Buckets start full and k_c at 256 (R355, R359); the counters of R408 start at 0; metering opens. -/
def State.bindAct (s : State) (c arg : Nat) : State :=
  let base := (s.findRun (2 * s.pageLength c)).getD 0
  let s := { s with alm := { s.alm with
    segs := s.alm.segs.set default c { (default : Segment) with base := base, length := s.pageLength c }
    rows := s.alm.rows.clearRange base (2 * s.pageLength c) } }
  let s := s.each (s.cvTiles c).zipIdx fun s e => s.bindTile e.1 c e.2
  let s := s.each (s.cvPcs c) fun s k => s.updPc k fun x => { x with owner := some c }
  let s := s.updCuvee c fun v => { v with
    state := .bound, binding := some (portOf (bits arg 8 8), bits arg 7 0)
    counters := List.replicate 22 0, cntShadow := List.replicate 22 0, cntMark := List.replicate 22 0, cntBlock := ⟨256, 0⟩
    ledger := LedgerC.init }
  let s := s.fillBuckets c
  (s.meterOpen c false).fenceLater (s.cvTiles c)

/-- The end of a binding (R242): the VF, the segment, the control words, the owner tables.
DESIGN CHOICE (log 174); DEDUCED (log 214). -/
def State.unbind (s : State) (c : Nat) : State :=
  let ts := s.cvTiles c
  let g := s.seg c
  let s := { s with alm := { s.alm with
    segs := s.alm.segs.erase c, rows := s.alm.rows.clearRange g.base (2 * g.length) } }
  let s := s.each ts fun s t => s.bindTile t 0 0
  let s := s.each (s.cvPcs c) fun s k => s.updPc k fun x => { x with owner := none }
  (s.updCuvee c fun v => { v with binding := none, tdi := 0 }).fenceLater ts

/-! ## Live state of a tile (R115, R262) -/

/-- What the recipe of the model that last ran on the tile declares live at its next entry's boundary (R287, LIVE): ranges
of granules, and whether cell state is live. -/
def State.liveOf (s : State) (t : Nat) : List (Nat × Nat) × Bool :=
  let x := s.tile t
  match x.lastModel.bind fun m => (s.cuvee x.cuvee).serving.models.find m with
  | none => ([], false)
  | some m => match m.recipe.live.find? fun e => e.1 + m.base == x.ctile with
    | none => ([], false)
    | some (_, ranges, masks) =>
      let mask := masks.getD x.entry 0
      ((ranges.zipIdx.filter fun e => bit mask e.2 && decide (e.2 < 63)).map Prod.fst, bit mask 63)

/-- The listed bytes of tile t's store inside ranges of 16 B granules (R86, R262), as (offset, byte). -/
def State.liveBytes (s : State) (t : Nat) (ranges : List (Nat × Nat)) : List (Nat × Byte) :=
  ((s.mem.store.filter fun e => storeKey t 0 ≤ e.1 && e.1 < storeKey (t + 1) 0).map fun e => (e.1 - storeKey t 0, e.2)).filter
    fun e => ranges.any fun r => 16 * r.1 ≤ e.1 && e.1 < 16 * (r.1 + r.2)

/-- The tile state record of tile t (R262). Cell state that is not live is dropped; planes come back from their images. -/
def State.tileRecord (s : State) (t : Nat) : SavedTile :=
  let lv := s.liveOf t
  let x := s.tile t
  let cells := if lv.2 then { x.cells with plane0 := [], plane1 := [] } else default
  { tile := { x with cells := cells, out := [], micro := [], landed := x.landed.take 16 }, bytes := s.liveBytes t lv.1
    ranges := lv.1.take 64, live := lv.2, stash := none }

/-- n listed bytes from an offset as a number, and n listed words from a key. -/
def patchNat (l : List (Nat × Byte)) (at_ n : Nat) : Nat :=
  sumNat ((l.filter fun e => at_ ≤ e.1 && e.1 < at_ + n).map fun e => e.2.toNat <<< (8 * (e.1 - at_)))
def wordsNat (m : Sparse Word32) (at_ n : Nat) : Nat :=
  sumNat ((m.filter fun e => at_ ≤ e.1 && e.1 < at_ + n).map fun e => e.2.toNat <<< (32 * (e.1 - at_)))

/-- The 4,096 B fixed part of a tile state record (R262). DESIGN CHOICE (log 126). -/
def SavedTile.fixedPart (r : SavedTile) : Blob :=
  let x := r.tile
  let rows := List.range 64
  Blob.record [(8, x.controlWord), (8, x.position false), (8, field x.img0 7 0 + field x.img1 7 8),
    (8, b2n r.live + field r.ranges.length 7 16),
    (512, packList 4 (rows.flatMap fun k => [x.cntN.getD k 0, x.cntM.getD k 0])),
    (1024, packList 16 (rows.map fun k => x.rows.getD k 0)),
    (128, packList 1 ((List.range 128).map fun f => x.flags.getD f 0)),
    (1024, sumNat (x.bars.map fun e => field (maskOf e.2.gens) 2 (2 * e.1))),
    (512, packList 4 (r.ranges.flatMap fun g => [g.1, g.2])), (864, x.landed.length)]

/-- Cell k's state: its registers, then both banks. -/
def Cells.record (x : Cells) (k : Nat) : List (Nat × Nat) :=
  [(4096, wordsNat x.regs (1024 * k) 1024), (256, wordsNat x.bank0 (64 * k) 64), (256, wordsNat x.bank1 (64 * k) 64)]

/-- The bytes of a tile state record (R262): the fixed part, landed packets, range data, and cell state when live.
DESIGN CHOICE (log 126). -/
def SavedTile.record (r : SavedTile) : Blob :=
  let f := r.fixedPart
  Blob.record ((f.size, f.val) :: (r.tile.landed.flatMap fun p => [(32, packetHeader p), (256, ofBytes p.data)]) ++
    (r.ranges.map fun g => (16 * g.2, patchNat r.bytes (16 * g.1) (16 * g.2))) ++
    if r.live then (List.range 32).flatMap r.tile.cells.record else [])

/-- Bytes of parcel p's stash that cuvee c may use (R198). DESIGN CHOICE (log 196). -/
def State.stashBytes (s : State) (c p : Nat) : Nat :=
  if s.num 0x5002 (p + 1) = 1 then (s.val 0x5004 c).get p 1 * 1048576 else 0

/-- Bytes that cuvee c's saved states take in parcel p's stash, but for the one under a key. DESIGN CHOICE (log 196). -/
def State.stashUsed (s : State) (c p key : Nat) : Nat :=
  sumNat (((s.cuvee c).serving.saved.filter fun e => e.2.stash == some p && e.1 != key).map fun e => e.2.record.size)

/-- A saved state whose place in a stash is withdrawn: zeroed (R198). DESIGN CHOICE (log 196). -/
def SavedTile.zeroed (r : SavedTile) : SavedTile :=
  { r with
    bytes := [], stash := none
    tile := { (default : Tile) with act := r.tile.act, runTag := r.tile.runTag, runGroup := r.tile.runGroup } }

/-- Saved states stay in parcel p's stash, in order, while `left` bytes last; the others are zeroed. -/
def fitStash (p : Nat) : Nat → Sparse SavedTile → Sparse SavedTile
  | _, [] => []
  | left, (k, r) :: es =>
    if r.stash ≠ some p then (k, r) :: fitStash p left es
    else if r.record.size ≤ left then (k, r) :: fitStash p (left - r.record.size) es
    else (k, r.zeroed) :: fitStash p left es

/-- What cuvee c's allotments no longer hold of its stash regions is zeroed (R198). -/
def State.trimStash (s : State) (c : Nat) : State :=
  s.each (List.range 16) fun s p => s.updCuvee c fun v => { v with
    serving := { v.serving with saved := fitStash p (s.stashBytes c p) v.serving.saved } }

/-- n words of a record from byte o, as the entries of a table from a key. -/
def wordsOf (b : Blob) (o n at_ : Nat) : Sparse Word32 :=
  ((List.range n).map fun i => (at_ + i, BitVec.ofNat 32 (b.get (o + 4 * i) 4))).filter fun e => e.2 != 0

/-- The (offset, byte) pairs of range data that stands from byte o of a record. -/
def rangeBytes (b : Blob) : Nat → List (Nat × Nat) → List (Nat × Byte)
  | _, [] => []
  | o, g :: gs =>
    (((toBytes (16 * g.2) (b.get o (16 * g.2))).zipIdx.map fun e => (16 * g.1 + e.2, e.1)).filter fun e => e.2 != 0) ++
      rangeBytes b (o + 16 * g.2) gs

/-- A record as its bytes give it, where they are whole: images, counters, table, flags, range data and cells. -/
def SavedTile.read (r : SavedTile) (b : Blob) : SavedTile :=
  if b.size ≠ r.record.size then r
  else
    let table := fun (n : Nat) (f : Nat → Nat) => (List.range n).foldl (fun (m : Sparse Nat) k => m.set 0 k (f k)) []
    let at_ := 4096 + 288 * r.tile.landed.length
    let cells := at_ + 16 * sumNat (r.ranges.map Prod.snd)
    let all := fun (o n : Nat) => (List.range 32).flatMap fun k => wordsOf b (cells + 4608 * k + o) n (n * k)
    { r with
      bytes := rangeBytes b at_ r.ranges
      tile := { r.tile with
        img0 := b.get 16 1, img1 := b.get 17 1
        cntN := table 64 fun k => b.get (32 + 8 * k) 4, cntM := table 64 fun k => b.get (36 + 8 * k) 4
        rows := table 64 fun k => b.get (544 + 16 * k) 16, flags := table 128 fun k => b.get (1568 + k) 1
        cells := if r.live then { r.tile.cells with regs := all 0 1024, bank0 := all 4096 64, bank1 := all 4352 64 }
          else r.tile.cells } }

/-- Put a record into tile t, which is cuvee c's tile n: both planes reload from their images, the micro-cache starts
empty, the streams are reseeded (R115, R138, R219, R253). Retirement belongs to the unit. DESIGN CHOICE (log 178). -/
def State.putRecord (s : State) (t c n : Nat) (r : SavedTile) : State :=
  let own := s.tile t
  let s := s.zeroTile t
  let s := s.setTile t { r.tile with
    cuvee := c, ctile := n, retired := own.retired, corrected := own.corrected, micro := [], phi := own.phi
    progress := s.time.now }
  let s := s.storePatch t r.bytes
  let s := (s.loadInto t true r.tile.img1).loadInto t false r.tile.img0
  s.seedStreams t true

/-! ## Scrubbing (R197, R253, R259) -/

/-- Zero a pseudo-channel; zeroed sectors are no longer poisoned. -/
def State.zeroPc (s : State) (k : Nat) : State :=
  let s := s.setHbm (zeroBytes s.mem.hbm (hbmKey k 0) (2 ^ 31))
  s.updPc k fun x => { x with poisoned := [], ucSectors := [], written := [] }

/-- Invalidate the lines of pseudo-channels in their parcels' caches without write-back. -/
def State.dropLines (s : State) (ks : List Nat) : State :=
  s.each (ks.map pcParcel).dedup fun s p => s.updParcel p fun x =>
    { x with lines := x.lines.filter fun l => !ks.contains l.pc, repairs := x.repairs.filter fun r => !ks.contains r.1 }

/-- Ways whose holder changed at this boundary begin their cleaning (R196): old and new mask of one cuvee's table. -/
def State.cleanWays (s : State) (old new : Blob) : State :=
  s.each (List.range 16) fun s p =>
    let moved := (List.range 16).filter fun w => (old.get (2 * p) 2).testBit w && !((new.get (2 * p) 2).testBit w)
    s.updParcel p fun x => { x with cleaning := (x.cleaning ++ moved).dedup }

/-- Drop a cuvee's entries in every translation unit (R220, R259). -/
def State.dropXlate (s : State) (c : Nat) : State :=
  s.each (List.range 16) fun s p => s.updParcel p fun x => { x with xlate := x.xlate.filter fun e => e.1 != c }

/-- Groups of parcel p's unit that cuvee c holds: its allotment, and one at least where it holds tiles (R220). -/
def State.unitGroups (s : State) (c p : Nat) : Nat :=
  let g := (s.val 0x5043 c).get p 1
  if (s.cvTiles c).any fun t => tileParcel t == p then max 1 g else g

/-- The first of them: groups are assigned in ascending order of cuvee ID (R220). -/
def State.firstGroup (s : State) (c p : Nat) : Nat := sumNat ((s.existing.filter (· < c)).map fun d => s.unitGroups d p)

/-- Entries of cuvee c that parcel p's unit may hold: 64 to a group (R220). -/
def State.unitCapacity (s : State) (c p : Nat) : Nat := 64 * s.unitGroups c p

/-- Each unit keeps no more of cuvee c's results than its groups hold now, the most recent ones (R220). -/
def State.trimUnits (s : State) (c : Nat) : State :=
  s.each (List.range 16) fun s p => s.updParcel p fun x =>
    { x with xlate := (x.xlate.filter fun e => e.1 == c).take (s.unitCapacity c p) ++ x.xlate.filter fun e => e.1 != c }

/-- Walks in flight for the tiles listed come to nothing (R219). -/
def State.dropWalks (s : State) (ts : List Nat) : State :=
  { s with mem := { s.mem with walks := s.mem.walks.filter fun w => !ts.contains w.2.2.1 } }

/-- Clear the round counts of the cuvee's barriers (R177, R259). -/
def State.clearBarriers (s : State) (c : Nat) : State :=
  let s := (s.dropArrivals (s.barriersOf c none)).dropFlags c
  { s with net := { s.net with barriers := s.net.barriers.map fun e =>
      if e.2.cuvee = c then (e.1, { e.2 with count0 := 0, count1 := 0, await := [], vgen := 0 }) else e } }

/-- Order 5 of R259: tiles, cache lines, pseudo-channels, translation caches, flags and barriers. Tiles keep their
control words. The stash holds switch state only, which the serving loop drops. -/
def State.scrubCuvee (s : State) (c : Nat) : State :=
  let s := s.each (s.cvTiles c).zipIdx fun s e => (s.zeroTile e.1).bindTile e.1 c e.2
  let s := s.dropLines (s.cvPcs c)
  let s := s.each (s.cvPcs c) State.zeroPc
  ((s.dropXlate c).dropWalks (s.cvTiles c)).clearBarriers c

/-! ## Reset and release (R259–R261, R303) -/

/-- Objects of a cuvee that its tenant may write (R260, R271). -/
def tenantObjects : List ViewDesc := views.filter fun v => bit v.rights 1

/-- The selects that cuvee c's tenant has written return to their defaults (R260, R430). -/
def State.dropSelects (s : State) (c : Nat) : State :=
  { s with dict := { s.dict with selects := s.dict.selects.filter fun e => e.1 != .tenant c } }

/-- Tenant-writable objects return to their defaults (R260). -/
def State.tenantDefaults (s : State) (c : Nat) : State :=
  (s.dropSelects c).each tenantObjects fun s v => match v.target with
    | .own i => if i = 0x3012 || i = 0x5044 then s else s.unsetVal i c
    | .own1 i => s.unsetVal i (c + 1)
    | _ => s

/-- Every per-cuvee object returns to its default (R261). -/
def State.allDefaults (s : State) (c : Nat) : State :=
  (s.dropSelects c).each objects fun s d => match d.owner with
    | .cuvee => s.unsetVal d.idx c
    | .cuvee0 => s.unsetVal d.idx (c + 1)
    | .estate => s

/-- The serving loop at reset (R301, R303): models, queues, casks and clients' records gone, positions and counts 0, ENABLE
clear. ServingCounters go on. -/
def Serving.cleared (v : Serving) : Serving := { (default : Serving) with counters := v.counters }

/-- Rows of the cuvee waiting, deferred, presented or held are gone, and its watches end. -/
def State.dropRows (s : State) (c : Nat) : State :=
  { s with alm := { s.alm with
    issue := s.alm.issue.filter fun x => x.seg != c
    deferred := s.alm.deferred.filter fun x => x.seg != c
    present := s.alm.present.filter fun x => x.seg != c
    watches := s.alm.watches.filter fun w => w.cuvee != c
    heldStarts := s.alm.heldStarts.filter fun e => e.1 / 256 != c } }

/-- Multicast groups and barriers installed for the cuvee go, with their reservations (R159). -/
def State.dropNet (s : State) (c : Nat) : State :=
  { s with net := { s.net with
    mcast := s.net.mcast.filter fun e => e.2.cuvee != c
    barriers := s.net.barriers.filter fun e => e.2.cuvee != c
    resends := s.net.resends.filter fun e => (s.tile e.1).cuvee != c
    combines := s.net.combines.filter fun x => x.pkt.cuvee != c } }

/-- The session of an image is erased when the image completes or ends (R266, R388). -/
def State.eraseSession (s : State) (id : Nat) : State :=
  { s with sec := { s.sec with sessions := s.sec.sessions.filter fun x => x.id != id } }

/-- SESSION of ImageTarget (R263). -/
def State.imageSession (s : State) (c : Nat) : Nat := bits (s.num 0x301C c) 223 192

/-- A save or restore in progress ends with a cause (R249, R269); its session's key is erased. -/
def State.endImage (s : State) (c cause : Nat) : State :=
  let v := s.cuvee c
  let s := if v.saveActive then s.cmdStatusIf c 9 4 stConflict cause else s
  let s := if v.restoreActive then s.cmdStatusIf c 0x0A 4 stConflict cause else s
  let s := if v.saveActive || v.restoreActive then s.eraseSession (s.imageSession c) else s
  s.updCuvee c fun v => { v with saveActive := false, restoreActive := false }

/-- A staged command is dropped by an event or a reset (R248, R259). A staged plan ends abandoned with the same cause. -/
def State.dropStaged (s : State) (c result cause : Nat) : State :=
  match (s.cuvee c).staged with
  | none => s
  | some st =>
    let s := s.updCuvee c fun v => { v with staged := none }
    let s := s.cmdStatus c 4 result cause
    if st.code = 0x0D then s.abandonPlan c cause else s

/-- The trigger of R259 for a reset or a release: RESETTING or RELEASING; rows stop; a holiday not yet cut is abandoned
and recorded flits are discarded (R447); a TDI in use goes to ERROR (R385). A plan after its cut is completed by the
caller before this. -/
def State.beginReset (s : State) (c : Nat) (release : Bool) : State :=
  let s := s.endImage c 2
  let s := if (s.cuvee c).rebindActive then s.abandonPlan c 2 else s
  let s := s.updCuvee c fun v => { v with
    state := if release then .releasing else .resetting, prior := 0, freezeCause := 0, cutIncomplete := false
    quiesce := none, faultNext := false, holdFlits := [], holdData := []
    seq := some ⟨release, s.slotCount, false, [], false⟩ }
  (s.tdiError c).dropRows c

/-- Host reads of cuvee c outstanding, as (port × 65,536 + tag). -/
def State.openReads (s : State) (c : Nat) : List Nat :=
  (bothPorts.flatMap fun p => ((s.host p).reads.filter fun r => r.cuvee == c).map fun r => portNo p * 65536 + r.tag)

/-- Link transfers of cuvee c end on every port (R259 order 4): packets answered later carry STATUS 4. -/
def State.squashLinks (s : State) (c : Nat) : State :=
  let s := s.sendSquash c 1
  let answers := (List.range 12).flatMap fun k =>
    ((s.port k).xfers.filter fun x => x.mine && x.cuvee == c).flatMap fun x => x.pkts
  let s := s.each (List.range 12) fun s k => s.updPort k fun p =>
    { p with xfers := p.xfers.filter fun x => !(x.mine && x.cuvee == c) }
  s.each answers fun s p => s.answer p 6 4 []

/-- RESET_SQUASH (orders 2–4 of R259): at the first slot after the trigger. -/
def State.resetSquash (s : State) (c : Nat) : State :=
  match (s.cuvee c).seq with
  | none => s
  | some q =>
    if q.squashed || s.slotCount ≤ q.at_ then s
    else
      let s := s.eachTile c fun s t => s.squashTile t .idle
      let s := s.squashLinks c
      let b := s.boundFn c
      let s := s.updHost b.1 fun h => { h with held := h.held.filter fun w => w.fn != b.2 }
      let s := { s with
        obs := { s.obs with checks := s.obs.checks.map fun (e : Nat × CheckCh) =>
          if e.2.owner = c then (e.1, { e.2 with queue := [], running := false }) else e } }
      s.updCuvee c fun v => { v with
        seq := some { q with squashed := true, reads := s.openReads c }
        serving := { v.serving.cleared with casks := v.serving.casks, handLog := v.serving.handLog } }

/-- A host read of cuvee c is no longer awaited: it completed, or was abandoned. -/
def State.forgetRead (s : State) (c key : Nat) : State :=
  s.updCuvee c fun v => { v with seq := v.seq.map fun q => { q with reads := q.reads.filter (· != key) } }

/-- HOST_READ_ABANDON (order 3 of R259): a read open 10 ms into the drain; `tag` is port × 65,536 + PCIe tag. A later
completion for it is discarded as unexpected. -/
def State.hostReadAbandon (s : State) (c tag : Nat) : State :=
  match (s.cuvee c).seq with
  | none => s
  | some q =>
    if q.squashed && q.reads.contains tag then
      let s := s.updHost (portOf (tag / 65536)) fun h => { h with reads := h.reads.filter fun r => r.tag != tag % 65536 }
      s.forgetRead c tag
    else s

/-- The drain of orders 3 and 4 has ended. -/
def ResetSeq.drained (q : ResetSeq) : Bool := q.squashed && q.reads.isEmpty

/-- RESET_COMPLETE (orders 5 and 6 of R259, R260). A TDI whose STOP_INTERFACE waited is unlocked (R385).
DEDUCED (log 135). -/
def State.resetComplete (s : State) (c : Nat) : State :=
  match (s.cuvee c).seq with
  | none => s
  | some q =>
    if q.release || !q.drained then s
    else
      let s := (s.scrubCuvee c).dropNet c
      let g := s.seg c
      let s := { s with alm := { s.alm with
        rows := s.alm.rows.clearRange g.base (2 * g.length)
        segs := s.alm.segs.set default c { g with ready := false, latched := false, curPage := false, lastFetch := none } } }
      let s := s.tenantDefaults c
      let s := s.setBook c { s.book c with state := 0 }
      let s := s.updCuvee c fun v => { v with
        state := .bound, seq := none, resets := (v.resets + 1) % 2 ^ 32, rings := [], serving := v.serving.cleared
        tdi := if q.tdiReply then 0 else v.tdi, flagOver := v.flagOver, missRun := 0 }
      let s := match q.tdiReply, (s.cuvee c).binding with
        | true, some (p, vf) => s.emit (.tdisp p vf 0x07 ⟨0, 0⟩)
        | _, _ => s
      s.cmdStatusIf c 0x0B 3 0 0

/-- RELEASE_COMPLETE (R261): the binding and every allotment end, inbound windows that name the cuvee are cleared (R230),
objects return to their defaults, units return to the pool and the ID is free. ResetCount, CommandStatus and meter
records still to be written stay. Writes still pending on its objects fail their check later (R473). -/
def State.releaseComplete (s : State) (c : Nat) : State :=
  match (s.cuvee c).seq with
  | none => s
  | some q =>
    if !q.release || !q.drained then s
    else
      let ts := s.cvTiles c
      let s := ((s.scrubCuvee c).dropNet c).unbind c
      let s := s.each (List.range 4096) fun s i =>
        let idx := 0x5050 + i / 128
        let sub := i % 128 + 1
        match s.dict.vals.find (objKey idx sub) with
        | some b => if bits b.val 99 92 = c && bit b.val 127 then s.setVal idx sub ⟨16, b.val - 2 ^ 127⟩ else s
        | none => s
      let s := s.allDefaults c
      let s := { s with obs := { s.obs with books := s.obs.books.erase c } }
      let old := s.cuvee c
      let s := s.setCuvee c { Cuvee.init with
        resets := old.resets, status := old.status
        meter := { (default : Meter) with due := old.meter.due, prevDigest := old.meter.prevDigest } }
      (s.cmdStatusIf c 0x0C 3 0 0).fenceLater ts

/-! ## THAW, SAVE, RESTORE (R262–R269) -/

/-- Leave FROZEN or SAVED for the PRIOR state (R243, R244): held tiles begin their next entries, recorded flits are
delivered before any new traffic (R445), and transfers' clocks run on. -/
def State.thaw (s : State) (c : Nat) : State :=
  let v := s.cuvee c
  let flits := v.holdFlits
  let data := v.holdData
  let s := s.updCuvee c fun v => { v with
    state := if v.prior = 4 then .paused else .running, prior := 0, freezeCause := 0, quiesce := none, holdFlits := []
    holdData := [] }
  let s := s.eachTile c State.resumeTile
  let s := s.each flits fun s e => s.updPort e.1 fun p => { p with inbox := p.inbox ++ [e.2] }
  s.each data fun s e => s.landData e.1 (!e.2.1) e.2.2

/-- The session named by ImageTarget serves the direction (role 1 source, 2 target) and is READY (R388). -/
def State.sessionReady (s : State) (c role : Nat) : Bool :=
  s.sec.sessions.any fun x => x.id == s.imageSession c && x.state == 2 && x.role == role

/-- The session serves an image now: IN_USE. -/
def State.useSession (s : State) (c : Nat) : State :=
  { s with sec := { s.sec with sessions := s.sec.sessions.map fun x =>
      if x.id == s.imageSession c then { x with state := 3 } else x } }

/-- SAVE or RESTORE begins at its boundary (R247); a session that is not READY ends it with CAUSE 8 (R388). -/
def State.imageBegin (s : State) (c role : Nat) : State :=
  if s.sessionReady c role then
    (s.useSession c).updCuvee c fun v =>
      if role = 1 then { v with saveActive := true } else { v with restoreActive := true }
  else s.cmdStatus c 4 stConflict 8

def execResetSquash (c : Nat) (s : State) : Result := .next (s.resetSquash c)
def execHostReadAbandon (c tag : Nat) (s : State) : Result := .next (s.hostReadAbandon c tag)
def execResetComplete (c : Nat) (s : State) : Result := .next (s.resetComplete c)
def execReleaseComplete (c : Nat) (s : State) : Result := .next (s.releaseComplete c)
end Sys2Proof.Machine
end

