-- ==== Sys2Proof/Machine/Rebind.lean ====
section
/-! DEFINITION. Machine/Rebind.lean: re-binding plans (R250–R258, R273). -/

namespace Sys2Proof.Machine

/-- A plan (R250, R251): entries as their 32- and 64-bit numbers. -/
structure Plan where
  tiles  : List Nat
  pcs    : List Nat
  allots : List Nat
  newTiles : Nat
  newPcs : Nat
deriving DecidableEq, Repr, Inhabited

/-- The plan that a RebindPlan value holds, when its size agrees with its counts and its reserved bytes are 0. -/
def parsePlan (b : Blob) : Option Plan :=
  let nt := b.get 0 2
  let np := b.get 2 2
  let na := b.get 4 2
  if b.size < 16 || b.size ≠ 16 + 4 * nt + 4 * np + 8 * na || nt > 2048 || np > 512 || na > 256 || b.get 10 6 ≠ 0 then none
  else some
    { tiles := (List.range nt).map fun i => b.get (16 + 4 * i) 4
      pcs := (List.range np).map fun i => b.get (16 + 4 * nt + 4 * i) 4
      allots := (List.range na).map fun i => b.get (16 + 4 * nt + 4 * np + 8 * i) 8
      newTiles := b.get 6 2, newPcs := b.get 8 2 }

/-- COPY, number and destination of a tile entry and of a pseudo-channel entry (R251). -/
def teNum (e : Nat) : Nat := bits e 30 20
def teNew (e : Nat) : Nat := bits e 10 0
def peNum (e : Nat) : Nat := bits e 30 22
def peNew (e : Nat) : Nat := bits e 8 0

/-- KIND, INDEX and VALUE of an allotment entry (R251). -/
def aeKind (e : Nat) : Nat := bits e 63 56
def aeIndex (e : Nat) : Nat := bits e 55 48
def aeValue (e : Nat) : Nat := bits e 15 0

/-- The object, byte offset and byte count that an allotment entry sets; `none` for a KIND or INDEX that is reserved. -/
def allotTarget (e : Nat) : Option (Nat × Nat × Nat) :=
  let i := aeIndex e
  match aeKind e with
  | 1 => if i < 42 then some (0x5005, 2 * i, 2) else none
  | 2 => if i < 16 then some (0x5003, 2 * i, 2) else none
  | 3 => if i < 16 then some (0x5004, i, 1) else none
  | 4 => if i < 16 then some (0x5043, i, 1) else none
  | 5 => if i < 16 then some (0x3017, i, 1) else none
  | 6 => if i = 0 then some (0x3017, 16, 1) else none
  | 7 => if i = 0 then some (0x3017, 17, 1) else none
  | _ => none

/-- Every number from the current count up to the new one has an entry; no number twice; COPY only below the count. -/
def entriesOk (es : List Nat) (num : Nat → Nat) (cur new limit : Nat) : Bool :=
  let ns := es.map num
  decide (ns.dedup.length = ns.length) &&
    es.all (fun e => !(bit e 31) || decide (num e < cur)) &&
    ((List.range (new - cur)).all fun i => ns.contains (cur + i)) &&
    ns.all (fun n => decide (n < max cur new)) && decide (1 ≤ new) && decide (new ≤ limit)

/-- The unit list after the plan. -/
def planned (old es : List Nat) (num dest : Nat → Nat) (new : Nat) : List Nat :=
  (List.range new).map fun n =>
    match es.find? fun e => num e == n with
    | some e => dest e
    | none => old.getD n 0

/-- The composition and allotment values that the plan leaves, as the writes it amounts to, over the values that `cur` gives
beside the writes so far. A VALUE beyond its field stands there as the largest, which no total admits.
DESIGN CHOICE (log 205). -/
def State.planWrites (s : State) (cur : List ObjWrite → Nat → Blob) (c : Nat) (p : Plan) : List ObjWrite :=
  let base := [⟨0x3014, c, Blob.array 2 (planned (s.cvTiles c) p.tiles teNum teNew p.newTiles)⟩,
    ⟨0x3015, c, Blob.array 2 (planned (s.cvPcs c) p.pcs peNum peNew p.newPcs)⟩]
  p.allots.foldl (fun ws e =>
    match allotTarget e with
    | none => ws
    | some (i, o, n) =>
      (ws.filter fun w => w.idx != i) ++ [⟨i, c, (cur ws i).put o n (min (aeValue e) (256 ^ n - 1))⟩]) base

/-- The values in force beside a plan's own writes so far. -/
def State.forceView (s : State) (c : Nat) (ws : List ObjWrite) (i : Nat) : Blob :=
  match ws.find? fun w => w.idx == i with
  | some w => w.data
  | none => s.val i c

/-- A parcel's cache is on (R18): without it neither ways nor stash can be allotted (R198). -/
def State.waysAllowed (s : State) (v : Nat → Nat → Blob) (c : Nat) : Bool :=
  (List.range 16).all fun p => (s.parcel p).cacheOn || (vWays v c p == 0 && (v 0x5004 c).get p 1 == 0)

/-- Some resident model has no placement that fits n tiles (R251). -/
def State.noPlacement (s : State) (c n : Nat) : Bool :=
  (s.cuvee c).serving.models.any fun e =>
    e.2.state == 2 && !(e.2.recipe.placements.any fun p => decide (p.tiles ≤ n))

/-- A VALID interleave set names a pseudo-channel at or above n. -/
def State.setBeyond (s : State) (c n : Nat) : Bool :=
  ((s.val 0x5006 c).elems 8).any fun e => bit e 63 && decide (n < bits e 8 0 + 2 ^ bits e 62 60)

/-- R251's check of the plan in force: its status, and whether CAUSE 10 is recorded. DEDUCED (log 228). -/
def State.planStatus (s : State) (a : Acc) (c : Nat) : Nat × Bool :=
  match parsePlan (s.val 0x301A c) with
  | none => (stRange, false)
  | some p =>
    let ts := s.cvTiles c
    let ks := s.cvPcs c
    let reserved := p.tiles.any (fun e => bits e 19 11 != 0) || p.pcs.any (fun e => bits e 21 9 != 0) ||
      p.allots.any fun e => bits e 47 16 != 0 || (allotTarget e).isNone
    if reserved || !entriesOk p.tiles teNum ts.length p.newTiles 2048 || !entriesOk p.pcs peNum ks.length p.newPcs 512 then
      (stRange, false)
    else
      let ws := s.planWrites (fun ws i => s.view a ws i c) c p
      let v := s.view a ws
      let cs := s.existing
      let tu := s.unitsStatus c true (p.tiles.map teNew)
      let pu := s.unitsStatus c false (p.pcs.map peNew)
      let dup := (vTiles v c).dedup.length != (vTiles v c).length || (vPcs v c).dedup.length != (vPcs v c).length
      if tu = stRange || pu = stRange || dup || !s.waysAllowed v c then (stRange, false)
      else if s.noPlacement c p.newTiles || s.setBeyond c p.newPcs then (stConflict, true)
      else if tu = stOver || pu = stOver || !queuesFit v cs || !serviceFit v cs ||
          !((List.range 16).all fun q => groupsFit v cs q && waysFit v cs q && stashFit v cs q) then (stOver, false)
      else if !s.clustersOn (p.tiles.map teNew) then (stNotReady, false)
      else (stOk, false)

/-- The entries of the plan in force that copy a pseudo-channel, by number. -/
def State.copiedPcs (s : State) (c : Nat) : List Nat :=
  match parsePlan (s.val 0x301A c) with
  | none => []
  | some p => (p.pcs.filter fun e => bit e 31).map peNum

/-- An accepted REBIND: REBIND_ACTIVE, phase staged, and its destinations leave the pool (R238, R244, R273). -/
def State.rebindStage (s : State) (c : Nat) : State :=
  let s := s.updCuvee c fun v => { v with rebindActive := true, rebind := { (default : Rebind) with phase := 1 } }
  match parsePlan (s.val 0x301A c) with
  | none => s
  | some p => (s.reserveUnits c true (p.tiles.map teNew)).reserveUnits c false (p.pcs.map peNew)

/-- A record cut into pieces of 256 B at most: place and bytes. -/
def recordPieces (b : Blob) : List (Nat × List Byte) :=
  (List.range (ceilDiv b.size 256)).map fun i =>
    let n := min 256 (b.size - 256 * i)
    (256 * i, toBytes n (b.get (256 * i) n))

/-- The state records of the tiles that a plan moves set out on VC3, from the old tiles to the new (R253): whole, in packets
of 256 B, ADDR their place in the record. DESIGN CHOICE (log 126). -/
def State.sendStates (s : State) (c : Nat) : State :=
  match parsePlan (s.val 0x301A c) with
  | none => s
  | some p =>
    s.each (p.tiles.filter fun e => bit e 31) fun s e =>
      let old := (s.cvTiles c).getD (teNum e) 0
      s.each (recordPieces (s.tileRecord old).record) fun s q =>
        s.inject { (default : Packet) with
          ty := 8, vc := 3, flits := ceilDiv q.2.length 32, bytes := q.2.length, cuvee := c, src := old, dst := teNew e
          addr := q.1, data := q.2 }

/-- The record that has landed at a destination tile: its pieces put together. -/
def Cuvee.landedRecord (v : Cuvee) (t : Nat) : Blob :=
  let ps := v.rebind.landed.filter fun e => e.1 == t
  ⟨maxNat (ps.map fun e => e.2.1 + e.2.2.length),
    sumNat ((ps.map fun e => e.2).dedup.map fun e => ofBytes e.2 <<< (8 * e.1))⟩

/-- The cut of a plan whose cuvee runs no tiles: at the boundary itself (R252). A holiday that stands there is completed
first. -/
def State.rebindCutNow (s : State) (c : Nat) : State :=
  let stamp := s.stamp
  let s := s.updCuvee c fun v => { v with rebind := { v.rebind with phase := 4, cut := stamp } }
  if (s.cuvee c).quiesce.isNone then s.sendStates c else s

/-- PRECOPY has ended for cuvee c (R252): QUIESCE begins in RUNNING and PAUSED; otherwise the cut is now.
DEDUCED (log 124). -/
def State.rebindQuiesce (s : State) (c : Nat) : State :=
  if (s.cuvee c).live then
    let s := s.updCuvee c fun v => { v with rebind := { v.rebind with phase := 3 } }
    s.callQuiesce c 3 c 0 s.quiesceBy
  else s.rebindCutNow c

/-- The destination of a copied pseudo-channel of the plan in force. -/
def State.copyTo (s : State) (c k : Nat) : Option Nat :=
  (parsePlan (s.val 0x301A c)).bind fun p => (p.pcs.find? fun e => bit e 31 && peNum e == k).map peNew

/-- The plan's boundary (R252): PRECOPY, in which every region written is marked; a plan that copies no pseudo-channel skips
it. -/
def State.rebindBegin (s : State) (c : Nat) : State :=
  let s := s.updCuvee c fun v => { v with rebind := { v.rebind with phase := 2 } }
  let ks := s.copiedPcs c
  if ks.isEmpty then s.rebindQuiesce c
  else s.each ks fun s k => s.updPc ((s.cvPcs c).getD k 0) fun x => { x with dirty := some [] }

/-- Every copied pseudo-channel has a pass end at or below FinalCopyThreshold (R252). DESIGN CHOICE (log 125). -/
def State.precopyDone (s : State) (c : Nat) : Bool :=
  let r := (s.cuvee c).rebind
  (s.copiedPcs c).all fun k => match r.pcDirty.find k with
    | some d => decide (d ≤ s.num 0x301E 2)
    | none => false

/-- At a boundary, plans whose pre-copy has converged go on (R252). -/
def State.rebindBoundary (s : State) : State :=
  s.each s.existing fun s c =>
    if (s.cuvee c).rebindActive && (s.cuvee c).rebind.phase == 2 && s.precopyDone c then s.rebindQuiesce c else s

/-- Couriers copy regions of one pseudo-channel to another, all of them for `none` (R252): the bytes as they stand now. -/
def State.copyRegions (s : State) (old new : Nat) (which : Option (List Nat)) : State :=
  let in_ := fun off => match which with
    | none => true
    | some rs => rs.contains (off / 65536)
  let of_ := fun (k : Nat) (e : Host.Cell) => hbmKey k 0 ≤ e.1 && e.1 < hbmKey (k + 1) 0 && in_ (e.1 - hbmKey k 0)
  let cells := s.mem.hbm.filter (of_ old)
  let m := s.mem.hbm.filter fun e => !of_ new e
  let n := match which with
    | none => pcBytes
    | some rs => 65536 * rs.length
  let s := s.setHbm (cells.foldl (fun (m : List Host.Cell) (e : Host.Cell) =>
    writeByte m (hbmKey new 0 + (e.1 - hbmKey old 0)) e.2) m)
  (s.count (8 * (4096 + old)) n).count (8 * (4096 + new) + 1) n

/-- The regions still to copy of cuvee c's pseudo-channel number k; `none` before its first pass has ended. -/
def State.leftToCopy (s : State) (c k : Nat) : Option (List Nat) :=
  let r := (s.cuvee c).rebind
  if r.pcPass.getD k 0 = 0 then none
  else some ((r.todo.getD k [] ++ ((s.pc ((s.cvPcs c).getD k 0)).dirty.getD [])).dedup)

/-- A pass over pseudo-channel number k ends (R252): what it had to copy is copied, and the next one has the regions written
since it began. DESIGN CHOICE (log 125). -/
def State.passEnd (s : State) (c k : Nat) : State :=
  match s.copyTo c k with
  | none => s
  | some new =>
    let old := (s.cvPcs c).getD k 0
    let r := (s.cuvee c).rebind
    let s := s.copyRegions old new (if r.pcPass.getD k 0 = 0 then none else some (r.todo.getD k []))
    let marked := (s.pc old).dirty.getD []
    let s := s.updPc old fun x => { x with dirty := some [] }
    s.updCuvee c fun v => { v with rebind := { v.rebind with
      pcDirty := v.rebind.pcDirty.insert k (65536 * marked.length), pcPass := v.rebind.pcPass.insert k (v.rebind.pcPass.getD k 0 + 1)
      todo := v.rebind.todo.insert k marked } }

/-- PRECOPY_PASS_END (R252, R256): a pass over each pseudo-channel listed has ended; after PassLimit passes one above
FinalCopyLimit abandons the plan. DESIGN CHOICE (log 125). -/
def State.precopyPassEnd (s : State) (c : Nat) (ks : List Nat) : State :=
  let v := s.cuvee c
  if !v.rebindActive || v.rebind.phase ≠ 2 then s
  else
    let mine := ks.dedup.filter fun k => (s.copiedPcs c).contains k
    let s := s.each mine fun s k => s.passEnd c k
    let s := s.updCuvee c fun v => { v with rebind := { v.rebind with
      dirty := maxNat (v.rebind.pcDirty.map Prod.snd) % 2 ^ 32, passes := min 255 (maxNat (v.rebind.pcPass.map Prod.snd)) } }
    let r := (s.cuvee c).rebind
    if mine.any fun k => decide (s.num 0x301E 3 ≤ r.pcPass.getD k 0) && decide (s.num 0x301E 4 < r.pcDirty.getD k 0) then
      s.abandonPlan c 4
    else s

/-- The final copy of pseudo-channel number k (R253 step 2): what is left of it; sectors poisoned arrive poisoned. -/
def State.finalCopy (s : State) (c k new : Nat) : State :=
  let old := (s.cvPcs c).getD k 0
  let s := s.copyRegions old new (s.leftToCopy c k)
  let x := s.pc old
  (s.updPc new fun y => { y with poisoned := x.poisoned, written := x.written }).updPc old fun x => { x with dirty := none }

/-- Units that pass out of the cuvee: control words and owners go, and each waits for its scrub (R253). -/
def State.releaseUnits (s : State) (ts ks : List Nat) : State :=
  let s := s.each ts fun s t => s.updTile t fun x => { x with cuvee := 0, ctile := 0, act := .idle, inEntry := false }
  let s := s.each ks fun s k => s.updPc k fun x => { x with owner := none }
  (s.giveBack true ts).giveBack false ks

/-- Resumption (R252, R256): the cuvee goes on in its state; a fault, flare or freeze that joined the plan, or poisoned
STATE data, leaves it FROZEN instead. A cuvee that was FROZEN stays so. -/
def State.rebindResume (s : State) (c : Nat) : State :=
  let v := s.cuvee c
  let bad := v.rebind.poisoned
  let cause := if v.rebind.freezeAfter ≠ 0 then v.rebind.freezeAfter else if bad.isEmpty then 0 else 2
  let stamp := s.stamp
  let s := s.updCuvee c fun v => { v with
    rebindActive := false, cntFlags := v.cntFlags ||| 8, quiesce := if v.state = .frozen then v.quiesce else none
    rebind := { v.rebind with phase := 5, resumed := stamp, freezeAfter := 0, todo := [], landed := [] } }
  let s := s.cmdStatusIf c 0x0D 3 0 0
  let s := if v.live && cause = 0 then s.eachTile c State.resumeTile else s
  let s := s.each bad fun s t =>
    let x := s.tile t
    let s := s.updTile t fun x => { x with act := .faulted, cause := 6 }
    s.logCuvee c 1 1 1 x.ctile 6 x.entry 0
  if v.live && cause ≠ 0 then s.freezeCuvee c cause false else s

/-- The work between the cut and resumption (R253). DESIGN CHOICE (log 126). -/
def State.rebindMoves (s : State) (c : Nat) : State :=
  match parsePlan (s.val 0x301A c) with
  | none => s.rebindResume c
  | some p =>
    let oldT := s.cvTiles c
    let oldK := s.cvPcs c
    let newT := planned oldT p.tiles teNum teNew p.newTiles
    let newK := planned oldK p.pcs peNum peNew p.newPcs
    let ws := s.planWrites (s.forceView c) c p
    let recs := p.tiles.map fun e => (teNum e, if bit e 31 then some ((s.tileRecord (oldT.getD (teNum e) 0)).read ((s.cuvee c).landedRecord (teNew e))) else none)
    let s := s.each (p.pcs.filter fun e => bit e 31) fun s e => s.finalCopy c (peNum e) (peNew e)
    let s := s.each (p.pcs.filter fun e => !bit e 31) fun s e => s.zeroPc (peNew e)
    let s := s.dropLines (oldK.filter fun k => !newK.contains k)
    let s := s.releaseUnits (oldT.filter fun t => !newT.contains t) (oldK.filter fun k => !newK.contains k)
    let s := s.each (p.tiles.zip recs) fun s e =>
      match e.2.2 with
      | some r => s.putRecord (teNew e.1) c (teNum e.1) r
      | none => (s.zeroTile (teNew e.1)).bindTile (teNew e.1) c (teNum e.1)
    let s := s.each ws fun s w =>
      let old := s.val w.idx w.sub
      let s := s.setVal w.idx w.sub w.data
      if w.idx = 0x5003 then s.cleanWays old w.data else s
    let s := s.each newK fun s k => s.updPc k fun x => { x with owner := if (s.cuvee c).binding.isSome then some c else none }
    let s := if (s.cuvee c).binding.isNone then s.each newT fun s t => s.bindTile t 0 0 else s
    let s := { s with dict := { s.dict with reserved := s.dict.reserved.filter fun e => e.1 != c } }
    let s := ((s.trimUnits c).trimStash c).dropWalks (oldT.filter (fun t => !newT.contains t) ++ p.tiles.map teNew)
    let s := (s.relayNet c).fenceLater (oldT ++ newT)
    s.rebindResume c

/-- HOLIDAY_COMPLETE (R444): state records are read only now, so those of a plan past its cut set out. -/
def State.holidayDone (s : State) (sc : Scope) : State :=
  let open_ := fun (s : State) c => ((s.cuvee c).quiesce.map fun q => !q.complete).getD false
  let plans := (s.scopeHeld sc).filter fun c => open_ s c && (s.cuvee c).rebindActive && (s.cuvee c).rebind.phase == 4
  let s := s.holidayComplete sc
  s.each plans fun s c => if open_ s c then s else s.sendStates c

/-- The holiday of the plan's cut, where it has one, is complete. -/
def Cuvee.pauseReady (v : Cuvee) : Bool := (v.quiesce.map Quiesce.complete).getD true

/-- REBIND_MOVES_DONE: the moves of a plan past its cut are done; its holiday is complete and its STATE packets have all
arrived (R253, R444). -/
def State.rebindMovesDone (s : State) (c : Nat) : State :=
  let v := s.cuvee c
  if v.rebindActive && v.rebind.phase == 4 && v.pauseReady && !(s.net.flight.any fun p => p.ty == 8 && p.cuvee == c) then s.rebindMoves c
  else s

def execPrecopyPassEnd (c : Nat) (ks : List Nat) (s : State) : Result := .next (s.precopyPassEnd c ks)

end Sys2Proof.Machine
end

