-- ==== Sys2Proof/Machine/Cuvee.lean ====
section
/-! DEFINITION. Machine/Cuvee.lean: the commands of a cuvee: legality (R246), staging (R247, R249) and action, the slot a
freeze begins at (R262), FLR (R248) and CLUSTER_POWER_UP (R364). -/

namespace Sys2Proof.Machine

/-- The words of CuveeState (R244). -/
def Cuvee.word (v : Cuvee) : Nat :=
  let held := v.state == .frozen || v.state == .saved
  field (if held then v.prior else 0) 4 12 + field (if held then v.freezeCause else 0) 3 9 +
    field (b2n v.cutIncomplete) 1 8 + field (b2n v.rebindActive) 1 7 + field (b2n v.saveActive) 1 6 +
    field (b2n v.restoreActive) 1 5 + field v.state.code 4 0

/-- R246 with its notes, R53, R256, R386 and R452: the command is legal in the cuvee's state. DEDUCED (log 162). -/
def State.legal (s : State) (c code : Nat) : Bool :=
  let v := s.cuvee c
  let st := v.state
  let stopped := s.faults.estateState == 1 || s.faults.estateState == 2
  let inUse := st == .bound || st == .running || st == .paused || st == .frozen || st == .saved
  (!stopped || code == 9 || code == 0x0B || code == 0x0C) &&
    match code with
    | 1 => st == .none
    | 2 => st == .defined
    | 3 => st == .bound
    | 4 => st == .bound && s.cad.state != .unlocked && !v.restoreActive
    | 5 => st == .running
    | 6 => st == .paused && s.cad.state != .unlocked
    | 7 => st == .running || st == .paused
    | 8 => (st == .frozen || st == .saved) && !v.saveActive && !v.cutIncomplete && (v.prior == 4 || s.cad.state != .unlocked)
    | 9 => st == .frozen && !v.saveActive && !v.rebindActive && !v.cutIncomplete &&
        !((v.tdi == 1 || v.tdi == 2) && s.num 0xA00A c == 0)
    | 0x0A => st == .bound
    | 0x0B => inUse
    | 0x0C => (inUse || st == .defined) && !v.rebindActive
    | 0x0D => !v.rebindActive && (st == .defined || (st == .bound && !v.restoreActive) || st == .running || st == .paused ||
        (st == .frozen && !v.saveActive && !v.cutIncomplete))
    | 0x0E => v.rebindActive && decide (v.rebind.phase ≤ 3)
    | _ => false

/-- The conditions that a command meets at its write and again at its action: a status, and whether CAUSE 10 stands. -/
def State.commandStatus (s : State) (a : Acc) (c code : Nat) (arg : Nat) : Nat × Bool :=
  if !s.legal c code then (stConflict, false)
  else match code with
    | 2 => (if s.clustersOn (s.cvTiles c) then s.bindStatus c arg else stNotReady, false)
    | 0x0D => s.planStatus a c
    | _ => (stOk, false)

/-- Value checks of a record (R245, R246): 0, or OUT_OF_RANGE. -/
def State.recordStatus (s : State) (code : Nat) (k : CmdRec) : Nat :=
  let argOk := if code = 2 then k.arg < 512 && 1 ≤ bits k.arg 7 0 && bits k.arg 7 0 ≤ 127 else k.arg = 0
  let named := if k.named then epochLater k.epoch s.time.e else k.epoch = 0
  let slot := code = 7 || k.slot = 0
  if 1 ≤ code && code ≤ 0x0E && k.reserved = 0 && k.slot < 4096 && k.epoch < 2 ^ 40 && argOk && named && slot then
    stOk else stRange

/-- The command is accepted and staged (R247, R249). DEDUCED (log 122). -/
def State.stageCommand (s : State) (a : Acc) (c code : Nat) (k : CmdRec) : State :=
  let st : Staged := ⟨s.dict.nextSeq, code, k, s.time.epochs + 1, a, 16, s.time.now + 200⟩
  let s := { s with dict := { s.dict with nextSeq := s.dict.nextSeq + 1 } }
  let s := s.updCuvee c fun v => { v with
    staged := some st, status := ⟨⟨0, 0, 0⟩, code, stStaged, 0, 1, (v.status.seq + 1) % 2 ^ 32⟩ }
  if code = 0x0D then s.rebindStage c else s

/-- REBIND refused with CAUSE 10 at the write (R249, R251): recorded, not counted. -/
def State.refuseRebind (s : State) (c : Nat) : State :=
  let t := s.etime
  s.updCuvee c fun v => { v with status := ⟨t, 0x0D, stConflict, 10, 4, v.status.seq⟩ }

/-- ABORT withdraws the staged command (R247, R249). A staged plan ends with it. -/
def State.withdrawCommand (s : State) (c : Nat) : State := s.dropStaged c 0 11

/-- The staged command of a cuvee acts at this boundary: NAMED 0 at the next one after acceptance; NAMED at the one that
begins its epoch, or at the boundary that passes that epoch by a jump. FREEZE acts at its slot, and RESET with NAMED 0 too
(R247). DEDUCED (log 121). -/
def State.commandDue (s : State) (st : Staged) : Bool :=
  st.code != 7 &&
    (if st.cmd.named then decide (st.cmd.epoch = s.time.e) || !(epochLater st.cmd.epoch s.time.e)
     else st.code != 0x0B && decide (st.due ≤ s.time.epochs))

/-- RESET acts (R256, R259): moves past the cut complete first. -/
def State.resetAct (s : State) (c : Nat) (release : Bool) : State :=
  let s := if (s.cuvee c).rebindActive && (s.cuvee c).rebind.phase == 4 then s.rebindMoves c else s
  let s := if release then s.meterEnd c 0 true else s
  let s := s.beginReset c release
  s.cmdStatusIf c (if release then 0x0C else 0x0B) 2 0 0

/-- A command acts (R246, R247): its own effect, after the recheck. -/
def State.commandEffect (s : State) (c : Nat) (st : Staged) : State :=
  match st.code with
  | 1 => (s.updCuvee c fun v => { v with state := .defined }).cmdStatus c 3 0 0
  | 2 => (s.bindAct c st.cmd.arg).cmdStatus c 3 0 0
  | 3 => ((s.unbind c).updCuvee c fun v => { v with state := .defined }).cmdStatus c 3 0 0
  | 4 => (s.updCuvee c fun v => { v with state := .running }).cmdStatus c 3 0 0
  | 5 => (s.updCuvee c fun v => { v with state := .paused }).cmdStatus c 3 0 0
  | 6 => (s.updCuvee c fun v => { v with state := .running }).cmdStatus c 3 0 0
  | 7 => (s.callQuiesce c 0 c 1 s.quiesceBy).cmdStatus c 2 0 0
  | 8 => (s.thaw c).cmdStatus c 3 0 0
  | 9 => (s.cmdStatus c 2 0 0).imageBegin c 1
  | 0x0A => (s.cmdStatus c 2 0 0).imageBegin c 2
  | 0x0B => s.resetAct c false
  | 0x0C => s.resetAct c true
  | 0x0D => (s.cmdStatus c 2 0 0).rebindBegin c
  | 0x0E => (s.abandonPlan c 9).cmdStatus c 3 0 0
  | _ => s

/-- The moment of action (R247): the recheck, then the effect; a command that no longer passes is dropped with CAUSE 1. -/
def State.commandAct (s : State) (c : Nat) : State :=
  match (s.cuvee c).staged with
  | none => s
  | some st =>
    let s := s.updCuvee c fun v => { v with staged := none }
    let plan := st.code == 0x0D
    -- the plan's own reservation and REBIND_ACTIVE do not stand against it
    let seen := if plan then s.updCuvee c fun v => { v with rebindActive := false } else s
    let r := seen.commandStatus st.by_ c st.code st.cmd.arg
    if r.1 = stOk then s.commandEffect c st
    else
      let s := s.cmdStatus c 4 r.1 1
      if plan then s.abandonPlan c 1 else s

/-- A slot that begins counts towards a FREEZE with NAMED 0 (R262). -/
def State.freezeCount (s : State) : State :=
  s.each s.existing fun s c => s.updCuvee c fun v =>
    { v with staged := v.staged.map fun st => if st.code = 7 && !st.cmd.named then { st with slots := st.slots - 1 } else st }

/-- FREEZE begins at the slot that began (R262). -/
def State.freezeDue (s : State) (st : Staged) : Bool :=
  st.code == 7 &&
    (if st.cmd.named then
      decide (st.cmd.epoch = s.time.e ∧ st.cmd.slot ≤ s.time.slot) || !(epochLater st.cmd.epoch s.time.e) && st.cmd.epoch != s.time.e
     else st.slots == 0 && decide (st.notBefore ≤ s.time.now))

/-- The quiesces and resets that begin at this slot (R247, R248, R262): events before commands. -/
def State.slotCommands (s : State) : State :=
  let s := s.freezeCount
  let s := s.each s.existing fun s c =>
    if (s.cuvee c).faultNext then
      (s.callQuiesce c 0 c 2 s.quiesceBy).updCuvee c fun v => { v with faultNext := false }
    else s
  s.each s.existing fun s c =>
    match (s.cuvee c).staged with
    | none => s
    | some st =>
      if s.freezeDue st || (st.code == 0x0B && !st.cmd.named) then s.commandAct c else s

/-- FLR of the VF that carries the cuvee, or a reset of its port (R248, R256, R385): RESETTING. -/
def State.flrCuvee (s : State) (c : Nat) : State :=
  match (s.cuvee c).state with
  | .bound | .running | .paused | .frozen | .saved =>
    let s := s.dropStaged c stConflict 2
    let s := if (s.cuvee c).rebindActive && (s.cuvee c).rebind.phase == 4 then s.rebindMoves c else s
    s.beginReset c false
  | _ => s

/-- RebindStatus (R273). -/
def Cuvee.rebindRecord (v : Cuvee) : Blob :=
  let r := v.rebind
  ⟨32, field r.cut 64 192 + field r.resumed 64 128 + field r.dirty 32 96 + field r.passes 8 88 + field r.phase 4 84 +
    field r.cause 8 76⟩

/-- CommandStatus (R249). DEDUCED (log 122). -/
def Cuvee.statusRecord (v : Cuvee) : Blob :=
  let r := v.status
  ⟨32, field r.actedAt.raw 64 192 + field r.code 8 184 + field r.result 8 176 + field r.cause 8 168 + field r.phase 4 164 +
    field r.seq 32 128⟩

/-- CLUSTER_POWER_UP (R364): a cluster that was powering up is ON, its tiles zeroed. -/
def State.clusterPowerUp (s : State) (d : Nat) : State :=
  if s.domain d ≠ 1 then s
  else (s.each ((s.muster.tileMap.filter fun e => physCluster e.2 == d).map Prod.fst) State.zeroTile).setDomain d 2

def execClusterPowerUp (cl : Nat) (s : State) : Result := .next (s.clusterPowerUp cl)

end Sys2Proof.Machine
end

