-- ==== Sys2Proof/Machine/Memory.lean ====
section
/-! DEFINITION. Machine/Memory.lean: parcel memory: interleave sets (R188), error correction and patrol scrub (R191, R192,
R436), the parcel cache (R193–R197), latency averages and levels (R201), admission totals and the shortfall (R203–R209),
stack temperature (R184). -/

namespace Sys2Proof.Machine

/-! ## Interleave sets (R188) -/

/-- The cuvee-relative pseudo-channel and byte offset of a set offset. -/
def setPlace (entry a : Nat) : Nat × Nat :=
  let n := 2 ^ bits entry 62 60
  (bits entry 8 0 + a / 256 % n, a / 256 / n * 256 + a % 256)

/-- The logical pseudo-channel and byte offset of set `set`, offset a, of cuvee c; `none` outside the set. -/
def State.resolveSet (s : State) (c set a : Nat) : Option (Nat × Nat) :=
  let e := (s.val 0x5006 c).get (8 * set) 8
  if !bit e 63 || 2 ^ bits e 62 60 * pcBytes ≤ a then none
  else
    let r := setPlace e a
    ((s.cvPcs c)[r.1]?).map fun k => (k, r.2)

/-! ## Error correction (R191, R433, R436) -/

/-- The last 24 h of a list of instants, with `now` added n times. -/
def lastDay (l : List Rat) (now : Rat) (n : Nat) : List Rat :=
  (l.filter fun t => decide (now - 86400000000000 < t)) ++ List.replicate n now

/-- The sectors of 32 B that n bytes at off touch. -/
def sectorsOf (off n : Nat) : List Nat := (List.range ((off % 32 + n + 31) / 32)).map fun i => off / 32 + i

/-- Corrected sectors of a pseudo-channel are counted against it, and may retire it (R191, R436). -/
def State.countCorrected (s : State) (k n : Nat) : State :=
  let s := s.updPc k fun x => { x with
    corrected := (x.corrected + n) % 2 ^ 32, recent := lastDay x.recent s.time.now n }
  let s := (s.count (8 * (4096 + k) + 3) n).logCorrected (2 ^ 16 + k) k 1 n
  let s := match (s.pc k).owner with
    | some c => s.tally c 17 n
    | none => s
  if (s.val 0xB012 1).get 4 4 ≤ (s.pc k).recent.length then s.retirePc k else s

/-- Sectors become poisoned until a full write replaces them; those that were not yet are counted (R191, R211). -/
def State.markPoison (s : State) (k : Nat) (sectors : List Nat) : State :=
  s.updPc k fun x => { x with
    poisoned := (x.poisoned ++ sectors).dedup
    poisonRun := (x.poisonRun + (sectors.dedup.filter fun q => !x.poisoned.contains q).length) % 2 ^ 32 }

/-- Sectors found uncorrectable: poisoned, counted, and may retire the pseudo-channel (R191, R436). -/
def State.poison (s : State) (k : Nat) (sectors : List Nat) : State :=
  let s := (s.markPoison k sectors).updPc k fun x => { x with
    ucSectors := (x.ucSectors ++ sectors).dedup, uncorr := (x.uncorr + sectors.length) % 2 ^ 32 }
  let s := s.count (8 * (4096 + k) + 4) sectors.length
  let s := match (s.pc k).owner with
    | some c => s.tally c 18 sectors.length
    | none => s
  if (s.val 0xB012 1).get 2 2 ≤ (s.pc k).ucSectors.length then s.retirePc k else s

/-- The controller's result for a read of n bytes at off (R191): the packet STATUS, 0 or 1. Corrected sectors are queued
for one repair write each. -/
def State.eccRead (s : State) (k off n : Nat) (v : EccVerdict) : Nat × State :=
  let secs := sectorsOf off n
  let already := secs.any fun x => (s.pc k).poisoned.contains x
  match v with
  | .clean => (b2n already, s)
  | .corrected m =>
    let fixed := secs.take (max 1 m)
    let s := s.countCorrected k fixed.length
    let s := s.updParcel (pcParcel k) fun p => { p with
      repairs := p.repairs ++ (fixed.map fun x => (k, x)).filter fun r => !p.repairs.contains r }
    (b2n already, s)
  | .uncorrectable => (1, s.poison k secs)
  | .onDie n => (b2n already, s.updPc k fun x => { x with stackRep := (x.stackRep + n) % 2 ^ 32 })

/-- A full write of a sector replaces its poison (R191). -/
def State.unpoison (s : State) (k off n : Nat) : State :=
  s.updPc k fun x => { x with poisoned := x.poisoned.filter fun q => !(off ≤ 32 * q && 32 * q + 32 ≤ off + n) }

/-- Cuvee c's reservation on a resource in force (R205), and the sum of all (R203). -/
def State.queueOf (s : State) (c r : Nat) : Nat := vQueue s.val c r
def State.reservedOf (s : State) (r : Nat) : Nat := sumNat (s.existing.map fun c => s.queueOf c r)

/-- Nominal capacity of a resource (R203). -/
def nominal (r : Nat) : Nat :=
  if r < 0x10 then 768 else if r < 0x14 then 1024 else if r < 0x1C then 64 else 256

/-- Repair writes of parcel p that hold an entry: as many as the unreserved entries are (R191, R204); the others wait. -/
def State.repairsHeld (s : State) (p : Nat) : List (Nat × Nat) := (s.parcel p).repairs.take (nominal p - s.reservedOf p)

/-- REPAIR_WRITE (R191): a corrected sector whose repair write holds an entry is written back once. -/
def State.repairWrite (s : State) (k sector : Nat) : State :=
  if (s.repairsHeld (pcParcel k)).contains (k, sector) then
    (s.updParcel (pcParcel k) fun p => { p with repairs := p.repairs.erase (k, sector) }).count (8 * (4096 + k) + 2) 32
  else s

/-- PATROL_SCRUB (R192): one sector of an owned pseudo-channel is read; correctable ones are repaired, uncorrectable ones
poisoned and logged as PATROL_POISON. -/
def State.patrolScrub (s : State) (k sector : Nat) (v : EccVerdict) : State :=
  match (s.pc k).owner with
  | none => s
  | some c =>
    let s := (s.count (8 * (4096 + k) + 2) 32).updPc k fun x => { x with scrubbed := s.time.now }
    let r := s.eccRead k (32 * sector) 32 v
    match v with
    | .uncorrectable =>
      if c = 0 then r.2.logEstate (faultRecord s.stamp 4 1 0 0 k (32 * sector) 0 0)
      else r.2.plainFault c 4 1 (((s.cvPcs c).findIdx? (· == k)).getD 0) (32 * sector) 0 0
    | _ => r.2

/-! ## The parcel cache (R193–R196) -/

/-- The ways of parcel p that requests of cuvee c with a label's WAYS mask may allocate into (R195, R196, R198). Estate
requests use the ways that no cuvee holds. -/
def State.waysFor (s : State) (p c mask : Nat) : List Nat :=
  let stash := s.num 0x5002 (p + 1) == 1
  let top := if stash then 8 else 16
  let ways := if c = 0 then
      (List.range top).filter fun w => !(s.existing.any fun d => ((s.val 0x5003 d).get (2 * p) 2).testBit w)
    else
      let mine := (List.range top).filter fun w => ((s.val 0x5003 c).get (2 * p) 2).testBit w
      (mine.zipIdx.filter fun e => mask.testBit e.2).map Prod.fst
  ways.filter fun w => !(s.parcel p).cleaning.contains w

/-- The line of (k, line) outside the ways being cleaned: the only one that is served (R193, R196). -/
def ParcelSt.findLine (x : ParcelSt) (k line : Nat) : Option Line :=
  x.lines.find? fun l => l.pc == k && l.line == line && !x.cleaning.contains l.way

/-- The way that a miss takes in a set, of those it may allocate into: a free one, else that of the least recently used line.
DESIGN CHOICE (log 195). -/
def victimWay (here : List Line) (ways : List Nat) : Nat :=
  match ways.filter fun w => !(here.any fun l => l.way == w) with
  | w :: _ => w
  | [] =>
    match (here.filter fun l => ways.contains l.way).foldl (fun (b : Option Line) (l : Line) =>
      match b with
      | none => some l
      | some m => if l.lru < m.lru then some l else some m) none with
    | some l => l.way
    | none => 0

/-- A request touches sectors of a line (R193–R196). A line that stands in a way not being cleaned becomes the most recent
under every policy; sectors that it lacked are filled. Else a miss allocates by the policy. Returns whether the bytes came
from, or went into, the cache. DESIGN CHOICE (log 73). -/
def State.touchLine (s : State) (k line c mask policy sectors : Nat) (write : Bool) : Bool × State :=
  let p := pcParcel k
  let x := s.parcel p
  let clock := s.mem.lruClock + 1
  let s := { s with mem := { s.mem with lruClock := clock } }
  let allocs := policy == 0 || policy == 2 || (policy == 1 && !write)
  if !x.cacheOn then (false, s)
  else match x.findLine k line with
    | some l =>
      let hit := l.valid &&& sectors == sectors
      let new := { l with
        lru := clock, dirty := if write then l.dirty ||| sectors else l.dirty
        valid := if write || hit || allocs then l.valid ||| sectors else l.valid }
      (hit || write || allocs, s.updParcel p fun x => { x with lines := x.lines.map fun m => if m = l then new else m })
    | none =>
      let ways := s.waysFor p c mask
      if !allocs || ways.isEmpty then (false, s)
      else
        let set := Config.cacheSet k line
        let way := victimWay (x.lines.filter fun l => Config.cacheSet l.pc l.line == set) ways
        let new : Line := ⟨k, line, way, sectors, if write then sectors else 0, if policy = 2 then 0 else clock⟩
        (true, s.updParcel p fun x => { x with
          lines := (x.lines.filter fun l => !(l.way == way && Config.cacheSet l.pc l.line == set)) ++ [new] })

/-- The WAYS mask of a label. DEDUCED (log 74). -/
def State.labelWays (s : State) (l : Nat) : Nat := bits (s.num 0x5010 (l + 1)) 31 16

/-- n bytes at off of pseudo-channel k are read or written for cuvee c: counters of R402, the meter, and the cache.
DESIGN CHOICE (log 73); DEDUCED (log 74). -/
def State.memTraffic (s : State) (k off n c label policy : Nat) (write : Bool) : State :=
  let s := s.count (8 * (4096 + k) + b2n write) n
  let s := if (s.pc k).owner = some c && c ≠ 0 then
      (s.tally c 10 n).updCuvee c fun v => { v with meter := { v.meter with hbm := v.meter.hbm + n } }
    else s
  let line := off / 256
  let secs := maskOf ((sectorsOf off n).map fun x => x % 8)
  let r := s.touchLine k line c (s.labelWays label) policy secs write
  if r.1 && c ≠ 0 then r.2.tally c 11 n else r.2

/-- WAY_CLEANING_DONE (R196): the way's lines are gone and its new holder may allocate. -/
def State.wayCleaningDone (s : State) (p way : Nat) : State :=
  if (s.parcel p).cleaning.contains way then
    s.updParcel p fun x => { x with
      cleaning := x.cleaning.filter (· != way), lines := x.lines.filter fun l => l.way != way }
  else s

/-! ## Latency averages and levels (R201) -/

/-- How many of 50%, 75%, 90% and 100% of a target the average has reached. -/
def levelIndex (avg target : Nat) : Nat :=
  (([50, 75, 90, 100] : List Nat).filter fun t => decide (t * target ≤ 100 * avg)).length

/-- F in force on a resource, in sixteenths (R207). -/
def State.scaleOf (s : State) (r : Nat) : Nat := match s.mem.cuts.find r with | some x => x.f16 | none => 16

/-- A label's level in parcel p: BASE plus thresholds of TARGET × F reached, at most 7 (R201). -/
def State.levelOf (s : State) (p l avg : Nat) : Nat :=
  let e := s.num 0x5010 (l + 1)
  if bits e 62 61 ≠ 1 then 0
  else min 7 (bits e 60 59 + levelIndex (16 * avg) (bits e 47 32 * s.scaleOf p))

/-- A latency sample of a READ (R201): the average moves by a sixteenth of the difference. The manual gives no rounding.
DESIGN CHOICE (log 15). -/
def State.latencySample (s : State) (p l sample : Nat) : State :=
  let avg := (s.parcel p).avg.getD l 0
  let r := s.roundOpen (((avg : Nat) : Rat) + (((sample : Nat) : Rat) - ((avg : Nat) : Rat)) / 16)
  let new := r.1.toNat
  r.2.updParcel p fun x => { x with avg := x.avg.set 0 l new, level := x.level.set 0 l (s.levelOf p l new) }

/-- The sample of a READ that no TRELLIS_READ brings, of a table walk, a ring, a courier or a vintner core: its latency is
open. DESIGN CHOICE (log 192). -/
def State.openSample (s : State) (k l : Nat) : State :=
  let r := s.fresh
  r.2.latencySample (pcParcel k) l r.1

/-- The level that a router applies for a label (R202): parcel p's in its own routers; the highest of a field's parcels in
its spine; the highest of both fields' at a crossing. -/
def State.parcelLevel (s : State) (p l : Nat) : Nat := (s.parcel p).level.getD l 0
def State.spineLevel (s : State) (f l : Nat) : Nat := maxNat ((List.range 4).map fun i => s.parcelLevel (4 * f + i) l)
def State.crossingLevel (s : State) (f g l : Nat) : Nat := max (s.spineLevel f l) (s.spineLevel g l)

/-- A label's entry changed: its averages restart (R201). -/
def State.resetLabel (s : State) (l : Nat) : State :=
  s.each (List.range 16) fun s p => s.updParcel p fun x => { x with avg := x.avg.erase l, level := x.level.erase l }

/-! ## Reservations and shortfall (R19, R203–R209) -/

/-- The groups in use and needed of the spine or crossing that a resource stands on (R19, R35). -/
def State.pathWidth (s : State) (r : Nat) : Nat × Nat :=
  if r < 0x10 || 0x1C ≤ r then (1, 1)
  else
    let place := if r < 0x14 then r - 0x10 else 4 + (r - 0x14) / 2
    (min (s.muster.goodGroups place).length (neededGroups place), neededGroups place)

/-- Cuvee c's share of a resource, scaled on a path that runs with fewer groups (R19, R144, R181). DEDUCED (log 228). -/
def State.granted (s : State) (c r : Nat) : Nat := s.queueOf c r * (s.pathWidth r).1 / (s.pathWidth r).2

/-- A label's VC and QSHARE (R199). -/
def State.vcOf (s : State) (l : Nat) : Nat := bits (s.num 0x5010 (l + 1)) 62 61
def State.qshare (s : State) (l : Nat) : Nat := bits (s.num 0x5010 (l + 1)) 8 0

/-- The labels that cuvee c permits, and r_l of one on a resource (R204). -/
def State.labelsOf (s : State) (c : Nat) : List Nat := setBits (s.num 0x5011 c) 16
def State.labelEntries (s : State) (c r l : Nat) : Nat := if (s.labelsOf c).contains l then s.granted c r * s.qshare l / 256 else 0

/-- The part of cuvee c's share of r that labels of a VC hold (R204). -/
def State.labelShare (s : State) (c r vc : Nat) : Nat :=
  sumNat (((s.labelsOf c).filter fun l => s.vcOf l == vc).map (s.labelEntries c r))

/-- Cuvee c's pool, and its bulk entries: the pool and its VC2 labels' (R204, R207). -/
def State.poolOf (s : State) (c r : Nat) : Nat := s.granted c r - sumNat ((s.labelsOf c).map (s.labelEntries c r))
def State.bulkOf (s : State) (c r : Nat) : Nat := s.granted c r - s.labelShare c r 0 - s.labelShare c r 1

/-- Entries of a resource that repair writes hold (R206). -/
def State.repairLoad (s : State) (r : Nat) : Nat := if r < 0x10 then (s.repairsHeld r).length else 0

/-- E_eff of a resource (R206). -/
def State.effective (s : State) (r : Nat) : Nat :=
  let refresh := r < 0x10 && (s.parcel r).refresh2
  nominal r * s.power.clk * (if refresh then 965 else 1000) / 16000 - s.repairLoad r

/-- R of a resource (R206): the shares of every cuvee, as the path carries them. -/
def State.sharesOf (s : State) (r : Nat) : Nat := sumNat (s.existing.map fun c => s.granted c r)

/-- What a shortfall of a resource does (R207). -/
def State.degrade (s : State) (r eff : Nat) : Cut :=
  let cs := s.existing
  let v0 := sumNat (cs.map fun c => s.labelShare c r 0)
  let v1 := sumNat (cs.map fun c => s.labelShare c r 1)
  let b := s.sharesOf r - v0 - v1
  let d := s.sharesOf r - eff
  if d ≤ b then ⟨16, d, b, false, false⟩
  else if eff < v0 then ⟨256, d, b, true, true⟩
  else ⟨if eff = v0 then 256 else min 256 (max 16 (ceilDiv (16 * v1) (eff - v0))), d, b, true, false⟩

/-- Bulk entries of cuvee c that a cut takes (R207). DESIGN CHOICE (log 190). -/
def State.bulkLost (s : State) (x : Cut) (c r : Nat) : Nat :=
  let b := s.bulkOf c r
  if x.starved then b else min b (ceilDiv (b * x.short) x.bulk)

/-- What a cut leaves of cuvee c's pool, and of a label's entries (R207). Bulk is taken from the pool first, then from the VC2
labels, the lowest number first. DESIGN CHOICE (log 190). -/
def State.poolKept (s : State) (c r : Nat) : Nat :=
  match s.mem.cuts.find r with
  | none => s.poolOf c r
  | some x => s.poolOf c r - s.bulkLost x c r

/-- DESIGN CHOICE (log 190). -/
def State.labelKept (s : State) (c r l : Nat) : Nat :=
  let own := s.labelEntries c r l
  match s.mem.cuts.find r with
  | none => own
  | some x =>
    if s.vcOf l = 0 then own
    else if s.vcOf l = 1 then (if x.risk then 0 else own * 16 / x.f16)
    else
      let before := sumNat (((s.labelsOf c).filter fun m => s.vcOf m == 2 && decide (m < l)).map (s.labelEntries c r))
      own - (s.bulkLost x c r - s.poolOf c r - before)

/-- Entries of a resource that labels of cuvee c hold now (R203): host reads and link transfers under way; a request to
memory is answered in the step that accepts it. -/
def State.entriesHeld (s : State) (c r : Nat) : List Nat :=
  if r = 0x1C || r = 0x1D then
    ((s.host (portOf (r - 0x1C))).reads.filter fun h => h.cuvee == c).map fun h => h.pkt.label
  else if 0x1E ≤ r then
    ((s.port (r - 0x1E)).xfers.filter fun x => x.mine && x.cuvee == c).flatMap fun x => x.pkts.map Packet.label
  else []

/-- A request of cuvee c on a label finds an entry of a resource (R204): one that its label keeps, or of the cuvee's pool,
which VC0 never uses. Estate requests use the unreserved entries. DEDUCED (log 191). -/
def State.entryFree (s : State) (c r l : Nat) : Bool :=
  let held := s.entriesHeld c r
  let pool := sumNat (((s.labelsOf c).filter fun m => s.vcOf m != 0).map fun m => held.count m - s.labelKept c r m)
  c == 0 || (s.labelsOf c).contains l &&
    (decide (held.count l < s.labelKept c r l) || (s.vcOf l != 0 && decide (pool < s.poolKept c r)))

/-- A packet's path carries it (R181, R203, R204): every spine has an entry for its label, and every crossing positions of
its cuvee. VC3 and the estate use what no cuvee holds. -/
def State.pathOpen (s : State) (p : Packet) : Bool :=
  p.cuvee == 0 || p.vc == 3 ||
    (((routeSpines p.src p.dst).all fun f => s.entryFree p.cuvee (0x10 + f) p.label) &&
      (routeWheels p.src p.dst).all fun r => decide (0 < s.granted p.cuvee r))

/-- Cuvees whose bulk entries or targets a cut of r touches (R209). -/
def State.touchedBy (s : State) (r : Nat) (x : Cut) : List Nat :=
  s.existing.filter fun c =>
    decide (0 < s.bulkLost x c r) || (decide (16 < x.f16) && decide (0 < s.labelShare c r 1))

/-- A BANDWIDTH_SHORTFALL record (R208). -/
def shortRecord (x : Shortfall) (r duration : Nat) (continues : Bool) : Nat :=
  field x.start.raw 64 192 + field duration 32 160 + field r 8 152 + field x.cause 4 148 + field x.f16 16 128 +
    field x.effMin 16 112 + field x.rsv 16 96 + field x.cutMax 16 80 + field (b2n x.risk) 1 79 + field (b2n continues) 1 78

/-- Write a record of a shortfall to ShortfallLog and the daybook (R208, R412). -/
def State.logShortfall (s : State) (x : Shortfall) (r duration : Nat) (continues : Bool) : State :=
  let w := shortRecord x r duration continues
  let s := { s with mem := { s.mem with
    shortLog := s.mem.shortLog.insert (s.mem.shortWritten % 64) ⟨32, w⟩, shortWritten := (s.mem.shortWritten + 1) % 2 ^ 32 } }
  s.daybookPair 0 3 w

/-- Causes of a shortfall of r as the conditions stand (R208). -/
def State.shortCause (s : State) (r : Nat) : Nat :=
  (if s.power.clk < 16 then 8 else 0) + (if r < 0x10 && (s.parcel r).refresh2 then 4 else 0) +
    (if 0 < s.repairLoad r then 2 else 0)

/-- The degradation found at the last fire tick comes into force (R206). -/
def State.applyCut (s : State) (r : Nat) : State :=
  match s.mem.cutsNext.find r with
  | none => { s with mem := { s.mem with cuts := s.mem.cuts.erase r } }
  | some x => { s with mem := { s.mem with
      cuts := s.mem.cuts.insert r x, shortTouched := (s.mem.shortTouched ++ s.touchedBy r x).dedup } }

/-- One regulator at a slot's fire tick (R206–R208). -/
def State.regulate (s : State) (r : Nat) : State :=
  let s := s.applyCut r
  let eff := s.effective r
  let total := s.sharesOf r
  let s := { s with mem := { s.mem with eff := s.mem.eff.insert r eff } }
  if eff < total then
    let g := s.degrade r eff
    let lost := sumNat (s.existing.map fun c => s.bulkLost g c r)
    let x0 : Shortfall := (s.mem.shortfalls.find r).getD
      { start := ⟨s.time.e, s.time.slot, 0⟩, at_ := s.slotCount, cause := 0, f16 := 16, effMin := eff, rsv := total
        cutMax := 0, risk := false }
    let x := { x0 with
      cause := x0.cause ||| s.shortCause r, f16 := max x0.f16 g.f16, effMin := min x0.effMin eff
      cutMax := max x0.cutMax lost, risk := x0.risk || g.risk }
    { s with mem := { s.mem with shortfalls := s.mem.shortfalls.insert r x, cutsNext := s.mem.cutsNext.insert r g } }
  else
    let s' := { s with mem := { s.mem with shortfalls := s.mem.shortfalls.erase r, cutsNext := s.mem.cutsNext.erase r } }
    match s.mem.shortfalls.find r with
    | some x => s'.logShortfall x r (s.slotCount - x.at_) false
    | none => s'

/-- Every regulator (R206). -/
def State.regulateAll (s : State) : State := s.each (List.range 42) State.regulate

/-- Interim records at a harvest slot (R208). DEDUCED (log 193). -/
def State.interimShortfalls (s : State) : State :=
  s.each s.mem.shortfalls fun s e => s.logShortfall e.2 e.1 (s.slotCount - e.2.at_) true

/-! ## Stack temperature (R184) -/

/-- The controller's doubled refresh follows the readout at the next slot boundary. -/
def State.refreshApply (s : State) : State :=
  s.each (List.range 16) fun s p =>
    if (s.parcel p).refresh2 = (s.parcel p).refreshNext then s
    else s.updParcel p fun x => { x with refresh2 := x.refreshNext }

/-- A stack's readout (R184). DESIGN CHOICE (log 76). -/
def State.stackReading (s : State) (p degC : Nat) : State :=
  s.updParcel p fun x => { x with
    temp := degC, refreshNext := if 85 ≤ degC then true else if degC ≤ 82 then false else x.refreshNext }

/-- ParcelMemoryStatus (R212). -/
def State.parcelStatus (s : State) (p : Nat) : Nat :=
  let x := s.parcel p
  let cs := s.existing
  let ways := sumNat (cs.map fun c => popcount ((s.val 0x5003 c).get (2 * p) 2))
  let stash := sumNat (cs.map fun c => (s.val 0x5004 c).get p 1)
  field x.temp 8 56 + field (b2n x.refresh2) 1 55 + field (b2n (x.cacheOn && s.num 0x5002 (p + 1) == 1)) 1 54 +
    field (b2n x.cacheOn) 1 53 + field (b2n (s.mem.shortfalls.find p).isSome) 1 52 +
    field (s.mem.eff.getD p (s.effective p)) 10 42 + field (s.reservedOf p) 10 32 + field (s.scaleOf p) 9 23 +
    field ways 5 18 + field stash 5 13

def execRepairWrite (pc sector : Nat) (s : State) : Result := .next (s.repairWrite pc sector)
def execPatrolScrub (pc sector : Nat) (ecc : EccVerdict) (s : State) : Result := .next (s.patrolScrub pc sector ecc)
def execWayCleaningDone (p way : Nat) (s : State) : Result := .next (s.wayCleaningDone p way)

end Sys2Proof.Machine
end

