-- ==== Sys2Proof/Machine/Power.lean ====
section
/-! DEFINITION. Machine/Power.lean: limiters and the arithmetic clock (R361, R362), ramps (R366, R367), thermal states
(R368, R369), throttle records (R370–R372), reconciliation (R359), and the loss of the estate's power (R453, R499). -/

namespace Sys2Proof.Machine

/-- Change the power record. -/
def State.updPower (s : State) (f : PowerSt → PowerSt) : State := { s with power := f s.power }

/-! ## Loss of the estate (R369, R453, R455, R488, R499) -/

/-- Objects that the always-on domain keeps (R488, standby set). DEDUCED (log 141). -/
def standbyKeys : List Nat := [objKey 0x1001 1, objKey 0x1010 2, objKey 0x1010 3, objKey 0xA001 4]

/-- What a host port's front end keeps on standby power (R502): the link and configuration space; IDE keys and sessions go
with the switched domains. -/
def HostSt.frontEnd (h : HostSt) : HostSt :=
  { HostSt.init with perst := h.perst, linkUp := h.linkUp, config := h.config, busMaster := h.busMaster }

/-- Power is gone from every switched domain: everything is lost but flash and what the always-on domain holds.
DEDUCED (log 141). -/
def State.estateLost (s : State) : State :=
  { State.reset with
    pending := s.pending, flash := s.flash, side := s.side, boot := s.boot
    hostA := s.hostA.frontEnd, hostB := s.hostB.frontEnd
    sec := { (default : SecSt) with
      identity := s.sec.identity, booted := s.sec.booted, failA := s.sec.failA, failB := s.sec.failB, debug := s.sec.debug }
    dict := { (default : DictSt) with
      vals := s.dict.vals.filter fun e => standbyKeys.contains e.1, windows := s.dict.windows, steward := s.dict.steward }
    time := { State.reset.time with now := s.time.now }
    out := s.out, free := s.free }

/-! ## Throttle episodes (R370, R371) -/

/-- The limit of a reason in 100 MHz units; 16 for CURRENT_SLOPE. Reason 2 POWER_CAP, 4 THERMAL_DIE, 5 THERMAL_HBM,
6 INPUT_VOLTAGE are limits 0–3. -/
def limitIdx (r : Nat) : Nat := match r with | 2 => 0 | 4 => 1 | 5 => 2 | _ => 3
def State.limitOf (s : State) (r : Nat) : Nat := if r = 3 then 16 else s.power.limits.getD (limitIdx r) 16

/-- A reason of estate scope holds (R370). -/
def State.reasonHolds (s : State) (r : Nat) : Bool := if r = 3 then s.power.slopeHold else decide (s.limitOf r < 16)

/-- The reasons of estate scope. -/
def estateReasons : List Nat := [2, 3, 4, 5, 6]

/-- Begin or go on with the episode of a reason: lowest limit, peak reading with its sensor, holds. DEDUCED (log 155). -/
def State.episodeNote (s : State) (r sensor peak holds : Nat) (lowest : Bool) : State :=
  if !s.reasonHolds r then s
  else
    let e0 := (s.power.episodes.find r).getD ⟨⟨s.time.e, s.time.slot, 0⟩, s.slotCount, 16, sensor, 0, peak⟩
    let better := if lowest then decide (peak < e0.peak) else decide (e0.peak < peak)
    let e := { e0 with
      clkMin := min e0.clkMin (s.limitOf r), count := e0.count + holds
      peak := if better then peak else e0.peak, sensor := if better then sensor else e0.sensor }
    s.updPower fun p => { p with episodes := p.episodes.insert r e }

/-- A throttle record (R371). -/
def throttleRecord (start : ETime) (duration reason clkMin sensor c count peak : Nat) (continues : Bool) : Nat :=
  field start.raw 64 192 + field duration 32 160 + field reason 8 152 + field clkMin 8 144 + field sensor 8 136 +
    field c 8 128 + field count 32 96 + field peak 16 80 + field (b2n continues) 1 79

/-- Write a throttle record to ThrottleLog and the daybook, and a cuvee's own to its log (R370, R375, R412). -/
def State.logThrottle (s : State) (c w : Nat) : State :=
  let s := s.updPower fun p => { p with
    throttleLog := p.throttleLog.insert (p.throttleWritten % 256) ⟨32, w⟩, throttleWritten := (p.throttleWritten + 1) % 2 ^ 32 }
  let s := if c = 0 then s else s.updCuvee c fun v => { v with
    ownLog := v.ownLog.insert (v.ownWritten % 64) ⟨32, w⟩, ownWritten := v.ownWritten + 1 }
  s.daybookPair c 4 w

/-- The record of an estate episode now. -/
def episodeRecord (r : Nat) (e : Episode) (duration : Nat) (continues : Bool) : Nat :=
  throttleRecord e.start duration r (if r = 3 then 16 else e.clkMin)
    (if r = 4 || r = 5 then e.sensor else 255) 0 (if r = 3 then e.count else 0) (if r = 3 then 0 else e.peak) continues

/-- At a fire tick (R370): the slot just ended counts for every reason with an episode; episodes whose reason no longer
holds end. `len` is the length of the slot just ended. DEDUCED (log 155). -/
def State.throttleSlot (s : State) (len : Rat) : State :=
  s.each estateReasons fun s r =>
    match s.power.episodes.find r with
    | none => s
    | some e =>
      let s := s.updPower fun p => { p with
        heldInWindow := true, reasonNs := p.reasonNs.modify (r - 1) fun x => x + len }
      let s := s.count (8 * 5100 + (r - 1)) 1
      if s.reasonHolds r then s
      else
        let s := s.logThrottle 0 (episodeRecord r e (s.slotCount - e.at_) false)
        s.updPower fun p => { p with episodes := p.episodes.erase r }

/-- Rows of cuvee c deferred now (R357). -/
def State.deferredNow (s : State) (c : Nat) : Nat := (s.alm.deferred.filter fun x => x.seg == c).length

/-- ENERGY_BUDGET at the end of a slot's admissions (R370, R402). DEDUCED (log 155). -/
def State.budgetSlot (s : State) : State :=
  s.each s.existing fun s c =>
    let n := s.deferredNow c
    let fresh := (s.alm.deferred.filter fun x => x.seg == c && x.deferred == 1).length
    match (s.cuvee c).ledger.episode with
    | none =>
      if n = 0 then s
      else (s.updLedger c fun l => { l with episode := some (⟨s.time.e, s.time.slot, 0⟩, s.slotCount, fresh) }).tally c 19 1
    | some (t, a, k) =>
      if n = 0 then
        (s.logThrottle c (throttleRecord t (s.slotCount - a) 1 16 255 c k 0 false)).updLedger c
          fun l => { l with episode := none }
      else (s.updLedger c fun l => { l with episode := some (t, a, k + fresh) }).tally c 19 1

/-- Interim records at a harvest slot (R370). DEDUCED (log 193). -/
def State.interimThrottles (s : State) : State :=
  let s := s.each s.power.episodes fun s e =>
    s.logThrottle 0 (episodeRecord e.1 e.2 (s.slotCount - e.2.at_) true)
  s.each s.existing fun s c =>
    match (s.cuvee c).ledger.episode with
    | some (t, a, k) => s.logThrottle c (throttleRecord t (s.slotCount - a) 1 16 255 c k 0 true)
    | none => s

/-! ## Limiters and the clock (R361, R362) -/

/-- Move limiter i's limit, within 4–16. -/
def State.setLimit (s : State) (i v : Nat) : State :=
  s.updPower fun p => { p with limits := p.limits.set i (max 4 (min 16 v)) }

/-- Lower or raise limiter i by n steps. -/
def State.lowerLimit (s : State) (i n : Nat) : State := s.setLimit i (s.power.limits.getD i 16 - n)
def State.raiseLimit (s : State) (i n : Nat) : State := s.setLimit i (s.power.limits.getD i 16 + n)

/-- POWER_CAP after a sample (R362). A hundred samples make a millisecond. DEDUCED (log 77). -/
def State.powerCapLimiter (s : State) (milliW avg1ms : Nat) : State :=
  let cap := s.num 0x2010 1
  let above := decide (cap < avg1ms)
  let below := decide (avg1ms * 100 < cap * 95)
  let s := s.updPower fun p => { p with
    overRun := if above then p.overRun + 1 else 0, underRun := if below then p.underRun + 1 else 0 }
  let s := if above && s.power.overRun % 100 = 1 then s.lowerLimit 0 1 else s
  let s := if 1800000 < milliW then s.lowerLimit 0 4 else s
  if below && s.power.underRun % 100 = 0 then s.raiseLimit 0 1 else s

/-- INPUT_VOLTAGE after a sample (R362). -/
def State.voltageLimiter (s : State) (tenthsV : Nat) : State :=
  let high := decide (430 < tenthsV)
  let s := s.updPower fun p => { p with voltRun := if high then p.voltRun + 1 else 0 }
  let s := if tenthsV < 410 then s.setLimit 3 (min 8 (s.power.limits.getD 3 16))
    else if tenthsV < 420 then s.setLimit 3 (min 12 (s.power.limits.getD 3 16)) else s
  if high && s.power.voltRun % 100 = 0 then s.raiseLimit 3 1 else s

/-- POWER_SAMPLE: the 10 µs sample of input power and voltage (R359, R362). DEDUCED (log 77); DESIGN CHOICE (log 158). -/
def State.powerSample (s : State) (milliW avg1ms tenthsV : Nat) : State :=
  let s := s.updPower fun p => { p with avg1ms := avg1ms, tenthsV := tenthsV, energyAcc := p.energyAcc + milliW }
  let s := (s.powerCapLimiter milliW avg1ms).voltageLimiter tenthsV
  (s.episodeNote 2 255 avg1ms 0 false).episodeNote 6 255 tenthsV 0 true

/-- The target of the arithmetic clock (R361). -/
def State.clockTarget (s : State) : Nat := s.power.limits.foldl min 16

/-- CLOCK_STEP: one 100 MHz step towards the target; an upward one waits while the governor holds (R361, R367). -/
def State.clockStep (s : State) : State :=
  let t := s.clockTarget
  if t < s.power.clk then s.updPower fun p => { p with clk := p.clk - 1 }
  else if s.power.clk < t then
    if s.power.slopeHold then s.episodeNote 3 255 0 1 false else s.updPower fun p => { p with clk := p.clk + 1 }
  else s

/-- PHI_STEP (R366, R367): a tile's MAC enable fraction moves by one; the governor holds a rise while the slope over the
last microsecond exceeds 400 A/µs. DESIGN CHOICE (log 217). -/
def State.phiStep (s : State) (t : Nat) (waiting : Bool) (slope : Nat) : State :=
  let s := s.updPower fun p => { p with slopeHold := decide (400 < slope) }
  let x := s.tile t
  if waiting then
    if 16 ≤ x.phi then s
    else if s.power.slopeHold then s.episodeNote 3 255 0 1 false
    else s.updTile t fun x => { x with phi := x.phi + 1 }
  else s.updTile t fun x => { x with phi := x.phi - 1 }

/-! ## Thermal states (R368) -/

/-- The state of a hottest reading, with the thresholds that enter states 1–3; a state is left 3 °C below its own. -/
def thermalState (t1 t2 t3 cur reading : Nat) : Nat :=
  let keeps := fun k thr => decide (thr ≤ reading) || (decide (k ≤ cur) && decide (thr < reading + 3))
  if keeps 3 t3 then 3 else if keeps 2 t2 then 2 else if keeps 1 t1 then 1 else 0

/-- A thermal limiter (R362): `run` readings in the present state, `ms` readings to a millisecond.
DESIGN CHOICE (log 76). -/
def State.thermalLimiter (s : State) (i st run ms : Nat) : State :=
  if st = 3 then s.setLimit i 4
  else if st = 2 then (if run % ms = 0 then s.lowerLimit i 1 else s)
  else if run % (10 * ms) = 0 then s.raiseLimit i 1 else s

/-- The place of the largest element. -/
def hottest (l : List Nat) : Nat := (firstIdx (· == maxNat l) l).getD 0

/-- DIE_SENSOR_READ below the trip point (R368): the 64 readings, the die state and the THERMAL_DIE limit. -/
def State.dieReading (s : State) (ts : List Nat) : State :=
  let st := thermalState 95 100 105 s.power.dieState (maxNat ts)
  let run := if (2 ≤ st) = (2 ≤ s.power.dieState) then s.power.dieRun + 1 else 1
  let s := s.updPower fun p => { p with dieTemps := ts, dieState := st, dieRun := run }
  (s.thermalLimiter 1 st run 100).episodeNote 4 (hottest ts) (maxNat ts) 0 false

/-- THERM_TRIP_N (R369, R455): the trip is recorded and power goes from every switched domain. -/
def State.thermTrip (s : State) (ts : List Nat) : State :=
  let t := s.etime
  let s := { s with
    flash := { s.flash with
      tripTime := t, tripSensor := hottest ts, tripDegC := maxNat ts, trips := (s.flash.trips + 1) % 2 ^ 32 }
    boot := { s.boot with thermTrip := true, pwrGood := false, step := .standby } }
  s.estateLost

/-- DIE_SENSOR_READ. Die sensors are read while main power is up. -/
def State.dieSensorRead (s : State) (ts : List Nat) : State :=
  if !s.boot.pwrGood then s else if 110 ≤ maxNat ts then s.thermTrip ts else s.dieReading ts

/-- STACK_TEMPERATURE_READ (R184, R368): one stack's readout; the limiter moves once a millisecond, with the readout of the
lowest present parcel. -/
def State.stackTemperatureRead (s : State) (p degC : Nat) : State :=
  if !s.boot.pwrGood then s else
  let s := s.stackReading p degC
  let ts := s.power.stackTemps.set p degC
  let st := thermalState 85 90 95 s.power.hbmState (maxNat ts)
  let first := ((List.range 16).find? fun q => bit s.muster.parcels q) = some p
  let run := if (2 ≤ st) = (2 ≤ s.power.hbmState) then s.power.hbmRun + b2n first else b2n first
  let s := s.updPower fun q => { q with stackTemps := ts, hbmState := st, hbmRun := run }
  let s := if first || st = 3 then s.thermalLimiter 2 st run 1 else s
  s.episodeNote 5 (hottest ts) (maxNat ts) 0 false

/-- The estate thermal state (R368). -/
def State.thermal (s : State) : Nat := max s.power.dieState s.power.hbmState

/-! ## Observation windows (R209, R372) -/

/-- Epochs of a window: the smallest whole number lasting at least 10 ms at the length in force. -/
def State.windowEpochs (s : State) : Nat :=
  if s.time.epochLen ≤ 0 then 1 else max 1 (10000000 / s.time.epochLen).ceil.toNat

/-- A window begins at the boundary that began the epoch in progress. -/
def State.windowBegin (s : State) : State :=
  let n := s.windowEpochs
  let s := { s with mem := { s.mem with shortTouched := [] } }
  s.updPower fun p => { p with heldInWindow := !p.episodes.isEmpty, windowStart := s.time.epochs, windowLen := n }

/-- At the fire tick that begins an epoch, a window whose epochs have passed ends and the next begins. What is then in force
counts in the next window too. DEDUCED (log 194). -/
def State.windowBoundary (s : State) : State :=
  if s.time.slot ≠ 0 || s.time.epochs < s.power.windowStart + s.power.windowLen then s
  else
    let s := { s with mem := { s.mem with shortEnded := s.mem.shortTouched } }
    (s.updPower fun p => { p with windowEnded := some (p.heldInWindow, max p.dieState p.hbmState) }).windowBegin

/-- OBSERVATION_WINDOW_END: the flags that tenants see follow the window that has ended (R209, R372); a change of the thermal
state shown holds for at least 100 windows (R394). DEDUCED (log 194, 220). -/
def State.observationWindowEnd (s : State) : State :=
  match s.power.windowEnded with
  | none => s
  | some (held, thermal) =>
    let s := s.each s.existing fun s c => s.updCuvee c fun v =>
      { v with shortSeen := s.mem.shortEnded.contains c, throttleSeen := held }
    let changes := s.power.thermalHold ≤ 1 && thermal != s.power.thermalView
    s.updPower fun p => { p with
      thermalView := if changes then thermal else p.thermalView
      thermalHold := if changes then 100 else p.thermalHold - 1, windowEnded := none }

/-! ## Reconciliation (R359) -/

/-- CORRECTION_UPDATE: due where a RECONCILE tick has ended a period of the cuvee; the next tick makes one still due. -/
def State.correctionUpdate (s : State) (c : Nat) : State :=
  let l := (s.cuvee c).ledger
  if !l.due then s
  else s.updLedger c fun l => { l with k := correctedK l.k l.sumA l.sumE, sumA := 0, sumE := 0, ticks := 0, due := false }

/-- One cuvee at a RECONCILE tick: its activity energy, in whole µJ; how A_c is rounded is open. -/
def State.reconcileCuvee (s : State) (c : Nat) : State :=
  let s := s.correctionUpdate c
  let v := s.cuvee c
  let r := s.roundOpen (activityOf v.counters v.ledger.mark)
  let a := r.1.toNat
  r.2.updLedger c fun l => { l with
    energy := (l.energy + a) % 2 ^ 64, sumA := l.sumA + a, sumE := l.sumE + l.curE, curE := 0, ticks := l.ticks + 1
    due := decide (s.num 0x2010 4 ≤ l.ticks + 1)
    mark := v.counters }

/-- RECONCILE's action: the interval is closed for every cuvee, and EstateExcess written. -/
def State.reconcileAct (s : State) : State :=
  let cs := s.existing.filter fun c => (s.cuvee c).state.metered
  let before := sumNat (cs.map fun c => (s.cuvee c).ledger.energy)
  let s := s.each cs State.reconcileCuvee
  let after := sumNat (cs.map fun c => (s.cuvee c).ledger.energy)
  let span := s.time.now - s.power.reconciledAt
  let r := s.roundOpen ((s.power.energyAcc : Rat) / 100 - (Config.standingPower : Nat) * span / 1000 -
    ((after : Rat) - (before : Rat)))
  let e := r.2.roundOpen ((s.power.energyAcc : Rat) / 100)
  let s := e.2.updPower fun p => { p with
    eMeas := e.1.toNat % 2 ^ 64, excess := r.1, energyAcc := 0, reconciledAt := s.time.now }
  s.count (8 * 5100 + 6) e.1.toNat

/-- DESIGN CHOICE (log 158). -/
def execPowerSample (milliW avg1ms : Nat) (tenthsV : Int) (s : State) : Result :=
  if tenthsV < -5 ∨ 650 < tenthsV then .fault .beyondAbsoluteRating
  else .next (s.powerSample milliW avg1ms tenthsV.toNat)
def execDieSensorRead (degC : List Nat) (s : State) : Result := .next (s.dieSensorRead degC)
def execStackTemperatureRead (p degC : Nat) (s : State) : Result := .next (s.stackTemperatureRead p degC)
def execClockStep (s : State) : Result := .next s.clockStep
def execPhiStep (t : Nat) (waiting : Bool) (slope : Nat) (s : State) : Result := .next (s.phiStep t waiting slope)
def execObservationWindowEnd (s : State) : Result := .next s.observationWindowEnd
def execCorrectionUpdate (c : Nat) (s : State) : Result := .next (s.correctionUpdate c)

end Sys2Proof.Machine
end

