-- ==== Sys2Proof/Machine/Translate.lean ====
section
/-! DEFINITION. Machine/Translate.lean: address translation and windows (R213–R222, R224, R226–R229), and accesses by
device VA. -/

namespace Sys2Proof.Machine

/-! ## Entries (R214–R217) -/

def teValid (e : Nat) : Bool := bit e 63
def teLeaf (e : Nat) : Bool := bit e 62
def teRd (e : Nat) : Bool := bit e 61
def teWr (e : Nat) : Bool := bit e 60
def teType (e : Nat) : Nat := bits e 59 58
def teCache (e : Nat) : Nat := bits e 57 56
def teLovr (e : Nat) : Bool := bit e 55
def teLabel (e : Nat) : Nat := bits e 54 51
def teSet (e : Nat) : Nat := bits e 43 38
def teOff (e : Nat) : Nat := bits e 35 0

/-- The page size of a leaf at a level (R213). -/
def pageSize (level : Nat) : Nat := if level = 1 then 2 ^ 30 else if level = 2 then 2 ^ 21 else 2 ^ 16

/-- The VA bits that index a table of a level (R213). -/
def tableIndex (level va : Nat) : Nat :=
  match level with
  | 0 => bits va 47 39
  | 1 => bits va 38 30
  | 2 => bits va 29 21
  | _ => bits va 20 16

/-- A label is permitted to cuvee c (R200). -/
def State.permits (s : State) (c l : Nat) : Bool := (s.num 0x5011 c).testBit l

/-- R217. -/
def State.entryMalformed (s : State) (c level e : Nat) : Bool :=
  let base := bits e 50 44 != 0 || teType e == 3 || (teLeaf e && level == 0) || (!teLeaf e && level == 3) ||
    (!teLovr e && teLabel e != 0) || (teLovr e && !s.permits c (teLabel e))
  base ||
    if !teLeaf e then
      teType e != 0 || teCache e != 0 || teLovr e || bits e 37 36 != 0 ||
        teOff e % (if level = 2 then 256 else 4096) != 0
    else match teType e with
      | 0 => bits e 37 36 != 0 || teOff e % pageSize level != 0
      | 1 => teCache e != 0 || bits e 37 0 != 0
      | _ => teCache e != 0 || bits e 35 0 != 0

/-- The result of a walk before pseudo-channel resolution (R219): level, leaf, and the permissions of the whole path. -/
structure Leaf where
  level : Nat
  entry : Nat
  rd    : Bool
  wr    : Bool
deriving DecidableEq, Repr, Inhabited

/-- The place of a table entry in memory: pseudo-channel and byte offset. -/
def State.entryPlace (s : State) (c set off level va : Nat) : Option (Nat × Nat) :=
  s.resolveSet c set (off + 8 * tableIndex level va)

/-- Walk the levels listed from the table at (set, off) (R213–R217): a leaf, or the fault kind of R224. -/
def State.walkLevels (s : State) (c va : Nat) : List Nat → Nat → Nat → Bool → Bool → Except Nat Leaf
  | [], _, _, _, _ => .error 4
  | lv :: rest, set, off, rd, wr =>
    match s.entryPlace c set off lv va with
    | none => .error 5
    | some (k, o) =>
      if (s.pc k).poisoned.contains (o / 32) then .error 7
      else
        let e := ofBytes (s.hbmRead k o 8)
        if !teValid e then .error 1
        else if s.entryMalformed c lv e then .error 4
        else if teLeaf e then .ok ⟨lv, e, rd && teRd e, wr && teWr e⟩
        else s.walkLevels c va rest (teSet e) (teOff e) (rd && teRd e) (wr && teWr e)

/-- A whole walk from TranslationRoot (R213, R224). -/
def State.walk (s : State) (c va : Nat) : Except Nat Leaf :=
  let root := s.num 0x5040 c
  if !bit root 63 || 2 ^ 48 ≤ va then .error 1
  else s.walkLevels c va [0, 1, 2, 3] (teSet root) (teOff root) true true

/-- The table entries that a walk reads, in order, for the traffic it makes: it stops at a leaf, and at an entry that is
poisoned, invalid or malformed (R217, R221). -/
def State.walkPlaces (s : State) (c va : Nat) : List Nat → Nat → Nat → List (Nat × Nat)
  | [], _, _ => []
  | lv :: rest, set, off =>
    match s.entryPlace c set off lv va with
    | none => []
    | some (k, o) =>
      let e := ofBytes (s.hbmRead k o 8)
      let on := !(s.pc k).poisoned.contains (o / 32) && teValid e && !s.entryMalformed c lv e && !teLeaf e
      (k, o) :: if on then s.walkPlaces c va rest (teSet e) (teOff e) else []

/-- A walk with its table READs (R221): they use WalkLabel, allocate under NORMAL, and are sampled as every READ is (R201).
Counter `k` of TranslationCounters rises: 0 demand, 1 prefetch. DESIGN CHOICE (log 75). -/
def State.walkCounted (s : State) (c va k : Nat) : Except Nat Leaf × State :=
  let root := s.num 0x5040 c
  let r := s.walk c va
  let places := if bit root 63 then s.walkPlaces c va [0, 1, 2, 3] (teSet root) (teOff root) else []
  let s := s.each places fun s p =>
    let l := s.num 0x5046 c
    (s.memTraffic p.1 p.2 8 c l 0 false).openSample p.1 l
  (r, s.updCuvee c fun v => { v with xCounters := bump 64 v.xCounters k 1 })

/-! ## Resolution (R215, R216, R226–R229) -/

/-- Where an access goes. -/
inductive Target where
  | fault (kind : Nat)
  /-- Logical pseudo-channel, byte offset, label, cache policy. -/
  | mem (k off label policy : Nat)
  /-- Host window, offset in it, bus address, label. -/
  | host (win off addr label : Nat)
  /-- Link window, offset in it, label. -/
  | link (win off label : Nat)
deriving DecidableEq, Repr, Inhabited

/-- Host window i of cuvee c (R226), and a link window (R228). -/
def State.hostWindow (s : State) (c i : Nat) : Nat := (s.val 0x5041 c).get (32 * i) 32
def State.linkWindow (s : State) (c i : Nat) : Nat := (s.val 0x5042 c).get (32 * i) 32

/-- The window that a packet for a host port names in its ADDR, and the bus address that the port makes of it (R227). -/
def State.hostWindowOf (s : State) (p : Packet) : Nat := s.hostWindow p.cuvee (bits p.addr 47 42)
def State.hostAddr (s : State) (p : Packet) : Nat := bits (s.hostWindowOf p) 127 64 + bits p.addr 39 0
/-- NOSNOOP and RELAXED of a host window (R226). -/
def hwNoSnoop (w : Nat) : Bool := bit w 248
def hwRelaxed (w : Nat) : Bool := bit w 247

/-- A READ_MOSTLY advice in force covers the VA (R236). -/
def State.readMostly (s : State) (c va : Nat) : Bool :=
  (s.cuvee c).serving.advice.any fun e =>
    e.2.2.2.1 == 2 && decide (e.1 ≤ va) && decide (va < e.1 + e.2.1) && decide (e.2.2.2.2 ≤ s.time.epochs)

/-- Resolve a leaf for an access of len bytes at va (R215, R216, R219, R224). `label` is the requester's own. -/
def State.resolve (s : State) (c va len label : Nat) (write : Bool) (lf : Leaf) : Target :=
  let e := lf.entry
  let ok := if write then lf.wr else lf.rd
  let lab := fun own => if teLovr e then teLabel e else own
  match teType e with
  | 0 =>
    if !ok then .fault (if write then 3 else 2)
    else
      let off := teOff e + va % pageSize lf.level
      let sw := (s.val 0x5006 c).get (8 * teSet e) 8
      if !bit sw 63 || 2 ^ bits sw 62 60 * pcBytes < off + len then .fault 5
      else match s.resolveSet c (teSet e) off with
        | some (k, o) => .mem k o (lab label) (if write && s.readMostly c va then 1 else teCache e)
        | none => .fault 5
  | 1 =>
    let i := teSet e
    let w := s.hostWindow c i
    let base := bits w 175 128
    if !bit w 255 then .fault 6
    else if !(ok && bit w (if write then 253 else 254)) then .fault (if write then 3 else 2)
    else if va < base || (bits w 23 0 + 1) * 65536 < va - base + len then .fault 6
    else .host i (va - base) (bits w 127 64 + (va - base)) (lab (bits w 252 249))
  | _ =>
    let i := bits e 43 36
    let w := s.linkWindow c i
    let base := bits w 175 128
    if !bit w 255 || s.group c = 0 then .fault 6
    else if !(ok && bit w (if write then 253 else 254)) then .fault (if write then 3 else 2)
    else if va < base || (bits w 87 64 + 1) * 65536 < va - base + len then .fault 6
    else .link i (va - base) (lab (bits w 252 249))

/-! ## Cached translations (R218–R220, R222) -/

/-- A cached result: page base and level in the key, the leaf with the path's permissions in the value (R219). -/
def Leaf.key (lf : Leaf) (va : Nat) : Nat := (va / pageSize lf.level * pageSize lf.level) * 4 + lf.level
def Leaf.value (lf : Leaf) : Nat :=
  lf.entry % 2 ^ 60 + field (b2n lf.wr) 1 60 + field (b2n lf.rd) 1 61 + 2 ^ 62 + 2 ^ 63

/-- The leaf that a cached (key, value) holds. -/
def cachedLeaf (key value : Nat) : Leaf := ⟨key % 4, value, teRd value, teWr value⟩

/-- A cached key covers a VA. -/
def keyCovers (key va : Nat) : Bool := let b := key / 4; decide (b ≤ va) && decide (va < b + pageSize (key % 4))

/-- A cached key's page overlaps a range; length 0 is the whole space (R222). -/
def keyOverlaps (key va len : Nat) : Bool :=
  len == 0 || (decide (key / 4 < va + len) && decide (va < key / 4 + pageSize (key % 4)))

/-- Put a result into a parcel's unit as the cuvee's most recent, evicting its own least recent (R220). -/
def State.fillUnit (s : State) (c p key value : Nat) : State :=
  s.updParcel p fun x =>
    let mine := (c, key, value) :: x.xlate.filter fun e => e.1 == c && e.2.1 != key
    { x with xlate := mine.take (s.unitCapacity c p) ++ x.xlate.filter fun e => e.1 != c }

/-- Put a result into a tile's micro-cache: 64 entries, least recently used first out (R218). -/
def State.fillMicro (s : State) (t key value : Nat) : State :=
  s.updTile t fun x => { x with micro := ((key, value) :: x.micro.filter fun e => e.1 != key).take 64 }

/-- Cuvee c's cached translation in parcel p's unit (R218, R231), which becomes its most recent. -/
def State.unitLookup (s : State) (c p va : Nat) : Option (Leaf × State) :=
  ((s.parcel p).xlate.find? fun e => e.1 == c && keyCovers e.2.1 va).map fun e =>
    (cachedLeaf e.2.1 e.2.2, s.fillUnit c p e.2.1 e.2.2)

/-- A cached translation for tile t: the micro-cache, then its parcel's unit (R218). DESIGN CHOICE (log 75). -/
def State.lookup (s : State) (t va : Nat) : Option (Leaf × State) :=
  let x := s.tile t
  match x.micro.find? fun e => keyCovers e.1 va with
  | some e => some (cachedLeaf e.1 e.2, s.fillMicro t e.1 e.2)
  | none => (s.unitLookup x.cuvee (tileParcel t) va).map fun r => (r.1, r.2.fillMicro t (r.1.key va) r.1.entry)

/-- A translation by parcel p's unit for cuvee c: a cached one, or a walk that fills the unit (R218, R231). -/
def State.unitTranslate (s : State) (c p va : Nat) : Except Nat Leaf × State :=
  match s.unitLookup c p va with
  | some r => (.ok r.1, r.2)
  | none =>
    let r := s.walkCounted c va 0
    match r.1 with
    | .ok lf => (.ok lf, r.2.fillUnit c p (lf.key va) lf.value)
    | .error k => (.error k, r.2)

/-- Drop cached translations of cuvee c that overlap a range (R222). -/
def State.invalidate (s : State) (c va len : Nat) : State :=
  let s := s.eachTile c fun s t => s.updTile t fun x => { x with micro := x.micro.filter fun e => !keyOverlaps e.1 va len }
  s.each (List.range 16) fun s p => s.updParcel p fun x =>
    { x with xlate := x.xlate.filter fun e => !(e.1 == c && keyOverlaps e.2.1 va len) }

/-- TranslationInvalidate takes effect (R222). -/
def State.invalidateAct (s : State) (c va len : Nat) : State :=
  (s.invalidate c va len).updCuvee c fun v => { v with sync := (v.sync + 1) % 2 ^ 32 }

/-- A translation fault is counted (R237). -/
def State.countXFault (s : State) (c : Nat) : State :=
  s.updCuvee c fun v => { v with xCounters := bump 64 v.xCounters 2 1 }

/-! ## Routes (R327, R328) -/

/-- Entry r of the route table. -/
def State.routeEntry (s : State) (r : Nat) : Nat := (s.val 0x6005 1).get (4 * r) 4
/-- The VALID entry for a device. -/
def State.routeTo (s : State) (device : Nat) : Option Nat :=
  ((List.range 256).map s.routeEntry).find? fun e => bit e 31 && bits e 11 0 == device
/-- The egress port of an entry: PORT when UP, else ALT_PORT when valid and UP. -/
def State.egress (s : State) (e : Nat) : Option Nat :=
  if (s.port (bits e 27 24)).up then some (bits e 27 24)
  else if bit e 23 && (s.port (bits e 22 19)).up then some (bits e 22 19)
  else none
/-- The port that a link window's packets go to: its route's egress, or its primary port where none is UP (R148, R328). -/
def State.windowPort (s : State) (c w : Nat) : Nat :=
  let e := s.routeEntry (bits (s.linkWindow c w) 223 216)
  (s.egress e).getD (bits e 27 24)

/-! ## Accesses by device VA other than a tile's -/

/-- Where an access of cuvee c goes, once its translation is known; a fault is counted. -/
def State.resolved (c va len label : Nat) (write : Bool) (r : Except Nat Leaf × State) : Target × State :=
  match r.1 with
  | .error k => (.fault k, r.2.countXFault c)
  | .ok lf => match r.2.resolve c va len label write lf with
    | .fault k => (.fault k, r.2.countXFault c)
    | t => (t, r.2)

/-- Translate for a courier, a vintner core or a ring: such requesters walk each time. DESIGN CHOICE (log 75). -/
def State.translate (s : State) (c va len label : Nat) (write : Bool) : Target × State :=
  State.resolved c va len label write (s.walkCounted c va 0)

/-- Host traffic of cuvee c (R402, R397). DEDUCED (log 145). -/
def State.hostTraffic (s : State) (c n : Nat) : State :=
  (s.tally c 15 n).updCuvee c fun v => { v with meter := { v.meter with host := v.meter.host + n } }

/-- Read n bytes within one 256 B unit of local memory for cuvee c: the bytes, poisoned or not. -/
def State.memRead (s : State) (k off n c label policy : Nat) : List Byte × Bool × State :=
  let bad := (sectorsOf off n).any fun q => (s.pc k).poisoned.contains q
  (s.hbmRead k off n, bad, s.memTraffic k off n c label policy false)

/-- Write bytes within one 256 B unit of local memory. -/
def State.memWrite (s : State) (k off : Nat) (bs : List Byte) (c label policy : Nat) : State :=
  ((s.hbmWrite k off bs).unpoison k off bs.length).memTraffic k off bs.length c label policy true

/-- Split n bytes from va at 256 B borders. -/
def chunks : Nat → Nat → Nat → List (Nat × Nat)
  | 0, _, _ => []
  | f + 1, va, n => if n = 0 then [] else let k := min n (256 - va % 256); (va, k) :: chunks f (va + k) (n - k)

/-- The chunks of a range. -/
def rangeChunks (va n : Nat) : List (Nat × Nat) := chunks (n / 256 + 2) va n

/-- Nothing new goes to the host memory of a cuvee's VF: it is being reset or released (R259). -/
def State.hostShut (s : State) (c : Nat) : Bool := (s.cuvee c).state == .resetting || (s.cuvee c).state == .releasing

/-- The parcel whose vintner core acts for cuvee c: the lowest that holds a tile of it. DESIGN CHOICE (log 201). -/
def State.homeParcel (s : State) (c : Nat) : Nat := ((s.cvTiles c).map tileParcel).foldl min 15

/-- Write bytes at a device VA for cuvee c: local memory, a posted host write as its VF, or a WRITE packet to the window's
link port. Stops at the first fault. DESIGN CHOICE (log 201). -/
def State.vaWriteChunks (s : State) (c label : Nat) : List (Nat × Nat) → List Byte → Option XFault × State
  | [], _ => (none, s)
  | (va, n) :: rest, bs =>
    let r := s.translate c va n label true
    match r.1 with
    | .fault k => (some ⟨k, va⟩, r.2)
    | .mem k off l p => (r.2.memWrite k off (bs.take n) c l p).vaWriteChunks c label rest (bs.drop n)
    | .host w _ addr _ =>
      let b := r.2.boundFn c
      let s := if r.2.hostShut c then r.2
        else (r.2.hostWrite b.1 b.2 addr (bs.take n) (hwNoSnoop (r.2.hostWindow c w)) (r.2.teeOf c)).hostTraffic c n
      s.vaWriteChunks c label rest (bs.drop n)
    | .link w off l =>
      let port := r.2.windowPort c w
      (r.2.inject { (default : Packet) with
        ty := 2, vc := 2, label := l, flits := ceilDiv n 32, bytes := n, cuvee := c, src := 3 * 2048 + r.2.homeParcel c
        dst := 5 * 2048 + port, addr := w * 2 ^ 40 + off, data := bs.take n }).vaWriteChunks c label rest (bs.drop n)

/-- Write bytes at a device VA. -/
def State.vaWrite (s : State) (c va : Nat) (bs : List Byte) (label : Nat) : Option XFault × State :=
  s.vaWriteChunks c label (rangeChunks va bs.length) bs

/-- Poisoned data is consumed by a courier, a ring or a vintner core for cuvee c (R191, R435): the contained fault names no
tile. DEDUCED (log 200). -/
def State.poisonRead (s : State) (c va : Nat) : State := if c = 0 then s else s.containedFault c 3 1 0xFFFF va 0 0

/-- Read bytes at a device VA for cuvee c. Bytes behind a host window come from `ext`, what the host returns, by place in
the range; a link window is not read here. -/
def State.vaReadChunks (s : State) (c label : Nat) : List (Nat × Nat) → List Byte → Except XFault (List Byte) × State
  | [], _ => (.ok [], s)
  | (va, n) :: rest, ext =>
    let r := s.translate c va n label false
    match r.1 with
    | .fault k => (.error ⟨k, va⟩, r.2)
    | .mem k off l p =>
      let m := r.2.memRead k off n c l p
      let s := m.2.2.openSample k l
      let q := (if m.2.1 then s.poisonRead c va else s).vaReadChunks c label rest (ext.drop n)
      match q.1 with
      | .error f => (.error f, q.2)
      | .ok bs => (.ok (m.1 ++ bs), q.2)
    | .host _ _ _ _ | .link _ _ _ =>
      let q := (r.2.hostTraffic c n).vaReadChunks c label rest (ext.drop n)
      match q.1 with
      | .error f => (.error f, q.2)
      | .ok bs => (.ok ((ext ++ List.replicate n 0).take n ++ bs), q.2)

/-- Read n bytes at a device VA. DESIGN CHOICE (log 199). -/
def State.vaRead (s : State) (c va n label : Nat) (ext : List Byte) : Except XFault (List Byte) × State :=
  s.vaReadChunks c label (rangeChunks va n) ext

end Sys2Proof.Machine
end

