-- ==== Sys2Proof/Machine/Observe.lean ====
section
/-! DEFINITION. Machine/Observe.lean: the harvest and its record (R404–R409), daybook partitions (R413–R418), check units
(R424–R427). -/

namespace Sys2Proof.Machine

/-! ## Daybook partitions -/

/-- RATE of a partition, records per ms (R431). -/
def State.bookRate (s : State) (c : Nat) : Nat := bits (s.num 0x9001 (c + 1)) 63 32

/-- Partition c restarts empty (R415, R418): RUNNING, or OFF for MODE 0. -/
def State.bookRestart (s : State) (c : Nat) : State :=
  s.setBook c { (default : Daybook) with state := if s.bookMode c = 0 then 0 else 1, tokens := (s.book c).tokens }

/-- Every partition's bucket gains at a fire tick, to a depth of 1,024 (R414). `len` is the slot length in ns.
DESIGN CHOICE (log 161). -/
def State.bookTokens (s : State) (len : Rat) : State :=
  s.each ((0 :: s.existing).filter fun c => s.bookPositions c != 0) fun s c =>
    let b := s.book c
    s.setBook c { b with tokens := min 1024 (b.tokens + (s.bookRate c : Nat) * len / 1000000) }

/-- The closing GAP record of a STOPPED partition is rewritten at every harvest tick (R416). -/
def State.bookClosing (s : State) : State :=
  s.each (0 :: s.existing) fun s c =>
    let b := s.book c
    match b.gap with
    | some g => if b.state = 3 && 0 < s.bookPositions c then
        s.setBook c { b with recs := b.recs.set 0 (s.bookPositions c - 1) (gapRecord c g) } else s
    | none => s

/-- Legality of a DaybookControl command (R418). -/
def State.bookControlOk (s : State) (c cmd : Nat) : Bool :=
  match cmd, (s.book c).state with
  | 1, 1 | 1, 2 | 1, 3 => true
  | 2, 1 => s.bookMode c == 3
  | 3, 1 | 3, 2 => true
  | _, _ => false

/-- A DaybookControl command acts (R417, R418). -/
def State.bookControl (s : State) (c cmd : Nat) : State :=
  match cmd with
  | 1 => s.bookRestart c
  | 2 => s.bookTrigger c 0 0
  | 3 => s.setBook c { s.book c with state := 3, post := 0 }
  | _ => s

/-- DaybookStatus (R431). -/
def Daybook.status (b : Daybook) : Blob := Blob.record [(8, b.accepted), (8, b.trigPos), (8, b.lost), (1, b.state), (7, 0)]

/-- A page of a partition (R419): positions 128p to 128p + 127; one beyond the partition reads 0. -/
def State.bookPage (s : State) (c p : Nat) : Blob :=
  Blob.array 32 ((List.range 128).map fun i =>
    let n := 128 * p + i
    if n < s.bookPositions c then (s.book c).recs.getD n 0 else 0)

/-! ## Harvest (R404–R409) -/

/-- The HARVEST row's action: every counter is latched; closing and interim records are written (R208, R370, R404, R416). -/
def State.harvestLatch (s : State) : State :=
  let s := ((s.interimShortfalls).interimThrottles).bookClosing
  let s := s.signal flitHarvest (payTick s.time.slot s.time.e)
  let flags := s.obs.flags ||| (if s.cad.state = .locked then 0 else 1)
  let marks := s.cuvees.map fun e => (e.1, e.2.cntFlags)
  let s := s.each (s.cuvees.map Prod.fst) fun s c => s.updCuvee c fun v =>
    { v with cntMark := v.cntShadow, cntShadow := v.counters, cntFlags := 0 }
  { s with
    obs := { s.obs with
      mark := s.obs.shadow, shadow := s.obs.unit, latched := some (s.stamp, flags, s.time.epochs, marks), flags := 0 }
    faults := { s.faults with correctedSeen := [] }
    alm := { s.alm with lastHarvestEpoch := some s.time.epochs } }

/-- The increment of a unit counter in the harvest latched. -/
def State.unitInc (s : State) (unit k : Nat) : Nat :=
  (s.obs.shadow.getD (8 * unit + k) 0 + 2 ^ 64 - s.obs.mark.getD (8 * unit + k) 0) % 2 ^ 64

/-- A cuvee block's fields after the header (R408). -/
def blockTail (stamp epochs flags : Nat) (counts : List Nat) (gen : Nat) : Blob :=
  Blob.record ([(8, stamp), (4, epochs), (2, flags), (2, 0)] ++ (counts.take 22).map (fun x => (8, x)) ++ [(62, 0), (2, gen)])

/-- Cuvee c's increments in the harvest latched. -/
def Cuvee.increments (v : Cuvee) : List Nat :=
  (List.range 22).map fun k => (v.cntShadow.getD k 0 + 2 ^ 64 - v.cntMark.getD k 0) % 2 ^ 64

/-- A generation by R275 for ring size r. -/
def genOf (n r : Nat) : Nat := n / r % 65535 + 1

/-- The block of cuvee c in the harvest latched; zero in NONE. -/
def State.cuveeBlock (s : State) (c stamp epochs flags : Nat) (marks : List (Nat × Nat)) (gen : Nat) : Blob :=
  let v := s.cuvee c
  if v.state = .none then ⟨256, 0⟩
  else
    let own := ((marks.find? fun e => e.1 == c).map Prod.snd).getD 0
    blockTail stamp epochs (flags % 4 + own) v.increments gen

/-- The harvest record (R407) of the harvest latched. -/
def State.harvestRecord (s : State) (stamp flags epochs : Nat) (marks : List (Nat × Nat)) : Blob :=
  let n := s.obs.harvestWritten
  let span := epochs - s.obs.prevEpochs
  let gen := genOf n (s.num 0x8000 3)
  let header := [(4, 0x56483947), (2, 1), (2, 64), (8, stamp), (8, s.obs.prevStamp), (4, span), (4, n), (2, flags), (28, 0), (2, gen)]
  let tiles := allTiles.map fun t => (32, (Blob.array 8 ((List.range 4).map (s.unitInc t))).val)
  let pcs := allPcs.map fun k => (32, (Blob.record [(8, s.unitInc (4096 + k) 0), (8, s.unitInc (4096 + k) 1),
    (4, s.unitInc (4096 + k) 3), (4, s.unitInc (4096 + k) 4), (8, s.unitInc (4096 + k) 2)]).val)
  let ports := (List.range 12).map fun k => (32, (Blob.record [(8, s.unitInc (5000 + k) 0), (8, s.unitInc (5000 + k) 1),
    (4, s.unitInc (5000 + k) 2), (4, s.unitInc (5000 + k) 3), (4, s.unitInc (5000 + k) 4), (4, s.unitInc (5000 + k) 5)]).val)
  let blocks := allCuvees.map fun c => (256, (s.cuveeBlock c stamp span flags marks gen).val)
  let budget := sumNat (s.existing.map fun c => ((s.cuvee c).increments).getD 19 0)
  let estate := [(8, budget)] ++ (List.range 5).map (fun i => (8, s.unitInc 5100 (i + 1))) ++
    [(8, s.unitInc 5100 6), (8, s.unitInc 5100 7)]
  Blob.record (header ++ tiles ++ pcs ++ ports ++ blocks ++ estate)

/-- Forward cuvee c's block to its ring of 16, GEN last (R75, R409); a fault stops forwarding and is logged as FORWARD_FAULT. -/
def State.forwardBlock (s : State) (c stamp span flags : Nat) (marks : List (Nat × Nat)) : State :=
  let v := s.cuvee c
  let target := s.num 0x8005 c
  if s.num 0x8004 c ≠ 1 || target = 0 || !v.fwdOn || v.state = .none then s
  else
    let n := v.fwdCount
    let b := s.cuveeBlock c stamp span flags marks (genOf n 16)
    let va := target + 256 * (n % 16)
    let body := s.vaWrite c va (toBytes 254 b.val) (s.num 0x5046 c)
    let r := match body.1 with
      | none => body.2.vaWrite c (va + 254) (toBytes 2 (b.get 254 2)) (s.num 0x5046 c)
      | some f => (some f, body.2)
    match r.1 with
    | none => r.2.updCuvee c fun v => { v with fwdCount := v.fwdCount + 1 }
    | some f => (r.2.updCuvee c fun v => { v with fwdOn := false }).plainFault c 7 1 0 f.va f.kind 0

/-- HARVEST_RECORD_WRITE (R406–R409): the record of the latched harvest is written, CuveeCounters follow, and blocks are
forwarded. -/
def State.harvestRecordWrite (s : State) : State :=
  match s.obs.latched with
  | none => s
  | some (stamp, flags, epochs, marks) =>
    let n := s.obs.harvestWritten
    let span := epochs - s.obs.prevEpochs
    let r := s.harvestRecord stamp flags epochs marks
    let depth := max 1 (s.num 0x8000 3)
    let s := s.each s.existing fun s c => s.forwardBlock c stamp span flags marks
    let s := s.each s.existing fun s c =>
      let own := ((marks.find? fun e => e.1 == c).map Prod.snd).getD 0
      s.updCuvee c fun v => { v with cntBlock := blockTail stamp span (flags % 4 + own) v.cntShadow (n % 65536) }
    { s with obs := { s.obs with
      records := s.obs.records.insert (n % depth) r, harvestWritten := (n + 1) % 2 ^ 32, latched := none
      prevStamp := stamp, prevEpochs := epochs } }

/-- HARVEST's action: a record still to be written is written first, for it is complete before any later tick (R406). -/
def State.harvestAct (s : State) : State := s.harvestRecordWrite.harvestLatch

/-! ## Check units (R424–R427) -/

/-- One byte into CRC-64 of ECMA-182, most significant bit first. -/
def crc64Byte (s b : Nat) : Nat :=
  (List.range 8).foldl (fun s _ =>
    if s.testBit 63 then (s * 2) % 2 ^ 64 ^^^ 0x42F0E1EBA9EA3693 else (s * 2) % 2 ^ 64) (s ^^^ (b * 2 ^ 56))

/-- One byte into CRC-32C, reflected. -/
def crc32cByte (s b : Nat) : Nat :=
  (List.range 8).foldl (fun s _ => if s.testBit 0 then s / 2 ^^^ 0x82F63B78 else s / 2) (s ^^^ b)

/-- One byte of a block under POLY. -/
def crcByte (poly s b : Nat) : Nat := if poly = 1 then crc64Byte s b else crc32cByte s b

/-- The initial state for POLY and the folding value F (R425). -/
def crcStart (poly f : Nat) : Nat :=
  if poly = 1 then f % 2 ^ 64 else 0xFFFFFFFF ^^^ bits f 31 0 ^^^ bits f 63 32

/-- The digest so far, with the final XOR (R424). -/
def crcResult (poly s : Nat) : Nat := if poly = 1 then s else s ^^^ 0xFFFFFFFF

/-- A channel's POLY and MODE, and its F. -/
def CheckCh.poly (x : CheckCh) : Nat := bits x.config 3 3
def CheckCh.mode (x : CheckCh) : Nat := bits x.config 2 1
def CheckCh.foldValue (x : CheckCh) : Nat := if x.mode = 0 then 0 else x.fold

/-- RESULT (R426). -/
def CheckCh.result (x : CheckCh) : Nat := crcResult x.poly x.crc.toNat

/-- A channel of the estate. -/
def State.check (s : State) (n : Nat) : CheckCh := s.obs.checks.getD n default
def State.setCheck (s : State) (n : Nat) (x : CheckCh) : State :=
  { s with obs := { s.obs with checks := s.obs.checks.set default n x } }

/-- How many channels a cuvee holds (R240, R427). -/
def State.channelsOf (s : State) (c : Nat) : Nat := (s.val 0x3017 c).get 16 1

/-- The first estate channel of cuvee c: whole channels from 0 in ascending cuvee ID (R427). -/
def State.firstChannel (s : State) (c : Nat) : Nat := sumNat ((s.existing.filter (· < c)).map s.channelsOf)

/-- The estate channel that stands in for a channel: itself, or an estate channel for one that is retired (R451).
DEDUCED (log 151). -/
def State.standIn (s : State) (n : Nat) : Nat :=
  if s.faults.engines.getD (32 + n) 0 = 2 then
    56 + ((List.range n).filter fun k => s.faults.engines.getD (32 + k) 0 == 2).length % 8
  else n

/-- The estate channel of cuvee c's channel n. -/
def State.channel (s : State) (c n : Nat) : Option Nat :=
  if n < s.channelsOf c then some (s.standIn (s.firstChannel c + n)) else none

/-- The owner of an estate channel; 0 for the estate (R431). DEDUCED (log 151). -/
def State.channelOwner (s : State) (n : Nat) : Nat :=
  (s.existing.find? fun c => (List.range (s.channelsOf c)).any fun k => s.standIn (s.firstChannel c + k) == n).getD 0

/-- The cuvee-relative number of an estate channel, as its owner's partition keeps it (R419). -/
def State.channelRel (s : State) (n : Nat) : Nat :=
  let c := s.channelOwner n
  if c = 0 then n
  else ((List.range (s.channelsOf c)).find? fun k => s.standIn (s.firstChannel c + k) == n).getD 0

/-- A write of START on estate channel n (R425–R427): the job before it ends, a block begins. DESIGN CHOICE (log 52). -/
def State.checkStart (s : State) (n : Nat) : State :=
  let x := s.check n
  let c := s.channelOwner n
  let rel := s.channelRel n
  let code := field x.poly 1 3 + field x.mode 2 1
  let s := if x.running then s.daybook c 1 3 rel code 0 (min x.bytes (2 ^ 32 - 1)) 0 x.result else s
  let s := s.daybook c 0 3 rel code 0 0 0 0
  s.setCheck n { x with
    crc := BitVec.ofNat 64 (crcStart x.poly x.foldValue), bytes := 0, overrun := false, running := true, owner := c }

/-- A feed of k bytes, low byte first (R426). DESIGN CHOICE (log 52). -/
def State.checkFeed (s : State) (n value k : Nat) : State :=
  let x := s.check n
  let crc := (List.range k).foldl (fun a i => crcByte x.poly a (value / 256 ^ i % 256)) x.crc.toNat
  s.setCheck n { x with crc := BitVec.ofNat 64 crc, bytes := (x.bytes + k) % 2 ^ 64 }

/-- A write of CONFIG or FOLD (R426): reserved bits or MODE 3 of CONFIG leave it unchanged. -/
def State.checkConfig (s : State) (n v : Nat) : State :=
  if v % 2 = 1 || 16 ≤ v || bits v 2 1 = 3 then s else s.setCheck n { s.check n with config := v }
def State.checkFold (s : State) (n v : Nat) : State := s.setCheck n { s.check n with fold := v % 2 ^ 64 }

/-- The value of a register of a channel, by offset (R426). Write-only registers read 0. -/
def CheckCh.reg (x : CheckCh) (off : Nat) : Nat :=
  match off with
  | 0x00 => x.config
  | 0x08 => x.fold
  | 0x20 => x.result
  | 0x28 => x.bytes
  | 0x30 => b2n x.overrun
  | _ => 0

def execHarvestRecordWrite (s : State) : Result := .next s.harvestRecordWrite

end Sys2Proof.Machine
end

