-- ==== Sys2Proof/Machine/Faults.lean ====
section
/-! DEFINITION. Machine/Faults.lean: hangs (R437–R440), shared-engine faults and replay (R448–R451), the estate stop (R452)
and the end of a parcel reset (R454). -/

namespace Sys2Proof.Machine

/-! ## The estate stop (R452) -/

/-- Sources for which the holiday machinery itself is suspect: almanac master, tendril network, management controller.
DEDUCED (log 154). -/
def suspectMachinery (source : Nat) : Bool := source == 2 || source == 4 || source == 5

/-- One cuvee is cut at the detecting tick with every tile squashed. DEDUCED (log 154). -/
def State.stopNow (s : State) (c : Nat) : State :=
  let s := if (s.cuvee c).rebindActive then s.abandonPlan c 2 else s
  let s := s.eachTile c fun s t => s.squashTile t (if (s.tile t).act = .running then .held else (s.tile t).act)
  let s := s.callQuiesce c 1 0 2 s.time.now
  let s := s.updQuiesce c fun q => { q with begun := true }
  if ((s.cuvee c).quiesce.bind Quiesce.cutAt).isNone then s.cutCuvee c true else s

/-- The estate stop: EstateState STOPPING and EstateFault, then the estate holiday, or the cut at once (R452, R456). With no
cuvee left to cut the estate is STOPPED. DEDUCED (log 153, 154). -/
def State.estateStop (s : State) (source : Nat) : State :=
  if s.faults.estateState ≠ 0 then s
  else
    let r := faultRecord s.stamp 0x0D 3 0 0 0 source 0 0
    let s := { s with faults := { s.faults with estateState := 1, estateFault := r } }
    let s := (s.logEstate r).bookTrigger 0 2 0
    let live := s.existing.filter fun c => (s.cuvee c).live
    let s := if suspectMachinery source then
        (s.each live State.stopNow).each s.existing fun s c => s.updCuvee c fun v => { v with cutIncomplete := true }
      else s.each live fun s c => s.callQuiesce c 1 0 2 (s.time.now + 1000000)
    s.stopIfFrozen

/-! ## Hangs (R437–R440) -/

/-- A hang of a RUNNING or PAUSED cuvee: recorded, and the cuvee freezes. In any other state it records nothing. -/
def State.hang (s : State) (c unit cause arg1 : Nat) : State :=
  if (s.cuvee c).live then s.containedFault c 8 1 unit cause arg1 0 else s

/-- The lowest cuvee-relative tile of a group still RUNNING or HELD, or 0xFFFF (R435). -/
def State.hangUnit (s : State) (w : Watch) : Nat :=
  if !w.tileWork then 0xFFFF
  else match ((s.groupTiles w.cuvee w.tgroup).filter fun t => (s.tile t).busy).map fun t => (s.tile t).ctile with
    | [] => 0xFFFF
    | x :: xs => xs.foldl min x

/-- A watch by its number. -/
def State.watch (s : State) (id : Nat) : Option Watch := s.alm.watches.find? fun w => w.id == id
/-- Change a watch. -/
def State.updWatch (s : State) (id : Nat) (f : Watch → Watch) : State :=
  { s with alm := { s.alm with watches := s.alm.watches.map fun w => if w.id = id then f w else w } }

/-- HANG_DEADLINE (R437): HangEpochs epochs after the deadline slot the work is still not complete. -/
def State.hangDeadline (s : State) (id : Nat) : State :=
  match s.watch id with
  | none => s
  | some w =>
    let n := (s.val 0xB002 w.cuvee).get 0 2
    match w.deadline with
    | none => s
    | some d =>
      if w.complete || w.hung || n = 0 || s.slotCount < d + 4096 * n then s
      else (s.updWatch id fun w => { w with hung := true }).hang w.cuvee (s.hangUnit w) 1 w.tag

/-- HANG_STALL (R438): at a fire tick a RUNNING tile has made no progress for StallLimit. -/
def State.hangStall (s : State) (t : Nat) : State :=
  let x := s.tile t
  let tick := s.slotStart s.time.slot
  let limit := (s.val 0xB002 x.cuvee).get 8 8
  if x.act ≠ .running || x.cuvee = 0 || tick - x.progress < (limit : Nat) then s
  else s.hang x.cuvee x.ctile 2 ((tick - x.progress) / s.cycle).floor.toNat

/-- The vintner cores that serve a cuvee: the home parcel, the lowest holding a tile of the placement, of each model (R290).
DEDUCED (log 152). -/
def State.coresOf (s : State) (c : Nat) : List Nat :=
  ((s.cuvee c).serving.models.filterMap fun e =>
    let n := (e.2.recipe.placements.getD e.2.placement default).tiles
    match (((s.cvTiles c).drop e.2.base).take n).map tileParcel with
    | [] => none
    | p :: ps => some (ps.foldl min p)).dedup

/-- The cuvees that a vintner core serves. DEDUCED (log 152). -/
def State.servedBy (s : State) (p : Nat) : List Nat := s.existing.filter fun c => (s.coresOf c).contains p

/-! ## Shared engines (R448–R451) -/

/-- The byte of EngineStatus (R457) of an engine; statistics units have none and stand above it. -/
def engineKey (e : Engine) : Nat :=
  match e.kind with
  | 0 => e.unit
  | 1 => 32 + e.unit
  | 2 | 3 => 96 + e.unit
  | 4 => 1000 + e.unit
  | 5 => 256 + e.unit
  | _ => 272

/-- A cuvee has courier or crypto work in progress. -/
def State.movesData (s : State) (c : Nat) : Bool :=
  let v := s.cuvee c
  v.saveActive || v.restoreActive || !v.serving.outputs.isEmpty || !v.serving.remaps.isEmpty || !v.serving.fetches.isEmpty ||
    (v.serving.casks.any fun e => e.2.state == 4 || e.2.state == 5) || (v.serving.models.any fun e => e.2.loadJob.isSome) ||
    (v.rebindActive && v.rebind.phase == 2)

/-- The crypto complex works for the cuvee: a bottle being opened, or an image. -/
def State.usesCrypto (s : State) (c : Nat) : Bool :=
  let v := s.cuvee c
  v.saveActive || v.restoreActive || v.serving.models.any fun e => e.2.loadJob.isSome

/-- Suspects of an engine now (R448), in ascending ID with the estate, 0, last. -/
def State.suspectsOf (s : State) (e : Engine) : List Nat :=
  let cs := s.existing
  match e.kind with
  | 0 => cs.filter (fun c => 0 < (s.val 0x3017 c).get (e.unit / 2) 1 && s.movesData c) ++
      if s.obs.latched.isSome then [0] else []
  | 1 => let x := s.check e.unit
      if x.running then (if x.owner = 0 then [0] else [x.owner]) else []
  | 2 => cs.filter fun c => s.net.combines.any fun x => x.router == e.unit && x.pkt.cuvee == c
  | 3 => cs.filter fun c => s.net.flight.any fun p => p.cuvee == c && p.ty == 7
  | 4 => let c := (s.tile e.unit).cuvee
      if c ≠ 0 && (s.tile e.unit).act == .running then [c] else []
  | 5 => s.servedBy e.unit
  | _ => cs.filter s.usesCrypto

/-- A statistics unit that fails is not replayed: the watch points of its tile stop (R451). -/
def State.statsStop (s : State) (t : Nat) : State :=
  { s with net := { s.net with watchOff := (s.net.watchOff ++ (List.range 64).map fun w => 64 * t + w).dedup } }

/-- A router's held contributions are answered with NACK STATUS 3 (R451). -/
def State.nackHeld (s : State) (router : Nat) : State :=
  let held := s.net.combines.filter fun x => x.router == router && !x.sent
  let s := { s with net := { s.net with combines := s.net.combines.filter fun x => !(x.router == router && !x.sent) } }
  s.each held fun s x => s.each x.contribs fun s k =>
    s.inject { (default : Packet) with
      ty := 6, vc := x.pkt.vc, label := x.pkt.label, cuvee := x.pkt.cuvee, src := x.pkt.dst, dst := k.1, tag := k.2, status := 3 }

/-- SHARED_ENGINE_FAULT: a check found a shared engine wrong. It is fenced and its suspects' replay begins (R449). -/
def State.sharedFault (s : State) (e : Engine) : State :=
  if s.faults.engines.getD (engineKey e) 0 ≠ 0 then s
  else if e.kind = 4 then s.statsStop e.unit
  else
    let sus := s.suspectsOf e
    let s := { s with faults := { s.faults with
      engines := s.faults.engines.insert (engineKey e) 1, suspects := s.faults.suspects.insert (engineKey e) (s.time.now, s.slotCount, sus) } }
    let s := if e.kind = 2 then s.nackHeld e.unit else s
    let s := if e.kind = 2 || e.kind = 3 then s.netError 3 else s
    s.bookTrigger 0 2 0

/-- The source code of a corrected engine in the estate log (R435): the trellis for a router, SRAM otherwise. -/
def engineSource (e : Engine) : Nat := if e.kind = 2 || e.kind = 3 then 2 else 4

/-- A suspect resumes with a REPLAYED record (R449). -/
def State.replayed (s : State) (e : Engine) (delay c : Nat) : State :=
  if c = 0 then s.logEstate (faultRecord s.stamp 0x0A 2 0 2 e.unit e.kind delay 0)
  else s.logCuvee c 0x0A 2 2 e.unit e.kind delay 0

/-- A suspect is named, or its engine is retired: SHARED_ENGINE (R450); of the estate's own work the estate log alone tells.
DESIGN CHOICE (log 156). -/
def State.engineNamed (s : State) (e : Engine) (c : Nat) : State :=
  if c = 0 then s.logEstate (faultRecord s.stamp 9 2 0 2 e.unit e.kind 0 0) else s.containedFault c 9 2 e.unit e.kind 0 0

/-- The replay of an engine is over: its status byte becomes st. -/
def State.replayOver (s : State) (e : Engine) (st : Nat) : State :=
  { s with faults := { s.faults with
    engines := if st = 0 then s.faults.engines.erase (engineKey e) else s.faults.engines.insert (engineKey e) st
    suspects := s.faults.suspects.erase (engineKey e) } }

/-- Outcome 3: the engine is retired, and what R451 says follows. DEDUCED (log 151, 224). -/
def State.retireEngine (s : State) (e : Engine) (sus : List Nat) : State :=
  let s := (s.replayOver e 2).each sus fun s c => s.engineNamed e c
  match e.kind with
  | 2 => { s with net := { s.net with noCombine := addOnce s.net.noCombine e.unit } }
  | 3 => { s with net := { s.net with noReplicate := addOnce s.net.noReplicate e.unit } }
  | 5 => s.estateStop 9
  | 6 => s.estateStop 8
  | _ => s

/-- REPLAY_DONE (R450). DESIGN CHOICE (log 156). -/
def State.replayDone (s : State) (e : Engine) (o : ReplayOutcome) : State :=
  match s.faults.suspects.find (engineKey e) with
  | none => s
  | some (_, at_, sus) =>
    let delay := s.slotCount - at_
    match o with
    | .transient =>
      let s := (s.replayOver e 0).each sus fun s c => s.replayed e delay c
      s.logEstate (faultRecord s.stamp 0x0C 0 0 0 e.unit (engineSource e) 1 0)
    | .named c =>
      if sus.contains c then
        let s := (s.replayOver e 0).each (sus.filter (· != c)) fun s d => s.replayed e delay d
        s.engineNamed e c
      else s
    | .retired => s.retireEngine e sus

/-- REPLAY_LIMIT: ReplayLimit has passed since the fault, and the engine is retired (R450).
DESIGN CHOICE (log 156); DEDUCED (log 226). -/
def State.replayLimit (s : State) (e : Engine) : State :=
  match s.faults.suspects.find (engineKey e) with
  | none => s
  | some (start, _, sus) => (s.at_ (start + (s.num 0xB014 1 : Nat))).retireEngine e sus

/-- HANG_WATCHDOG (R439): WatchdogEpochs consecutive page misses; a fault of the vintner core when every cuvee that the core
serves has missed both of the last two epochs. DEDUCED (log 152). -/
def State.hangWatchdog (s : State) (c : Nat) : State :=
  let v := s.cuvee c
  if !v.live || v.missRun < (s.val 0xB002 c).get 2 2 then s
  else match (s.coresOf c).find? fun p => (s.servedBy p).all fun d => decide (2 ≤ (s.cuvee d).missRun) with
    | some p => s.sharedFault ⟨5, p⟩
    | none => s.hang c 0xFFFF 3 v.missRun

/-! ## Parcel reset (R454) -/

/-- The parcel is in its reset. -/
def State.inReset (s : State) (p : Nat) : Bool := s.faults.resetPhase == 1 && s.faults.resetOp == 1 && s.faults.resetParcel == p

/-- The units of a parcel, as the pool names them. -/
def State.parcelUnits (s : State) (p : Nat) : List (Bool × Nat) :=
  ((s.muster.tileMap.filter fun e => e.1 / 128 == p).map fun e => (true, e.1)) ++
    (s.muster.pcMap.filter fun e => e.1 / 32 == p).map fun e => (false, e.1)

/-- PARCEL_RESET_DONE: units that failed are retired, contents are gone, and the rest return to the pool. -/
def State.parcelResetDone (s : State) (p : Nat) (badTiles : List Nat) (r : TrainingResult) : State :=
  if !s.inReset p then s
  else
    let units := s.parcelUnits p
    let tiles := (units.filter fun u => u.1).map Prod.snd
    let pcs := (units.filter fun u => !u.1).map Prod.snd
    let s := s.each tiles State.zeroTile
    let s := s.each pcs State.zeroPc
    let s := s.each (badTiles.filter tiles.contains) State.retireTile
    let phys := fun k => s.muster.pcMap.getD k 0 % 32
    let bad := pcs.filter fun k => (trainFailed r ++ testFailed r).contains (phys k)
    let margin := fun (m : Sparse Nat) k => match r.timing.find? fun e => e.1 == phys k with
      | some e => Sparse.set 0 m k (e.2 % 256)
      | none => m
    let margins := pcs.foldl margin s.muster.margins
    let s := s.each bad State.retirePc
    let s := s.updParcel p fun x => { ParcelSt.init with present := x.present, cacheOn := x.cacheOn }
    let stamp := s.etime
    { s with
      dict := { s.dict with scrubbing := s.dict.scrubbing.filter fun u => !units.contains u }
      muster := { s.muster with
        margins := margins
        pcTestBad := (s.muster.pcTestBad ++ bad.map fun k => s.muster.pcMap.getD k 0).dedup }
      faults := { s.faults with resetPhase := 2, resetDone := stamp } }

def execHangDeadline (id : Nat) (s : State) : Result := .next (s.hangDeadline id)
def execHangStall (t : Nat) (s : State) : Result := .next (s.hangStall t)
def execHangWatchdog (c : Nat) (s : State) : Result := .next (s.hangWatchdog c)
def execSharedEngineFault (e : Engine) (s : State) : Result := .next (s.sharedFault e)
def execReplayDone (e : Engine) (o : ReplayOutcome) (s : State) : Result := .next (s.replayDone e o)
def execReplayLimit (e : Engine) (s : State) : Result := .next (s.replayLimit e)
def execParcelResetDone (p : Nat) (badTiles : List Nat) (r : TrainingResult) (s : State) : Result :=
  .next (s.parcelResetDone p badTiles r)

end Sys2Proof.Machine
end

