-- ==== Sys2Proof/Machine/Fp.lean ====
section
/-! DEFINITION. Machine/Fp.lean: number formats and arithmetic (R119–R139). Finite values are held exactly, as a sign and a
magnitude in units of 2^-400, in which every product of the formats is a whole number. -/

namespace Sys2Proof.Machine

/-- An extended number: NaN, an infinity, or a finite value with its sign (zero has one too). -/
inductive Num where
  | nan
  | inf (neg : Bool)
  | fin (neg : Bool) (mag : Nat)
deriving DecidableEq, Repr, Inhabited

/-- The place of 1.0: magnitudes are in units of 2^-400. -/
def one : Nat := 2 ^ 400

/-- +0. -/
def Num.zero : Num := .fin false 0

/-- What a format does with its all-ones exponent: IEEE infinities and NaNs, E4M3's single NaN, or nothing special. -/
inductive Top where
  | ieee | onlyNan | plain
deriving DecidableEq, Repr, Inhabited

/-- A floating-point format (R119). -/
structure FloatFmt where
  eb   : Nat
  mb   : Nat
  bias : Nat
  top  : Top
deriving DecidableEq, Repr, Inhabited

def fp32 : FloatFmt := ⟨8, 23, 127, .ieee⟩
def bf16 : FloatFmt := ⟨8, 7, 127, .ieee⟩
def fp16 : FloatFmt := ⟨5, 10, 15, .ieee⟩
def e4m3 : FloatFmt := ⟨4, 3, 7, .onlyNan⟩
def e5m2 : FloatFmt := ⟨5, 2, 15, .ieee⟩
def e2m3 : FloatFmt := ⟨2, 3, 1, .plain⟩
def e3m2 : FloatFmt := ⟨3, 2, 3, .plain⟩
def e2m1 : FloatFmt := ⟨2, 1, 1, .plain⟩

/-- Decode a bit pattern of a format (R119). -/
def FloatFmt.decode (f : FloatFmt) (w : Nat) : Num :=
  let s := w.testBit (f.eb + f.mb)
  let e := bits w (f.eb + f.mb - 1) f.mb
  let m := bits w (f.mb - 1) 0
  let ones := e = 2 ^ f.eb - 1
  if f.top = .ieee ∧ ones then (if m = 0 then .inf s else .nan)
  else if f.top = .onlyNan ∧ ones ∧ m = 2 ^ f.mb - 1 then .nan
  else if e = 0 then .fin s (m * 2 ^ (401 - f.bias - f.mb))
  else .fin s ((2 ^ f.mb + m) * 2 ^ (400 + e - f.bias - f.mb))

/-- The FP32 value of a word. -/
def f32 (w : Word32) : Num := fp32.decode w.toNat

/-- A two's complement number of w bits, in units of 2^-sh. -/
def intNum (w sh v : Nat) : Num :=
  let i := signed w v
  .fin (decide (i < 0)) (i.natAbs * 2 ^ (400 - sh))

/-! ## Exact operations -/

/-- The signed magnitude of a finite value. -/
def Num.toInt : Num → Int
  | .fin neg m => if neg then -(m : Int) else m
  | _ => 0

/-- Change sign. NaN stays NaN. -/
def Num.neg : Num → Num
  | .nan => .nan
  | .inf n => .inf !n
  | .fin n m => .fin (!n) m

/-- Exact sum; a zero is −0 only when both are (R123, R131). -/
def Num.add (a b : Num) : Num :=
  match a, b with
  | .nan, _ | _, .nan => .nan
  | .inf x, .inf y => if x = y then .inf x else .nan
  | .inf x, .fin _ _ | .fin _ _, .inf x => .inf x
  | .fin x m, .fin y n =>
    let i := (Num.fin x m).toInt + (Num.fin y n).toInt
    if i = 0 then .fin (x && y) 0 else .fin (decide (i < 0)) i.natAbs

/-- Exact product (R123). Its magnitude is a whole number of units for every product of the formats. -/
def Num.mul (a b : Num) : Num :=
  match a, b with
  | .nan, _ | _, .nan => .nan
  | .inf x, .inf y => .inf (x != y)
  | .inf x, .fin y m | .fin y m, .inf x => if m = 0 then .nan else .inf (x != y)
  | .fin x m, .fin y n => .fin (x != y) (m * n / one)

/-- a < b, with −0 below +0; NaN aside. -/
def Num.less (a b : Num) : Bool :=
  match a, b with
  | .inf x, .inf y => x && !y
  | .inf x, _ => x
  | _, .inf y => !y
  | .fin x m, .fin y n =>
    let i := (Num.fin x m).toInt
    let j := (Num.fin y n).toInt
    decide (i < j) || (decide (i = j) && x && !y)
  | _, _ => false

/-- Maximum and minimum of IEEE 754-2019 (R131). -/
def Num.max (a b : Num) : Num := if a = .nan || b = .nan then .nan else if a.less b then b else a
def Num.min (a b : Num) : Num := if a = .nan || b = .nan then .nan else if b.less a then b else a

/-! ## Rounding -/

/-- The place of the last bit kept: mb bits below the leading one, and not below the format's subnormals. -/
def FloatFmt.place (f : FloatFmt) (mag : Nat) : Nat := max (Nat.log2 mag - f.mb) (401 - f.bias - f.mb)

/-- mag / 2^k to nearest, ties to even. -/
def roundEven (mag k : Nat) : Nat :=
  let q := mag / 2 ^ k
  let r := mag % 2 ^ k
  if 2 ^ k < 2 * r || (2 * r = 2 ^ k && q % 2 = 1) then q + 1 else q

/-- mag / 2^k rounded stochastically with a 16-bit draw (R136). -/
def roundDraw (mag k draw : Nat) : Nat :=
  let f := mag % 2 ^ k * 65536 / 2 ^ k
  if draw < f then mag / 2 ^ k + 1 else mag / 2 ^ k

/-- The exponent and mantissa bits of a magnitude that the format holds exactly. -/
def FloatFmt.pack (f : FloatFmt) (mag : Nat) : Nat :=
  if mag = 0 then 0
  else
    let l := Nat.log2 mag
    if l + f.bias < 401 then mag / 2 ^ (401 - f.bias - f.mb)
    else (l + f.bias - 400) * 2 ^ f.mb + (mag / 2 ^ (l - f.mb) - 2 ^ f.mb)

/-- The largest magnitude whose pattern is below the format's infinities and NaNs. -/
def FloatFmt.largest (f : FloatFmt) : Nat :=
  match f.decode (match f.top with
    | .ieee => (2 ^ f.eb - 1) * 2 ^ f.mb - 1
    | .onlyNan => 2 ^ (f.eb + f.mb) - 2
    | .plain => 2 ^ (f.eb + f.mb) - 1) with
  | .fin _ m => m
  | _ => 0

/-- The sign bit of a format. -/
def FloatFmt.sign (f : FloatFmt) (neg : Bool) : Nat := if neg then 2 ^ (f.eb + f.mb) else 0

/-- Round to FP32, to nearest even, with the canonical NaN (R121, R123, R131). -/
def Num.toF32 : Num → Word32
  | .nan => 0x7FC00000
  | .inf n => BitVec.ofNat 32 (fp32.sign n + 0x7F800000)
  | .fin n m =>
    let k := fp32.place m
    let r := roundEven m k * 2 ^ k
    BitVec.ofNat 32 (fp32.sign n + if fp32.largest < r then 0x7F800000 else fp32.pack r)

/-- FP32 multiplication and addition in one rounding. -/
def fma (a b c : Word32) : Word32 := (((f32 a).mul (f32 b)).add (f32 c)).toF32
def fadd (a b : Word32) : Word32 := ((f32 a).add (f32 b)).toF32
def fmul (a b : Word32) : Word32 := ((f32 a).mul (f32 b)).toF32
def fmax (a b : Word32) : Word32 := ((f32 a).max (f32 b)).toF32
def fmin (a b : Word32) : Word32 := ((f32 a).min (f32 b)).toF32

/-- A BF16 addition in the network (R139). -/
def bf16Add (a b : Nat) : Nat :=
  let w := fun x => BitVec.ofNat 32 (x % 65536 * 65536)
  match (f32 (fadd (w a) (w b))) with
  | .nan => 0x7FC0
  | .inf n => bf16.sign n + 0x7F80
  | .fin n m =>
    let k := bf16.place m
    let r := roundEven m k * 2 ^ k
    bf16.sign n + if bf16.largest < r then 0x7F80 else bf16.pack r

/-! ## Write-back conversion (R134–R136) -/

/-- Rounded to place k, by RND: a draw, or to nearest even. -/
def roundBy (draw : Option Nat) (m k : Nat) : Nat :=
  match draw with
  | some r => roundDraw m k r
  | none => roundEven m k

/-- FP32 to a floating OUT_FMT; beyond the largest finite value an infinity, or saturation in the FP8 formats. -/
def FloatFmt.convert (f : FloatFmt) (saturates : Bool) (nan infinity : Nat) (draw : Option Nat) (x : Num) : Nat :=
  match x with
  | .nan => nan
  | .inf n => (if f.top = .onlyNan then 0 else f.sign n) + infinity
  | .fin n m =>
    let k := f.place m
    let r := roundBy draw m k * 2 ^ k
    f.sign n + if f.largest < r then (if saturates then f.pack f.largest else infinity) else f.pack r

/-- FP32 to INT8 (R134, R135). -/
def toInt8 (draw : Option Nat) (x : Num) : Nat :=
  match x with
  | .nan => 0
  | .inf n => if n then 0x80 else 0x7F
  | .fin n m =>
    let q := roundBy draw m 400
    if n then unsigned 8 (-(Nat.min q 128 : Nat)) else Nat.min q 127

/-- The bits of an FP32 word converted to OUT_FMT 0–5 (R134). -/
def convertOut (fmt : Nat) (draw : Option Nat) (w : Word32) : Nat :=
  match fmt with
  | 0 => w.toNat
  | 1 => bf16.convert false 0x7FC0 0x7F80 draw (f32 w)
  | 2 => fp16.convert false 0x7E00 0x7C00 draw (f32 w)
  | 3 => e4m3.convert true 0x7F 0x7F draw (f32 w)
  | 4 => e5m2.convert true 0x7E 0x7C draw (f32 w)
  | _ => toInt8 draw (f32 w)

/-- Bytes of one element of OUT_FMT. -/
def outBytes (fmt : Nat) : Nat := if fmt = 0 then 4 else if fmt = 1 || fmt = 2 then 2 else 1

/-! ## Operands (R82, R84, R125, R128) -/

/-- The class of an operand code: 1 F16, 2 F8, 3 I8, 4 F4, 5 I4; 0 none (R82). -/
def fmtClass (code : Nat) : Nat :=
  match code with
  | 1 | 2 => 1
  | 3 | 4 | 7 | 8 | 9 | 10 => 2
  | 5 | 12 => 3
  | 11 | 13 => 4
  | 6 => 5
  | _ => 0

/-- Classes that R83 pairs: F4 and I4 are distinct. -/
def fmtPaired (a b : Nat) : Bool := fmtClass a != 0 && fmtClass a == fmtClass b

/-- A block format (R82). -/
def fmtBlock (code : Nat) : Bool := 7 ≤ code && code ≤ 13

/-- Bytes of one operand beat of a cell. DESIGN CHOICE (log 55). -/
def beatBytes (code : Nat) : Nat := if fmtClass code = 1 then 16 else 8

/-- K steps in a beat. -/
def beatSteps (code : Nat) : Nat := if fmtClass code = 4 || fmtClass code = 5 then 2 else 1

/-- Element i of K step h of a beat, unscaled (R84, R119). -/
def element (code : Nat) (beat : Blob) (i h : Nat) : Num :=
  let b := beat.get i 1
  match code with
  | 1 => bf16.decode (beat.get (2 * i) 2)
  | 2 => fp16.decode (beat.get (2 * i) 2)
  | 3 | 7 => e4m3.decode b
  | 4 | 8 => e5m2.decode b
  | 5 => intNum 8 0 b
  | 6 => intNum 4 0 (bits b (4 * h + 3) (4 * h))
  | 9 => e2m3.decode (b % 64)
  | 10 => e3m2.decode (b % 64)
  | 12 => intNum 8 6 b
  | _ => e2m1.decode (bits b (4 * h + 3) (4 * h))

/-- The scale of row or column i and half-block h: 2^(X − 127 − t), or `none` for the NaN scale (R122). A format that is not
a block format scales by 1. -/
def scaleOf (code : Nat) (rec_ : Blob) (i h : Nat) : Option Int :=
  if !fmtBlock code then some 0
  else
    let x := rec_.get i 1
    if x = 255 then none
    else some ((x : Int) - 127 - if code = 13 then (bits (rec_.get 8 4) (4 * i + 2 * h + 1) (4 * i + 2 * h) : Nat) else 0)

/-- A value times 2^e, exactly. -/
def Num.scale (x : Num) (e : Int) : Num :=
  match x with
  | .fin n m => .fin n (if 0 ≤ e then m * 2 ^ e.toNat else m / 2 ^ (-e).toNat)
  | x => x

/-! ## The special-function path (R132, R133) -/

/-- A subnormal FP32 input counts as zero of its sign. -/
def flush (w : Word32) : Word32 := if bits w.toNat 30 23 = 0 then w &&& 0x80000000 else w

/-! Exact results of the path are irrational; the bounds of R132 are stated with rationals that enclose them. -/

/-- The square roots 2^(2^-i), i from 1, in units of 2^-128, rounded down: n of them after one whose square root is next. -/
def expRoots : Nat → Nat → List Nat
  | 0, _ => []
  | n + 1, c => let r := Nat.sqrt (c * 2 ^ 128); r :: expRoots n r

/-- 2^f, rounded down, in units of 2^-128, from the leading 60 bits of a fraction in units of 2^-400. -/
def expFraction (f : Nat) : Nat :=
  (expRoots 60 (2 ^ 129)).zipIdx.foldl (fun acc r => if f.testBit (399 - r.2) then acc * r.1 / 2 ^ 128 else acc) (2 ^ 128)

/-- 2^x for a signed x in units of 2^-400: a lower and an upper bound of it, in the same units. -/
def exp2Bounds (x : Int) : Nat × Nat :=
  let n := x / (one : Nat)
  let f := (x % (one : Nat)).toNat
  let m := expFraction f * 2 ^ 272
  let place := fun (v : Nat) => if 0 ≤ n then v * 2 ^ n.toNat else v / 2 ^ (-n).toNat
  if n < -400 then (0, 1)
  else if f = 0 then (place m, place m)
  else (place m, place (m + m / 2 ^ 50) + 1)

/-- The leading n bits of log₂ of a number of [1, 2) in units of 2^-128, from the most significant on. -/
def logBits : Nat → Nat → Nat → Nat
  | 0, acc, _ => acc
  | n + 1, acc, x =>
    let y := x * x / 2 ^ 128
    if 2 ^ 129 ≤ y then logBits n (2 * acc + 1) (y / 2) else logBits n (2 * acc) y

/-- log₂ of a positive magnitude: a lower and an upper bound, in units of 2^-400. -/
def log2Bounds (m : Nat) : Int × Int :=
  let l := Nat.log2 m
  let frac := logBits 60 0 (if l ≤ 128 then m * 2 ^ (128 - l) else m / 2 ^ (l - 128))
  let lo := ((l : Int) - 400) * (one : Nat) + (frac * 2 ^ 340 : Nat)
  if m = 2 ^ l then (lo, lo) else (lo, lo + (2 ^ 342 : Nat))

/-- The distance from a word's value to a result enclosed by two bounds is at most `d`. -/
def wordWithin (lo hi : Int) (d : Nat) (w : Word32) : Bool :=
  match f32 w with
  | .fin n m =>
    let v := (Num.fin n m).toInt
    decide (hi - v ≤ (d : Int)) && decide (v - lo ≤ (d : Int))
  | _ => false

/-- A word that the path may deliver for a result between two bounds, within d of it: no subnormal, which it flushes to a zero. -/
def wordAllowed (lo hi : Int) (d : Nat) (w : Word32) : Bool :=
  if bits w.toNat 30 23 = 0 then
    w.toNat % 2 ^ 31 = 0 && decide (lo - (d : Int) < (2 ^ 274 : Nat)) && decide (-(2 ^ 274 : Nat) < hi + (d : Int))
  else wordWithin lo hi d w

/-- The free word, where the bound allows it; else the word nearest the result, which it always allows. -/
def boundedWord (free : Word32) (lo hi : Int) (d : Nat) : Word32 :=
  if wordAllowed lo hi d free then free
  else flush (Num.toF32 (.fin (decide (lo < 0)) lo.natAbs))

/-- One unit in the last place at a magnitude (R132). -/
def ulp (m : Nat) : Nat := 2 ^ fp32.place m

/-- EXP2, open within 2 ulp in its domain. DESIGN CHOICE (log 53). -/
def sfExp2 (a : Word32) : Word32 :=
  match f32 (flush a) with
  | .nan => 0x7FC00000
  | .inf n => if n then 0 else 0x7F800000
  | .fin _ 0 => 0x3F800000
  | .fin n m =>
    if n && decide (126 * one < m) then 0
    else if !n && decide (128 * one ≤ m) then 0x7F800000
    else
      let b := exp2Bounds (Num.fin n m).toInt
      boundedWord (Config.sfu 6 a) b.1 b.2 (2 * ulp b.1)

/-- LOG2, open within 2^-22 for 0.5 to 2, and within 2 ulp elsewhere. DESIGN CHOICE (log 53). -/
def sfLog2 (a : Word32) : Word32 :=
  match f32 (flush a) with
  | .nan => 0x7FC00000
  | .inf n => if n then 0x7FC00000 else 0x7F800000
  | .fin _ 0 => 0xFF800000
  | .fin true _ => 0x7FC00000
  | .fin false m =>
    let b := log2Bounds m
    let d := if one / 2 ≤ m && m ≤ 2 * one then 2 ^ 378 else 2 * ulp b.1.natAbs
    boundedWord (Config.sfu 7 a) b.1 b.2 d

/-- RCP: open within 1 ulp. DESIGN CHOICE (log 53). -/
def sfRcp (a : Word32) : Word32 :=
  match f32 (flush a) with
  | .nan => 0x7FC00000
  | .inf n => BitVec.ofNat 32 (fp32.sign n)
  | .fin n 0 => BitVec.ofNat 32 (fp32.sign n + 0x7F800000)
  | .fin n m =>
    if 2 ^ 526 ≤ m then BitVec.ofNat 32 (fp32.sign n)
    else
      let q : Nat := 2 ^ 800 / m
      let up := q + if 2 ^ 800 % m = 0 then 0 else 1
      let b : Int × Int := if n then (-(up : Int), -(q : Int)) else (q, up)
      boundedWord (Config.sfu 8 a) b.1 b.2 (ulp q)

/-- RSQRT: open within 2 ulp. DESIGN CHOICE (log 53). -/
def sfRsqrt (a : Word32) : Word32 :=
  match f32 (flush a) with
  | .nan => 0x7FC00000
  | .inf n => if n then 0x7FC00000 else 0
  | .fin n 0 => BitVec.ofNat 32 (fp32.sign n + 0x7F800000)
  | .fin true _ => 0x7FC00000
  | .fin false m =>
    let q : Nat := Nat.sqrt (2 ^ 1200 / m)
    boundedWord (Config.sfu 9 a) q (q + 1) (2 * ulp q)

/-- LSE_STEP on one lane: m′ exactly; s′ open within 4 ulp where m, s and a are finite and s is not negative, and wholly open
elsewhere (R100, R132, R133). DESIGN CHOICE (log 180). -/
def lseStep (m s a : Word32) : Word32 × Word32 :=
  let m := flush m
  let s := flush s
  let a := flush a
  if f32 a = .nan || f32 m = .nan || f32 s = .nan then (0x7FC00000, 0x7FC00000)
  else if f32 a = .inf false || f32 m = .inf false then (0x7F800000, 0x7FC00000)
  else if f32 a = .inf true then (m, s)
  else match f32 m, f32 s, f32 a with
    | .fin nm mm, .fin ns ms, .fin na ma =>
      if ns && ms != 0 then (fmax m a, Config.lseS m s a)
      else
        let dm := (Num.fin nm mm).toInt - (Num.fin na ma).toInt
        let b := exp2Bounds (-(dm.natAbs : Int))
        let lo := if dm < 0 then ms * b.1 / one + one else ms + b.1
        let hi := if dm < 0 then ms * b.2 / one + 1 + one else ms + b.2
        (fmax m a, boundedWord (Config.lseS m s a) lo hi (4 * ulp lo))
    | _, _, _ => (fmax m a, Config.lseS m s a)

end Sys2Proof.Machine
end

