-- ==== Sys2Proof/Machine/Watch.lean ====
section
/-! DEFINITION. Machine/Watch.lean: tensor watch points (R421–R423): what a statistics unit counts of the packets of a
watched transfer row, and the record at the end of a run. -/

namespace Sys2Proof.Machine

/-- binary64 (R422). -/
def fp64 : FloatFmt := ⟨11, 52, 1023, .ieee⟩

/-- Round to binary64, to nearest even. -/
def Num.toF64 (x : Num) : Nat :=
  match x with
  | .nan => 0x7FF8000000000000
  | .inf n => fp64.sign n + 0x7FF0000000000000
  | .fin n m => let k := fp64.place m; fp64.sign n + fp64.pack (roundEven m k * 2 ^ k)

/-- Watch point w of cuvee c (R421). -/
def State.watchPoint (s : State) (c w : Nat) : Nat := (s.val 0x9010 c).get (8 * w) 8
def wpValid (p : Nat) : Bool := bit p 63
def wpFmt (p : Nat) : Nat := bits p 62 60
def wpBinBase (p : Nat) : Int := signed 8 (bits p 59 52)
def wpRow (p : Nat) : Nat := bits p 51 46
def wpTile (p : Nat) : Nat := bits p 45 35

/-- Bytes of an element of FMT 0–5. -/
def wpBytes (fmt : Nat) : Nat := if fmt = 0 then 4 else if fmt = 1 || fmt = 2 then 2 else 1

/-- The value of an element (R119). -/
def wpValue (fmt v : Nat) : Num :=
  match fmt with
  | 0 => fp32.decode v
  | 1 => bf16.decode v
  | 2 => fp16.decode v
  | 3 => e4m3.decode v
  | 4 => e5m2.decode v
  | _ => intNum 8 0 v

/-- A statistics record in progress: 0 elements, 1 skipped, 2 NaN, 3 infinities, 4 MIN and 5 MAX as FP32, 6 SUM and 7 SUMSQ
as binary64, 8 the CRC state, 9–24 histogram bins, 25 the bytes of an element that a packet border cut, 26 their count. -/
def statsStart (run : Nat) : List Nat :=
  [0, 0, 0, 0, 0x7F800000, 0xFF800000, 0, 0, crcStart 1 run] ++ List.replicate 18 0

/-- The histogram bin of a finite value (R422). -/
def binOf (base : Int) (mag : Nat) : Nat :=
  if mag = 0 then 0
  else
    let e : Int := (Nat.log2 mag : Int) - 400
    if e < base then 1 else if base + 12 < e then 15 else (2 + (e - base)).toNat

/-- One element. -/
def statsElement (base : Int) (st : List Nat) (x : Num) : List Nat :=
  let st := bump 64 st 0 1
  let st := match x with
    | .nan => st
    | _ => (st.modify 4 fun m => (fmin (BitVec.ofNat 32 m) x.toF32).toNat).modify 5
        fun m => (fmax (BitVec.ofNat 32 m) x.toF32).toNat
  match x with
  | .nan => bump 64 st 2 1
  | .inf _ => bump 64 st 3 1
  | .fin n m =>
    let st := (st.modify 6 fun a => ((fp64.decode a).add x).toF64).modify 7
      fun a => ((fp64.decode a).add ((Num.fin n m).mul (Num.fin n m))).toF64
    bump 64 st (9 + binOf base m) 1

/-- One payload byte: into the digest, and into the element that it completes. -/
def statsByte (fmt : Nat) (base : Int) (st : List Nat) (b : Byte) : List Nat :=
  let st := st.modify 8 fun a => crcByte 1 a b.toNat
  let n := st.getD 26 0
  let v := st.getD 25 0 + b.toNat * 256 ^ n
  if n + 1 = wpBytes fmt then ((statsElement base st (wpValue fmt v)).set 25 0).set 26 0
  else (st.set 25 v).set 26 (n + 1)

/-- Runs of tile t since watch point w was written; the one in progress is the next. -/
def State.watchRuns (s : State) (t w : Nat) : Nat := s.net.watchRun.getD (64 * t + w) 0

/-- The live watch points of tile t. -/
def State.watchesOf (s : State) (t : Nat) : List Nat :=
  let x := s.tile t
  if x.cuvee = 0 then []
  else (List.range 64).filter fun w =>
    let p := s.watchPoint x.cuvee w
    wpValid p && wpTile p == x.ctile && !s.net.watchOff.contains (64 * t + w)

/-- A PUT packet of a transfer row leaves tile t (R421); `first` when it begins its issue. DESIGN CHOICE (log 68). -/
def State.watchPacket (s : State) (t row : Nat) (first : Bool) (bs : List Byte) : State :=
  s.each ((s.watchesOf t).filter fun w => wpRow (s.watchPoint (s.tile t).cuvee w) == row) fun s w =>
    let p := s.watchPoint (s.tile t).cuvee w
    let st := s.net.stats.getD (64 * t + w) (statsStart (s.watchRuns t w + 1))
    let st := if first then (st.set 25 0).set 26 0 else st
    { s with net := { s.net with
      stats := s.net.stats.insert (64 * t + w) (bs.foldl (statsByte (wpFmt p) (wpBinBase p)) st) } }

/-- The record of R423. -/
def watchRecord (run end_ : Nat) (st : List Nat) : Blob :=
  let g := fun k => st.getD k 0
  let sat := fun k => min (g k) (2 ^ 32 - 1)
  Blob.record ([(8, run), (8, end_), (4, sat 0), (4, sat 1), (4, g 2), (4, g 3), (4, g 4), (4, g 5), (8, g 6), (8, g 7),
    (8, crcResult 1 (g 8))] ++ (List.range 16).map fun i => (4, g (9 + i)))

/-- The end of a run of tile t: a record for each of its watch points; one that faults stops its watch point (R423).
DESIGN CHOICE (log 68). -/
def State.watchEnd (s : State) (t : Nat) : State :=
  s.each (s.watchesOf t) fun s w =>
    let c := (s.tile t).cuvee
    let run := s.watchRuns t w + 1
    let st := s.net.stats.getD (64 * t + w) (statsStart run)
    let target := s.num 0x9011 c
    let s := { s with net := { s.net with
      stats := s.net.stats.erase (64 * t + w), watchRun := s.net.watchRun.insert (64 * t + w) run } }
    if target = 0 then s
    else
      let b := watchRecord run s.stamp st
      let body := s.vaWrite c (target + 128 * w + 8) (toBytes 120 (b.get 8 120)) (s.num 0x5046 c)
      let r := match body.1 with
        | none => body.2.vaWrite c (target + 128 * w) (toBytes 8 (b.get 0 8)) (s.num 0x5046 c)
        | some f => (some f, body.2)
      match r.1 with
      | none => r.2
      | some f =>
        let s := { r.2 with net := { r.2.net with watchOff := addOnce r.2.net.watchOff (64 * t + w) } }
        s.plainFault c 7 1 (w + 1) f.va f.kind 0

/-- WatchPoints takes effect: counting restarts on every tile of the cuvee (R423). DESIGN CHOICE (log 68). -/
def State.watchRewrite (s : State) (c : Nat) : State :=
  let ts := s.cvTiles c
  let mine := fun k => ts.contains (k / 64)
  { s with net := { s.net with
    stats := s.net.stats.filter fun e => !mine e.1
    watchRun := s.net.watchRun.filter fun e => !mine e.1
    watchOff := s.net.watchOff.filter fun k => !mine k } }

end Sys2Proof.Machine
end

