-- ==== Sys2Proof/Machine/Wire.lean ====
section
/-! DEFINITION. Machine/Wire.lean: the bytes of a link (R5, R312–R315, R321–R323, R330, R339): messages, the control payload, flit
headers and trailers; and which messages have a reserved value in a field (R8, R319). -/

namespace Sys2Proof

/-! ## Messages as the bits of their positions -/

/-- REQUEST (R321). -/
def LinkRequest.word (m : LinkRequest) : Nat :=
  field 1 6 122 + field m.vc 2 120 + field m.op 3 117 + field m.hops 2 115 + field m.xtag 11 104 + field m.src 12 92 +
    field m.dst 12 80 + field m.group 12 68 + field m.window 12 56 + field m.offset 40 16 + field (m.length - 1) 16 0

/-- DONE (R322). -/
def LinkDone.word (m : LinkDone) : Nat :=
  field 2 6 122 + field m.status 3 119 + field m.hops 2 117 + field m.xtag 11 106 + field m.src 12 94 + field m.dst 12 82 +
    field m.group 12 70 + field (m.length - 1) 16 54

/-- TIME, BARRIER, HOLIDAY_MARK, SQUASH, FLARE and KEY (R323). -/
def TimeMsg.word (m : TimeMsg) : Nat :=
  field 3 6 122 + field m.e 40 80 + field m.phase 32 48 + field m.echo 24 24 + field m.hold 24 0
def GroupBarMsg.word (m : GroupBarMsg) : Nat :=
  field 4 6 122 + field (b2n m.release) 1 121 + field m.gen 1 120 + field m.hops 2 118 + field m.src 12 106 +
    field m.dst 12 94 + field m.group 12 82 + field m.gbar 12 70
def MarkMsg.word (m : MarkMsg) : Nat :=
  field 5 6 122 + field m.scope 2 120 + field m.src 12 108 + field m.group 12 96 + field m.cut 64 0
def SquashMsg.word (m : SquashMsg) : Nat :=
  field 6 6 122 + field m.reason 2 120 + field m.hops 2 118 + field m.src 12 106 + field m.dst 12 94 + field m.group 12 82
def FlareMsg.word (m : FlareMsg) : Nat :=
  field 7 6 122 + field m.ttl 4 118 + field m.origin 12 106 + field m.group 12 94 + field m.id 32 62
def KeyMsg.word (m : KeyMsg) : Nat :=
  field 9 6 122 + field m.step 3 119 + field (b2n m.last) 1 118 + field m.frag 12 106 + field m.data 104 0

/-- CASK (R339), 32 B; `reserved` holds its reserved bits, [191:177] in the lower fifteen, [100:96] above them. -/
def CaskMsg.word (m : CaskMsg) : Nat :=
  field 8 6 250 + field m.sub 4 246 + field m.hops 2 244 + field m.code 4 240 + field m.src 12 228 + field m.dst 12 216 +
    field m.group 12 204 + field m.window 12 192 + field m.reserved 15 177 + field (b2n m.rcvValid) 1 176 +
    field m.offerer 16 160 + field m.receiver 16 144 + field m.vintage 32 112 + field m.xtag 11 101 +
    field (m.reserved >>> 15) 5 96 + field m.uid 64 32 + field m.tokens 32 0

/-- A message as its bytes: 32 B for CASK, 16 B for any other (R319). -/
def LinkMsg.blob (m : LinkMsg) : Blob :=
  match m with
  | .request m => ⟨16, m.word⟩ | .done m => ⟨16, m.word⟩ | .time m => ⟨16, m.word⟩ | .barrier m => ⟨16, m.word⟩
  | .mark m => ⟨16, m.word⟩ | .squash m => ⟨16, m.word⟩ | .flare m => ⟨16, m.word⟩ | .key m => ⟨16, m.word⟩
  | .cask m => ⟨32, m.word⟩

/-- No field of a message has a reserved value (R8, R319, R321–R323, R329, R339, R342). DEDUCED (log 210). -/
def LinkMsg.clean (m : LinkMsg) : Bool :=
  match m with
  | .request m => decide (m.op ≤ 4)
  | .done m => decide (m.status ≤ 5)
  | .mark m => m.scope == 1 || m.scope == 2
  | .squash m => decide (m.reason ≤ 2)
  | .cask m => decide (m.sub ≤ 6) && m.reserved == 0 && (m.sub != 2 || decide (m.code ≤ 8)) && (m.sub != 5 || decide (m.code ≤ 3))
  | .key m => decide (m.step ≤ 5)
  | .time _ | .barrier _ | .flare _ => true

/-! ## Flits (R312, R313, R315) -/

/-- The header, with the sequencing fields given: they count as 0 in the associated data (R330). -/
def Flit.headerWith (f : Flit) (nak : Bool) (seq ack : Nat) : Nat :=
  field f.kind 2 62 + field f.kph 1 61 + field (b2n nak) 1 60 + field seq 10 48 + field ack 10 38 + field f.slot 4 34 +
    field f.xtag 12 22 + field f.offset 14 8 + field f.bytes 8 0

/-- The header (R313). -/
def Flit.header (f : Flit) : Nat := f.headerWith f.nak f.seq f.ack

/-- The 240 B payload: data, or the control payload with its unused positions EMPTY (R315); nothing in an idle flit. -/
def Flit.payload (f : Flit) : Blob :=
  if f.kind = 1 then ⟨240, ofBytes f.data⟩
  else if f.kind = 0 then
    Blob.record ([(8, packList 2 ((List.range 4).map fun v => f.credits.getD v 0)), (4, f.frame), (4, 0)] ++
      (f.msgs.map fun m => (m.blob.size, m.blob.val)) ++ [(224 - sumNat (f.msgs.map fun m => m.blob.size), 0)])
  else ⟨240, 0⟩

/-- The 256 B of a flit before encryption (R312). -/
def Flit.blob (f : Flit) : Blob := Blob.record [(8, f.header), (240, f.payload.val), (8, f.trailer)]

/-- The CRC-64 of ECMA-182 over bytes 0–247 of a flit, which is its trailer in KEYING (R312). -/
def Flit.crc (f : Flit) : Nat :=
  ((toBytes 248 f.blob.val).foldl (fun a b => Machine.crcByte 1 a b.toNat) (Machine.crcStart 1 0)) |> Machine.crcResult 1

namespace Machine

/-- The ciphertext and tag of a flit under the port's sending key (R330): the IV is the key's salt and the count of flits
encrypted before it, the associated data the header without SEQ, ACK and NAK. -/
def LinkPort.encrypt (p : LinkPort) (k : Nat) (f : Flit) : Nat :=
  Config.linkSeal k (p.retrains * 65536 + p.rekeys) p.keyCount (f.headerWith false 0 0) f.payload

/-- A flit with its trailer (R312): the 64-bit tag in UP, the CRC in KEYING, 0 in an idle flit. -/
def LinkPort.seal (p : LinkPort) (k : Nat) (f : Flit) : Flit :=
  { f with trailer := if f.kind = 2 then 0 else if p.state = 3 then bits (p.encrypt k f) 1983 1920 else f.crc }

/-- A flit received is whole: its tag verifies in UP, and its CRC in KEYING (R312, R316). -/
def LinkPort.accepts (p : LinkPort) (f : Flit) : Bool := if p.state = 3 then f.verifies else f.trailer == f.crc

end Machine

end Sys2Proof
end

