-- ==== Sys2Proof/Machine/Links.lean ====
section
/-! DEFINITION. Machine/Links.lean: Zeder link ports: their states (R309–R311), flits, replay and credits (R312–R319), keying and
rekeying (R329, R331), transfers and routes (R228–R233, R321–R328), time, markers, squash and flares (R332–R335, R347, R348,
R445, R446). -/

namespace Sys2Proof.Machine

/-! ## Counters -/

/-- Add to field i of LinkCounters (R349): 0 corrected, 1 uncorrectable codewords, 2 NAKs, 3 tag failures, 4 retrains, 5 flits
sent, 6 malformed messages. -/
def State.linkCount (s : State) (k i n : Nat) : State := s.updPort k fun p => { p with counters := bump 64 p.counters i n }
/-- Add to field j of a port's harvest counters (R407): 0 flits sent, 1 received, 2 FEC, 3 NAKs, 4 tag failures, 5 retrains. -/
def State.portCount (s : State) (k j n : Nat) : State := s.count (8 * (5000 + k) + j) n
/-- Add to LinkTransferErrors of a cuvee (R349): 0 refused, 1 unreachable, 2 squashed, 3 timed out. -/
def State.xferError (s : State) (c i : Nat) : State := s.updCuvee c fun v => { v with linkErrors := bump 64 v.linkErrors i 1 }
/-- Payload bytes of cuvee c over a link (R397, R402). -/
def State.linkTraffic (s : State) (c n : Nat) : State :=
  if c = 0 then s else (s.tally c 14 n).updCuvee c fun v => { v with meter := { v.meter with link := v.meter.link + n } }

/-! ## Transfers (R324–R326) -/

/-- A transfer of port k, by side and tag. -/
def State.linkXfer (s : State) (k : Nat) (mine : Bool) (tag : Nat) : Option LinkXfer :=
  (s.port k).xfers.find? fun x => x.mine == mine && x.xtag == tag
def State.updXfer (s : State) (k : Nat) (mine : Bool) (tag : Nat) (f : LinkXfer → LinkXfer) : State :=
  s.updPort k fun p => { p with xfers := p.xfers.map fun x => if x.mine = mine ∧ x.xtag = tag then f x else x }
def State.dropXfer (s : State) (k : Nat) (mine : Bool) (tag : Nat) : State :=
  s.updPort k fun p => { p with xfers := p.xfers.filter fun x => !(x.mine == mine && x.xtag == tag) }
/-- The lowest tag not in use for own requests on a port. -/
def LinkPort.newTag (p : LinkPort) : Nat :=
  ((List.range 2048).find? fun t => !(p.xfers.any fun x => x.mine && x.xtag == t)).getD 0

/-- Inbound window i (R230). -/
def State.inbound (s : State) (i : Nat) : Nat := s.num (0x5050 + i / 128) (i % 128 + 1)

/-- Trellis STATUS of a DONE STATUS (R325). -/
def doneToTrellis (st : Nat) : Nat := if st = 0 || st = 1 then st else if st = 5 then 5 else 2

/-- Split a READ's bytes over its packets. -/
def answerReads : List Packet → List Byte → List (Packet × List Byte)
  | [], _ => []
  | p :: ps, bs => (p, bs.take p.bytes) :: answerReads ps (bs.drop p.bytes)

/-- The original packets of a transfer of this device are answered (R324, R325): ACK, READ_DATA, or NACK. -/
def State.answerXfer (s : State) (x : LinkXfer) (st : Nat) (data : List Byte) : State :=
  let t := doneToTrellis st
  let bad := t != 0 && t != 1
  -- a transfer that runs out of time ends with STATUS 3 (R326)
  let s := if x.answer.isSome then s
    else s.jobEnd x.cuvee 4 x.req.op x.xtag x.req.length (if st = 6 then 3 else st) x.req.dst
  let s := if st = 2 then s.xferError x.cuvee 0 else if st = 3 then s.xferError x.cuvee 1
    else if st = 4 then s.xferError x.cuvee 2 else s
  let s := if bad && t = 2 then s.updCuvee x.cuvee fun v => { v with xCounters := bump 64 v.xCounters 3 1 } else s
  s.each (answerReads x.pkts data) fun s e =>
    let p := e.1
    if bad then s.answer p 6 t [] else if p.ty = 0 then s.answer p 1 t e.2 else s.answer p 5 t []

/-- A transfer of this device ends with a DONE STATUS, and leaves its port. -/
def State.endXfer (s : State) (k tag st : Nat) (data : List Byte) : State :=
  match s.linkXfer k true tag with
  | none => s
  | some x => (s.dropXfer k true tag).answerXfer x st data

/-- A DONE to a peer for its transfer on port k. -/
def State.sendDone (s : State) (k : Nat) (m : LinkRequest) (st len : Nat) : State :=
  s.linkSend k (.done ⟨st, 0, m.xtag, s.deviceId, m.src, m.group, len⟩)

/-- The REQUEST of a transfer goes out once it is closed. -/
def State.closeXfer (s : State) (k tag : Nat) : State :=
  match s.linkXfer k true tag with
  | none => s
  | some x =>
    if !x.open_ then s
    else ((s.updXfer k true tag fun x => { x with open_ := false }).linkSend k (.request x.req)).jobBegin x.cuvee 4 x.req.op tag
      x.req.length x.req.dst

/-- The window of a packet addressed to a link port, its route and whether R328 lets it through. -/
def State.linkAllowed (s : State) (p : Packet) : Bool :=
  let w := s.linkWindow p.cuvee (bits p.addr 47 40)
  let e := s.routeEntry (bits w 223 216)
  bit w 255 && bit e 31 && bits e 11 0 == bits w 215 204 && s.group p.cuvee != 0

/-- The OP of a packet. -/
def linkOp (ty : Nat) : Nat := match ty with | 0 => 3 | 3 => 1 | 4 => 2 | _ => 0

/-- A packet continues an open transfer (R324). -/
def continues (x : LinkXfer) (p : Packet) (off : Nat) : Bool :=
  x.mine && x.open_ && x.cuvee == p.cuvee && x.req.op == linkOp p.ty && x.req.vc == p.vc &&
    (match x.pkts.getLast? with
      | some q => q.src == p.src && q.addr + q.bytes == p.addr && bits q.addr 47 40 == bits p.addr 47 40
      | none => false) && x.req.offset + x.req.length == off

/-- A packet reaches link port k (R324, R228, R229, R328). -/
def State.linkPacket (s : State) (k : Nat) (p : Packet) : State :=
  let w := s.linkWindow p.cuvee (bits p.addr 47 40)
  let off := bits w 127 88 + bits p.addr 39 0
  let nack := fun (s : State) => s.answer p 6 2 []
  if !s.linkAllowed p then nack (s.xferError p.cuvee 0)
  else if !(s.port k).up then nack (s.xferError p.cuvee 1)
  else
    let s := s.linkTraffic p.cuvee p.bytes
    -- a packet that would pass 65,536 B closes the transfer and begins another
    let s := match (s.port k).xfers.find? fun x => continues x p off with
      | some x => if 65536 < x.req.length + p.bytes then s.closeXfer k x.xtag else s
      | none => s
    match (s.port k).xfers.find? fun x => continues x p off with
    | some x =>
      let s := s.updXfer k true x.xtag fun x => { x with
        pkts := x.pkts ++ [p], data := x.data ++ p.data, req := { x.req with length := x.req.length + p.bytes } }
      if p.last || 65536 ≤ x.req.length + p.bytes then s.closeXfer k x.xtag else s
    | none =>
      let tag := (s.port k).newTag
      let req : LinkRequest := ⟨p.vc, linkOp p.ty, 0, tag, s.deviceId, bits w 215 204, s.group p.cuvee, bits w 203 192, off, p.bytes⟩
      let s := s.updPort k fun q => { q with xfers := q.xfers ++ [⟨tag, true, p.cuvee, req, [p], true, p.data, 0, none, none, p.label⟩] }
      if p.last then s.closeXfer k tag else s

/-- TRANSFER_CLOSE: 64 cycles have passed without a continuing packet. -/
def State.transferClose (s : State) (k tag : Nat) : State := s.closeXfer k tag

/-- TRANSFER_TIMEOUT (R326): no DONE came. A peer in the same group holiday stands still (R444).
DESIGN CHOICE (log 16). -/
def State.transferTimeout (s : State) (k tag : Nat) : State :=
  match s.linkXfer k true tag with
  | none => s
  | some x =>
    let v := s.cuvee x.cuvee
    if (v.state = .frozen || v.state = .saved) && !v.linksRun then s
    else ((s.dropXfer k true tag).xferError x.cuvee 3).answerXfer x 6 []

/-! ## Port states (R309–R311, R350) -/

/-- The group that a message concerns; scope-free messages have none. -/
def msgGroup (m : LinkMsg) : Option Nat :=
  match m with
  | .request m => some m.group | .done m => some m.group | .barrier m => some m.group | .squash m => some m.group
  | .cask m => some m.group
  | _ => none

/-- A marker has come on port k, or the port leaves UP: what it recorded of the cuvee becomes channel state (R445, R447).
DEDUCED (log 124). -/
def State.markTaken (s : State) (k c : Nat) : State :=
  let g := s.group c
  let mine := (s.port k).recorded.filter fun m => msgGroup m == some g
  let data := (s.port k).recData.filter fun e => e.1 == c
  let s := s.updPort k fun p => { p with
    recorded := p.recorded.filter fun m => msgGroup m != some g, recData := p.recData.filter fun e => e.1 != c }
  let s := s.updCuvee c fun v => { v with
    holdFlits := v.holdFlits ++ mine.map fun m => (k, m), holdData := v.holdData ++ data.map fun e => (k, e.2) }
  s.updQuiesce c fun q => { q with marks := q.marks.filter (· != k) }

/-- A message of a transfer, which ends with the port. -/
def msgOfXfer (m : LinkMsg) : Bool :=
  match m with
  | .request _ | .done _ => true
  | _ => false

/-- Port k leaves UP before a marker (R447): its recording ends, and what was recorded of its transfers goes with them.
DEDUCED (log 222). -/
def State.endRecording (s : State) (k : Nat) : State :=
  let s := s.each (s.existing.filter fun c => ((s.cuvee c).quiesce.map fun q => q.marks.contains k).getD false) fun s c => s.markTaken k c
  s.each s.existing fun s c => s.updCuvee c fun v => { v with
    holdFlits := v.holdFlits.filter fun e => !(e.1 == k && msgOfXfer e.2), holdData := v.holdData.filter fun e => e.1 != k }

/-- Every transfer outstanding on a port ends (R326): this device's with STATUS 3, and those it serves or forwards are gone. -/
def State.endPort (s : State) (k : Nat) : State :=
  let xs := (s.port k).xfers
  let s := ((s.peerGone k).endRecording k).updPort k fun p => { p with
    xfers := [], ctl := [], replay := [], inbox := [], credits := [0, 0, 0, 0], owed := [0, 0, 0, 0], nak := false
    nextRx := 0, nextTx := 0, rekeying := false, keyStep := 0, recording := false, recorded := [], recData := [], replays := 0 }
  let s := s.each (xs.filter fun x => x.mine && x.fwdPort.isNone) fun s x => s.answerXfer x 3 []
  s.each (xs.filterMap fun x => x.fwdPort.map fun f => (x.mine, f)) fun s e =>
    let (mine, k2, tag2) := (e.1, e.2.1, e.2.2)
    match s.linkXfer k2 (!mine) tag2 with
    | none => s
    | some y =>
      let s := s.dropXfer k2 (!mine) tag2
      -- the requester's side hears that the far link is gone
      if mine then s.sendDone k2 y.req 3 0 else s

/-- Put port k into a state with a cause, leaving UP where it was UP. -/
def State.portTo (s : State) (k st cause : Nat) : State :=
  (s.endPort k).updPort k fun p => { p with state := st, cause := if st = 4 || st = 5 then cause else p.cause }

/-- Training begins: with no signal the port is DOWN. DESIGN CHOICE (log 82). -/
def State.portTrain (s : State) (k : Nat) : State := s.portTo k (if (s.port k).signal then 1 else 0) 0

/-- A retrain (R309, R310): the third within 60 s fails the port. DEDUCED (log 80). -/
def State.portRetrain (s : State) (k cause : Nat) : State :=
  let now := s.time.now
  let recent := ((s.port k).recent.filter fun t => decide (now - 60000000000 < t)) ++ [now]
  let s := (s.linkCount k 4 1).portCount k 5 1
  let s := if 3 ≤ recent.length then s.portTo k 5 5 else s.portTo k 4 cause
  s.updPort k fun p => { p with recent := recent, retrains := (p.retrains + 1) % 65536 }

/-- PortEnable takes a value (R310, R349). DEDUCED (log 81). -/
def State.portEnable (s : State) (k : Nat) (on : Bool) : State :=
  let was := s.num 0x6001 (k + 1) = 1
  let s := s.setVal 0x6001 (k + 1) (Blob.scalar 1 (b2n on))
  if on then (if was then s else s.portTrain k) else s.portTo k 0 0

/-- SIGNAL_DETECT and SIGNAL_LOSS. FAILED stands until a RESET. -/
def State.signalDetect (s : State) (k : Nat) : State :=
  let s := s.updPort k fun p => { p with signal := true }
  if s.num 0x6001 (k + 1) = 1 && (s.port k).state == 0 then s.portTrain k else s
/-- DEDUCED (log 81). -/
def State.signalLoss (s : State) (k : Nat) : State :=
  let s := s.updPort k fun p => { p with signal := false }
  if (s.port k).state = 5 then s else s.portTo k 0 0

/-- Own KEY message of a step. DESIGN CHOICE (log 84). -/
def State.sendKey (s : State) (k step : Nat) : State :=
  ({ s with free := s.free + 1 }).linkSend k (.key ⟨step, true, 0, s.deviceId, k, true, 0, true, Config.keyData step s.free⟩)

/-- A port with four good lanes enters KEYING, once the device has an ID (R328). DESIGN CHOICE (log 82). -/
def State.portKeying (s : State) (k : Nat) : State :=
  if s.deviceId = 0 then s
  else (s.updPort k fun p => { p with state := 2, keyStep := 0 }).sendKey k 0

/-- The lanes that training passed, as a bit map of five: the four lowest are active (R309). -/
def spareLane (good : Nat) : Nat :=
  match (List.range 5).filter fun i => !good.testBit i with
  | i :: _ => i
  | [] => 4

/-- TRAINING_DONE (R309, R310). -/
def State.trainingDone (s : State) (k good : Nat) : State :=
  let st := (s.port k).state
  if st ≠ 1 && st ≠ 4 then s
  else
    let s := s.updPort k fun p => { p with lanes := good % 32, spare := spareLane good }
    if ((List.range 5).filter good.testBit).length < 4 then s.portTo k 5 1 else s.portKeying k

/-- LANE_FAILURE (R309): an active lane fails while the port is UP. -/
def State.laneFailure (s : State) (k lane : Nat) : State :=
  if !(s.port k).up || lane = (s.port k).spare then s
  else (s.portRetrain k 1).updPort k fun p => { p with lanes := p.lanes &&& (31 ^^^ 2 ^ lane) }

/-- Legality of a PortCommand (R311), and its action. -/
def State.portCommandOk (s : State) (k code : Nat) : Bool :=
  match code, (s.port k).state with
  | 1, 3 | 2, 3 | 3, 5 | 3, 4 => true
  | _, _ => false
def State.portRekey (s : State) (k : Nat) : State :=
  if (s.port k).rekeying then s else (s.updPort k fun p => { p with rekeying := true, keyStep := 2 }).sendKey k 2
/-- DEDUCED (log 80). -/
def State.portCommand (s : State) (k code : Nat) : State :=
  match code with
  | 1 => s.portTrain k
  | 2 => s.portRekey k
  | _ => (s.updPort k fun p => { p with keyFails := 0, recent := [] }).portTrain k

/-- REKEY_DUE (R331): 2^32 − 2^16 flits under a key, or ten minutes. -/
def State.rekeyDue (s : State) (k : Nat) : State :=
  let p := s.port k
  if p.up && (decide (2 ^ 32 - 2 ^ 16 ≤ p.keyCount) || decide (600000000000 ≤ s.time.now - p.keyAge)) then s.portRekey k else s

/-- PortStatus (R350). -/
def LinkPort.status (p : LinkPort) : Nat :=
  field p.state 4 60 + field p.cause 4 56 + field p.lanes 5 51 + field p.spare 3 48 + field p.peerDev 12 36 +
    field p.peerPort 4 32 + field (b2n p.kph) 1 31 + field p.rekeys 15 16 + field p.retrains 16 0

/-! ## Keying (R329, R331) -/

/-- The peer differs from ExpectedPeer: its device ID, or the prefix of its identity digest. DEDUCED (log 81). -/
def State.peerWrong (s : State) (k : Nat) (m : KeyMsg) : Bool :=
  let e := s.val 0x6003 (k + 1)
  if m.step = 0 then e.get 0 2 != 0 && e.get 0 2 != m.device
  else m.step == 1 && e.get 2 14 != 0 && e.get 2 14 != m.digest

/-- Keying fails: three in a row fail the port (R310). DEDUCED (log 81). -/
def State.keyFail (s : State) (k : Nat) : State :=
  let n := (s.port k).keyFails + 1
  let s := if 3 ≤ n then s.portTo k 5 3 else s.portTo k 1 0
  s.updPort k fun p => { p with keyFails := n }

/-- Keying completes: the port is UP with fresh keys and full credit (R310, R318, R330). DESIGN CHOICE (log 82). -/
def State.keyUp (s : State) (k : Nat) : State :=
  let s := s.updPort k fun p => { p with
    state := 3, keyFails := 0, keyStep := 0, frame := 0, keyCount := 0, keyAge := s.time.now
    credits := [256, 256, 256, 256], owed := [0, 0, 0, 0] }
  s

/-- A rekey completes: the sender changes phase (R331). -/
def State.rekeyed (s : State) (k : Nat) : State :=
  s.updPort k fun p => { p with
    rekeying := false, keyStep := 0, kph := !p.kph, rekeys := (p.rekeys + 1) % 32768, keyCount := 0, keyAge := s.time.now }

/-- Take a message from a port's inbox: `none` when it has not arrived. -/
def State.takeMsg (s : State) (k : Nat) (m : LinkMsg) : Option State :=
  if (s.port k).inbox.contains m then some (s.updPort k fun p => { p with inbox := p.inbox.erase m }) else none

/-- A message with a reserved value is discarded and counted (R319). DEDUCED (log 210). -/
def State.dropBad (s : State) (k : Nat) (m : LinkMsg) : State :=
  match s.takeMsg k m with
  | none => s
  | some s => s.linkCount k 6 1

/-- KEY (R329): the last fragment of the step that is due. DESIGN CHOICE (log 84). -/
def State.keyMessage (s : State) (k : Nat) (m : KeyMsg) : State :=
  match s.takeMsg k (.key m) with
  | none => s
  | some s =>
    let p := s.port k
    let s := if p.up && !p.rekeying && m.step = 2 then s.portRekey k else s
    let p := s.port k
    if !m.last || m.step ≠ p.keyStep || !(p.state == 2 || p.rekeying) then s
    else if p.state = 2 && s.peerWrong k m then s.portTo k 5 2
    else
      let bad := (m.step = 1 && !m.chainOk) || ((m.step = 4 || m.step = 5) && !m.verifies)
      if bad then (if p.state = 2 then s.keyFail k else s.updPort k fun p => { p with rekeying := false, keyStep := 0 })
      else
        let s := if m.step = 0 then s.updPort k fun p => { p with peerDev := m.device, peerPort := m.port }
          else if m.step = 1 then s.updPort k fun p => { p with peerDigest := m.digest } else s
        if m.step = 5 then (if p.state = 2 then s.keyUp k else s.rekeyed k)
        else (s.updPort k fun p => { p with keyStep := m.step + 1 }).sendKey k (m.step + 1)

/-! ## Sending flits (R312–R319) -/

/-- Service order of a message (R319). -/
def msgOrder (m : LinkMsg) : Nat :=
  match m with
  | .key _ => 1 | .flare _ => 2 | .mark _ => 3 | .time _ => 4 | .barrier _ => 5 | .squash _ => 6 | .cask _ => 7 | .done _ => 8
  | .request _ => 9

/-- Positions that a message takes in a control payload. -/
def msgPositions (m : LinkMsg) : Nat := match m with | .cask _ => 2 | _ => 1

/-- The messages that fit into n positions, in order. -/
def fitMsgs : Nat → List LinkMsg → List LinkMsg
  | _, [] => []
  | n, m :: ms => if msgPositions m ≤ n then m :: fitMsgs (n - msgPositions m) ms else []

/-- Waiting messages in the order of service, oldest first within a type. -/
def serviceOrder (l : List LinkMsg) : List LinkMsg :=
  (List.range 10).flatMap fun o => l.filter fun m => msgOrder m == o

/-- A flit leaves the port with its trailer; the counts of flits sent take every kind. DEDUCED (log 215). -/
def State.emitFlit (s : State) (k : Nat) (f : Flit) : State :=
  ((s.updPort k fun p => { p with sentFlits := p.seal k f :: p.sentFlits }).linkCount k 5 1).portCount k 0 1

/-- A sequenced flit goes out: it stays in the replay buffer until acknowledged (R316). -/
def State.putFlit (s : State) (k : Nat) (f : Flit) : State :=
  (s.emitFlit k f).updPort k fun p => { p with
    replay := p.replay ++ [p.seal k f], nextTx := (p.nextTx + 1) % 1024, keyCount := if p.up then p.keyCount + 1 else p.keyCount }

/-- A flit header filled in from the port. -/
def LinkPort.header (p : LinkPort) (kind slot : Nat) : Flit :=
  { (default : Flit) with
    kind := kind, kph := b2n p.kph, nak := p.nak, seq := p.nextTx, ack := p.nextRx, slot := slot, verifies := true, frame := p.frame }

/-- An idle flit: not sequenced, and in no replay buffer (R314, R316). DEDUCED (log 215). -/
def State.idleSlot (s : State) (k slot : Nat) : State := s.emitFlit k { (s.port k).header 2 slot with seq := 0 }

/-- A control flit takes the waiting messages that fit, and returns the credits owed (R315, R319). -/
def State.controlSlot (s : State) (k slot : Nat) (ready : List LinkMsg) : State :=
  let msgs := fitMsgs 14 ready
  (s.putFlit k { (s.port k).header 0 slot with msgs := msgs, credits := (s.port k).owed }).updPort k fun p => { p with
    ctl := msgs.foldl (fun l m => l.erase m) p.ctl, owed := [0, 0, 0, 0] }

/-- The transfer has data ready: a write of this device whose REQUEST has gone, or a read that it answers; and a credit. -/
def LinkPort.sends (p : LinkPort) (x : LinkXfer) : Bool :=
  decide (x.sent < x.data.length) && decide (0 < p.credits.getD x.req.vc 0) &&
    (if x.mine then x.req.op != 3 && !x.open_ && !p.ctl.contains (.request x.req)
     else x.req.op == 3)

/-- The level of a label at a link port, whose field's spine it hangs from (R202). DESIGN CHOICE (log 216). -/
def State.portLevel (s : State) (k l : Nat) : Nat := s.spineLevel (k / 3) l

/-- The transfer whose flit a data slot carries (R152, R153, R314): its VC by the port's arbiter; on VC1 the highest level
first; then the oldest. -/
def State.slotXfer (s : State) (k : Nat) : Option LinkXfer :=
  let p := s.port k
  let ready := p.xfers.filter p.sends
  match p.arb.grant fun v => ready.any fun x => x.req.vc == v with
  | none => none
  | some v =>
    let of := ready.filter fun x => x.req.vc == v
    let top := maxNat (of.map fun x => s.portLevel k x.label)
    of.find? fun x => v != 1 || s.portLevel k x.label == top

/-- A data flit of a transfer goes out against a credit of its VC (R314, R318); a read's DONE follows its last. -/
def State.sendData (s : State) (k slot : Nat) (x : LinkXfer) : State :=
  let bs := (x.data.drop x.sent).take 240
  let s := s.putFlit k { (s.port k).header 1 slot with
    xtag := x.xtag + if x.mine then 0 else 2048, offset := x.sent / 16 % 16384, bytes := bs.length, data := bs }
  let s := s.updPort k fun p => { p with credits := p.credits.modify x.req.vc (· - 1) }
  let s := s.updXfer k x.mine x.xtag fun x => { x with sent := x.sent + bs.length }
  match x.answer with
  | some st =>
    if !x.mine && x.data.length ≤ x.sent + bs.length then (s.dropXfer k false x.xtag).sendDone k x.req st x.data.length
    else s
  | none => s

/-- The messages that may go out, in the order of service: in KEYING only KEY (R310, R319). -/
def LinkPort.ready (p : LinkPort) : List LinkMsg := serviceOrder (if p.up then p.ctl else p.ctl.filter fun m => msgOrder m == 1)

/-- One of slots 1–15 (R314): a data flit that is ready, else a control flit where messages wait, else an idle flit.
DEDUCED (log 215). -/
def State.dataSlot (s : State) (k slot : Nat) : State :=
  let p := s.port k
  let x := if p.up && decide (p.replay.length < 64) then s.slotXfer k else none
  let s := match x with
    | some x => s.sendData k slot x
    | none => if 64 ≤ p.replay.length || p.ready.isEmpty then s.idleSlot k slot else s.controlSlot k slot p.ready
  s.updPort k fun q => { q with arb := p.arb.after (x.map fun x => x.req.vc) }

/-- CONTROL_FLIT_SEND: a frame (R314–R316): the control flit of slot 0, then slots 1–15. A full replay buffer sends idle flits. -/
def State.controlFlitSend (s : State) (k : Nat) : State :=
  let p := s.port k
  if p.state ≠ 2 && p.state ≠ 3 then s
  else
    let s := if 64 ≤ p.replay.length then s.idleSlot k 0 else s.controlSlot k 0 p.ready
    (s.each ((List.range 15).map (· + 1)) fun s i => s.dataSlot k i).updPort k fun p => { p with frame := (p.frame + 1) % 2 ^ 32 }

/-! ## Receiving flits (R316–R319, R445) -/

/-- Cuvee c is in a holiday that awaits port k's marker (R445). -/
def State.awaits (s : State) (k c : Nat) : Bool :=
  (s.port k).recording && match (s.cuvee c).quiesce with
    | some q => q.marks.contains k
    | none => false

/-- The message belongs to the scope of such a holiday. -/
def State.msgHeld (s : State) (k : Nat) (m : LinkMsg) : Bool := ((msgGroup m).bind s.groupCuvee).any (s.awaits k)

/-- The region of a recording port is full (R445). -/
def State.recordFull (s : State) (k : Nat) : Bool := decide (s.num 0xB024 1 * 1048576 ≤ (s.port k).recFlits * 256)

/-- Acknowledged flits leave the replay buffer. -/
def acked (l : List Flit) (ack : Nat) : List Flit :=
  match firstIdx (fun (f : Flit) => f.seq == ack) l with
  | some i => l.drop i
  | none => if l.getLast?.map (fun f => (f.seq + 1) % 1024) = some ack then [] else l

/-- A NAK: what is not acknowledged goes again, in order; the seventeenth time for one flit retrains (R310, R316).
DEDUCED (log 83). -/
def State.replayFrom (s : State) (k : Nat) : State :=
  let p := s.port k
  if p.replay.isEmpty then s
  else if 16 ≤ p.replays then s.portRetrain k 4
  else
    -- only the sequencing fields are written anew
    let again := p.replay.map fun f => { f with ack := p.nextRx, nak := p.nak }
    ((s.updPort k fun p => { p with replays := p.replays + 1, replay := again, sentFlits := again.reverse ++ p.sentFlits }).linkCount k 5
      again.length).portCount k 0 again.length

/-- A new request of the peer takes a place for its data. DESIGN CHOICE (log 216). -/
def State.openIncoming (s : State) (k : Nat) (m : LinkMsg) : State :=
  match m with
  | .request r =>
    let c := (s.groupCuvee r.group).getD 0
    s.updPort k fun p => { p with
      xfers := (p.xfers.filter fun x => !(!x.mine && x.xtag == r.xtag)) ++ [⟨r.xtag, false, c, r, [], false, [], 0, none, none, bits (s.inbound r.window) 91 88⟩] }
  | _ => s

/-- Messages of an accepted control flit: kept for their own commands, or recorded. -/
def State.acceptMsgs (s : State) (k : Nat) (l : List LinkMsg) : State :=
  s.each l fun s m =>
    let s := s.openIncoming k m
    if s.msgHeld k m then s.updPort k fun p => { p with recorded := p.recorded ++ [m] }
    else s.updPort k fun p => { p with inbox := p.inbox ++ [m] }

/-- Data of an accepted flit joins its transfer, or that of the other half of a forwarded one (R328); a flit of a scope whose
marker is awaited is recorded, its credit withheld while the region is full (R445). -/
def State.acceptData (s : State) (k : Nat) (f : Flit) : State :=
  let mine := f.xtag.testBit 11
  let tag := f.xtag % 2048
  match s.linkXfer k mine tag with
  | none => s
  | some x =>
    let back := fun (p : LinkPort) => { p with owed := p.owed.modify x.req.vc (· + 1) }
    match x.fwdPort with
    | some (k2, t2) => (s.updPort k back).updXfer k2 (!mine) t2 fun y => { y with data := y.data ++ f.data }
    | none =>
      if s.awaits k x.cuvee then
        let full := s.recordFull k
        s.updPort k fun p =>
          { (if full then p else back p) with recData := p.recData ++ [(x.cuvee, !full, f)], recFlits := p.recFlits + 1 }
      else s.landData k true f

/-- What the FEC found in the codewords of a flit (R306, R349, R407, R433). DEDUCED (log 223). -/
def State.linkFec (s : State) (k good bad : Nat) : State :=
  let s := ((s.linkCount k 0 good).linkCount k 1 bad).portCount k 2 good
  if good = 0 then s else s.logCorrected (2 ^ 19 + k) k 3 good

/-- A flit reaches port k. DEDUCED (log 83). -/
def State.flitReceive (s : State) (k : Nat) (f : Flit) : State :=
  let p := s.port k
  if p.state ≠ 2 && p.state ≠ 3 then s
  else
    let s := (s.portCount k 1 1).linkFec k f.fec f.fecBad
    let left := acked p.replay f.ack
    let s := s.updPort k fun p => { p with replay := left, replays := if left = p.replay then p.replays else 0 }
    let s := if f.nak then s.replayFrom k else s
    if f.kind = 2 || ((s.port k).state ≠ 2 && (s.port k).state ≠ 3) then s
    else if f.kind = 3 || !p.accepts f || f.seq ≠ p.nextRx then
      let s := if !p.accepts f && p.up then (s.linkCount k 3 1).portCount k 4 1 else s
      if p.nak then s else (((s.updPort k fun p => { p with nak := true }).linkCount k 2 1).portCount k 3 1).logCorrected (2 ^ 19 + k) k 3 1
    else
      let s := s.updPort k fun p => { p with
        nak := false, nextRx := (p.nextRx + 1) % 1024 }
      if f.kind = 1 then (if p.up then s.acceptData k f else s)
      else
        let s := s.updPort k fun p => { p with
          credits := if p.up then (p.credits.zip (f.credits ++ [0, 0, 0, 0])).map (fun e => min 256 (e.1 + e.2)) else p.credits }
        let good := f.msgs.filter LinkMsg.clean
        let s := s.linkCount k 6 (f.malformedMsgs + (f.msgs.length - good.length))
        let s := if good.any (s.msgHeld k) then s.updPort k fun p => { p with recFlits := p.recFlits + 1 } else s
        s.acceptMsgs k (if p.up then good else good.filter fun m => msgOrder m == 1)

/-! ## Requests of peers (R230–R233, R325, R328) -/

/-- The lowest-numbered present parcel of a port's field (R231). -/
def State.portParcel (s : State) (k : Nat) : Option Nat :=
  (List.range 16).find? fun p => p / 4 == k / 3 && bit s.muster.parcels p

/-- The cuvee holds a translation group there (R220, R231). -/
def State.groupAt (s : State) (c p : Nat) : Bool := decide (0 < s.unitGroups c p)

/-- R231: the window lets the operation through. -/
def State.inboundOk (s : State) (k window src group offset length : Nat) (write : Bool) : Bool :=
  let w := s.inbound window
  let c := bits w 99 92
  bit w 127 && bits w 123 112 == src && bits w 111 100 == group && decide (offset + length ≤ (bits w 87 64 + 1) * 65536) &&
    bit w (if write then 125 else 126) && (s.cuvee c).live &&
    match s.portParcel k with
    | some p => s.groupAt c p
    | none => false

/-- The local place of every piece of an inbound access, where each resolves to local memory with the permission it needs,
by parcel u's translation unit (R231, R232). -/
def State.inboundPlaces (s : State) (c u label : Nat) (write : Bool) : List (Nat × Nat) → Option (List (Nat × Nat × Nat × Nat × Nat)) × State
  | [] => (some [], s)
  | (va, n) :: rest =>
    let r := State.resolved c va n label write (s.unitTranslate c u va)
    match r.1 with
    | .mem k off l p =>
      let q := r.2.inboundPlaces c u label write rest
      (q.1.map fun ps => (k, off, n, l, p) :: ps, q.2)
    | _ => (none, r.2)

/-- Element sums of WRITE_ADD payloads (R139): FP32 or BF16. DEDUCED (log 67). -/
def addPayload (bf : Bool) (a b : List Byte) : List Byte :=
  let w := if bf then 2 else 4
  let n := a.length / w
  (List.range n).flatMap fun i =>
    let x := ofBytes ((a.drop (i * w)).take w)
    let y := ofBytes ((b.drop (i * w)).take w)
    toBytes w (if bf then bf16Add x y else (fadd (BitVec.ofNat 32 x) (BitVec.ofNat 32 y)).toNat)

/-- Write, or add, bytes at resolved places. DEDUCED (log 85). -/
def State.inboundWrite (s : State) (c op : Nat) : List (Nat × Nat × Nat × Nat × Nat) → List Byte → State
  | [], _ => s
  | (k, off, n, l, p) :: rest, bs =>
    let now := bs.take n
    let now := if op = 0 then now else addPayload (op == 2) (s.hbmRead k off n) now
    (s.memWrite k off now c l p).inboundWrite c op rest (bs.drop n)

/-- Read bytes at resolved places; whether any was poisoned. DEDUCED (log 85). -/
def State.inboundRead (s : State) (c : Nat) : List (Nat × Nat × Nat × Nat × Nat) → List Byte × Bool × State
  | [] => ([], false, s)
  | (k, off, n, l, p) :: rest =>
    let m := s.memRead k off n c l p
    let q := (m.2.2.openSample k l).inboundRead c rest
    (m.1 ++ q.1, m.2.1 || q.2.1, q.2.2)

/-- A request that is refused: counted against its window, and answered with STATUS 2 (R233). -/
def State.refuseInbound (s : State) (k : Nat) (m : LinkRequest) : State :=
  let s := { s with links := { s.links with
    rejects := s.links.rejects.set 0 m.window ((s.links.rejects.getD m.window 0 + 1) % 2 ^ 32) } }
  (s.dropXfer k false m.xtag).sendDone k m 2 0

/-- A request for another device (R328): forwarded under a tag of this device's, or answered STATUS 3.
DESIGN CHOICE (log 216). -/
def State.forwardRequest (s : State) (k : Nat) (m : LinkRequest) : State :=
  match (s.routeTo m.dst).bind s.egress with
  | some k2 =>
    if 3 ≤ m.hops then (s.dropXfer k false m.xtag).sendDone k m 3 0
    else
      let tag := (s.port k2).newTag
      let m2 := { m with hops := m.hops + 1, xtag := tag }
      let data := match s.linkXfer k false m.xtag with
        | some x => x.data
        | none => []
      let s := s.updXfer k false m.xtag fun x => { x with fwdPort := some (k2, tag) }
      let s := s.updPort k2 fun p => { p with xfers := p.xfers ++ [⟨tag, true, 0, m2, [], false, data, 0, some (k, m.xtag), none, 0⟩] }
      s.linkSend k2 (.request m2)
  | none => (s.dropXfer k false m.xtag).sendDone k m 3 0

/-- REQUEST (R230–R233, R321, R325): performed once its data is in, whole or not at all. A cask stream's data is taken up by
its OFFER (R340). DEDUCED (log 85). -/
def State.request (s : State) (k : Nat) (m : LinkRequest) : State :=
  let x := s.linkXfer k false m.xtag
  let have_ := match x with
    | some x => x.data
    | none => []
  if !(LinkMsg.request m).clean then s.dropBad k (.request m)
  else if m.op = 4 && m.dst = s.deviceId then (s.takeMsg k (.request m)).getD s
  else if m.dst = s.deviceId && m.op ≠ 3 && have_.length < m.length then s
  else match s.takeMsg k (.request m) with
    | none => s
    | some s =>
      if m.dst ≠ s.deviceId then s.forwardRequest k m
      else
        let w := s.inbound m.window
        let c := bits w 99 92
        let write := m.op != 3
        if !s.inboundOk k m.window m.src m.group m.offset m.length write then s.refuseInbound k m
        else
          let r := s.inboundPlaces c ((s.portParcel k).getD 0) (bits w 91 88) write (rangeChunks (bits w 47 0 + m.offset) m.length)
          match r.1 with
          | none => r.2.refuseInbound k m
          | some places =>
            let s := r.2.linkTraffic c m.length
            if write then
              ((s.inboundWrite c m.op places (have_.take m.length)).dropXfer k false m.xtag).sendDone k m 0 m.length
            else
              let q := s.inboundRead c places
              q.2.2.updXfer k false m.xtag fun x => { x with data := q.1, answer := some (b2n q.2.1) }

/-- DONE (R322, R325, R326, R328): the transfer ends, or the DONE goes on to the device that asked. One that comes late is
discarded. -/
def State.doneMessage (s : State) (k : Nat) (m : LinkDone) : State :=
  if !(LinkMsg.done m).clean then s.dropBad k (.done m)
  else match s.takeMsg k (.done m) with
  | none => s
  | some s =>
    match s.linkXfer k true m.xtag with
    | none => s
    | some x =>
      match x.fwdPort with
      | some (k2, t2) =>
        let s := s.dropXfer k true m.xtag
        match s.linkXfer k2 false t2 with
        | none => s
        | some y =>
          let more := y.req.op == 3 && decide (y.sent < y.data.length)
          if more then s.updXfer k2 false t2 fun y => { y with fwdPort := none, answer := some m.status }
          else (s.dropXfer k2 false t2).linkSend k2 (.done { m with hops := m.hops + 1, xtag := t2 })
      | none =>
        if x.req.op = 4 then
          (s.updXfer k true m.xtag fun x => { x with answer := some m.status }).jobEnd x.cuvee 4 4 m.xtag x.data.length m.status m.src
        else s.endXfer k m.xtag m.status x.data

/-! ## Time, barriers' carriage, markers (R332, R334, R445, R446) -/

/-- TIME_SEND: every 64th frame. -/
def State.timeSend (s : State) (k : Nat) : State :=
  let p := s.port k
  if !p.up || s.cycle ≤ 0 then s
  else
    let cycles := fun (x : Rat) => (x / s.cycle).floor.toNat
    let phase := cycles (s.time.now - s.time.epochStart) % 2 ^ 32
    let hold := cycles (s.time.now - p.lastPhaseAt) % 2 ^ 24
    (s.linkSend k (.time ⟨s.time.e % 2 ^ 40, phase, p.lastPhase % 2 ^ 24, hold⟩)).updPort k fun p =>
      { p with sentPhase := phase, sentAt := s.time.now }

/-- TIME (R332): the delay of the link, and for source 2 the peer's boundary, presented once for each of its epochs.
DESIGN CHOICE (log 14). -/
def State.timeMessage (s : State) (k : Nat) (m : TimeMsg) (arrival : Instant) : State :=
  match s.takeMsg k (.time m) with
  | none => s
  | some s =>
    let s := s.at_ arrival
    let p := s.port k
    let d := if m.echo = p.sentPhase % 2 ^ 24 then max 0 ((arrival - p.sentAt - m.hold * s.cycle) / 2) else p.delay
    let s := s.updPort k fun p => { p with delay := d, lastPhase := m.phase, lastPhaseAt := arrival }
    if k ≠ s.num 0x2000 7 then s
    else
      let b := arrival - d - m.phase * s.cycle
      let gone := epochAhead m.e s.cad.peerE
      let fresh := s.cad.peerBoundary.isNone || m.e ≠ s.cad.peerE
      let len := match s.cad.peerBoundary with
        | some b0 => if gone = 1 then some (b - b0) else s.cad.peerLen
        | none => none
      let s := s.updCad fun c => { c with peerE := m.e, peerBoundary := some b, peerLen := len }
      if s.cad.source ≠ 2 then s
      else
        let s := s.setPresent s.peerGood
        if fresh then s.referenceBoundary b else s

/-- LINK_HOLIDAY_MARK (R334, R445, R446): the record of the port is complete; a group's marker begins the holiday of a cuvee
that is not yet in one. DEDUCED (log 124). -/
def State.linkMark (s : State) (k : Nat) (m : MarkMsg) : State :=
  match s.takeMsg k (.mark m) with
  | none => s
  | some s =>
    if m.scope ≠ 1 && m.scope ≠ 2 then s.linkCount k 6 1
    else
      let waiting := s.existing.filter fun c => match (s.cuvee c).quiesce with
        | some q => q.marks.contains k && (m.scope == 1 || s.group c == m.group)
        | none => false
      let s := s.each waiting fun s c => s.markTaken k c
      let s := if s.existing.any fun c => match (s.cuvee c).quiesce with
          | some q => q.marks.contains k
          | none => false then s else s.updPort k fun p => { p with recording := false }
      if m.scope = 2 then
        match s.groupCuvee m.group with
        | some c =>
          if (s.cuvee c).live && (s.cuvee c).quiesce.isNone then s.callQuiesce c 2 m.group 1 s.quiesceBy else s
        | none => s
      else s

/-! ## Squash and flare (R335, R347, R348) -/

/-- A message for another device goes on, or is dropped and counted (R328). DEDUCED (log 111). -/
def State.forwardMsg (s : State) (dst hops : Nat) (m : LinkMsg) : State :=
  match (s.routeTo dst).bind s.egress with
  | some k => if 3 ≤ hops then { s with links := { s.links with dropped := s.links.dropped + 1 } } else s.linkSend k m
  | none => { s with links := { s.links with dropped := s.links.dropped + 1 } }

/-- SQUASH (R335): the source device's transfers are served no more, and own requests to its cuvee end with STATUS 4. -/
def State.squashMessage (s : State) (k : Nat) (m : SquashMsg) : State :=
  match s.takeMsg k (.squash m) with
  | none => s
  | some s =>
    if m.dst ≠ s.deviceId then s.forwardMsg m.dst m.hops (.squash { m with hops := m.hops + 1 })
    else if m.reason = 3 then s.linkCount k 6 1
    else
      let theirs := fun (x : LinkXfer) => !x.mine && x.fwdPort.isNone && x.req.src == m.src && x.req.group == m.group
      let ours := fun (x : LinkXfer) => x.mine && x.fwdPort.isNone && x.req.dst == m.src && x.req.group == m.group
      s.each (List.range 12) fun s j =>
        let xs := (s.port j).xfers.filter ours
        let s := s.updPort j fun p => { p with
          xfers := p.xfers.filter fun x => !theirs x && !ours x
          inbox := p.inbox.filter fun q => match q with
            | .request r => !(r.src == m.src && r.group == m.group)
            | _ => true }
        s.each xs fun s x => s.answerXfer x 4 []

/-- FLARE (R348). -/
def State.flareMessage (s : State) (k : Nat) (m : FlareMsg) : State :=
  match s.takeMsg k (.flare m) with
  | none => s
  | some s =>
    if s.links.handled.contains (m.origin, m.id) then s
    else
      let s := { s with links := { s.links with handled := lastN 64 (s.links.handled ++ [(m.origin, m.id)]) } }
      let s := if m.ttl = 0 then s
        else s.each (s.upPorts.filter (· != k)) fun s j => s.linkSend j (.flare { m with ttl := m.ttl - 1 })
      let rec_ := Blob.record [(2, m.origin), (2, m.group), (4, m.id), (8, s.stamp)]
      let s := { s with links := { s.links with
        flareLog := s.links.flareLog.insert (s.links.flares % 16) rec_, flares := s.links.flares + 1 } }
      match s.groupCuvee m.group with
      | none => s
      | some c => s.callQuiesce c 0 c 3 (s.time.now + 5000)

/-- FlareCommand (R347). -/
def State.flareAct (s : State) (g : Nat) : State :=
  let s := s.raiseFlare g
  match s.groupCuvee g with
  | some c => s.sendSquash c 2
  | none => s

def execSignalDetect (k : Nat) (s : State) : Result := .next (s.signalDetect k)
def execTrainingDone (k lanesGood : Nat) (s : State) : Result := .next (s.trainingDone k lanesGood)
def execKey (k : Nat) (m : KeyMsg) (s : State) : Result := .next (s.keyMessage k m)
def execRekeyDue (k : Nat) (s : State) : Result := .next (s.rekeyDue k)
def execRequest (k : Nat) (m : LinkRequest) (s : State) : Result := .next (s.request k m)
def execTime (k : Nat) (m : TimeMsg) (arrival : Instant) (s : State) : Result := .next (s.timeMessage k m arrival)
def execTimeSend (k : Nat) (s : State) : Result := .next (s.timeSend k)
def execLinkHolidayMark (k : Nat) (m : MarkMsg) (s : State) : Result := .next (s.linkMark k m)
def execFlare (k : Nat) (m : FlareMsg) (s : State) : Result := .next (s.flareMessage k m)
def execTransferClose (k xtag : Nat) (s : State) : Result := .next (s.transferClose k xtag)
def execTransferTimeout (k xtag : Nat) (s : State) : Result := .next (s.transferTimeout k xtag)
def execControlFlitSend (k : Nat) (s : State) : Result := .next (s.controlFlitSend k)

end Sys2Proof.Machine
end

