-- ==== Sys2Proof/Machine/Cells.lean ====
section
/-! DEFINITION. Machine/Cells.lean: what the 32 cells of a tile compute in one entry: planes (R91–R102), step-table entries
and streams (R104–R107), operands, the MAC array (R121–R123), vector programs (R97–R100), drain chains (R101) and write
streams. Operands meet in the order in which they travel; the cycles in between are left out. -/

namespace Sys2Proof.Machine

/-! ## Planes (R91–R98) -/

/-- Word w of cell k in plane 1 or 0. -/
def Cells.word (x : Cells) (p1 : Bool) (k w : Nat) : Nat :=
  ((if p1 then x.plane1 else x.plane0).getD (32 * k + w) 0).toNat

def mdKind (w : Nat) : Nat := bits w 63 60
def mdAFmt (w : Nat) : Nat := bits w 59 56
def mdBFmt (w : Nat) : Nat := bits w 55 52
def mdOutFmt (w : Nat) : Nat := bits w 51 48
def mdRnd (w : Nat) : Bool := bit w 47
def mdSwapAt (w : Nat) : Nat := bits w 46 45
def rtOut (w d : Nat) : Nat := bits w (63 - 3 * d) (61 - 3 * d)
def rtASrc (w : Nat) : Nat := bits w 51 49
def rtBSrc (w : Nat) : Nat := bits w 44 42
def rtVSrc (w : Nat) : Nat := bits w 37 35
def vlLen (w : Nat) : Nat := bits w 63 59 + 1
def vlTrigger (w : Nat) : Nat := bits w 58 56
def vlPasses (w : Nat) : Nat := bits w 55 44 + 1
def voOp (w : Nat) : Nat := bits w 63 59
def voDst (w : Nat) : Nat := bits w 58 51
def voSa (w : Nat) : Nat := bits w 50 43
def voSb (w : Nat) : Nat := bits w 42 35
def voSc (w : Nat) : Nat := bits w 34 27
def voMask (w : Nat) : Nat := bits w 26 19
def voAuto (w : Nat) : Bool := bit w 18

/-- A KIND with a MAC array, and one with a vector program (R92). -/
def kindMac (kind : Nat) : Bool := kind == 1 || kind == 3
def kindVec (kind : Nat) : Bool := kind == 2 || kind == 3

/-- Operand codes that R99 allows as a source and as a destination. -/
def srcOk (c : Nat) : Bool := decide (c ≤ 0x8D)
def dstOk (c : Nat) : Bool := decide (c ≤ 0x7F) || (decide (0x81 ≤ c) && decide (c ≤ 0x88)) || c == 0x8E || c == 0x8F

/-- How many of the sources a, b, c an operation reads; LSE_STEP reads a and its state (R100). -/
def opArity (op : Nat) : Nat :=
  match op with
  | 0 => 0
  | 1 => 3
  | 2 | 3 | 4 | 5 => 2
  | _ => 1

/-- A micro-operation that runs is well-formed (R99, R100). DESIGN CHOICE (log 179). -/
def vopOk (w : Nat) : Bool :=
  let op := voOp w
  decide (op ≤ 0x0D) &&
    (op == 0 ||
      (dstOk (voDst w) && srcOk (voSa w) && (opArity op < 2 || srcOk (voSb w)) && (opArity op < 3 || srcOk (voSc w)) &&
        (op != 0x0A || (decide (voSc w ≤ 126) && decide (voDst w ≤ 126)))))

/-- Cell k of a plane is malformed (R102). -/
def Cells.planeBad (x : Cells) (p1 : Bool) (k : Nat) : Bool :=
  let w := x.word p1 k
  let md := w 0
  let rt := w 1
  let vl := w 4
  decide (4 < mdKind md) || decide (0xD < mdAFmt md) || decide (0xD < mdBFmt md) || decide (5 < mdOutFmt md) ||
    bits md 44 0 != 0 || (kindMac (mdKind md) && !fmtPaired (mdAFmt md) (mdBFmt md)) ||
    ((List.range 4).any fun d => rtOut rt d == 5) || decide (5 < rtASrc rt) || decide (5 < rtBSrc rt) ||
    decide (4 < rtVSrc rt) || bits rt 30 0 != 0 ||
    bits (w 2) 47 46 == 3 || bits (w 2) 35 0 != 0 || bits (w 3) 9 0 != 0 ||
    decide (24 < vlLen vl) || vlTrigger vl == 7 || bits vl 27 0 != 0 || bits (w 7) 63 32 != 0 ||
    ((List.range 24).any fun i => bits (w (8 + i)) 17 0 != 0) ||
    (List.range (vlLen vl)).any fun i => !vopOk (w (8 + i))

/-- A plane is malformed when a cell of it is. -/
def Cells.planeMalformed (x : Cells) (p1 : Bool) : Bool := (List.range 32).any (x.planeBad p1)

/-! ## Entries and streams (R104–R108) -/

def enPlane (e : Nat) : Nat := bits e 255 254
def enPload (e : Nat) : Bool := bit e 253
def enPimg (e : Nat) : Nat := bits e 252 246
def enLoop (e l : Nat) : Nat :=
  match l with
  | 0 => bits e 227 216 + 1
  | 1 => bits e 237 228 + 1
  | _ => bits e 245 238 + 1
def enWaitB (e : Nat) : Bool := bit e 215
def enWaitF (e : Nat) : Bool := bit e 214
def enArriveB (e : Nat) : Bool := bit e 213
def enSetF (e : Nat) : Bool := bit e 212
def enLast (e : Nat) : Bool := bit e 211
def enBarrier (e : Nat) : Nat := bits e 210 199
def enFlag (e : Nat) : Nat := bits e 198 192
/-- Stream descriptor 0–3: the W, N, E and S edges. -/
def enStream (e s : Nat) : Nat := bits e (191 - 40 * s) (152 - 40 * s)
/-- Transfer descriptor 0 or 1. -/
def enXfer (e i : Nat) : Nat := if i = 0 then bits e 15 0 else bits e 31 16

def stKind (d : Nat) : Nat := bits d 39 38
def stLevel (d : Nat) : Nat := bits d 37 36
def stWidth (d : Nat) : Nat := bits d 35 33
def stBlk (d : Nat) : Nat := bits d 32 31
def stBase (d : Nat) : Nat := bits d 30 15
def stStride (d : Nat) : Int := signed 7 (bits d 14 8)
def stExtent (d : Nat) : Nat := bits d 7 4
def stByte (d : Nat) : Nat := bits d 3 0

/-- Edge cells of stream s: four rows on W and E, eight columns on N and S. -/
def edgeCells (s : Nat) : Nat := if s = 0 || s = 2 then 4 else 8
/-- Bytes of a beat. -/
def stBytes (d : Nat) : Nat := 16 * 2 ^ stWidth d
/-- Beats to a block. DEDUCED (log 58). -/
def stBlock (d : Nat) : Nat := if stBlk d = 1 then 32 else 16

/-- Beats that a read stream delivers with the first b beats of the entry (R107). -/
def deliveredBy (e d b : Nat) : Nat :=
  match stLevel d with
  | 0 => b
  | 1 => ceilDiv b (enLoop e 0)
  | _ => ceilDiv b (enLoop e 0 * enLoop e 1)

/-- Beats in an entry. -/
def enBeats (e : Nat) : Nat := enLoop e 0 * enLoop e 1 * enLoop e 2

/-- Byte address of beat n of a stream (R107). DEDUCED (log 58). -/
def beatAddr (s d n : Nat) : Nat :=
  let region := 2 ^ (stExtent d + 1)
  if stBlk d = 0 then 16 * (stBase d + (((n : Int) * stStride d) % (region : Nat)).toNat) + stByte d
  else
    let w := stBytes d / 16
    let p := stBlock d
    let r := edgeCells s
    16 * (stBase d + (n / p * (r + p * w) + r + n % p * w) % region)

/-- Byte address of the scale record of edge cell i for the block of beat n (R85, R107). -/
def recordAddr (s d n i : Nat) : Nat :=
  let region := 2 ^ (stExtent d + 1)
  let w := stBytes d / 16
  16 * (stBase d + (n / stBlock d * (edgeCells s + stBlock d * w) + i) % region)

/-- A stream descriptor breaks R106, R107 or R113 code 1. -/
def streamBad (e s : Nat) : Bool :=
  let d := enStream e s
  let k := stKind d
  let blk := stBlk d
  k == 3 || stLevel d == 3 || decide (4 < stWidth d) || blk == 3 ||
    (k != 0 &&
      (decide (65536 < stBase d + 2 ^ (stExtent d + 1)) || (k == 2 && stLevel d != 0) ||
        (stByte d != 0 && (k == 2 || blk != 0)) || ((s == 0 || s == 2) && decide (128 < stBytes d)) ||
        (blk != 0 && (decide (stStride d ≠ (stBytes d / 16 : Nat)) ||
          deliveredBy e d (enBeats e) % stBlock d != 0))))

/-! ## Transfer rows (R109) -/

def xrOp (r : Nat) : Nat := bits r 127 126
def xrTarget (r : Nat) : Nat := bits r 125 124
def xrLabel (r : Nat) : Nat := bits r 123 120
def xrBytes (r : Nat) : Nat := 64 * (bits r 119 108 + 1)
def xrRemote (r : Nat) : Nat := bits r 47 0
/-- Tile-store byte of issue n. -/
def xrLocal (r n : Nat) : Int := 16 * ((bits r 107 92 : Nat) + (n : Int) * signed 8 (bits r 91 84))
/-- Remote address of issue n in the entry whose counter is m. -/
def xrAddr (r n m : Nat) : Int :=
  (xrRemote r : Nat) + 64 * (m : Int) * signed 16 (bits r 63 48) + (n : Int) * signed 20 (bits r 83 64)

/-- A transfer row is malformed (R109, R158); `groups` is the cuvee's count of multicast groups. DEDUCED (log 59). -/
def rowXferBad (r groups : Nat) : Bool :=
  let op := xrOp r
  let tg := xrTarget r
  tg == 3 || (op == 0 && tg == 2) || (decide (2 ≤ op) && tg != 1) ||
    (tg == 1 && (bits r 47 43 != 0 || bits r 31 20 != 0 || bits r 3 0 != 0)) ||
    (tg == 2 && (bits r 47 42 != 0 || bits r 31 20 != 0 || bits r 3 0 != 0 || decide (groups ≤ bits r 41 32)))

def xdEn (d : Nat) : Bool := bit d 15
def xdLevel (d : Nat) : Nat := bits d 14 13
def xdAt (d : Nat) : Bool := bit d 12
def xdRow (d : Nat) : Nat := bits d 11 6
def xdLand (d : Nat) : Nat := bits d 5 4

/-! ## The network of cells (R93, R94) -/

/-- What feeds a port: nothing, slice `i` of read stream `s`, or the OUT beats of a cell. -/
inductive Src where
  | none | stream (s i : Nat) | out (k : Nat)
deriving DecidableEq, Repr, Inhabited

/-- The neighbour of cell k towards N, E, S or W (0–3). -/
def neighbour (k d : Nat) : Option Nat :=
  match d with
  | 0 => if k < 8 then none else some (k - 8)
  | 1 => if k % 8 = 7 then none else some (k + 1)
  | 2 => if 24 ≤ k then none else some (k + 8)
  | _ => if k % 8 = 0 then none else some (k - 1)

/-- The opposite direction. -/
def opposite (d : Nat) : Nat := (d + 2) % 4

/-- The stream of an edge, and the place of a cell on it. -/
def edgeStream (d : Nat) : Nat := match d with | 0 => 1 | 1 => 2 | 2 => 3 | _ => 0
def edgePlace (k d : Nat) : Nat := if d = 0 || d = 2 then k % 8 else k / 8

/-- The active plane's word w of cell k. -/
def Tile.act' (x : Tile) (k w : Nat) : Nat := x.cells.word x.activeP1 k w

/-- The input that an output code forwards: codes 1–4 by name, code 6 the one opposite the output. -/
def forwards (code d : Nat) : Option Nat :=
  if 1 ≤ code && code ≤ 4 then some (code - 1) else if code = 6 then some (opposite d) else none

/-- What arrives at cell k's input d, and how many cell-to-cell ports it has crossed. -/
def Tile.route (x : Tile) : Nat → Nat → Nat → Src × Nat
  | 0, _, _ => (.none, 0)
  | f + 1, k, d =>
    match neighbour k d with
    | none => (.stream (edgeStream d) (edgePlace k d), 0)
    | some j =>
      let code := rtOut (x.act' j 1) (opposite d)
      if mdKind (x.act' j 0) = 0 then (.none, 0)
      else if code = 7 then (.out j, 1)
      else match forwards code (opposite d) with
        | some d' => let r := x.route f j d'; (r.1, r.2 + 1)
        | none => (.none, 0)

/-- What arrives at cell k's input d. -/
def Tile.feed (x : Tile) (f k d : Nat) : Src := (x.route f k d).1

/-- The source that a 3-bit source code 1–4 names, with the ports on the way. -/
def Tile.routeOf (x : Tile) (k code : Nat) : Src × Nat :=
  if 1 ≤ code && code ≤ 4 then x.route 33 k (code - 1) else (.none, 0)
def Tile.srcOf (x : Tile) (k code : Nat) : Src := (x.routeOf k code).1

/-- Beats of a source that have come so far. -/
def Tile.available (x : Tile) (e : Nat) (c : Src) : Nat :=
  match c with
  | .none => 0
  | .stream s _ => let d := enStream e s; if stKind d = 1 then deliveredBy e d x.path.beat else 0
  | .out k => (x.path.outs.getD k []).length

/-- Beat n of a source: `rd` reads the tile store. DESIGN CHOICE (log 55). -/
def Tile.beatOf (x : Tile) (rd : Nat → Nat → Nat) (e : Nat) (c : Src) (n : Nat) : Blob :=
  match c with
  | .none => ⟨0, 0⟩
  | .stream s i =>
    let d := enStream e s
    let w := stBytes d / edgeCells s
    ⟨w, rd (beatAddr s d n + i * w) w⟩
  | .out k => (x.path.outs.getD k []).getD n ⟨0, 0⟩

/-- The scale record that goes with beat n of a source, when it is a stream whose BLK fits the operand's class (R124). -/
def Tile.recordOf (rd : Nat → Nat → Nat) (e code : Nat) (c : Src) (n : Nat) : Option Blob :=
  match c with
  | .stream s i =>
    let d := enStream e s
    if stBlk d = (if fmtClass code = 4 then 2 else 1) then some ⟨16, rd (recordAddr s d n i) 16⟩ else none
  | _ => none

/-! ## The MAC array (R96, R121–R123) -/

/-- n bytes of cell k's register file from byte a, modulo 4,096. -/
def Cells.rfBytes (x : Cells) (k a : Nat) (n : Nat) : Blob :=
  ⟨n, ofBytes ((List.range n).map fun i =>
    let b := (a + i) % 4096
    BitVec.ofNat 8 ((x.regs.getD (1024 * k + b / 4) 0).toNat >>> (8 * (b % 4))))⟩

/-- MAC beat n of an operand read from the register file; `w` is RF_ADDR, `hi` the top bit of BASE (63 for A, 36 for B). -/
def rfPlace (w hi n : Nat) : Nat :=
  8 * ((bits w hi (hi - 8) + n % (bits w (hi - 18) (hi - 26) + 1) * bits w (hi - 9) (hi - 17)) % 512)

/-- The MAC operands of a cell: A or B. -/
def Tile.macSrc (x : Tile) (k : Nat) (isA : Bool) : Src × Bool :=
  let code := if isA then rtASrc (x.act' k 1) else rtBSrc (x.act' k 1)
  (x.srcOf k code, code == 5)

/-- MAC beats whose operands have both come. -/
def Tile.macReady (x : Tile) (e k : Nat) : Nat :=
  let a := x.macSrc k true
  let b := x.macSrc k false
  let n := fun (p : Src × Bool) => if p.2 then x.path.beat else x.available e p.1
  min (n a) (n b)

/-- Beats that the array takes at a time: a whole block where an operand is a block format. -/
def macUnit (md : Nat) : Nat :=
  if fmtBlock (mdAFmt md) || fmtBlock (mdBFmt md) then 32 / beatSteps (mdAFmt md) else 1

/-- A block operand has the stream that R124 asks for. -/
def Tile.blockOk (x : Tile) (e k : Nat) (isA : Bool) : Bool :=
  let code := if isA then mdAFmt (x.act' k 0) else mdBFmt (x.act' k 0)
  let p := x.macSrc k isA
  !fmtBlock code || (!p.2 && (Tile.recordOf (fun _ _ => 0) e code p.1 0).isSome)

/-- Beat n of operand A or B. -/
def Tile.operand (x : Tile) (rd : Nat → Nat → Nat) (e k : Nat) (isA : Bool) (n : Nat) : Blob :=
  let p := x.macSrc k isA
  let code := if isA then mdAFmt (x.act' k 0) else mdBFmt (x.act' k 0)
  if p.2 then x.cells.rfBytes k (rfPlace (x.act' k 3) (if isA then 63 else 36) n) (beatBytes code)
  else x.beatOf rd e p.1 n

/-- The exact sum of a list of values: of one value, that value, so that −0 stays −0. -/
def sumNum : List Num → Num
  | [] => .zero
  | x :: l => l.foldl Num.add x

/-- The product of two elements under the masks and NEG of the MAC word (R95, R123). -/
def product (mac : Nat) (i j : Nat) (a b : Num) : Num :=
  if !bit mac (56 + i) || !bit mac (48 + j) then .zero
  else if bit mac 36 then (a.mul b).neg else a.mul b

/-- What one unit of beats adds to accumulator (i, j): for block formats the half-block sums, each with its scale (R122). -/
def unitSum (md mac : Nat) (as bs : List Blob) (ra rb : Blob) (i j : Nat) : Num :=
  let fa := mdAFmt md
  let fb := mdBFmt md
  let steps := beatSteps fa
  let beatSum := fun (l : List (Blob × Blob)) =>
    sumNum (l.flatMap fun p => (List.range steps).map fun h => product mac i j (element fa p.1 i h) (element fb p.2 j h))
  let pairs := as.zip bs
  if macUnit md = 1 then beatSum pairs
  else
    let half := macUnit md / 2
    let masked := !bit mac (56 + i) || !bit mac (48 + j)
    sumNum ((List.range 2).map fun h =>
      match scaleOf fa ra i h, scaleOf fb rb j h with
      | some u, some v => (beatSum ((pairs.drop (h * half)).take half)).scale (u + v)
      | _, _ => if masked then .zero else .nan)

/-- One unit of cell k, from MAC beat n on. -/
def Tile.macStep (x : Tile) (rd : Nat → Nat → Nat) (e k n : Nat) : Tile :=
  let md := x.act' k 0
  let mac := x.act' k 2
  let u := macUnit md
  let as := (List.range u).map fun i => x.operand rd e k true (n + i)
  let bs := (List.range u).map fun i => x.operand rd e k false (n + i)
  let ra := (Tile.recordOf rd e (mdAFmt md) (x.macSrc k true).1 n).getD ⟨16, 0⟩
  let rb := (Tile.recordOf rd e (mdBFmt md) (x.macSrc k false).1 n).getD ⟨16, 0⟩
  let one := x.fill1.testBit k
  let bank := if one then x.cells.bank1 else x.cells.bank0
  let bank := (List.range 64).foldl (fun (m : Sparse Word32) q =>
    Sparse.set 0 m (64 * k + q) ((unitSum md mac as bs ra rb (q / 8) (q % 8)).add (f32 (m.getD (64 * k + q) 0))).toF32) bank
  let place := if fmtClass (mdAFmt md) = 1 then 2 else if beatSteps (mdAFmt md) = 2 then 1 else 0
  { x with
    cells := if one then { x.cells with bank1 := bank } else { x.cells with bank0 := bank }
    path := { x.path with
      macPos := x.path.macPos.set 0 k (n + u), ops := x.path.ops.modify place (· + 64 * beatSteps (mdAFmt md) * u) } }

/-- Every whole unit of cell k that is ready, from its MAC position on; at most `fuel` units. -/
def Tile.macRun (rd : Nat → Nat → Nat) (e k : Nat) : Nat → Tile → Tile
  | 0, x => x
  | f + 1, x =>
    let n := x.path.macPos.getD k 0
    let md := x.act' k 0
    if kindMac (mdKind md) && n + macUnit md ≤ x.macReady e k && x.blockOk e k true && x.blockOk e k false then
      Tile.macRun rd e k f (x.macStep rd e k n)
    else x

/-! ## Port credits (R105, R114)

A neighbour port holds four beats. A beat that a consumer has not taken yet stands in one of the ports on its way, and
the sender holds when they are full: a cell its OUT beats, a read stream the entry's next beat. -/

/-- The program of cell k reads V beats. -/
def Tile.readsV (x : Tile) (k : Nat) : Bool :=
  kindVec (mdKind (x.act' k 0)) && (List.range (vlLen (x.act' k 4))).any fun i =>
    let w := x.act' k (8 + i)
    voOp w != 0 && ([voSa w, voSb w, voSc w].take (opArity (voOp w))).contains 0x80

/-- The beats of a source that cell k takes: the source with the ports on its way, and how many it has taken. The array takes
a beat once both operands have come; an operand that never comes holds nobody. -/
def Tile.takes (x : Tile) (e k : Nat) : List ((Src × Nat) × Nat) :=
  let rt := x.act' k 1
  let a := x.routeOf k (rtASrc rt)
  let b := x.routeOf k (rtBSrc rt)
  let fed := fun (code : Nat) (p : Src × Nat) => code == 5 || p.1 != .none
  let mac := kindMac (mdKind (x.act' k 0)) && fed (rtASrc rt) a && fed (rtBSrc rt) b
  (if mac then [(a, x.macReady e k), (b, x.macReady e k)] else []) ++
    if x.readsV k then [(x.routeOf k (rtVSrc rt), x.path.vPos.getD k 0)] else []

/-- Some consumer of cell k's OUT beats has as many of them waiting as the ports on the way hold; a write stream holds 16
more. DEDUCED (log 181). -/
def Tile.outFull (x : Tile) (e k : Nat) : Bool :=
  let n := (x.path.outs.getD k []).length
  ((List.range 32).any fun j => (x.takes e j).any fun t => t.1.1 == .out k && decide (t.2 + 4 * t.1.2 ≤ n)) ||
    (List.range 4).any fun s => stKind (enStream e s) == 2 && (List.range (edgeCells s)).any fun i =>
      let d := match s with | 0 => 3 | 1 => 0 | 2 => 1 | _ => 2
      let j := match d with | 0 => i | 1 => 8 * i + 7 | 2 => 24 + i | _ => 8 * i
      let code := rtOut (x.act' j 1) d
      let r := if code = 7 then (Src.out j, 0) else x.routeOf j code
      r.1 == .out k && decide (x.path.wr.getD s 0 + 16 + 4 * r.2 ≤ n)

/-- Every cell can take its inputs at the entry's next beat (R105): the V beats of read streams that wait fit the ports, and so
do the operands whose partner another cell still has to send. DEDUCED (log 181). -/
def Tile.canTake (x : Tile) (e : Nat) : Bool :=
  let y := { x with path := { x.path with beat := x.path.beat + 1 } }
  (List.range 32).all fun k =>
    let late := (x.takes e k).any fun t => match t.1.1 with | .out _ => true | _ => false
    (x.takes e k).all fun t => match t.1.1 with
      | .stream s i =>
        let n := y.available e (.stream s i)
        !(late || (x.readsV k && t.1.1 == x.srcOf k (rtVSrc (x.act' k 1)))) || decide (n ≤ t.2 + 4 * (t.1.2 + 1)) ||
          n == x.available e (.stream s i)
      | _ => true

/-! ## Vector programs (R97–R100) -/

/-- The draining bank of cell k. -/
def Tile.drainBank (x : Tile) (k : Nat) : Sparse Word32 := if x.fill1.testBit k then x.cells.bank0 else x.cells.bank1
/-- Change it. -/
def Tile.setDrainBank (x : Tile) (k : Nat) (m : Sparse Word32) : Tile :=
  if x.fill1.testBit k then { x with cells := { x.cells with bank0 := m } }
  else { x with cells := { x.cells with bank1 := m } }

/-- The next draw of cell k's stream (R137). -/
def Cells.draw (x : Cells) (step : Word64 → Word64) (k : Nat) : Nat × Cells :=
  let left := x.draws.getD k 0
  if left = 0 then
    let s := step (x.rng.getD k 0)
    (s.toNat % 65536, { x with rng := x.rng.insert k s, draws := x.draws.set 0 k 3 })
  else ((x.rng.getD k 0).toNat >>> (16 * (4 - left)) % 65536, { x with draws := x.draws.set 0 k (left - 1) })

/-- Convert lanes to OUT_FMT with RND (R134–R137): the packed bytes. Every lane takes a draw, in lane order; RND says whether
the conversion uses it. DEDUCED (log 54). -/
def Tile.convert (x : Tile) (step : Word64 → Word64) (k : Nat) (lanes : List Word32) (mask : Nat) : Blob × Tile :=
  let md := x.act' k 0
  let fmt := mdOutFmt md
  let r := lanes.zipIdx.foldl (fun (acc : List Nat × Cells) (l : Word32 × Nat) =>
    let q := acc.2.draw step k
    let d := if mdRnd md then some q.1 else none
    (acc.1 ++ [if bit mask l.2 then convertOut fmt d l.1 else 0], q.2)) ([], x.cells)
  (Blob.array (outBytes fmt) r.1, { x with cells := r.2 })

/-- An operand or destination code in pass p: AUTO adds p times the increment of its field (R97). -/
def autoCode (auto : Bool) (code p inc : Nat) : Nat :=
  if !auto then code
  else if code ≤ 0x7F then (((code : Nat) + (p : Int) * signed 4 inc) % 128).toNat
  else if 0x81 ≤ code && code ≤ 0x88 then 0x81 + (((code - 0x81 : Nat) + (p : Int) * signed 4 inc) % 8).toNat
  else code

/-- Eight lanes of a 32 B beat. DEDUCED (log 54). -/
def beatLanes (b : Blob) : List Word32 := (List.range 8).map fun l => BitVec.ofNat 32 (b.get (4 * l) 4)

/-- Read a source: `none` while the V beat it wants has not come. -/
def Tile.vecRead (x : Tile) (rd : Nat → Nat → Nat) (e k code : Nat) : Option (List Word32 × Tile) :=
  if code ≤ 0x7F then some ((List.range 8).map (fun l => x.cells.regs.getD (1024 * k + 8 * code + l) 0), x)
  else if code = 0x80 then
    let src := x.srcOf k (rtVSrc (x.act' k 1))
    let n := x.path.vPos.getD k 0
    if n < x.available e src then
      some (beatLanes (x.beatOf rd e src n), { x with path := { x.path with vPos := x.path.vPos.set 0 k (n + 1) } })
    else none
  else if code ≤ 0x88 then
    some ((List.range 8).map (fun l => (x.drainBank k).getD (64 * k + 8 * (code - 0x81) + l) 0), x)
  else if 0x8A ≤ code && code ≤ 0x8D then
    let w := x.act' k (if code ≤ 0x8B then 5 else 6)
    some (List.replicate 8 (BitVec.ofNat 32 (if (code - 0x8A) % 2 = 0 then bits w 31 0 else bits w 63 32)), x)
  else some (List.replicate 8 0, x)

/-- Write eight lanes to a destination under LANE_MASK (R98, R99). DEDUCED (log 54). -/
def Tile.vecWrite (x : Tile) (k code mask : Nat) (lanes : List Word32) : Tile :=
  if code ≤ 0x7F then
    { x with cells := { x.cells with regs := lanes.zipIdx.foldl (fun (m : Sparse Word32) (l : Word32 × Nat) =>
        if bit mask l.2 then Sparse.set 0 m (1024 * k + 8 * code + l.2) l.1 else m) x.cells.regs } }
  else if 0x81 ≤ code && code ≤ 0x88 then
    x.setDrainBank k (lanes.zipIdx.foldl (fun (m : Sparse Word32) (l : Word32 × Nat) =>
      if bit mask l.2 then Sparse.set 0 m (64 * k + 8 * (code - 0x81) + l.2) l.1 else m) (x.drainBank k))
  else if code = 0x8E then
    let b := Blob.array 4 (lanes.zipIdx.map fun l => if bit mask l.2 then l.1.toNat else 0)
    { x with path := { x.path with outs := x.path.outs.insert k (x.path.outs.getD k [] ++ [b]) } }
  else x

/-- SUMR's fixed tree, disabled lanes entering as −0 (R131). -/
def sumTree (l : List Word32) (mask : Nat) : Word32 :=
  let v := fun i => if bit mask i then l.getD i 0 else (0x80000000 : Word32)
  fadd (fadd (fadd (v 0) (v 1)) (fadd (v 2) (v 3))) (fadd (fadd (v 4) (v 5)) (fadd (v 6) (v 7)))

/-- MAXR, disabled lanes entering as −∞ (R131). -/
def maxLanes (l : List Word32) (mask : Nat) : Word32 :=
  l.zipIdx.foldl (fun (m : Word32) (x : Word32 × Nat) => fmax m (if bit mask x.2 then x.1 else 0xFF800000)) 0xFF800000

/-- The lanewise result of an operation other than CVT and LSE_STEP (R100). -/
def vecResult (op mask : Nat) (a b c : List Word32) : List Word32 :=
  let lanes := fun (f : Nat → Word32) => (List.range 8).map f
  let av := fun i => a.getD i 0
  let bv := fun i => b.getD i 0
  match op with
  | 1 => lanes fun i => fma (av i) (bv i) (c.getD i 0)
  | 2 => lanes fun i => fadd (av i) (bv i)
  | 3 => lanes fun i => fmul (av i) (bv i)
  | 4 => lanes fun i => fmax (av i) (bv i)
  | 5 => lanes fun i => fmin (av i) (bv i)
  | 6 => lanes fun i => sfExp2 (av i)
  | 7 => lanes fun i => sfLog2 (av i)
  | 8 => lanes fun i => sfRcp (av i)
  | 9 => lanes fun i => sfRsqrt (av i)
  | 11 => List.replicate 8 (sumTree a mask)
  | _ => List.replicate 8 (maxLanes a mask)

/-- Read the sources that an operation has, in the order a, b, c. -/
def Tile.vecSources (x : Tile) (rd : Nat → Nat → Nat) (e k : Nat) : List Nat → Option (List (List Word32) × Tile)
  | [] => some ([], x)
  | c :: cs =>
    match x.vecRead rd e k c with
    | none => none
    | some (v, y) =>
      match y.vecSources rd e k cs with
      | none => none
      | some (vs, z) => some (v :: vs, z)

/-- Run the micro-operation at place `pos` of cell k's program; `none` while it waits for a V beat, or for room for its OUT
beat. -/
def Tile.vecStep (x : Tile) (rd : Nat → Nat → Nat) (step : Word64 → Word64) (e k pos : Nat) : Option Tile :=
  let vl := x.act' k 4
  let w := x.act' k (8 + pos % 24)
  let p := pos / 24
  let op := voOp w
  let auto := voAuto w
  let dst := autoCode auto (voDst w) p (bits vl 43 40)
  let sc := autoCode auto (voSc w) p (bits vl 31 28)
  let srcs := [autoCode auto (voSa w) p (bits vl 39 36), autoCode auto (voSb w) p (bits vl 35 32), sc].take (opArity op)
  let mask := voMask w
  let lanes := popLanes mask
  if op = 0 then some x
  else if dst = 0x8E && x.outFull e k then none
  else match x.vecSources rd e k srcs with
    | none => none
    | some (vs, y) =>
      let a := vs.getD 0 []
      let place := if (6 ≤ op && op ≤ 9) || op = 0x0A then 4 else 3
      let y := { y with path := { y.path with ops := y.path.ops.modify place (· + lanes) } }
      if op = 0x0D then
        let r := y.convert step k a (if dst = 0x8E then mask else 255)
        if dst = 0x8E then
          some { r.2 with path := { r.2.path with outs := r.2.path.outs.insert k (r.2.path.outs.getD k [] ++ [r.1]) } }
        else some (r.2.vecWrite k dst mask (beatLanes r.1))
      else if op = 0x0A then
        let at_ := fun v l => y.cells.regs.getD (1024 * k + 8 * v + l) 0
        let rs := (List.range 8).map fun l => lseStep (at_ sc l) (at_ ((sc + 1) % 128) l) (a.getD l 0)
        some ((y.vecWrite k dst mask (rs.map Prod.fst)).vecWrite k ((dst + 1) % 128) mask (rs.map Prod.snd))
      else some (y.vecWrite k dst mask (vecResult op mask a (vs.getD 1 []) (vs.getD 2 [])))
where
  /-- Lanes that a mask enables. -/
  popLanes (mask : Nat) : Nat := (setBits mask 8).length

/-- The place after `pos`, or `none` when the program is over. -/
def nextPlace (vl pos : Nat) : Option Nat :=
  if pos % 24 + 1 < vlLen vl then some (pos + 1)
  else if pos / 24 + 1 < vlPasses vl then some ((pos / 24 + 1) * 24) else none

/-- Run cell k's program until it is over or waits. -/
def Tile.vecRun (rd : Nat → Nat → Nat) (step : Word64 → Word64) (e k : Nat) : Nat → Tile → Tile
  | 0, x => x
  | f + 1, x =>
    match x.path.prog.find k with
    | none => x
    | some pos =>
      match x.vecStep rd step e k pos with
      | none => x
      | some y =>
        match nextPlace (x.act' k 4) pos with
        | some q => Tile.vecRun rd step e k f { y with path := { y.path with prog := y.path.prog.insert k q } }
        | none => { y with path := { y.path with prog := y.path.prog.erase k } }

/-- One pass over the cells: what each can do now. -/
def Tile.sweep (rd : Nat → Nat → Nat) (step : Word64 → Word64) (e : Nat) (x : Tile) : Tile :=
  (List.range 32).foldl (fun x k => Tile.vecRun rd step e k 98305 (Tile.macRun rd e k (x.macReady e k + 1) x)) x

/-- Passes until nothing moves. -/
def Tile.settle (rd : Nat → Nat → Nat) (step : Word64 → Word64) (e : Nat) : Nat → Tile → Tile
  | 0, x => x
  | f + 1, x => let y := Tile.sweep rd step e x; if y = x then x else Tile.settle rd step e f y

/-! ## Swaps and drains (R95, R101) -/

/-- Initialise cell k's filling bank by INIT. -/
def Tile.initBank (x : Tile) (k : Nat) : Tile :=
  let mac := x.act' k 2
  let one := x.fill1.testBit k
  let bank := if one then x.cells.bank1 else x.cells.bank0
  let bank := match bits mac 47 46 with
    | 0 => bank.clearRange (64 * k) 64
    | 2 => (List.range 64).foldl (fun (m : Sparse Word32) q =>
        Sparse.set 0 m (64 * k + q) (x.cells.regs.getD (1024 * k + (2 * bits mac 45 37 + q) % 1024) 0)) bank
    | _ => bank
  if one then { x with cells := { x.cells with bank1 := bank } } else { x with cells := { x.cells with bank0 := bank } }

/-- Cells of a bit map. -/
def cellsOf (mask : Nat) : List Nat := setBits mask 32

/-- The banks of the cells of a bit map change roles. -/
def Tile.swapBanks (x : Tile) (mask : Nat) : Tile :=
  (cellsOf mask).foldl Tile.initBank { x with fill1 := x.fill1 ^^^ mask }

/-- Cells that run a drain chain towards d from the edge inwards: cell k of the edge, then each upstream cell whose output
has code 6 too. -/
def Tile.chain (x : Tile) (d : Nat) : Nat → Nat → List Nat
  | 0, _ => []
  | f + 1, k =>
    if rtOut (x.act' k 1) d = 6 && mdKind (x.act' k 0) != 0 then
      k :: match neighbour k (opposite d) with
        | some j => x.chain d f j
        | none => []
    else []

/-- The edge cell at place i of the edge towards d. -/
def edgeCell (d i : Nat) : Nat :=
  match d with
  | 0 => i
  | 1 => 8 * i + 7
  | 2 => 24 + i
  | _ => 8 * i

/-- The eight rows of cell k's draining bank, converted (R101). DEDUCED (log 56). -/
def Tile.drainRows (x : Tile) (step : Word64 → Word64) (k : Nat) : List Blob × Tile :=
  (List.range 8).foldl (fun (acc : List Blob × Tile) r =>
    let q := acc.2.convert step k ((List.range 8).map fun c => (acc.2.drainBank k).getD (64 * k + 8 * r + c) 0) 255
    (acc.1 ++ [q.1], q.2)) ([], x)

/-- Rows that wait in the chain of edge place i towards d go on to the edge: those of each cell in turn, the downstream-most
first, up to one whose own bank still waits for its program, which sends its rows before it forwards any. -/
def Tile.flushChain (x : Tile) (d i : Nat) : Tile :=
  let ch := ((x.chain d 9 (edgeCell d i)).takeWhile fun k => !x.path.draining.testBit k).zipIdx
  let of_ := fun k => x.path.waiting.getD (32 * d + k) []
  let rows := ch.flatMap fun c => of_ c.1
  let hops := sumNat (ch.map fun c => c.2 * sumNat ((of_ c.1).map Blob.size))
  if rows.isEmpty then x
  else { x with path := { x.path with
    drains := x.path.drains.insert (8 * d + i) (x.path.drains.getD (8 * d + i) [] ++ rows)
    waiting := ch.foldl (fun (m : Sparse (List Blob)) c => m.erase (32 * d + c.1)) x.path.waiting
    ops := x.path.ops.modify 5 (· + hops) } }

/-- The banks of the cells of a bit map leave through their chains, in the order of R101. A cell in two chains sends its rows
on both, converted once. DEDUCED (log 56). -/
def Tile.drain (x : Tile) (step : Word64 → Word64) (mask : Nat) : Tile :=
  let y := (cellsOf mask).foldl (fun (y : Tile) k =>
    let ds := (List.range 4).filter fun d => rtOut (y.act' k 1) d == 6
    if mdKind (y.act' k 0) = 0 || ds.isEmpty then y
    else
      let q := y.drainRows step k
      { q.2 with path := { q.2.path with
        waiting := ds.foldl (fun (m : Sparse (List Blob)) d => m.insert (32 * d + k) q.1) q.2.path.waiting } }) x
  (List.range 4).foldl (fun (y : Tile) d =>
    (List.range (if d % 2 = 0 then 8 else 4)).foldl (fun (y : Tile) i => y.flushChain d i) y) y

/-- Cells with rows that have not reached the edge (R101): their draining bank is not released. -/
def Tile.undrained (x : Tile) : Nat := maskOf ((x.path.waiting.map fun e => e.1 % 32).dedup)

/-! ## Edges (R107) -/

/-- Slices that edge cell i of stream s has offered, and slice n of them. -/
def Tile.offered (x : Tile) (e s i : Nat) : Nat :=
  let d := match s with | 0 => 3 | 1 => 0 | 2 => 1 | _ => 2
  let k := edgeCell d i
  let code := rtOut (x.act' k 1) d
  if mdKind (x.act' k 0) = 0 then 0
  else if code = 6 then (x.path.drains.getD (8 * d + i) []).length
  else if code = 7 then (x.path.outs.getD k []).length
  else x.available e (x.srcOf k code)

def Tile.offer (x : Tile) (rd : Nat → Nat → Nat) (e s i n : Nat) : Blob :=
  let d := match s with | 0 => 3 | 1 => 0 | 2 => 1 | _ => 2
  let k := edgeCell d i
  let code := rtOut (x.act' k 1) d
  if code = 6 then (x.path.drains.getD (8 * d + i) []).getD n ⟨0, 0⟩
  else if code = 7 then (x.path.outs.getD k []).getD n ⟨0, 0⟩
  else x.beatOf rd e (x.srcOf k code) n

/-- Beats that a write stream can form. -/
def Tile.writable (x : Tile) (e s : Nat) : Nat :=
  if stKind (enStream e s) = 2 then
    match (List.range (edgeCells s)).map (x.offered e s) with
    | [] => 0
    | n :: ns => ns.foldl min n
  else 0

/-- The bytes of write beat n. -/
def Tile.writeBeat (x : Tile) (rd : Nat → Nat → Nat) (e s n : Nat) : List Byte :=
  let w := stBytes (enStream e s) / edgeCells s
  (List.range (edgeCells s)).flatMap fun i => toBytes w (x.offer rd e s i n).val

/-- Bytes that neighbour ports have forwarded in the entry so far, drain rows aside. -/
def Tile.hopBytes (x : Tile) (rd : Nat → Nat → Nat) (e : Nat) : Nat :=
  sumNat ((List.range 32).flatMap fun k => (List.range 4).map fun d =>
    if (neighbour k d).isNone || mdKind (x.act' k 0) = 0 then 0
    else
      let code := rtOut (x.act' k 1) d
      if code = 7 then sumNat ((x.path.outs.getD k []).map Blob.size)
      else match forwards code d with
        | none => 0
        | some i =>
          let c := x.feed 33 k i
          let n := x.available e c
          if n = 0 then 0 else n * (x.beatOf rd e c 0).size)

/-- Tile-store bytes that streams have read and written in the entry so far, scale records included. -/
def Tile.streamBytes (x : Tile) (e : Nat) : Nat :=
  sumNat ((List.range 4).map fun s =>
    let d := enStream e s
    if stKind d = 1 then
      let n := deliveredBy e d x.path.beat
      n * stBytes d + if stBlk d = 0 then 0 else ceilDiv n (stBlock d) * 16 * edgeCells s
    else x.path.wr.getD s 0 * stBytes d)

/-- Cells of the active plane for which a property of their kind and a word holds, as a bit map. -/
def cellMask (p : Nat → Bool) : Nat := maskOf ((List.range 32).filter p)

/-- Cells whose accumulators swap at a point SWAP_AT names, and cells whose program a trigger code starts.
DESIGN CHOICE (log 175). -/
def Tile.swapCells (x : Tile) (swapAt : Nat) : Nat :=
  cellMask fun k => kindMac (mdKind (x.act' k 0)) && mdSwapAt (x.act' k 0) == swapAt
def Tile.trigCells (x : Tile) (code : Nat) : List Nat :=
  (List.range 32).filter fun k => kindVec (mdKind (x.act' k 0)) && vlTrigger (x.act' k 4) == code

/-- Cells with TRIGGER 1 that have a V beat for which no trigger has been taken. -/
def Tile.vTriggers (x : Tile) (e : Nat) : List Nat :=
  (x.trigCells 1).filter fun k =>
    decide (x.path.vTrig.getD k 0 < x.available e (x.srcOf k (rtVSrc (x.act' k 1))))

end Sys2Proof.Machine
end

