-- ==== Sys2Proof/Machine/Tiles.lean ====
section
/-! DEFINITION. Machine/Tiles.lean: the sequencer of a tile (R103–R111, R113–R115): starts, entry boundaries, beats, swaps,
triggers, completion, transfer issues and their translation (R109, R114, R149, R168, R218, R223, R225). -/

namespace Sys2Proof.Machine

/-! ## Places -/

/-- Entry e of tile t's step table in its store, its 256 bits as the rows of R104 number them. -/
def State.entryAt (s : State) (t e : Nat) : Nat := s.storeNat t ((s.tile t).stepBase * 32768 + 32 * e) 32

/-- A tile moves on (R438). -/
def State.progressed (s : State) (t : Nat) : State := s.updTile t fun x => { x with progress := s.time.now }

/-- Tile-store bytes moved for tile t (R402). -/
def State.storeTraffic (s : State) (t n : Nat) : State := (s.tally (s.tile t).cuvee 7 n).count (8 * t + 3) n

/-- A read of n bytes of tile t's store, as the cells' data path asks for it. -/
def State.tileRd (s : State) (t : Nat) : Nat → Nat → Nat := fun a n => s.storeNat t a n

/-! ## Starts (R64, R103) -/

/-- Tile groups that a model occupies from its GROUP_BASE (R287, R288). -/
def Model.groupRun (m : Model) : Nat := maxNat (m.recipe.placements.map fun p => p.groups.length)

/-- The model that a tile group of cuvee c belongs to. -/
def State.groupModel (s : State) (c g : Nat) : Option Nat :=
  ((s.cuvee c).serving.models.find? fun e => decide (e.2.groupBase ≤ g) && decide (g < e.2.groupBase + e.2.groupRun)).map Prod.fst

/-- START_STEP reaches one tile: a FAULTED one does not take it. -/
def State.startTile (s : State) (t entry tag g : Nat) : State :=
  let x := s.tile t
  if x.act = .faulted then s
  else
    let m := s.groupModel x.cuvee g
    let own := fun b => match s.net.barriers.find (bits (s.num 0x30A0 x.cuvee) 11 0 + b) with
      | some r => m.isNone || m == some r.model
      | none => true
    let s := s.updTile t fun x => { x with
      act := .running, cause := 0, entry := entry, firstEntry := entry, inEntry := false, ended := false
      fetched := false, flagTaken := false
      runTag := tag, runGroup := g, path := default, cntN := [], cntM := [], rowUsed := []
      cells := { x.cells with bank0 := [], bank1 := [] }
      bars := x.bars.map fun e => if own e.1 then (e.1, { e.2 with arrived := false, waiting := false }) else e
      lastModel := m, heldStart := none, progress := s.time.now }
    let s := s.seedStreams t false
    s.daybook x.cuvee 0 1 t entry tag x.planeTag 0 0

/-- START_STEP reaches every tile of a group. -/
def State.startGroup (s : State) (c g entry tag : Nat) : State :=
  s.each (s.groupTiles c g) fun s t => s.startTile t entry tag g

/-! ## Translation ahead of an issue (R223) -/

/-- A translation for tile t comes into its parcel's unit and its micro-cache. -/
def State.fillBoth (s : State) (t va : Nat) (lf : Leaf) : State :=
  (s.fillUnit (s.tile t).cuvee (tileParcel t) (lf.key va) lf.value).fillMicro t (lf.key va) lf.value

/-- A prefetch for the page of a VA: from the unit where it holds it, else by a walk; a fault records nothing.
DESIGN CHOICE (log 61). -/
def State.prefetch (s : State) (t va : Nat) : State :=
  if (s.tile t).micro.any fun e => keyCovers e.1 va then s
  else match s.lookup t va with
    | some r => r.2
    | none =>
      let r := s.walkCounted (s.tile t).cuvee va 1
      match r.1 with
      | .ok lf => r.2.fillBoth t va lf
      | .error _ => r.2

/-- The first VA of each page that n bytes from va touch, in pages of 64 KiB, the smallest. -/
def pagesOf (va n : Nat) : List Nat :=
  (List.range (if n = 0 then 0 else (va % 65536 + n + 65535) / 65536)).map fun i => if i = 0 then va else (va / 65536 + i) * 65536

/-- The pages of issues n to n + k − 1 of a row whose entry counter is m. DESIGN CHOICE (log 61). -/
def State.prefetchRow (s : State) (t r n k m : Nat) : State :=
  if xrTarget r ≠ 0 then s
  else s.each (List.range k) fun s i =>
    s.each (pagesOf (xrAddr r (n + i) m % (2 ^ 64 : Nat)).toNat (xrBytes r)) fun s va => s.prefetch t va

/-- Issues that an entry makes of a row in all (R109): by level, for each beat, each turn of loop 0, each of loop 1, or one. -/
def rowIssues (en row : Nat) : Nat :=
  sumNat (((List.range 2).map (enXfer en)).map fun d =>
    if !xdEn d || xdRow d != row then 0
    else match xdLevel d with
      | 0 => enBeats en
      | 1 => enLoop en 1 * enLoop en 2
      | 2 => enLoop en 2
      | _ => 1)

/-- An issue of entry `en` enters the queue (R109, R114), and the pages of its row's next eight issues in the entry are asked
for (R223). DESIGN CHOICE (log 61). -/
def State.askIssue (s : State) (t e en d : Nat) : State :=
  let x := s.tile t
  let row := xdRow d
  let n := x.cntN.getD row 0
  let m := x.cntM.getD row 0
  let land := match xdLand d with | 0 => e + 1 | 1 => e + 2 | 2 => e + 4 | _ => 2048
  let s := s.updTile t fun x => { x with
    queue := x.queue ++ [⟨row, n, m, e, land, 0⟩], cntN := x.cntN.set 0 row (n + 1), rowUsed := addOnce x.rowUsed row }
  s.prefetchRow t (x.rows.getD row 0) (n + 1) (min 8 (rowIssues en row - (n + 1))) m

/-- The enabled transfer descriptors of an entry with a level and a place. -/
def duePlaces (e level : Nat) (at_ : Bool) : List Nat :=
  ((List.range 2).map (enXfer e)).filter fun d => xdEn d && xdLevel d == level && xdAt d == at_

/-- The descriptors due as beat n begins, and those due as it ends. -/
def dueAtBeat (e n : Nat) : List Nat :=
  duePlaces e 0 false ++ (if n % enLoop e 0 = 0 then duePlaces e 1 false else []) ++
    if n % (enLoop e 0 * enLoop e 1) = 0 then duePlaces e 2 false else []
def dueAfterBeat (e n : Nat) : List Nat :=
  duePlaces e 0 true ++ (if (n + 1) % enLoop e 0 = 0 then duePlaces e 1 true else []) ++
    if (n + 1) % (enLoop e 0 * enLoop e 1) = 0 then duePlaces e 2 true else []

/-! ## The data path moves -/

/-- Commit the beats that a write stream can form. DESIGN CHOICE (log 55). -/
def State.commitStream (s : State) (t en k : Nat) : State :=
  let x := s.tile t
  let n := x.path.wr.getD k 0
  let m := x.writable en k
  let rd := s.tileRd t
  let writes := (List.range (m - n)).map fun i => (beatAddr k (enStream en k) (n + i), x.writeBeat rd en k (n + i))
  (s.each writes fun s w => s.storeWrite t w.1 w.2).updTile t fun x => { x with path := { x.path with wr := x.path.wr.set 0 k m } }

/-- The cells do all they can with the beats that have come, and write streams commit, which may make room for more. Every
pass but the last moves a beat or runs a micro-operation, of at most 24 × 4,096 to a cell. -/
def State.flow (t en : Nat) : Nat → State → State
  | 0, s => s
  | f + 1, s =>
    let x := s.tile t
    let s := s.setTile t (Tile.settle (s.tileRd t) rngStep en 4194304 x)
    let s := s.each (List.range 4) fun s k => s.commitStream t en k
    if s.tile t = x then s else State.flow t en f s

/-- The data path moves as far as it can, and what was done is counted. -/
def State.pump (s : State) (t en : Nat) : State :=
  let s := State.flow t en 4194304 s
  let y := s.tile t
  let o := fun k => y.path.ops.getD k 0
  let hops := y.hopBytes (s.tileRd t) en
  let bytes := y.streamBytes en
  let moved := bytes - y.path.tsDone
  let s := s.each (List.range 5) fun s k => s.tally y.cuvee (2 + k) (o k)
  let s := (s.count (8 * t + 2) (o 0 + o 1 + o 2)).tally y.cuvee 8 (o 5 + (hops - y.path.hopDone))
  let s := s.storeTraffic t moved
  s.updTile t fun x => { x with path := { x.path with
    hopDone := hops, tsDone := bytes, ops := List.replicate 6 0 } }

/-- A draining bank whose program is over, with no trigger pending for it, leaves through its chain (R101). -/
def State.releaseDrains (s : State) (t en : Nat) : State :=
  let x := s.tile t
  let over_ := maskOf ((cellsOf x.path.draining).filter fun k =>
    (x.path.prog.find k).isNone && !(x.path.trig.any fun q => q.testBit k))
  if over_ = 0 then s
  else (s.setTile t ({ x with path := { x.path with draining := x.path.draining ^^^ over_ } }.drain rngStep over_)).pump t en

/-- V beats that no trigger has been taken for give one to each of their cells that has none pending (R97). -/
def Tile.beatTriggers (x : Tile) (en : Nat) : Tile :=
  let cells := (x.vTriggers en).filter fun k => !(x.path.trig.any fun m => m.testBit k)
  if cells.isEmpty then x
  else { x with path := { x.path with
    trig := x.path.trig ++ [maskOf cells]
    vTrig := cells.foldl (fun (v : Sparse Nat) k => v.insert k (v.getD k 0 + 1)) x.path.vTrig } }

/-- A trigger for the cells of a code. -/
def Tile.pushTrigger (x : Tile) (code : Nat) : Tile :=
  match x.trigCells code with
  | [] => x
  | ks => { x with path := { x.path with trig := x.path.trig ++ [maskOf ks] } }

/-- Some cell has a second trigger pending, so the source of it holds (R97, R114). -/
def Tile.triggerHeld (x : Tile) : Bool :=
  (List.range 32).any fun k => decide (2 ≤ (x.path.trig.filter fun m => m.testBit k).length)

/-- What the end of beat n does: swaps fall due and programs are triggered (R92, R97). -/
def Tile.beatEnds (x : Tile) (en n : Nat) : Tile :=
  let done := n + 1
  let l0 := done % enLoop en 0 = 0
  let l1 := done % (enLoop en 0 * enLoop en 1) = 0
  let last := done = x.path.beats
  let swaps := (if l0 then x.swapCells 1 else 0) ||| (if l1 then x.swapCells 2 else 0) ||| (if last then x.swapCells 3 else 0)
  let x := { x with path := { x.path with swapDue := x.path.swapDue ||| swaps } }
  let x := if l0 then x.pushTrigger 3 else x
  let x := if l1 then x.pushTrigger 4 else x
  if last then x.pushTrigger 6 else x

/-- The entry's streams have finished (R110). -/
def Tile.streamsDone (x : Tile) (en : Nat) : Bool :=
  x.path.beat == x.path.beats && x.path.swapDue == 0 && x.path.trig.isEmpty && x.path.draining == 0 &&
    x.path.prog.isEmpty && (x.vTriggers en).isEmpty && (List.range 4).all fun k => x.path.wr.getD k 0 == x.writable en k

/-- Cells of a bit map at whose array beats have arrived that it did not take as whole blocks, or without the stream that
their format needs: what the bank holds is open (R112, R124). DESIGN CHOICE (log 57). -/
def Tile.breached (x : Tile) (en mask : Nat) : List Nat :=
  (cellsOf mask).filter fun k => kindMac (mdKind (x.act' k 0)) && decide (x.path.macPos.getD k 0 < x.macReady en k)

/-- Free values in the filling banks of the cells listed. DESIGN CHOICE (log 57). -/
def State.openBanks (s : State) (t : Nat) (ks : List Nat) : State :=
  s.each ks fun s k => s.each (List.range 64) fun s q =>
    let r := s.fresh
    r.2.updTile t fun x =>
      let w := BitVec.ofNat 32 r.1
      if x.fill1.testBit k then { x with cells := { x.cells with bank1 := Sparse.set 0 x.cells.bank1 (64 * k + q) w } }
      else { x with cells := { x.cells with bank0 := Sparse.set 0 x.cells.bank0 (64 * k + q) w } }

/-- The streams of the entry have finished: its closing issues are made and the next boundary is reached. An entry marked
LAST has no next one. DESIGN CHOICE (log 176). -/
def State.finishEntry (s : State) (t en : Nat) : State :=
  let x := s.tile t
  let closing := duePlaces en 3 true
  if 16 < x.queue.length + closing.length then s
  else
    let s := s.openBanks t (x.breached en (2 ^ 32 - 1))
    let s := s.each closing fun s d => s.askIssue t x.entry en d
    let s := s.updTile t fun x => { x with
      inEntry := false, completing := x.completing ++ [(x.entry, en)], path := default
      cntM := x.rowUsed.foldl (fun (m : Sparse Nat) r => m.set 0 r (m.getD r 0 + 1)) x.cntM
      cntN := [], rowUsed := [], ended := enLast en, entry := if enLast en then x.entry else x.entry + 1 }
    s.progressed t

/-- Beats advance until one is held, by the issue queue, a swap or a trigger, or the entry is over (R105, R110). -/
def State.advance (t en : Nat) : Nat → State → State
  | 0, s => s
  | f + 1, s =>
    let s := (s.pump t en).releaseDrains t en
    let s := s.updTile t fun x => x.beatTriggers en
    let x := s.tile t
    let n := x.path.beat
    if x.path.swapDue ≠ 0 || x.triggerHeld then s
    else if n < x.path.beats then
      if !x.canTake en then s else
      let before := dueAtBeat en n
      let after := dueAfterBeat en n
      if 16 < x.queue.length + before.length + after.length then s
      else
        let s := s.each before fun s d => s.askIssue t x.entry en d
        let s := s.updTile t fun x => { x with path := { x.path with beat := n + 1 } }
        let s := s.pump t en
        let s := s.each after fun s d => s.askIssue t x.entry en d
        let s := (s.updTile t fun x => x.beatEnds en n).progressed t
        State.advance t en f s
    else if x.streamsDone en then s.finishEntry t en
    else s

/-- Tile t goes on with the entry it is in. -/
def State.runOn (s : State) (t : Nat) : State :=
  let x := s.tile t
  if x.act = .running && x.inEntry then s.advance t x.cur (x.path.beats - x.path.beat + 2) else s

/-! ## Entry boundaries (R110, R113) -/

/-- Entry e of tile t is malformed (R113 cause 1). -/
def State.entryBad (s : State) (t en : Nat) : Bool :=
  let x := s.tile t
  ((List.range 4).any (streamBad en)) ||
    ((List.range 2).any fun i =>
      let d := enXfer en i
      bits d 3 0 != 0 || (xdEn d && xrOp (x.rows.getD (xdRow d) 0) != 0 && xdLand d != 0)) ||
    ((enWaitB en || enArriveB en) && decide (s.barCount x.cuvee ≤ enBarrier en))

/-- A transfer row that entry e enables is malformed (R109, R158, R200; cause 4). A step that leaves the 16 B grid of a tile
store, and a tile that the cuvee does not have, break it too. DEDUCED (log 59). -/
def State.rowBad (s : State) (c r : Nat) : Bool :=
  rowXferBad r (s.mcCount c) || !s.permits c (xrLabel r) || (xrTarget r != 0 && bits r 67 64 != 0) ||
    (xrTarget r == 1 && decide ((s.cvTiles c).length ≤ bits r 42 32))
/-- DEDUCED (log 59). -/
def State.entryRowsBad (s : State) (t en : Nat) : Bool :=
  let x := s.tile t
  (List.range 2).any fun i => let d := enXfer en i; xdEn d && s.rowBad x.cuvee (x.rows.getD (xdRow d) 0)

/-- Every GET whose LAND limit is entry e has landed, and every PUT issued by entry e − 2 or earlier has read its source;
issues that still wait in the queue count as the packets they will be. -/
def Tile.transfersReady (x : Tile) (e : Nat) : Bool :=
  (x.out.all fun o => if o.isGet then decide (e < o.land) else o.srcRead || decide (e < o.entry + 2)) &&
    x.queue.all fun q => if xrOp (x.rows.getD q.row 0) = 0 then decide (e < q.land) else decide (e < q.entry + 2)

/-- The plane that an entry wants active. -/
def wantedPlane (en : Nat) (active : Bool) : Bool :=
  match enPlane en with | 0 => active | 1 => !active | 2 => false | _ => true

/-- The barrier wait of an entry is over: the release of the most recent arrival, or one since the wait began (R104). -/
def Tile.barrierOpen (x : Tile) (b : Nat) : Bool :=
  let r := x.bars.getD b default
  r.released && (r.arrived || r.waiting)

/-- An entry begins: plane, plane load, opening issues, streams. DESIGN CHOICE (log 177). -/
def State.beginEntry (s : State) (t en : Nat) : State :=
  let x := s.tile t
  let e := x.entry
  let want := wantedPlane en x.activeP1
  let s := s.updTile t fun x => { x with
    inEntry := true, cur := en, fetched := false, flagTaken := false, activeP1 := want, cntN := [], rowUsed := []
    path := { (default : DataPath) with beats := enBeats en, ops := List.replicate 6 0 }
    bars := if enWaitB en then x.bars.set default (enBarrier en) { x.bars.getD (enBarrier en) default with waiting := false }
      else x.bars }
  let s := if enPload en then s.updTile t fun x => x.askLoad (enPimg en) else s
  let s := s.each (duePlaces en 3 false) fun s d => s.askIssue t e en d
  -- the prefetcher looks at the next decoded entry
  let next := s.entryAt t (e + 1)
  let s := if enLast en then s else s.each ((List.range 2).map (enXfer next)) fun s d =>
    if xdEn d then
      let x := s.tile t
      s.prefetchRow t (x.rows.getD (xdRow d) 0) 0 (min 8 (rowIssues next (xdRow d)))
        (x.cntM.getD (xdRow d) 0 + b2n (((List.range 2).map (enXfer en)).any fun q => xdEn q && xdRow q == xdRow d))
    else s
  let s := (s.storeTraffic t 32).progressed t
  let s := s.updTile t fun x => x.pushTrigger 5
  s.runOn t

/-- The entry of tile t's boundary, as it was fetched there, or as the store now holds it. -/
def State.boundaryEntry (s : State) (t : Nat) : Nat := if (s.tile t).fetched then (s.tile t).cur else s.entryAt t (s.tile t).entry

/-- The fetched entry of a boundary waits for its barrier release, then consumes its flag, and then, once no load is in
progress, has the shadow plane checked and begins (R110). -/
def State.openEntry (s : State) (t en : Nat) : State :=
  let x := s.tile t
  let b := enBarrier en
  let r := x.bars.getD b default
  if enWaitB en && !x.barrierOpen b then
    if r.arrived || r.waiting then s
    else s.updTile t fun x => { x with bars := x.bars.set default b { r with waiting := true, released := false } }
  else if enWaitF en && !x.flagTaken && x.flags.getD (enFlag en) 0 = 0 then s
  else
    let s := if enWaitF en && !x.flagTaken then s.updTile t fun x => { x with
        flagTaken := true, flags := x.flags.set 0 (enFlag en) (x.flags.getD (enFlag en) 0 - 1) }
      else s
    let want := wantedPlane en x.activeP1
    if want != x.activeP1 && x.load.isSome then s
    else if want != x.activeP1 && x.cells.planeMalformed want then s.faultTile t 2
    else if 16 < x.queue.length + (duePlaces en 3 false).length then s
    else s.beginEntry t en

/-- The next entry of tile t, once its transfers allow it (R110): it is fetched once, and checked as it is fetched. -/
def State.nextEntry (s : State) (t : Nat) : State :=
  let en := s.boundaryEntry t
  if s.entryBad t en then s.faultTile t 1
  else if (s.tile t).entry = 1023 && !enLast en then s.faultTile t 3
  else if s.entryRowsBad t en then s.faultTile t 4
  else (s.updTile t fun x => { x with fetched := true, cur := en }).openEntry t en

/-- ENTRY_BOUNDARY: tile t stands at a boundary. A quiesce or a pre-emption holds it; a translation fault stops it once
every answer is in (R225). -/
def State.entryBoundary (s : State) (t : Nat) : State :=
  let x := s.tile t
  if x.act ≠ .running || x.inEntry || (x.ended && x.xfault.isNone) || x.cuvee = 0 then s
  else
    let parked := match (s.cuvee x.cuvee).quiesce with
      | some q => q.begun
      | none => false
    if parked || x.preempted then s.updTile t Tile.hold
    else match x.xfault with
      | some f => if x.out.isEmpty && x.queue.isEmpty then s.faultTile t 5 2 f.va f.kind else s
      | none => if x.transfersReady x.entry then s.nextEntry t else s

/-- ACCUMULATOR_SWAP (R101): the banks whose swap is due change roles once the draining ones are released. -/
def State.accumulatorSwap (s : State) (t : Nat) : State :=
  let x := s.tile t
  let m := x.path.swapDue
  if x.act ≠ .running || !x.inEntry || m = 0 || (x.path.draining ||| x.undrained) &&& m ≠ 0 then s
  else
    let en := x.cur
    let s := s.openBanks t (x.breached en m)
    let x := (s.tile t).swapBanks m
    let later := maskOf ((x.trigCells 2).filter fun k => m.testBit k)
    let x := { x with path := { x.path with
      swapDue := 0, draining := x.path.draining ||| later
      trig := if later = 0 then x.path.trig else x.path.trig ++ [later] } }
    ((s.setTile t (x.drain rngStep (m &&& (m ^^^ later)))).progressed t).runOn t

/-- VECTOR_TRIGGER (R97, R101): the cells of the oldest pending trigger whose program is not running begin it. Programs that a
swap triggered drain their banks when they are over. -/
def State.vectorTrigger (s : State) (t : Nat) : State :=
  let x := s.tile t
  match x.path.trig with
  | [] => s
  | m :: rest =>
    if x.act ≠ .running || !x.inEntry then s
    else
      let free := (cellsOf m).filter fun k => (x.path.prog.find k).isNone
      let left := m ^^^ maskOf free
      let en := x.cur
      let s := s.updTile t fun x => { x with path := { x.path with
        trig := if left = 0 then rest else left :: rest
        prog := free.foldl (fun (p : Sparse Nat) k => p.insert k 0) x.path.prog } }
      (((s.pump t en).releaseDrains t en).progressed t).runOn t

/-! ## Completion (R110, R177, R178) -/

/-- Every GET that entry e issued has landed and every PUT is acknowledged. -/
def Tile.entryDone (x : Tile) (e : Nat) : Bool :=
  (x.out.all fun o => o.entry != e) && x.queue.all fun q => q.entry != e

/-- A row's work is done: END in the daybook, 2 where it was late (R412). -/
def State.workDone (s : State) (w : Watch) : State :=
  let r := w.row
  let s := s.daybook r.seg 1 0 r.idx (rowAction r.row) (rowTag r.row) (r.dueE % 2 ^ 32) r.deferred (if w.late then 2 else 0)
  { s with alm := { s.alm with watches := s.alm.watches.filter fun v => v.id != w.id } }

/-- The work of a watch stands before its tiles run it, or between two parts of it: a held start, a switch in progress, a
step that is pre-empted (R64, R299, R300). -/
def State.startHeld (s : State) (c : Nat) (w : Watch) : Bool :=
  (s.alm.heldStarts.any fun h => h.2.2.2 == w.id) ||
    ((s.cuvee c).serving.switching.any fun h => h.2.watch == w.id) ||
    ((s.cuvee c).serving.preempts.any fun h => h.2.contains w.tgroup)

/-- Tile work of cuvee c whose group has no tile running any more is done. -/
def State.groupsDone (s : State) (c : Nat) : State :=
  s.each (s.alm.watches.filter fun w => w.cuvee == c && w.tileWork) fun s w =>
    if s.groupBusy c w.tgroup || s.startHeld c w then s else s.workDone w

/-- LOAD_PLANE rows of cuvee c whose group has no plane load left are done. -/
def State.loadsDone (s : State) (c : Nat) : State :=
  s.each (s.alm.watches.filter fun w => w.cuvee == c && rowAction w.row.row == 2) fun s w =>
    let waits := fun t =>
      let x := s.tile t
      x.load.isSome || x.loadNext.isSome || x.loadHeld.isSome
    if (s.groupTiles c w.tgroup).any waits then s else s.workDone w

/-- The run of tile t ends: IDLE, END in the daybook, watch records (R103, R412, R423). -/
def State.endRun (s : State) (t : Nat) : State :=
  let x := s.tile t
  let s := s.daybook x.cuvee 1 1 t x.entry x.runTag x.planeTag 0 0
  let s := s.watchEnd t
  let s := s.updTile t fun x => { x with act := .idle, ended := false }
  s.groupsDone x.cuvee

/-- Tile t arrives at a barrier (R177). One outside its TGROUP is discarded and counted. -/
def State.arriveBarrier (s : State) (t b : Nat) : State :=
  let x := s.tile t
  let c := x.cuvee
  let est := s.barBase c + b
  let member := match s.net.barriers.find est with
    | some r => r.cuvee == c && (s.groupTiles c r.tgroup).contains t
    | none => false
  if !member then s.updCuvee c fun v => { v with barErrors := (v.barErrors + 1) % 2 ^ 32 }
  else
    let r := x.bars.getD b default
    let s := s.updTile t fun x => { x with bars := x.bars.set default b { r with
      gens := r.gens ++ [r.next], lastGen := r.next, next := 1 - r.next, arrived := true, released := false } }
    s.tendrilSend (s.tileNode t) flitBarArrive (payArrive est r.next 1)

/-- ENTRY_COMPLETE: the oldest entry that awaits its answers signals (R110). A third unreleased arrival waits (R177). -/
def State.entryComplete (s : State) (t : Nat) : State :=
  let x := s.tile t
  match x.completing with
  | [] => s
  | (e, en) :: rest =>
    if !x.entryDone e || (enArriveB en && decide (2 ≤ (x.bars.getD (enBarrier en) default).gens.length)) ||
      (x.xfault.isSome && decide (x.xfaultAt ≤ e)) then s
    else
      let s := (s.updTile t fun x => { x with completing := rest }).progressed t
      let s := if enArriveB en then s.arriveBarrier t (enBarrier en) else s
      let s := if enSetF en then s.tendrilSend (s.tileNode t) flitFlagSet (payFlag x.cuvee (enFlag en) 1) else s
      if enLast en && (x.act == .running || x.act == .held) then s.endRun t else s

/-! ## Transfer issues (R109, R114, R149, R168) -/

/-- The virtual channel of a label (R199). -/
def State.labelVc (s : State) (l : Nat) : Nat := bits (s.num 0x5010 (l + 1)) 62 61

/-- The lowest tag that no packet of the kind has in use. DESIGN CHOICE (log 62). -/
def Tile.freeTag (x : Tile) (isGet : Bool) : Nat :=
  ((List.range 256).find? fun k => !(x.out.any fun o => o.isGet == isGet && o.tag == k)).getD 0

/-- Packets of a kind in flight, and those towards one tile. -/
def Tile.inFlight (x : Tile) (isGet : Bool) : Nat := (x.out.filter fun o => o.isGet == isGet).length
def Tile.towards (x : Tile) (d : Nat) : Nat :=
  (x.out.filter fun o => (o.mgroup.isNone && o.dst == d) || o.targets.any fun e => e.1 == d).length

/-- A packet of tile t's issue, before its destination is known: n bytes from remote byte `addr`. -/
def State.issuePacket (s : State) (t r addr n local_ : Nat) (tag label : Nat) (last : Bool) : Packet :=
  let isGet := xrOp r = 0
  let add := xrOp r = 2 || xrOp r = 3
  let off := addr % 32
  { (default : Packet) with
    ty := if isGet then 0 else if xrTarget r = 2 then 7 else xrOp r + 1
    vc := s.labelVc label, label := label, flits := if isGet then 0 else ceilDiv (off + n) 32, bytes := n, offset := off
    cuvee := (s.tile t).cuvee, src := t, tag := tag, last := last, combine := add, ncomb := b2n add
    data := if isGet then [] else toBytes n (s.storeNat t local_ n) }

/-- The outcome of an attempt to inject one packet. -/
inductive Sent where
  | sent | waits | faulted (kind : Nat)
deriving DecidableEq, Repr, Inhabited

/-- Note an injected packet as outstanding; a PUT has read its source, and passes the statistics unit. -/
def State.noteSent (s : State) (t : Nat) (q : Issue) (x : Xfer) (bs : List Byte) : State :=
  let s := s.updTile t fun y => { y with out := y.out ++ [x] }
  let s := if x.isGet then s else (s.storeTraffic t x.len).watchPacket t q.row (q.sent == 0) bs
  if x.targets.isEmpty && x.mgroup.isSome then s.updTile t fun y => { y with out := y.out.erase x } else s

/-- TARGET 0: translate and send to parcel memory, a host port or a link port. -/
def State.sendVa (s : State) (t : Nat) (q : Issue) (r va n local_ : Nat) (last : Bool) : Sent × State :=
  let c := (s.tile t).cuvee
  let isGet := xrOp r == 0
  match s.lookup t va with
  | none =>
    if s.mem.walks.any fun w => w.2.2.1 == t then (.waits, s)
    else
      let id := s.mem.nextWalk
      (.waits, { s with mem := { s.mem with walks := s.mem.walks ++ [(id, c, t, va, !isGet, q)], nextWalk := id + 1 } })
  | some (lf, s) =>
    let tag := (s.tile t).freeTag isGet
    let out : Xfer := ⟨tag, isGet, q.entry, q.land, q.row, 0, local_, n, va, q.n, !isGet, none, [], []⟩
    match s.resolve c va n (xrLabel r) (!isGet) lf with
    | .fault k => (.faulted k, s.countXFault c)
    | .mem k off label policy =>
      let phys := s.muster.pcMap.getD k 0
      let dst := 2048 + pcParcel k
      let p := { s.issuePacket t r off n local_ tag label last with
        dst := dst, addr := phys % 32 * 2 ^ 32 + off, cache := policy }
      (.sent, (s.inject p).noteSent t q { out with dst := dst } p.data)
    | .host w off _ label =>
      let b := s.boundFn c
      let dst := 4 * 2048 + portNo b.1
      let p := { s.issuePacket t r off n local_ tag label last with
        dst := dst, addr := w * 2 ^ 42 + off }
      (.sent, (s.inject p).noteSent t q { out with dst := dst } p.data)
    | .link w off label =>
      let dst := 5 * 2048 + s.windowPort c w
      let p := { s.issuePacket t r off n local_ tag label last with
        dst := dst, addr := w * 2 ^ 40 + off }
      (.sent, (s.inject p).noteSent t q { out with dst := dst } p.data)

/-- TARGET 1: a tile of the cuvee. -/
def State.sendTile (s : State) (t : Nat) (q : Issue) (r off n local_ : Nat) (last : Bool) : Sent × State :=
  let x := s.tile t
  let isGet := xrOp r == 0
  let dst := (s.cvTiles x.cuvee).getD (bits r 42 32) t
  if 4 ≤ x.towards dst then (.waits, s)
  else
    let tag := x.freeTag isGet
    let p := { s.issuePacket t r off n local_ tag (xrLabel r) last with dst := dst, addr := off }
    (.sent, (s.inject p).noteSent t q
      ⟨tag, isGet, q.entry, q.land, q.row, dst, local_, n, 0, q.n, !isGet, none, [], []⟩ p.data)

/-- The branch that a target's copy takes at the first router of a source (R159): its tile port there, or the uplink.
DEDUCED (log 185). -/
def firstBranch (src dst : Nat) : Nat := if tileCluster src = tileCluster dst then dst % 16 else 16

/-- Packets of group g that still hold a buffer of a branch at the first router of tile t: those sent from its cluster with
a copy for that branch not yet landed. DEDUCED (log 185). -/
def State.branchHeld (s : State) (t g b : Nat) : Nat :=
  ((s.net.flight.filter fun p => p.ty == 7 && p.mgroup == g && p.try_ == 0 && tileCluster p.src == tileCluster t &&
    firstBranch p.src p.dst == b).map Packet.serial).dedup.length

/-- A source holds a credit for every reserved branch that its packet takes at its first router (R159). -/
def State.branchCredit (s : State) (t g : Nat) (e : McGroup) (ts : List Nat) : Bool :=
  let mask := maskOf ((e.tree.filter fun r => r.1 == clusterPlace (tileCluster t)).flatMap fun r => setBits r.2 17)
  (ts.map (firstBranch t)).all fun b => !mask.testBit b || decide (s.branchHeld t g b < e.depth)

/-- TARGET 2: a multicast group. The packet is injected once; routers copy it to each target (R158). A scheduled group
waits for its reserved buffers. DEDUCED (log 60). -/
def State.sendGroup (s : State) (t : Nat) (q : Issue) (r off n local_ : Nat) (last : Bool) : Sent × State :=
  let x := s.tile t
  let g := s.mcBase x.cuvee + bits r 41 32
  let e := s.net.mcast.getD g default
  let ts := if e.cuvee = x.cuvee then (s.groupTiles x.cuvee e.tgroup).filter (· != t) else []
  if (e.sched && !s.branchCredit t g e ts) || ts.any fun d => decide (4 ≤ x.towards d) then (.waits, s)
  else
    let tag := x.freeTag false
    let p := { s.issuePacket t r off n local_ tag (xrLabel r) last with mgroup := g, addr := off }
    let q' := s.stamped p
    let s := match ts with
      | [] => s
      | d :: ds => (s.inject { p with dst := d }).each ds fun s d => s.copyPacket { q' with dst := d }
    (.sent, s.noteSent t q
      ⟨tag, false, q.entry, q.land, q.row, 0, local_, n, 0, q.n, e.sched, some g, ts.map fun d => (d, 0), []⟩ p.data)

/-- The head issue of tile t sends packets while its credits and translations allow. -/
def State.sendIssue (t : Nat) : Nat → State → State
  | 0, s => s
  | f + 1, s =>
    let x := s.tile t
    match x.queue with
    | [] => s
    | q :: rest =>
      let r := x.rows.getD q.row 0
      let total := xrBytes r
      if x.xfault.isSome || total ≤ q.sent then s.updTile t fun x => { x with queue := rest }
      else if 192 ≤ x.inFlight (xrOp r == 0) then s
      else
        let base := xrAddr r q.n q.m
        let addr := if xrTarget r = 0 then ((base % (2 ^ 64 : Nat)).toNat + q.sent) % 2 ^ 64
          else ((base % (2 ^ 20 : Nat)).toNat + q.sent) % 2 ^ 20
        let local_ := ((xrLocal r q.n % (2 ^ 20 : Nat)).toNat + q.sent) % 2 ^ 20
        let n := min (total - q.sent) (256 - addr % 256)
        let last := decide (total ≤ q.sent + n)
        let out := match xrTarget r with
          | 0 => s.sendVa t q r addr n local_ last
          | 1 => s.sendTile t q r addr n local_ last
          | _ => s.sendGroup t q r addr n local_ last
        match out.1 with
        | .waits => out.2
        | .faulted k => out.2.updTile t fun x => { x with xfault := some ⟨k, addr⟩, xfaultAt := q.entry, queue := rest }
        | .sent =>
          let s := out.2.updTile t fun x => { x with
            queue := if last then rest else { q with sent := q.sent + n } :: rest }
          if last then s else State.sendIssue t f s

/-- A cuvee's tiles may inject packets: it runs or is paused, and no cut stands (R171, R259). DEDUCED (log 197). -/
def State.mayInject (s : State) (c : Nat) : Bool :=
  (s.cuvee c).live && match (s.cuvee c).quiesce with
    | some q => q.cutAt.isNone
    | none => true

/-- TRANSFER_ISSUE: the issue at the head of tile t's queue is injected, as far as it can be; beats that waited for room go
on. A tile stopped by a cut injects nothing (R171). -/
def State.transferIssue (s : State) (t : Nat) : State :=
  let x := s.tile t
  match x.queue with
  | [] => s
  | q :: _ =>
    if x.act = .faulted || !s.mayInject x.cuvee then s
    else (State.sendIssue t (xrBytes (x.rows.getD q.row 0) / 64 + 2) s).runOn t

/-- TRANSLATION_WALK_DONE (R218–R221, R225): the walk fills the unit and the micro-cache, or leaves its fault to the tile. One
whose tile has changed hands comes to nothing (R219). -/
def State.walkDone (s : State) (id : Nat) (poisoned : Bool) : State :=
  match s.mem.walks.find? fun w => w.1 == id with
  | none => s
  | some (_, c, t, va, _, q) =>
    let s := { s with mem := { s.mem with walks := s.mem.walks.filter fun w => w.1 != id } }
    if (s.tile t).cuvee ≠ c then s
    else
      let r := s.walkCounted c va 0
      let fault := fun (s : State) (k : Nat) =>
        let s := s.countXFault c
        if (s.tile t).queue.head?.map Issue.entry = some q.entry then
          s.updTile t fun x => { x with xfault := some ⟨k, va⟩, xfaultAt := q.entry, queue := [] }
        else s
      if poisoned then fault r.2 7
      else match r.1 with
        | .error k => fault r.2 k
        | .ok lf => r.2.fillBoth t va lf

/-- DESIGN CHOICE (log 3). -/
def execEntryBoundary (t : Nat) (s : State) : Result := .next (s.entryBoundary t)
def execEntryComplete (t : Nat) (s : State) : Result := .next (s.entryComplete t)
def execPlaneLoadDone (t : Nat) (s : State) : Result :=
  let s := s.planeLoadDone t
  .next (s.loadsDone (s.tile t).cuvee)
def execAccumulatorSwap (t : Nat) (s : State) : Result := .next (s.accumulatorSwap t)
def execVectorTrigger (t : Nat) (s : State) : Result := .next (s.vectorTrigger t)
def execTransferIssue (t : Nat) (s : State) : Result := .next (s.transferIssue t)
def execTranslationWalkDone (id : Nat) (poisoned : Bool) (s : State) : Result := .next (s.walkDone id poisoned)

end Sys2Proof.Machine
end

