-- ==== Sys2Proof/Machine/Trellis.lean ====
section
/-! DEFINITION. Machine/Trellis.lean: packets at their destinations (R146–R151, R187, R191, R201), combining (R164–R166),
multicast and its resends (R158–R163), and the errors of R170. -/

namespace Sys2Proof.Machine

/-! ## Order and form -/

/-- A packet of p's source, destination and VC that was injected before p is still under way, or waits in a router for a
partner (R150, R164). A sum counts as the packet whose header it carries. DEDUCED (log 182). -/
def State.overtakes (s : State) (p : Packet) : Bool :=
  let older := fun (q : Packet) => q.src == p.src && q.dst == p.dst && q.vc == p.vc && decide (q.serial < p.serial)
  s.net.flight.any older || s.net.combines.any fun x => !x.sent && older x.pkt

/-- The packet is in flight and may arrive: in the order of injection (R150), where the shared resources on its path and, for
a request, at its endpoint have an entry for it (R204); else it waits. One for a host port waits there while the
function's Bus Master Enable is 0 (R504). DEDUCED (log 182, 191). -/
def State.arrives (s : State) (p : Packet) : Bool :=
  let request := p.ty == 0 || p.ty == 2 || p.ty == 3 || p.ty == 4
  let served := match endpointResource p.dst with
    | some r => !request || s.entryFree p.cuvee r p.label
    | none => true
  served && s.pathOpen p && (epKind p.dst != 4 || (s.host (portOf (p.dst % 2))).busMaster.contains (s.boundFn p.cuvee).2) &&
    s.inFlight p && !s.overtakes p

/-- A malformed packet is dropped at the first router (R146). -/
def State.dropMalformed (s : State) (p : Packet) : State := ((s.arrive p).netError 2).answer p 6 5 []

/-- What the code of the flits found (R170): `none` for an uncorrectable header, which is estate-fatal; whether the data
arrives poisoned. A packet without data flits has no data error. DEDUCED (log 69). -/
def State.flitCheck (s : State) (v : FlitVerdict) (p : Packet) : Option (Bool × State) :=
  match v with
  | .clean => some (false, s)
  | .corrected => some (false, (s.netError 0).logCorrected (2 ^ 17 + p.dst) p.dst 2 1)
  | .dataError => if p.flits = 0 then some (false, s) else some (true, s.netError 1)
  | .headerError => none

/-- A packet's flits at its destination (R170): an uncorrectable header stops the estate; else `go` with whether the payload
is poisoned. -/
def State.checked (s : State) (p : Packet) (v : FlitVerdict) (go : Bool → State → State) : State :=
  match s.flitCheck v p with
  | none => s.estateStop 1
  | some (bad, s) => go (bad || p.status == 1) s

/-- A packet of a type reaches its destination: a malformed one is dropped (R146), any other leaves the trellis. -/
def State.delivered (s : State) (ty : Nat) (p : Packet) (v : FlitVerdict) (go : Bool → State → State) : State :=
  if p.ty ≠ ty || !s.arrives p then s
  else if !packetOk p then s.dropMalformed p
  else (s.arrive p).checked p v go

/-! ## Errors of a tile's own storage (R191, R433, R436) -/

/-- Corrected errors of a tile's store: counted, and past TILE_CORR in 24 h it is retired. -/
def State.tileCorrected (s : State) (t n : Nat) : State :=
  let s := s.updTile t fun x => { x with corrected := x.corrected + n, recent := lastDay x.recent s.time.now n }
  let s := s.logCorrected (2 ^ 18 + t) t 4 n
  if (s.val 0xB012 1).get 0 2 ≤ (s.tile t).recent.length then s.retireTile t else s

/-- A read of a tile store met an error: STATUS, and the tile stops for an uncorrectable one (R113 cause 6). -/
def State.tileEcc (s : State) (t : Nat) (v : EccVerdict) : Nat × State :=
  match v with
  | .clean => (0, s)
  | .corrected n => (0, s.tileCorrected t (max 1 n))
  | .uncorrectable => (1, (s.retireTile t).faultTile t 6)
  | .onDie _ => (0, s)

/-! ## READ and READ_DATA -/

/-- The logical pseudo-channel that a parcel-memory address names (R148); none for bytes beyond what it holds (R183).
DEDUCED (log 9). -/
def State.pcAt (s : State) (p : Packet) : Option Nat :=
  if pcBytes < bits p.addr 31 0 + p.bytes then none else
  let phys := 32 * (p.dst % 16) + bits p.addr 36 32
  (s.muster.pcMap.find? fun e => e.2 == phys).map Prod.fst

/-- The crossbar's owner check (R187). DEDUCED (log 9). -/
def State.ownerOk (s : State) (c k : Nat) : Bool :=
  c == 0 || ((s.pc k).owner == some c)

/-- TRELLIS_READ (R149): the answer of a tile store or of parcel memory; a host port or a link port goes on with it. The
other endpoints give no meaning to a READ. -/
def State.trellisRead (s : State) (p : Packet) (v : FlitVerdict) (ecc : EccVerdict) (latency : Nat) : State :=
  s.delivered 0 p v fun _ s =>
    match epKind p.dst with
    | 0 =>
      let t := p.dst
      let bs := toBytes p.bytes (s.storeNat t (p.addr % 2 ^ 20) p.bytes)
      let r := (s.storeTraffic t p.bytes).tileEcc t ecc
      r.2.answer p 1 r.1 bs
    | 1 =>
      match s.pcAt p with
      | none => s.answer p 6 2 []
      | some k =>
        if !s.ownerOk p.cuvee k then s.answer p 6 2 []
        else
          let off := bits p.addr 31 0
          let r := s.eccRead k off p.bytes ecc
          let m := r.2.memRead k off p.bytes p.cuvee p.label p.cache
          (m.2.2.latencySample (p.dst % 16) p.label latency).answer p 1 r.1 m.1
    | 4 =>
      if s.hostShut p.cuvee then s.answer p 6 4 [] else
      let port := portOf (p.dst % 2)
      let tag := (s.host port).nextTag
      let w := s.hostWindowOf p
      (s.updHost port fun h => { h with
        reads := h.reads ++ [⟨tag, p.cuvee, p, s.hostAddr p, hwNoSnoop w, hwRelaxed w, s.teeOf p.cuvee⟩]
        nextTag := (tag + 1) % 65536 }).hostTraffic p.cuvee p.bytes
    | 5 => s.linkPacket (p.dst % 16) p
    | _ => s.answer p 6 5 []

/-- Poisoned data is consumed by tile t (R191, R435): its device VA, or 0. -/
def State.poisonConsumed (s : State) (t va : Nat) : State :=
  let x := s.tile t
  if x.cuvee = 0 then s else s.containedFault x.cuvee 3 1 x.ctile va 0 0

/-- READ_DATA reaches the tile that asked: it lands (R110), poisoned data is a contained fault (R170, R191). -/
def State.readData (s : State) (p : Packet) (v : FlitVerdict) : State :=
  s.delivered 1 p v fun bad s =>
    match (s.tile p.dst).out.find? fun o => o.isGet && o.tag == p.tag with
    | none => s
    | some o =>
      let s := (s.storeWrite p.dst o.local_ p.data).storeTraffic p.dst p.bytes
      let s := s.updTile p.dst fun x => { x with out := x.out.erase o }
      let s := s.progressed p.dst
      if bad then s.poisonConsumed p.dst o.va else s

/-! ## WRITE, WRITE_ADD and ACK -/

/-- A write lands at a check unit of the estate (R148 kind 6, R426). -/
def State.checkWrite (s : State) (addr value : Nat) : State :=
  let n := bits addr 11 6
  match addr % 64 with
  | 0x00 => s.checkConfig n value
  | 0x08 => s.checkFold n value
  | 0x10 => s.checkStart n
  | 0x14 => s.checkFeed n value 1
  | 0x16 => s.checkFeed n value 2
  | 0x18 => s.checkFeed n value 4
  | _ => s

/-- TRELLIS_WRITE (R151): a WRITE lands and is acknowledged once visible. -/
def State.trellisWrite (s : State) (p : Packet) (v : FlitVerdict) : State :=
  s.delivered 2 p v fun bad s =>
    match epKind p.dst with
    | 0 =>
      let s := ((s.storeWrite p.dst (p.addr % 2 ^ 20) p.data).storeTraffic p.dst p.bytes).answer p 5 0 []
      let s := s.progressed p.dst
      if bad then s.poisonConsumed p.dst 0 else s
    | 1 =>
      match s.pcAt p with
      | none => s.answer p 6 2 []
      | some k =>
        if !s.ownerOk p.cuvee k then s.answer p 6 2 []
        else
          let off := bits p.addr 31 0
          let s := s.memWrite k off p.data p.cuvee p.label p.cache
          let s := if bad then
              s.markPoison k (sectorsOf off p.bytes)
            else s
          s.answer p 5 0 []
    | 4 =>
      if s.hostShut p.cuvee then s.answer p 6 4 [] else
      let b := s.boundFn p.cuvee
      ((s.hostWrite (portOf (p.dst % 2)) b.2 (s.hostAddr p) p.data (hwNoSnoop (s.hostWindowOf p))
        (s.teeOf p.cuvee)).hostTraffic p.cuvee p.bytes).answer p 5 0 []
    | 5 => s.linkPacket (p.dst % 16) p
    | 6 => if epUnit p.dst = 4 then (s.checkWrite p.addr (ofBytes p.data)).answer p 5 0 [] else s.answer p 6 5 []
    | _ => s.answer p 6 5 []

/-- Two WRITE_ADD packets may meet (R164). -/
def combines (p q : Packet) : Bool :=
  p.combine && q.combine && p.ty == q.ty && p.cuvee == q.cuvee && p.vc == q.vc && p.dst == q.dst && p.addr == q.addr &&
    p.offset == q.offset && p.bytes == q.bytes

/-- Combine records of a router: 64 in a cluster router, 128 in a parcel crossbar (R164). Routers 0–143 are the physical
clusters, 144–159 the crossbars. -/
def recordCount (router : Nat) : Nat := if router < 144 then 64 else 128

/-- The physical cluster of a tile endpoint. -/
def State.endpointCluster (s : State) (e : Nat) : Option Nat := if epKind e = 0 then some (s.tileDomain (epUnit e)) else none

/-- The cluster routers and crossbars on a packet's way (R143, R144). -/
def State.routersOf (s : State) (p : Packet) : List Nat :=
  let a := s.endpointCluster p.src
  let b := s.endpointCluster p.dst
  if a == b && a.isSome then a.toList
  else a.toList ++ (([endpointParcel p.src, endpointParcel p.dst].filterMap id).dedup.map (144 + ·)) ++ b.toList

/-- Combine records that router r has in use: one for each combination (R165). -/
def State.recordsUsed (s : State) (r : Nat) : Nat :=
  (s.net.combines.filter fun x => x.router == r && decide (1 < x.contribs.length)).length

/-- A packet joins the one that waits in a record: the sums go on as one, and its SRC and TAG are kept (R164, R165). -/
def Combine.join (x : Combine) (p : Packet) : Combine :=
  { x with
    pkt := { x.pkt with data := addPayload (p.ty == 4) x.pkt.data p.data, ncomb := x.pkt.ncomb + p.ncomb }
    contribs := x.contribs ++ [(p.src, p.tag)] }

/-- While a router's adders are replayed, only suspects' packets combine there (R451). -/
def State.adderServes (s : State) (r c : Nat) : Bool :=
  match s.faults.suspects.find (engineKey ⟨2, r⟩) with
  | some (_, _, sus) => sus.contains c
  | none => true

/-- A WRITE_ADD enters the combining buffer of a router on its way (R164, R165): it meets a partner that waits there, or
waits for one. With no hold, no free record or a full one it goes on as it is. -/
def State.combineAt (s : State) (r : Nat) (p : Packet) : State :=
  if s.net.noCombine.contains r || !s.adderServes r p.cuvee || !p.combine || p.held.contains r || s.num 0x30A3 1 = 0 || !(s.routersOf p).contains r ||
    159 < r then s
  else
    let here := s.net.combines.filter fun x => x.router == r
    match here.find? fun x => !x.sent && combines x.pkt p with
    | some x =>
      if 16 ≤ x.contribs.length || (x.contribs.length == 1 && decide (recordCount r ≤ s.recordsUsed r)) then s
      else
        let s := s.arrive p
        { s with net := { s.net with combines := s.net.combines.map fun y =>
            if y.router = r && y.slot = x.slot then y.join p else y } }
    | none =>
      let slot := ((List.range (here.length + 1)).find? fun i => !(here.any fun x => x.slot == i)).getD 0
      let s := s.arrive p
      { s with net := { s.net with combines := s.net.combines ++ [⟨r, slot, p, [(p.src, p.tag)], false⟩] } }

/-- REDUCTION_HOLD_EXPIRY (R164): the hold is over and the packet goes on: a sum keeps its record until its ACK returns, a
lone packet has none. -/
def State.holdExpiry (s : State) (r slot : Nat) : State :=
  match s.net.combines.find? fun x => x.router == r && x.slot == slot && !x.sent with
  | none => s
  | some x =>
    let p := { x.pkt with held := r :: x.pkt.held }
    let rest := if x.contribs.length ≤ 1 then s.net.combines.filter fun y => !(y.router == r && y.slot == slot)
      else s.net.combines.map fun y => if y.router = r && y.slot = slot then { y with pkt := p, sent := true } else y
    ({ s with net := { s.net with combines := rest } } : State).copyPacket p

/-- A WRITE_ADD lands (R166): its payload is added into the tile store, and acknowledged (R151). DEDUCED (log 67). -/
def State.landAdd (s : State) (p : Packet) (bad : Bool) : State :=
  if epKind p.dst ≠ 0 then (if epKind p.dst = 5 then s.linkPacket (p.dst % 16) p else s.answer p 6 5 [])
  else
    let off := p.addr % 2 ^ 20
    let old := toBytes p.bytes (s.storeNat p.dst off p.bytes)
    let s := (s.storeWrite p.dst off (addPayload (p.ty == 4) old p.data)).storeTraffic p.dst (2 * p.bytes)
    let s := (s.answer p 5 0 []).progressed p.dst
    if bad then s.poisonConsumed p.dst 0 else s

/-- A WRITE_ADD's OFFSET and BYTES are whole elements (R166). -/
def addAligned (p : Packet) : Bool :=
  let n := if p.ty = 3 then 4 else 2
  p.offset % n == 0 && p.bytes % n == 0

/-- A WRITE_ADD at a router, or at its destination. DEDUCED (log 67). -/
def State.writeAdd (s : State) (ty : Nat) (router : Option Nat) (p : Packet) (v : FlitVerdict) : State :=
  if p.ty ≠ ty || !s.inFlight p then s
  else if !packetOk p || !addAligned p then s.dropMalformed p
  else match router with
    | some r => s.combineAt r p
    | none => s.delivered ty p v fun bad s => s.landAdd p bad

/-! ## Outcomes at the source (R110, R161–R163, R225) -/

/-- The transfer issue that an outstanding packet belongs to. -/
def sameIssue (a b : Xfer) : Bool := a.isGet == b.isGet && a.entry == b.entry && a.row == b.row && a.n == b.n

/-- A multicast packet whose targets have all answered or been given up is done; when the issue is over, the targets given
up are recorded (R162). -/
def State.mcastDone (s : State) (t : Nat) (o : Xfer) : State :=
  let x := s.tile t
  let mates := x.out.filter (sameIssue o)
  if mates.any (fun m => !m.targets.isEmpty) || x.queue.any fun q => q.entry == o.entry && q.row == o.row && q.n == o.n then
    if o.missing.isEmpty then s.updTile t fun x => { x with out := x.out.erase o } else s
  else
    let missing := (mates.flatMap Xfer.missing).dedup
    let s := s.updTile t fun x => { x with out := x.out.filter fun m => !sameIssue o m }
    if missing.isEmpty then s
    else
      let c := x.cuvee
      let rel := missing.map fun d => (s.tile d).ctile
      let detail := packList 2 ((rel ++ List.replicate 16 0xFFFF).take 16)
      let g := (o.mgroup.getD 0) - s.mcBase c
      let s := s.plainFault c 5 1 x.ctile (field g 10 32 + missing.length % 2 ^ 32) o.row detail
      let s := s.daybookPair c 2 detail
      s.updCuvee c fun v => { v with mcIncomplete := (v.mcIncomplete + 1) % 2 ^ 32 }

/-- A target of a multicast packet has acknowledged (`given` false) or been given up. DEDUCED (log 64). -/
def State.targetOver (s : State) (t tag target : Nat) (given : Bool) : State :=
  match (s.tile t).out.find? fun o => !o.isGet && o.tag == tag && o.mgroup.isSome with
  | none => s
  | some o =>
    let o' := { o with
      targets := o.targets.filter fun e => e.1 != target
      missing := if given then o.missing ++ [target] else o.missing }
    let s := s.updTile t fun x => { x with out := x.out.map fun y => if y = o then o' else y }
    if o'.targets.isEmpty then s.mcastDone t { o' with srcRead := o'.srcRead } else s

/-- An ACK reaches tile t for its packet with a tag. -/
def State.ackTile (s : State) (t tag from_ : Nat) : State :=
  match (s.tile t).out.find? fun o => !o.isGet && o.tag == tag with
  | none => s
  | some o =>
    let s := s.progressed t
    if o.mgroup.isSome then s.targetOver t tag from_ false
    else s.updTile t fun x => { x with out := x.out.erase o }

/-- The first answers to a multicast packet of tile t that are in flight (R163): ACKs of copies that no router has resent. -/
def State.ackMates (s : State) (t tag vc : Nat) : List Packet :=
  s.net.flight.filter fun q => q.ty == 5 && q.dst == t && q.tag == tag && q.vc == vc && q.try_ == 0

/-- Copies of a multicast packet of tile t that have not been answered. -/
def State.copiesOut (s : State) (t tag : Nat) : Bool :=
  s.net.flight.any fun q => q.ty == 7 && q.src == t && q.tag == tag && q.try_ == 0

/-- The packet with a tag that tile t awaits the answer of is a multicast. -/
def State.awaitsGroup (s : State) (t tag : Nat) : Bool :=
  match (s.tile t).out.find? fun o => !o.isGet && o.tag == tag with
  | some o => o.mgroup.isSome
  | none => false

/-- The answer to a packet of (source, tag) for a destination, taken apart (R165): the router that summed it last answers each
contribution, which an earlier router may have summed in its turn. The sources with their tags, and the records left. -/
def ackLeaves (dst : Nat) : Nat → List Combine → Nat × Nat → List (Nat × Nat) × List Combine
  | 0, cs, k => ([k], cs)
  | f + 1, cs, k =>
    match cs.reverse.find? fun x => x.sent && x.pkt.src == k.1 && x.pkt.tag == k.2 && x.pkt.dst == dst with
    | none => ([k], cs)
    | some x => x.contribs.foldl (fun (a : List (Nat × Nat) × List Combine) j =>
        let r := ackLeaves dst f a.2 j
        (a.1 ++ r.1, r.2)) ([], cs.erase x)

/-- The sources that an answer stands for, its combine records freed. -/
def State.leavesAnswered (s : State) (p : Packet) : List (Nat × Nat) × State :=
  let r := ackLeaves p.src s.net.combines.length s.net.combines (p.dst, p.tag)
  (r.1, { s with net := { s.net with combines := r.2 } })

/-- ACK (R110, R151, R163, R165): the packet is visible at its destination. The ACK of a combined packet is answered to every
contribution. The ACKs of a multicast's copies come as one, once every copy is answered, with NCOMB the targets
acknowledged; the ACK of a copy sent again comes alone. -/
def State.ack (s : State) (p : Packet) (v : FlitVerdict) : State :=
  if p.ty ≠ 5 then s
  else if epKind p.dst = 0 && p.try_ = 0 && s.awaitsGroup p.dst p.tag then
    let mates := s.ackMates p.dst p.tag p.vc
    match mates with
    | [] => s
    | q :: _ =>
      if s.copiesOut p.dst p.tag || p != { q with ncomb := mates.length } || mates.any fun m => !s.arrives m then s
      else (s.each mates State.arrive).checked p v fun _ s => s.each mates fun s m => s.ackTile m.dst m.tag m.src
  else
    s.delivered 5 p v fun _ s =>
      let r := s.leavesAnswered p
      if epKind p.dst = 0 then r.2.each r.1 fun s k => s.ackTile k.1 k.2 p.src else s

/-- A NACK with STATUS 3 to tile t (R160, R161, R451): the target's copy is resent after its backoff, or given up after TRY 8;
a WRITE_ADD that an adder gave back is sent again. -/
def State.nackBuffer (s : State) (t tag target : Nat) : State :=
  match (s.tile t).out.find? fun o => !o.isGet && o.tag == tag with
  | none => s
  | some o =>
    match o.targets.find? fun e => e.1 == target with
    | some (_, k) =>
      if 8 ≤ k then s.targetOver t tag target true
      else { s with net := { s.net with resends := s.net.resends ++ [(t, tag, target, k + 1, 32 * 2 ^ (k + 1))] } }
    | none =>
      if o.mgroup.isSome then s
      else { s with net := { s.net with resends := s.net.resends ++ [(t, tag, target, 1, 64)] } }

/-- Buffers of tile d's landing buffer that scheduled groups have reserved (R159). -/
def State.landingReserved (s : State) (d : Nat) : Nat :=
  sumNat (s.net.mcast.flatMap fun e => (e.2.res.filter fun r => r.1 == d).map Prod.snd)

/-- The landing buffer of tile d may have no packet free for a copy (R114, R160): the packets on their way to it could fill
what scheduled groups leave of the 16. DEDUCED (log 186). -/
def State.landingFull (s : State) (d : Nat) (copy : Packet) : Bool :=
  decide (16 ≤ s.landingReserved d + ((s.net.flight.filter fun q => q.dst == d && q != copy &&
    !(q.ty == 7 && (s.net.mcast.getD q.mgroup default).sched)).length))

/-- A NACK that ends a packet of tile t: STATUS 2 faults the tile with INBOUND_REJECTED (R225); 4 and 5 end it. -/
def State.nackEnds (s : State) (p : Packet) (t tag : Nat) : State :=
  match (s.tile t).out.find? fun o => o.tag == tag with
  | none => s
  | some o =>
    let s := s.updTile t fun x => { x with out := x.out.erase o }
    if p.status = 2 then
      (s.countXFault p.cuvee).updTile t fun x => { x with
        xfault := if x.xfault.isNone then some ⟨8, o.va⟩ else x.xfault
        xfaultAt := if x.xfault.isNone then o.entry else x.xfaultAt, queue := [] }
    else s

/-- NACK: STATUS 3 as above; the others end the packet, or every packet that was summed into it. The last router before a
target that finds its landing buffer full discards a dynamic copy and sends the NACK itself (R160).
DEDUCED (log 64, 65, 186). -/
def State.nack (s : State) (p : Packet) (v : FlitVerdict) : State :=
  let copy := s.net.flight.find? fun q => q.ty == 7 && q.src == p.dst && q.dst == p.src && q.tag == p.tag && q.vc == p.vc &&
    !(s.net.mcast.getD q.mgroup default).sched
  if p.ty ≠ 6 then s
  else if !s.inFlight p then
    match copy with
    | some q =>
      if p.status = 3 && s.landingFull p.src q then (s.arrive q).checked p v fun _ s => s.nackBuffer p.dst p.tag p.src else s
    | none => s
  else
    s.delivered 6 p v fun _ s =>
      if epKind p.dst ≠ 0 then s
      else
        let r := s.leavesAnswered p
        if p.status = 3 then r.2.each r.1 fun s k => s.nackBuffer k.1 k.2 p.src
        else r.2.each r.1 fun s k => s.nackEnds p k.1 k.2

/-- MULTICAST_RESEND (R161): the copy at place idx of those that tile t has to send again goes to its target alone. A cut
holds it (R171). DESIGN CHOICE (log 16, 66). -/
def State.multicastResend (s : State) (t idx : Nat) : State :=
  match (s.net.resends.filter fun r => r.1 == t)[idx]? with
  | none => s
  | some (r : Nat × Nat × Nat × Nat × Nat) =>
    let (_, tag, target, k, _) := r
    if !s.mayInject (s.tile t).cuvee then s
    else
      let s := { s with net := { s.net with resends := s.net.resends.erase r } }
      match (s.tile t).out.find? fun o => !o.isGet && o.tag == tag with
      | none => s
      | some o =>
        let x := s.tile t
        let row := x.rows.getD o.row 0
        let p := s.issuePacket t row o.va o.len o.local_ tag (xrLabel row) false
        let base := (xrAddr row o.n 0 % (2 ^ 20 : Nat)).toNat
        let addr := (base + (o.local_ + 2 ^ 20 - (xrLocal row o.n % (2 ^ 20 : Nat)).toNat)) % 2 ^ 20
        let s := s.updTile t fun x => { x with out := x.out.map fun y =>
          if y = o then { y with targets := y.targets.map fun e => if e.1 = target then (e.1, k) else e } else y }
        s.inject { p with
          dst := target, addr := addr, offset := addr % 32, flits := ceilDiv (addr % 32 + o.len) 32, try_ := k
          mgroup := o.mgroup.getD 0 }

/-- MCAST_WRITE (R158–R160): a copy lands at its target, which acknowledges it. -/
def State.mcastWrite (s : State) (p : Packet) (v : FlitVerdict) : State :=
  s.delivered 7 p v fun bad s =>
    let s := (((s.storeWrite p.dst (p.addr % 2 ^ 20) p.data).storeTraffic p.dst p.bytes).answer p 5 0 []).progressed p.dst
    if bad then s.poisonConsumed p.dst 0 else s

/-- STATE (R149, R253, R256): a piece of a state record lands at a destination tile, and is acknowledged; poisoned data is
remembered for resumption. DESIGN CHOICE (log 126). -/
def State.statePacket (s : State) (p : Packet) (v : FlitVerdict) : State :=
  s.delivered 8 p v fun bad s =>
    let s := s.updCuvee p.cuvee fun v => { v with rebind := { v.rebind with
      landed := v.rebind.landed ++ [(p.dst, p.addr, p.data)]
      poisoned := if bad then addOnce v.rebind.poisoned p.dst else v.rebind.poisoned } }
    s.answer p 5 0 []

def execTrellisRead (p : Received) (ecc : EccVerdict) (latency : Nat) (s : State) : Result :=
  .next (s.trellisRead p.pkt p.verdict ecc latency)
def execReadData (p : Packet) (v : FlitVerdict) (s : State) : Result := .next (s.readData p v)
def execTrellisWrite (p : Packet) (v : FlitVerdict) (s : State) : Result := .next (s.trellisWrite p v)
def execWriteAddFp32 (router : Option Nat) (p : Received) (s : State) : Result := .next (s.writeAdd 3 router p.pkt p.verdict)
def execWriteAddBf16 (router : Option Nat) (p : Received) (s : State) : Result := .next (s.writeAdd 4 router p.pkt p.verdict)
def execAck (p : Received) (s : State) : Result := .next (s.ack p.pkt p.verdict)
def execNack (p : Received) (s : State) : Result := .next (s.nack p.pkt p.verdict)
def execMcastWrite (p : Received) (s : State) : Result := .next (s.mcastWrite p.pkt p.verdict)
def execStatePkt (p : Received) (s : State) : Result := .next (s.statePacket p.pkt p.verdict)
def execReductionHoldExpiry (router slot : Nat) (s : State) : Result := .next (s.holdExpiry router slot)
def execMulticastResend (t idx : Nat) (s : State) : Result := .next (s.multicastResend t idx)

end Sys2Proof.Machine
end

