-- ==== Sys2Proof/Machine/Tendril.lean ====
section
/-! DEFINITION. Machine/Tendril.lean: the synchronisation tree: barrier rounds and flags (R173–R178), and barriers that span
the devices of a group (R333). -/

namespace Sys2Proof.Machine

/-! ## Barriers -/

/-- The live GroupBarriers entry (R333) that lists a local barrier, and the one of a group's barrier number. -/
def State.groupBarrier (s : State) (b : Nat) : Option Nat :=
  ((s.val 0x6007 1).elems 8).find? fun e => bit e 63 && bits e 11 0 == b
def State.groupBarrierOf (s : State) (group gbar : Nat) : Option Nat :=
  ((s.val 0x6007 1).elems 8).find? fun e => bit e 63 && bits e 41 30 == group && bits e 23 12 == gbar

/-- A round's local count stands complete at the root; a member of a group barrier reports it to the master (R333). -/
def State.roundComplete (s : State) (b gen : Nat) : State :=
  match s.groupBarrier b with
  | none => s
  | some e =>
    let s := s.updBarrier b fun r => { r with await := addOnce r.await gen }
    if bit e 62 then s
    else s.forwardMsg (bits e 53 42) 0
      (.barrier ⟨false, gen, 0, s.deviceId, bits e 53 42, bits e 41 30, bits e 23 12⟩)

/-- BAR_ARRIVE at a node of the tree, 0 the root (R176): the node that the barrier tops out at counts the arrivals, any other
sends its subtree's up as one once all that it owes are in. DESIGN CHOICE (log 70). -/
def State.barArrive (s : State) (node b gen count : Nat) : State :=
  if 2 ≤ gen || count = 0 || 4095 < count then s
  else match takeFlits node flitBarArrive (arriveHead b gen) 12 s.net.tendril count with
    | none => s
    | some fs =>
      let s' : State := { s with net := { s.net with tendril := fs } }
      match s.barrier b with
      | none => s'
      | some r =>
        if node = s.topNode r then
          let was := r.count gen
          let s := s'.updBarrier b fun r => r.setCount gen (was + count)
          if was < s.barrierTotal r && s.barrierTotal r ≤ was + count then s.roundComplete b gen else s
        else if node ≠ 0 && count = s.barrierOwed r node then s'.tendrilSend (nodeAbove node) flitBarArrive (payArrive b gen count)
        else s

/-- The devices whose arrivals of a round a master holds. -/
def Barrier.arrivedFrom (r : Barrier) (gen : Nat) : List Nat := (r.members.filter fun m => m.1 == gen).map Prod.snd

/-- The root may release a round (R176, R333). -/
def State.releasable (s : State) (b gen : Nat) (r : Barrier) : Bool :=
  decide (gen < 2) && decide (0 < s.barrierTotal r) && decide (s.barrierTotal r ≤ r.count gen) &&
    match s.groupBarrier b with
    | none => true
    | some e =>
      if bit e 62 then decide (bits e 61 54 ≤ (r.arrivedFrom gen).length) else !(r.arrivedFrom gen).isEmpty

/-- A release reaches a tile that takes part: the round of its most recent arrival, or the next one where it has none (R177). -/
def Tile.released (x : Tile) (b gen : Nat) : Tile :=
  let r := x.bars.getD b default
  { x with bars := x.bars.set default b { r with
      gens := r.gens.erase gen
      released := r.released || (if r.arrived then r.gens.contains gen && r.lastGen == gen else r.waiting) } }

/-- BAR_RELEASE: a complete round is released to every participant (R176, R177). DEDUCED (log 71). -/
def State.barRelease (s : State) (b gen : Nat) : State :=
  match s.barrier b with
  | none => s
  | some r =>
    if !s.releasable b gen r then s
    else
      let peers := r.arrivedFrom gen
      let s := s.signal flitBarRelease (payRelease b gen)
      let s := s.updBarrier b fun r => { r.setCount gen (r.count gen - s.barrierTotal r) with
        await := r.await.erase gen, members := r.members.filter fun m => m.1 != gen }
      let s := s.each (s.groupTiles r.cuvee r.tgroup) fun s t => s.updTile t fun x => x.released (b - s.barBase r.cuvee) gen
      match s.groupBarrier b with
      | none => s
      | some e =>
        if !bit e 62 then s
        else s.each peers fun s d =>
          s.forwardMsg d 0 (.barrier ⟨true, gen, 0, s.deviceId, d, bits e 41 30, bits e 23 12⟩)

/-- BARRIER (R333): an arrival at the master, or a release at a member, is held until the round may go.
DEDUCED (log 71). -/
def State.barrierMessage (s : State) (k : Nat) (m : GroupBarMsg) : State :=
  match s.takeMsg k (.barrier m) with
  | none => s
  | some s =>
    if m.dst ≠ s.deviceId then s.forwardMsg m.dst m.hops (.barrier { m with hops := m.hops + 1 })
    else match s.groupBarrierOf m.group m.gbar with
      | none => s
      | some e =>
        if bit e 62 = m.release then s
        else s.updBarrier (bits e 11 0) fun r => { r with members := r.members ++ [(m.gen, m.src)] }

/-! ## Flags -/

/-- FLAG_SET reaches every tile of the cuvee: its counters rise and saturate (R178). Sets combine in the nodes that they
meet in, so COUNT is the sum of any flits under way. DESIGN CHOICE (log 70). -/
def State.flagSet (s : State) (c flag count : Nat) : State :=
  if count = 0 || 255 < count || 128 ≤ flag then s
  else
    let mine := fun (f : TendrilFlit) => f.kind == flitFlagSet && f.payload / 2 ^ 8 == (c * 128 + flag) * 32
    match takeFlits 0 flitFlagSet ((c * 128 + flag) * 32) 8
        (s.net.tendril.map fun f => if mine f then { f with node := 0 } else f) count with
    | none => s
    | some fs =>
      let s := { s with net := { s.net with tendril := fs } }
      s.eachTile c fun s t =>
        let n := (s.tile t).flags.getD flag 0 + count
        let s := s.updTile t fun x => { x with flags := x.flags.set 0 flag (min 255 n) }
        s.updCuvee c fun v => { v with flagOver := (v.flagOver + (n - 255)) % 2 ^ 32 }

def execBarArrive (node barrier gen count : Nat) (s : State) : Result := .next (s.barArrive node barrier gen count)
def execBarRelease (barrier gen : Nat) (s : State) : Result := .next (s.barRelease barrier gen)
def execFlagSet (c flag count : Nat) (s : State) : Result := .next (s.flagSet c flag count)
def execBarrier (k : Nat) (m : GroupBarMsg) (s : State) : Result := .next (s.barrierMessage k m)

end Sys2Proof.Machine
end

