-- ==== Sys2Proof/Machine/Rings.lean ====
section
/-! DEFINITION. Machine/Rings.lean: ring pairs (R72–R75, R274–R277), submission entries and their checks (R278–R282), and
completions (R283, R284, R301). -/

namespace Sys2Proof.Machine

/-! ## Ring pairs -/

/-- Entry k of RingPairs (R274); one beyond the value reads 0. -/
def State.ringEntry (s : State) (c k : Nat) : Nat := (s.val 0x7001 c).get (32 * k) 32
def rgEnable (e : Nat) : Bool := bit e 255
def rgLabel (e : Nat) : Nat := bits e 254 251
def rgSq (e : Nat) : Nat := 2 ^ bits e 250 247
def rgCq (e : Nat) : Nat := 2 ^ bits e 246 243
def rgSqVa (e : Nat) : Nat := bits e 175 128
def rgCqVa (e : Nat) : Nat := bits e 111 64

/-- Ring pair k of cuvee c. -/
def State.ring (s : State) (c k : Nat) : Ring := (s.cuvee c).rings.getD k default
/-- Change it. -/
def State.updRing (s : State) (c k : Nat) (f : Ring → Ring) : State :=
  s.updCuvee c fun v => { v with rings := v.rings.set default k (f (v.rings.getD k default)) }

/-- RingPairs takes effect at a boundary (R274, R276, R277): a pair newly enabled starts at position 0 with its registers
0; one disabled loses the completions it held. -/
def State.ringsChange (s : State) (c : Nat) (old new : Blob) : State :=
  s.each (List.range 1024) fun s k =>
    let was := rgEnable (old.get (32 * k) 32)
    let now := rgEnable (new.get (32 * k) 32)
    if now && !was then s.updRing c k fun r =>
      { (default : Ring) with state := 1, fetched := r.fetched }
    else if was && !now then s.updRing c k fun r =>
      { r with state := 0, reserved := r.reserved - r.ready.length, ready := [] }
    else s

/-- A ring pair goes into ERROR (R276): recorded, without freezing the cuvee. `which` names the case.
DESIGN CHOICE (log 78). -/
def State.ringError (s : State) (c k which value : Nat) : State :=
  let code := Config.ringCause which % 256
  (s.updRing c k fun r => { r with state := 2, cause := code }).plainFault c 6 1 k code value 0

/-- A translation fault on a ring read or write (R277). DEDUCED (log 79). -/
def State.ringFault (s : State) (c k which : Nat) (f : XFault) : State :=
  (s.updRing c k fun r => { r with state := 2, cause := Config.ringCause which % 256 }).plainFault c 2 1 k f.va f.kind 0

/-- RingStatus (R304). -/
def State.ringStatus (s : State) (c : Nat) : Blob :=
  Blob.array 16 ((List.range (s.ringPairs c)).map fun k =>
    let r := s.ring c k
    (Blob.record [(2, r.sqPos), (2, r.n), (2, r.reserved), (1, r.state), (1, r.cause), (8, r.fetched)]).val)

/-! ## Completions (R283, R301) -/

/-- Fields of a submission entry (R278). -/
def jbKind (j : Job) : Nat := j.entry.get 0 1
def jbModel (j : Job) : Nat := j.entry.get 1 1
def jbClient (j : Job) : Nat := j.entry.get 2 2
def jbFlags (j : Job) : Nat := j.entry.get 4 4
def jbRequest (j : Job) : Nat := j.entry.get 8 8
/-- SUBCODE and OPT of a CONTROL entry (R234). -/
def jbSub (j : Job) : Nat := j.entry.get 16 1
def jbOpt (j : Job) : Nat := j.entry.get 17 1

/-- No cask (R279, R283). -/
def noCask : Nat := 0xFFFF_FFFF

/-- A request finishes (R283): its completion is ready, held while the pair is in ERROR, and discarded with its slot where
the pair has been disabled (R277). `flags` are those beside LATE and PREEMPTED. -/
def State.complete (s : State) (c : Nat) (j : Job) (result flags outBytes units cask : Nat) : State :=
  let f := flags ||| b2n j.late ||| 2 * b2n j.preempted
  let b := Blob.record [(8, jbRequest j), (1, jbKind j), (1, result), (2, f), (4, outBytes), (4, units), (4, cask),
    (4, s.time.e % 2 ^ 20 * 4096 + s.time.slot % 4096), (2, j.sqPos), (2, 0), (2, jbClient j)]
  let s := if result = 2 then s.updCuvee c fun v => { v with caskCounters := bump 64 v.caskCounters 6 1 } else s
  s.updRing c j.pair fun r =>
    if r.state = 0 then { r with reserved := r.reserved - 1 } else { r with ready := r.ready ++ [b] }

/-- A request ends without output. -/
def State.completeJob (s : State) (c : Nat) (j : Job) (result : Nat) (units : Nat := 0) (cask : Nat := noCask) : State :=
  s.complete c j result 0 0 units cask

/-- Change a client's account (R301). DEDUCED (log 88). -/
def State.account (s : State) (c client : Nat) (f : Nat × Nat × Nat → Nat × Nat × Nat) : State :=
  if 1024 ≤ client then s
  else s.updCuvee c fun v => { v with serving := { v.serving with
    accounts := v.serving.accounts.set (0, 0, 0) client (f (v.serving.accounts.getD client (0, 0, 0))) } }

/-- PreemptEnable (R300). -/
def State.preemptOn (s : State) (c : Nat) : Bool := s.num 0x7006 c == 1

/-- The first step that holds a request begins now: WAIT_SLOTS (R301). -/
def State.noteStart (s : State) (c : Nat) (j : Job) : State :=
  if j.started || !s.preemptOn c then s
  else s.account c (jbClient j) fun a => (a.1, (a.2.1 + (s.slotCount - j.fetchAt)) % 2 ^ 64, a.2.2)

/-- Write one ready completion (R74, R275): the entry without its generation, then the generation. DEDUCED (log 88). -/
def State.writeCompletion (s : State) (c k : Nat) (b : Blob) : Option XFault × State :=
  let e := s.ringEntry c k
  let n := (s.ring c k).n
  let va := rgCqVa e + 32 * (n % rgCq e)
  let q := s.vaWrite c va (toBytes 30 b.val) (rgLabel e)
  match q.1 with
  | some f => (some f, q.2)
  | none => q.2.vaWrite c (va + 30) (toBytes 2 (genOf n (rgCq e))) (rgLabel e)

/-- Write every ready completion of a pair, oldest first, until one faults. DEDUCED (log 88). -/
def State.writeReady (c k : Nat) : Nat → State → State
  | 0, s => s
  | m + 1, s =>
    match (s.ring c k).ready with
    | [] => s
    | b :: rest =>
      let q := s.writeCompletion c k b
      match q.1 with
      | some f => q.2.ringFault c k 4 f
      | none =>
        let s := q.2.updRing c k fun r => { r with ready := rest, n := (r.n + 1) % 2 ^ 32, reserved := r.reserved - 1 }
        let s := s.tally c 16 1
        let s := s.updCuvee c fun v => { v with meter := { v.meter with jobs := v.meter.jobs + 1 } }
        let s := s.account c (b.get 32 2) fun a => ((a.1 + 1) % 2 ^ 64, a.2.1, a.2.2)
        State.writeReady c k m s

/-- The action of a WRITE_CQ row (R74). -/
def State.writeCq (s : State) (c k : Nat) : State :=
  if rgEnable (s.ringEntry c k) && (s.ring c k).state == 1 then State.writeReady c k (s.ring c k).ready.length s else s

/-! ## Recipes' batch rules (R290) -/

def btSlots (m : Model) : Nat := m.recipe.batch.get 0 2
def btChunk (m : Model) : Nat := m.recipe.batch.get 2 2
def btTokens (m : Model) : Nat := m.recipe.batch.get 4 4
def btMaxLength (m : Model) : Nat := m.recipe.batch.get 8 4
def btStave (m : Model) : Nat := m.recipe.batch.get 12 4
def btVocab (m : Model) : Nat := m.recipe.batch.get 16 4
def btStepSlot (m : Model) : Nat := m.recipe.batch.get 20 2
def btDlSlot (m : Model) : Nat := m.recipe.batch.get 22 2
def btStepMod (m : Model) : Nat := m.recipe.batch.get 24 1
def btDlEpochs (m : Model) : Nat := m.recipe.batch.get 25 1
def btGroup (m : Model) : Nat := m.recipe.batch.get 26 1
def btBarrier (m : Model) : Nat := m.recipe.batch.get 28 2
def btEnergy (m : Model) : Nat := m.recipe.batch.get 30 2

/-! ## Checks of a submission (R278–R282) -/

/-- Model slot m of cuvee c. -/
def State.model (s : State) (c m : Nat) : Option Model := (s.cuvee c).serving.models.find m

/-- Stream k of StreamTable (R297). -/
def State.stream (s : State) (c k : Nat) : Nat := (s.val 0x7005 c).get (16 * k) 16
def smValid (e : Nat) : Bool := bit e 127
def smPolicy (e : Nat) : Nat := bits e 126 125
def smModel (e : Nat) : Nat := bits e 124 121
def smStart (e : Nat) : Nat := bits e 120 109
def smDeadline (e : Nat) : Nat := bits e 108 97
def smGroup (e : Nat) : Nat := bits e 96 89
def smDepth (e : Nat) : Nat := bits e 88 85
def smEnergy (e : Nat) : Nat := bits e 84 69

/-- A cask of cuvee c is held by a sequence. -/
def State.caskHeld (s : State) (c id : Nat) : Bool :=
  (s.cuvee c).serving.models.any fun e => e.2.seqs.any fun q => q.cask == id

/-- A TEXT_SEQUENCE body is malformed (R279, R281). DEDUCED (log 86). -/
def State.textBad (s : State) (c : Nat) (m : Model) (e : Blob) : Bool :=
  let len := btMaxLength m
  let temp := e.get 46 2
  let cask := e.get 52 4
  let casks := (s.cuvee c).serving.casks
  (e.get 24 4 == 0) || decide (len < e.get 24 4) || (e.get 28 4 == 0) || decide (len < e.get 28 4) ||
    (e.get 32 8 % 16 != 0) || decide (e.get 40 4 < 32) || decide (1024 < e.get 44 2) || decide (0x7F80 ≤ temp) ||
    (decide (15 < e.get 50 1) && e.get 50 1 != 0xFF) || (e.get 51 1 != 0) ||
    (cask != noCask && ((casks.find cask).isNone || s.caskHeld c cask))

/-- A CONTROL body is malformed (R234, R282, R338). -/
def State.controlBad (s : State) (c : Nat) (e : Blob) : Bool :=
  let sub := e.get 16 1
  let opt := e.get 17 1
  let label := e.get 18 1
  let labelBad := decide (16 ≤ label) || !s.permits c label
  let common := labelBad || e.get 19 5 != 0 || e.get 48 16 != 0
  match sub with
  | 0x01 => common || opt != 0 || e.get 32 16 != 0
  | 0x02 => common || decide (15 < opt) || e.get 32 8 != 0
  | 0x03 => common || decide (15 < opt) || e.get 24 24 != 0
  | 0x04 => common || decide (15 < opt) || e.get 32 16 != 0 ||
      (bits (e.get 24 8) 15 11 != 0) || (bits (e.get 24 8) 63 28 != 0)
  | 0x10 => common || decide (4 ≤ opt) || (opt != 0 && e.get 40 8 % 65536 != 0)
  | 0x11 => common || decide (5 < opt) || (opt != 3 && opt != 4 && e.get 32 8 != 0)
  | 0x30 => e.get 17 7 != 0 || decide (15 < e.get 29 1) || decide (16 ≤ e.get 30 1) || !s.permits c (e.get 30 1) ||
      e.get 31 33 != 0
  | 0x31 => e.get 17 7 != 0 || decide (15 < e.get 29 1) || e.get 30 34 != 0
  | 0x32 => e.get 17 7 != 0 || e.get 28 36 != 0
  | _ => true

/-- What the check of an entry answers (R281): 0, or RESULT MALFORMED or NO_MODEL. DEDUCED (log 86). -/
def State.entryResult (s : State) (c : Nat) (e : Blob) : Nat :=
  let kind := e.get 0 1
  let flags := e.get 4 4
  if kind = 0 || 4 < kind || 15 < e.get 1 1 || 1023 < e.get 2 2 || (if kind = 1 then 16 ≤ flags else flags ≠ 0) then 5
  else if kind = 4 then (if e.get 1 1 ≠ 0 || s.controlBad c e then 5 else 0)
  else match s.model c (e.get 1 1) with
    | none => 6
    | some m =>
      if m.recipe.kind ≠ kind then 5
      else if kind = 1 then (if s.textBad c m e then 5 else 0)
      else
        let common := e.get 30 2 ≠ 0 || e.get 44 4 ≠ 0
        if kind = 2 then
          let k := e.get 28 2
          let st := s.stream c k
          if common || 255 < k || !smValid st || smModel st ≠ e.get 1 1 || e.get 48 16 ≠ 0 then 5 else 0
        else if common || 1023 < e.get 28 2 then 5 else 0

/-- Change a cuvee's serving loop. -/
def State.updServing (s : State) (c : Nat) (f : Serving → Serving) : State :=
  s.updCuvee c fun v => { v with serving := f v.serving }

/-- A fetched entry: malformed ones complete, CONTROL entries wait for the boundary but for PREFETCH and ADVISE, which the
courier takes at once, like requests their kind's step (R281, R282, R338). DEDUCED (log 86). -/
def State.takeEntry (s : State) (c pair pos : Nat) (e : Blob) : State :=
  let j : Job := ⟨pair, pos, e, s.slotCount, false, false, false, false⟩
  let bad := s.entryResult c e
  if bad ≠ 0 then s.completeJob c j bad
  else if jbKind j = 4 && jbSub j ≠ 0x10 && jbSub j ≠ 0x11 then
    s.updServing c fun v => { v with control := v.control ++ [j] }
  else s.updServing c fun v => { v with newJobs := v.newJobs ++ [j] }

/-- Fetch n entries of a pair; `ext` are the entries that host memory holds, in order. -/
def State.fetchEntries (c k : Nat) : Nat → List SqEntry → State → State
  | 0, _, s => s
  | n + 1, ext, s =>
    let e := s.ringEntry c k
    let pos := (s.ring c k).sqPos
    let q := s.vaRead c (rgSqVa e + 64 * (pos % rgSq e)) 64 (rgLabel e) (toBytes 64 (ext.headD ⟨64, 0⟩).val)
    match q.1 with
    | .error f => q.2.ringFault c k 3 f
    | .ok bs =>
      let s := q.2.updRing c k fun r =>
        { r with sqPos := (pos + 1) % 65536, reserved := r.reserved + 1, fetched := (r.fetched + 1) % 2 ^ 64 }
      State.fetchEntries c k n ext.tail (s.takeEntry c k pos ⟨64, ofBytes bs⟩)

/-- The action of a FETCH_SQ row (R72, R73, R276). -/
def State.fetchSq (s : State) (c k limit : Nat) (ext : List SqEntry) : State :=
  let e := s.ringEntry c k
  let r := s.ring c k
  if !rgEnable e || r.state ≠ 1 then s
  else
    let s := s.signal flitDoorbell (payDoorbell c k)
    let avail := (r.doorbell + 65536 - r.sqPos % 65536) % 65536
    let used := (r.n % 65536 + 65536 - r.head % 65536) % 65536
    if 65536 ≤ r.doorbell then s.ringError c k 0 r.doorbell
    else if 65536 ≤ r.head then s.ringError c k 0 r.head
    else if rgSq e < avail then s.ringError c k 1 r.doorbell
    else if rgCq e < used then s.ringError c k 2 r.head
    else
      let n := min avail (rgCq e - used - r.reserved)
      State.fetchEntries c k (if limit = 0 then n else min n limit) ext s

end Sys2Proof.Machine
end

