-- ==== Sys2Proof/Machine/Models.lean ====
section
/-! DEFINITION. Machine/Models.lean: recipes and placements (R159, R287–R289, R299), the CONTROL commands that act at a
boundary (R282, R293, R391, R392), and the courier's commands (R234–R236). -/

namespace Sys2Proof.Machine

/-! ## Installing a recipe -/

/-- The lowest run of n numbers below `limit` that meets no number in use. DEDUCED (log 90). -/
def lowestRun (limit n : Nat) (used : List Nat) : Option Nat :=
  if limit < n then none
  else (List.range (limit + 1 - n)).find? fun b => !(used.any fun u => decide (b ≤ u) && decide (u < b + n))

/-- The numbers of a run. -/
def runOf (base n : Nat) : List Nat := (List.range n).map (base + ·)

/-- A barrier entry's TGROUP, VINTNERS and CBAR (R176); a multicast entry's fields (R158). -/
def brGroup (e : Nat) : Nat := bits e 31 24
def brVintners (e : Nat) : Nat := bits e 47 32
def brNum (e : Nat) : Nat := bits e 11 0
def mgSched (e : Nat) : Bool := bit e 62
def mgDepth (e : Nat) : Nat := bits e 61 60 + 1
def mgGroup (e : Nat) : Nat := bits e 39 32
def mgNum (e : Nat) : Nat := bits e 9 0

/-- Barriers and multicast groups that a recipe numbers. -/
def recipeBars (r : Recipe) : Nat := maxNat ((r.barriers.filter fun e => bit e 63).map fun e => brNum e + 1)
def recipeMcasts (r : Recipe) : Nat := maxNat ((r.multicast.filter fun e => bit e 63).map fun e => mgNum e + 1)
def recipeGroups (r : Recipe) : Nat := maxNat (r.placements.map fun p => p.groups.length)

/-- The placement with the largest tile count that fits n tiles (R289): its place in the recipe. -/
def recipeFitting (r : Recipe) (n : Nat) : Option Nat :=
  let fits := r.placements.zipIdx.filter fun p => decide (p.1.tiles ≤ n)
  fits.foldl (fun best p => match best with
    | none => some p.2
    | some b => if (r.placements.getD b default).tiles < p.1.tiles then some p.2 else some b) none

/-- The placement in force of a model. -/
def Model.place (m : Model) : Placement := m.recipe.placements.getD m.placement default

/-- A group entry on the cuvee: the placement's BASE added to FIRST (R288). -/
def rebased (base e : Nat) : Nat := e - bits e 10 0 + (bits e 10 0 + base) % 2048

/-- A group of a placement at BASE reaches beyond n tiles (R288). -/
def groupBeyond (p : Placement) (base n : Nat) : Bool :=
  p.groups.any fun e => bit e 63 && decide (n ≤ bits e 10 0 + (bits e 43 32 - 1) * bits e 26 16 + base)

/-- A model-relative group number on the cuvee; 0xFF stays every tile. -/
def onCuvee (groupBase g : Nat) : Nat := if g = 255 then 255 else groupBase + g

/-- Write the model's tile groups (R288, R289). -/
def State.writeGroups (s : State) (c : Nat) (m : Model) : State :=
  s.updServing c fun v =>
    let clear := (runOf m.groupBase m.groupRun).foldl (fun (g : Sparse Nat) i => Sparse.erase g i) v.groups
    let put := fun (g : Sparse Nat) (e : Nat × Nat) =>
      if bit e.1 63 then Sparse.insert g (m.groupBase + e.2) (rebased m.base e.1) else g
    { v with groups := m.place.groups.zipIdx.foldl put clear }

/-- The entry of a multicast group of a model, once its tile groups stand. -/
def State.mcEntry (s : State) (c slot groupBase e : Nat) : McGroup :=
  s.laidOut ⟨c, mgSched e, mgDepth e, onCuvee groupBase (mgGroup e), slot, [], []⟩

/-- Write the model's barriers and multicast groups (R158, R176). -/
def State.writeNet (s : State) (c slot : Nat) (m : Model) : State :=
  let bars := (m.recipe.barriers.filter fun e => bit e 63).foldl (fun b e =>
    Sparse.insert b (s.barBase c + m.barBase + brNum e)
      (⟨c, brVintners e, onCuvee m.groupBase (brGroup e), 0, 0, [], [], 0, slot⟩ : Barrier)) s.net.barriers
  let mcs := (m.recipe.multicast.filter fun e => bit e 63).foldl (fun g e =>
    Sparse.insert g (s.mcBase c + m.mcBase + mgNum e) (s.mcEntry c slot m.groupBase e)) s.net.mcast
  { s with net := { s.net with barriers := bars, mcast := mcs } }

/-- The multicast groups of a model leave, with their reservations. -/
def State.dropMcast (s : State) (c slot : Nat) : State :=
  { s with net := { s.net with mcast := s.net.mcast.filter fun e => !(e.2.cuvee == c && e.2.model == slot) } }

/-- A model leaves its slot with everything installed for it (R159, R282). DEDUCED (log 91). -/
def State.uninstall (s : State) (c slot : Nat) : State :=
  match s.model c slot with
  | none => s
  | some m =>
    let s := s.dropMcast c slot
    let bs := s.barriersOf c (some slot)
    let s := (s.dropArrivals bs).eachTile c fun s t => s.updTile t fun x => { x with
      bars := x.bars.filter fun e => !bs.contains (s.barBase c + e.1) }
    let s := { s with net := { s.net with
      barriers := s.net.barriers.filter fun e => !(e.2.cuvee == c && e.2.model == slot) } }
    s.updServing c fun v => { v with
      models := Sparse.erase v.models slot
      groups := (runOf m.groupBase m.groupRun).foldl (fun (g : Sparse Nat) i => Sparse.erase g i) v.groups
      saved := v.saved.filter fun e => e.1 / 2048 != slot }

/-- Install a recipe (R287): 0 and the state with the model LOADING, or the RESULT that refuses it. DEDUCED (log 224). -/
def State.install (s : State) (c slot : Nat) (r : Recipe) (j : Job) : Nat × State :=
  let ms := (s.cuvee c).serving.models
  let n := (s.cvTiles c).length
  match recipeFitting r n with
  | none => (8, s)
  | some p =>
    if groupBeyond (r.placements.getD p default) 0 n then (8, s)
    else
      let gb := lowestRun 255 (recipeGroups r) (ms.flatMap fun e => runOf e.2.groupBase e.2.groupRun)
      let bb := lowestRun (s.barCount c) (recipeBars r) (ms.flatMap fun e => runOf e.2.barBase (recipeBars e.2.recipe))
      let mb := lowestRun (s.mcCount c) (recipeMcasts r) (ms.flatMap fun e => runOf e.2.mcBase (recipeMcasts e.2.recipe))
      match gb, bb, mb with
      | some g, some b, some k =>
        let m : Model := ⟨1, r, p, 0, none, g, b, k, [], 0, 0, [], some j, 0, 0⟩
        let s1 := (s.updServing c fun v => { v with models := v.models.insert slot m }).writeGroups c m
        let want := (r.multicast.filter fun e => bit e 63 && mgSched e).flatMap fun e => (s1.mcEntry c slot g e).res
        let lost := r.multicast.any fun e => bit e 63 && mgSched e &&
          (s1.replicators (s1.groupTiles c (onCuvee g (mgGroup e)))).any s.net.noReplicate.contains
        if lost || !s1.mcFits want then (9, s) else (0, s1.writeNet c slot m)
      | _, _, _ => (9, s)

/-- ModelStatus of one slot (R304). -/
def State.modelRecord (s : State) (c slot : Nat) : Nat :=
  match s.model c slot with
  | none => 0
  | some m =>
    let v := (s.cuvee c).serving
    let mine := fun (j : Job) => jbModel j == slot
    let queued := (v.waiting.filter mine).length + sumNat (v.streamQ.map fun q => (q.2.filter mine).length) +
      (v.newJobs.filter fun j => jbKind j != 4 && mine j).length
    (Blob.record [(1, m.state), (1, m.recipe.kind), (2, m.recipe.placements.length), (2, m.base), (2, m.place.tiles),
      (1, m.groupBase), (1, 0), (2, m.barBase), (2, m.mcBase), (2, m.seqs.length), (4, queued), (8, m.steps), (4, 0)]).val

/-! ## CONTROL commands at the boundary (R282) -/

/-- The first live cuvee whose oldest CONTROL entry fell due at a boundary and has a subcode. DEDUCED (log 87). -/
def State.controlDue (s : State) (sub : Nat) : Option (Nat × Job) :=
  s.existing.findSome? fun c =>
    match (s.cuvee c).serving.control with
    | j :: _ => if (s.cuvee c).live && jbSub j == sub && decide (j.fetchAt < 4096 * s.time.epochs) then some (c, j) else none
    | [] => none

/-- It leaves the list. DEDUCED (log 87). -/
def State.controlDone (s : State) (c : Nat) : State := s.updServing c fun v => { v with control := v.control.tail }

/-- Record a bottle's outcome in BottleStatus (R392): last reason, loads, rejects, BOTTLE_ID. -/
def State.noteBottle (s : State) (c reason id : Nat) : State :=
  s.updCuvee c fun v => { v with bottle :=
    [reason, v.bottle.getD 1 0 + (if reason = 0 then 1 else 0), v.bottle.getD 2 0 + (if reason = 0 then 0 else 1), id] }

/-- A translation fault ends a courier's command with RESULT FAULT and the kind (R284). -/
def State.courierFault (s : State) (c : Nat) (j : Job) (f : XFault) : State :=
  (s.plainFault c 2 1 j.pair f.va f.kind 0).completeJob c j 7 f.kind

/-- The bottle that a LOAD_MODEL names: VA and bytes (R282). -/
def bottleVa (j : Job) : Nat := j.entry.get 24 8
def bottleNamed (j : Job) : Nat := j.entry.get 40 8

/-- The first check of R391 that a bottle fails, in its order, as the reason of R392; 0 for none.
DESIGN CHOICE (log 208); DEDUCED (log 209). -/
def State.bottleReason (s : State) (c : Nat) (h : Blob) (b : BottleFindings) : Nat :=
  if (b.entry.map fun i => decide (i < boBindings h)) ≠ some true then 2
  else if s.svnOf s.sec.booted 3 < boMinSvn h then 4
  else if (s.val 0xA004 c).size = 0 || !b.owner then 3
  else if !b.unwraps then 5
  else if recipeBad b.recipe h then 8
  else 0

/-- Couriers read a bottle's header and binding entries, and the security controller checks them (R391): the reason that
refuses it, 0 for none, with its header. -/
def State.openBottle (s : State) (c : Nat) (j : Job) (b : BottleFindings) : Except XFault (Nat × Blob) × State :=
  let label := j.entry.get 18 1
  let r := s.vaRead c (bottleVa j) (min 256 (bottleNamed j)) label b.bytes
  match r.1 with
  | .error f => (.error f, r.2)
  | .ok bs =>
    let h : Blob := ⟨256, ofBytes bs⟩
    if bottleHeaderBad h (bottleNamed j) then (.ok (1, h), r.2)
    else
      let q := r.2.vaRead c (bottleVa j + 256) (1640 * boBindings h) label (b.bytes.drop 256)
      match q.1 with
      | .error f => (.error f, q.2)
      | .ok _ => (.ok (s.bottleReason c h b, h), q.2)

/-- LOAD_MODEL (R287, R391): the slot must be empty, the bottle pass its checks, and the recipe fit. DEDUCED (log 91). -/
def State.loadModel (s : State) (b : BottleFindings) : State :=
  match s.controlDue 2 with
  | none => s
  | some (c, j) =>
    let s := s.controlDone c
    if (s.model c (jbOpt j)).isSome then s.completeJob c j 8
    else
      let o := s.openBottle c j b
      match o.1 with
      | .error f => o.2.courierFault c j f
      | .ok (reason, h) =>
        let s := o.2
        if reason ≠ 0 then (s.noteBottle c reason (boId h)).completeJob c j 0x0B
        else
          let q := s.install c (jbOpt j) b.recipe j
          if q.1 ≠ 0 then s.completeJob c j q.1
          else q.2.updServing c fun v => { v with models := v.models.map fun e =>
            if e.1 = (jbOpt j) then (e.1, { e.2 with bottle := boId h, content := boContent h }) else e }

/-- Write pieces of memory at their VAs, until one faults. -/
def State.writePieces (s : State) (c label : Nat) : List (Nat × List Byte) → Option XFault × State
  | [] => (none, s)
  | (va, bs) :: rest =>
    let q := s.vaWrite c va bs label
    match q.1 with
    | some f => (some f, q.2)
    | none => q.2.writePieces c label rest

/-- Zero what a load has written (R391). DEDUCED (log 91). -/
def State.zeroPieces (s : State) (c label : Nat) (ps : List (Nat × List Byte)) : State :=
  s.each ps fun s p => (s.vaWrite c p.1 (p.2.map fun _ => 0) label).2

/-- A vintner core's write at a device VA; one that faults is recorded and dropped. DEDUCED (log 92). -/
def State.coreWrite (s : State) (c va : Nat) (bs : List Byte) : State :=
  let q := s.vaWrite c va bs (s.num 0x5046 c)
  match q.1 with
  | none => q.2
  | some f => q.2.plainFault c 2 1 0xFFFF f.va f.kind 0

/-- The vintner cores arrive at STEP_BARRIER of a text model (R291). DEDUCED (log 89). -/
def State.coresArrive (s : State) (c : Nat) (m : Model) : State :=
  let b := s.barBase c + m.barBase + btBarrier m
  match s.barrier b with
  | none => s
  | some r =>
    let s := s.updBarrier b fun r => { r with vgen := 1 - r.vgen }
    s.each (setBits r.vintners 16) fun s p => s.tendrilSend (parcelNode p) flitBarArrive (payArrive b r.vgen 1)

/-- A batch descriptor's header (R291). DEDUCED (log 89). -/
def descriptorHeader (step entries tokens : Nat) : List Byte :=
  toBytes 32 (Blob.record [(8, step), (2, entries), (2, 0), (4, tokens), (16, 0)]).val

/-- Change a model. -/
def State.updModel (s : State) (c slot : Nat) (f : Model → Model) : State :=
  s.updServing c fun v => match v.models.find slot with
    | some m => { v with models := v.models.insert slot (f m) }
    | none => v

/-- The bytes of a bottle's chunks (R390). -/
def chunkSizes (content : Nat) : List Nat := (List.range (ceilDiv content 1048576)).map fun i => min 1048576 (content - 1048576 * i)

/-- The crypto jobs of a load (R412); where a tag has failed, at which chunk is open, and the jobs end with it. -/
def State.bottleJobs (s : State) (c content : Nat) (tags : Bool) : State :=
  let ns := chunkSizes content
  if tags then s.cryptoJobs c 1 (ns.map fun n => (n, 0))
  else
    let r := s.fresh
    let k := r.1 % max 1 ns.length
    r.2.cryptoJobs c 1 ((ns.take (k + 1)).zipIdx.map fun e => (e.1, b2n (e.2 == k)))

/-- BOTTLE_LOAD_DONE (R287, R391, R392): the weights stand at their addresses, the programs in the switch area and the model is
READY, its first descriptor empty; or a tag or the signature has failed, what was written is zeroed and the slot is EMPTY.
DEDUCED (log 89). -/
def State.bottleLoadDone (s : State) (c slot : Nat) (b : BottleFindings) : State :=
  match s.model c slot with
  | none => s
  | some m =>
    match m.loadJob with
    | none => s
    | some j =>
      if m.state ≠ 1 || !(s.cuvee c).live then s
      else
        let label := j.entry.get 18 1
        let s := s.bottleJobs c m.content b.tags
        if !b.tags || !b.signed then
          ((((s.zeroPieces c label m.recipe.weights).uninstall c slot).noteBottle c (if b.tags then 7 else 6) m.bottle).completeJob
            c j 0x0B)
        else
          let q := s.writePieces c label m.recipe.weights
          match q.1 with
          | some f =>
            (((q.2.zeroPieces c label m.recipe.weights).uninstall c slot).plainFault c 2 1 j.pair f.va f.kind 0).completeJob
              c j 7 f.kind
          | none =>
            let area := switchArea m.recipe
            let s := if area.isEmpty then q.2 else q.2.coreWrite c (m.recipe.buffers.getD 5 0) area
            let s := s.updModel c slot fun m => { m with state := 2, loadJob := none }
            let s := (s.noteBottle c 0 m.bottle).completeJob c j 0
            if m.recipe.kind = 1 then
              ((s.coreWrite c (m.recipe.buffers.getD 0 0) (descriptorHeader 1 0 0)).vintnerTask c 1 slot 0 1).coresArrive c m
            else s

/-- A model has a queued or running request, or a step running or held (R282). -/
def State.modelBusy (s : State) (c slot : Nat) (m : Model) : Bool :=
  let v := (s.cuvee c).serving
  let mine := fun (j : Job) => jbModel j == slot
  (v.waiting.any mine) || (v.streamQ.any fun q => q.2.any mine) || (v.newJobs.any fun j => jbKind j != 4 && mine j) ||
    (v.stepJobs.any fun q => mine q.2) || (v.outputs.any mine) || !m.seqs.isEmpty || !m.current.isEmpty ||
    m.loadJob.isSome || decide (0 < m.unsampled) || (m.place.groups.zipIdx.any fun e => s.groupBusy c (m.groupBase + e.2)) ||
    (v.switching.any fun h => h.2.model == slot)

/-- UNLOAD_MODEL (R282). DEDUCED (log 93). -/
def State.unloadModel (s : State) : State :=
  match s.controlDue 3 with
  | none => s
  | some (c, j) =>
    let s := s.controlDone c
    match s.model c (jbOpt j) with
    | none => s.completeJob c j 6
    | some m =>
      if s.modelBusy c (jbOpt j) m then s.completeJob c j 8 else (s.uninstall c (jbOpt j)).completeJob c j 0

/-- A step of the model runs or is held (R289). -/
def State.stepOn (s : State) (c slot : Nat) (m : Model) : Bool :=
  decide (0 < m.unsampled) || (runOf m.groupBase m.groupRun).any (s.groupBusy c) ||
    (s.cuvee c).serving.switching.any fun h => h.2.model == slot

/-- A placement chosen by PLACE takes effect (R289): groups and reservations are written for it, and the tiles load its
programs with its next step. -/
def State.placeNow (s : State) (c slot : Nat) : State :=
  match s.model c slot with
  | none => s
  | some m =>
    match m.nextPlace with
    | none => s
    | some (p, base) =>
      if s.stepOn c slot m then s
      else
        let m := { m with placement := p, base := base, nextPlace := none }
        let s := s.updModel c slot fun _ => m
        let s := (s.writeGroups c m).dropMcast c slot
        let s := s.writeNet c slot m
        let s := s.updServing c fun v => { v with saved := v.saved.filter fun e => e.1 / 2048 != slot }
        s.eachTile c fun s t => s.updTile t fun x => if x.lastModel = some slot then { x with lastModel := none } else x

/-- Placements that wait for a boundary without a step. -/
def State.placeBoundary (s : State) : State :=
  s.each s.existing fun s c => s.each ((s.cuvee c).serving.models.map Prod.fst) fun s m => s.placeNow c m

/-- PLACE (R282, R289). DEDUCED (log 93). -/
def State.placeModel (s : State) : State :=
  match s.controlDue 4 with
  | none => s
  | some (c, j) =>
    let s := s.controlDone c
    let base := bits (j.entry.get 24 8) 10 0
    let count := bits (j.entry.get 24 8) 27 16
    match s.model c (jbOpt j) with
    | none => s.completeJob c j 6
    | some m =>
      let n := (s.cvTiles c).length
      match firstIdx (fun (p : Placement) => p.tiles == count) m.recipe.placements with
      | none => s.completeJob c j 8
      | some p =>
        if n < base + count || groupBeyond (m.recipe.placements.getD p default) base n then s.completeJob c j 8
        else
          let s := s.updModel c (jbOpt j) fun m => { m with nextPlace := some (p, base) }
          (s.placeNow c (jbOpt j)).completeJob c j 0

/-- A request is the target of a CANCEL: same ring pair and REQUEST_ID. -/
def isTarget (pair id : Nat) (j : Job) : Bool := j.pair == pair && jbRequest j == id && jbKind j != 4

/-- CANCEL (R282, R293): a waiting target completes CANCELLED at once; one in a step is marked and ends with it.
DEDUCED (log 96). -/
def State.controlCancel (s : State) : State :=
  match s.controlDue 1 with
  | none => s
  | some (c, j) =>
    let s := s.controlDone c
    let hit := isTarget j.pair (j.entry.get 24 8)
    let mark := fun (q : Job) => if hit q then { q with cancel := true } else q
    let v := (s.cuvee c).serving
    let queued := v.newJobs ++ v.waiting ++ v.streamQ.flatMap Prod.snd
    let running := (v.models.flatMap fun e => e.2.seqs.map Seq.job ++ e.2.current) ++ v.stepJobs.map Prod.snd ++ v.outputs
    match queued.find? hit with
    | some q =>
      let s := s.updServing c fun v => { v with
        newJobs := v.newJobs.erase q, waiting := v.waiting.erase q, streamQ := v.streamQ.map fun e => (e.1, e.2.erase q) }
      (s.completeJob c q 1).completeJob c j 0
    | none =>
      if !running.any hit then s.completeJob c j 0x0A
      else
        let s := s.updServing c fun v => { v with
          models := v.models.map fun e => (e.1, { e.2 with
            seqs := e.2.seqs.map fun q => { q with job := mark q.job }, current := e.2.current.map mark })
          stepJobs := v.stepJobs.map fun e => (e.1, mark e.2), outputs := v.outputs.map mark }
        s.completeJob c j 0

/-! ## Courier commands (R234–R236) -/

/-- The first live cuvee with a fetched entry that satisfies p, taken out of its list. -/
def State.takeNew (s : State) (p : Job → Bool) : Option (Nat × Job × State) :=
  s.existing.findSome? fun c =>
    if !(s.cuvee c).live then none
    else ((s.cuvee c).serving.newJobs.find? p).map fun j =>
      (c, j, s.updServing c fun v => { v with newJobs := v.newJobs.erase j })

/-- An advice entry of code 3 or 4 in force that covers a page (R236): (VA, ALT_VA, code). -/
def State.adviceFor (s : State) (c va : Nat) : Option (Nat × Nat × Nat) :=
  ((s.cuvee c).serving.advice.find? fun e =>
    (e.2.2.2.1 == 3 || e.2.2.2.1 == 4) && decide (e.2.2.2.2 ≤ s.time.epochs) && decide (e.1 ≤ va) &&
      decide (va + 65536 ≤ e.1 + e.2.1)).map fun e => (e.1, e.2.2.1, e.2.2.2.1)

/-- Source and destination pages may be remapped (R235): leaves of the same size, aligned alike. A fault is the courier's.
DEDUCED (log 103). -/
def State.remapOk (s : State) (c src dst : Nat) : Except XFault Bool :=
  match s.walk c src, s.walk c dst with
  | .error k, _ => .error ⟨k, src⟩
  | _, .error k => .error ⟨k, dst⟩
  | .ok a, .ok b => .ok (a.level == b.level && src % pageSize a.level == dst % pageSize a.level)

/-- Every page of a range may be remapped. -/
def State.remapAll (s : State) (c src dst : Nat) : Nat → Except XFault Bool
  | 0 => .ok true
  | n + 1 =>
    match s.remapOk c (src + 65536 * n) (dst + 65536 * n), s.remapAll c src dst n with
    | _, .error f => .error f
    | .error f, _ => .error f
    | .ok a, .ok b => .ok (a && b)

/-- Copy a range through the courier page by page, up to a page that faults (R225, R235): `f` pieces at most, none across a
border of 64 KiB at either end. -/
def State.courierPages (c label : Nat) : Nat → Nat → Nat → Nat → List Byte → State → Option XFault × State
  | 0, _, _, _, _, s => (none, s)
  | f + 1, src, dst, n, ext, s =>
    if n = 0 then (none, s)
    else
      let k := min n (min (65536 - src % 65536) (65536 - dst % 65536))
      let q := s.vaRead c src k label ext
      match q.1 with
      | .error x => (some x, q.2)
      | .ok bs =>
        let w := q.2.vaWrite c dst bs label
        match w.1 with
        | some x => (some x, w.2)
        | none => State.courierPages c label f (src + k) (dst + k) (n - k) (ext.drop k) w.2

/-- Copy a range through the courier; `ext` is what the host returns for the parts behind host windows. -/
def State.courierCopy (s : State) (c label src dst n : Nat) (ext : List Byte) : Option XFault × State :=
  State.courierPages c label (2 * (n / 65536) + 3) src dst n ext s

/-- The pages of an ADVISED prefetch that move, with their new places (R235). -/
def State.advisedPages (s : State) (c src n : Nat) : List (Nat × Nat) :=
  (List.range (n / 65536)).filterMap fun i =>
    let va := src + 65536 * i
    match s.adviceFor c va, s.walk c va with
    | some (base, alt, code), .ok lf =>
      let host := teType lf.entry == 1
      if (code == 3 && host) || (code == 4 && teType lf.entry == 0) then some (va, alt + (va - base)) else none
    | _, _ => none

/-- Copy and note pages for remapping, until one faults. -/
def State.movePages (c label : Nat) (j : Job) : List (Nat × Nat) → List Byte → State → Option XFault × State
  | [], _, s => (none, s)
  | (src, dst) :: rest, ext, s =>
    let q := s.courierCopy c label src dst 65536 ext
    match q.1 with
    | some f => (some f, q.2)
    | none =>
      State.movePages c label j rest (ext.drop 65536)
        (q.2.updServing c fun v => { v with remaps := v.remaps ++ [(src, dst, 65536, j)] })

/-- A PREFETCH's copy (R235): the RESULT of its daybook record, and the state with the command completed or waiting for its
pages' leaves. -/
def State.prefetchRun (s : State) (c : Nat) (j : Job) (ext : List Byte) : Nat × State :=
  let src := j.entry.get 24 8
  let dst := j.entry.get 32 8
  let n := j.entry.get 40 8
  let label := j.entry.get 18 1
  let remap := bit (jbOpt j) 0
  if bit (jbOpt j) 1 then
    let ps := s.advisedPages c src n
    let apart := ps.any fun p => match s.remapOk c p.1 p.2 with
      | .ok b => !b
      | .error _ => false
    if src % 65536 != 0 || (ps.any fun p => p.2 % 65536 != 0) || apart then (5, s.completeJob c j 5)
    else
      let q := State.movePages c label j ps ext s
      match q.1 with
      | some f =>
        (7, (q.2.updServing c fun v => { v with remaps := v.remaps.filter fun r => r.2.2.2 != j }).courierFault c j f)
      | none => (0, if ps.isEmpty then q.2.completeJob c j 0 else q.2)
  else if !remap then
    let q := s.courierCopy c label src dst n ext
    match q.1 with
    | some f => (7, q.2.courierFault c j f)
    | none => (0, q.2.completeJob c j 0)
  else if src % 65536 ≠ 0 || dst % 65536 ≠ 0 then (5, s.completeJob c j 5)
  else match s.remapAll c src dst (n / 65536) with
    | .error f => (7, s.courierFault c j f)
    | .ok false => (5, s.completeJob c j 5)
    | .ok true =>
      let q := s.courierCopy c label src dst n ext
      match q.1 with
      | some f => (7, q.2.courierFault c j f)
      | none =>
        (0, if n = 0 then q.2.completeJob c j 0
          else q.2.updServing c fun v => { v with remaps := v.remaps ++ [(src, dst, n, j)] })

/-- A courier command in the daybook, around what it does (R412). DESIGN CHOICE (log 218). -/
def State.courierJob (s : State) (c kind bytes va : Nat) (run : State → Nat × State) : State :=
  let r := run (s.jobBegin c 2 kind 0 bytes va)
  r.2.jobEnd c 2 kind 0 bytes r.1 va

/-- PREFETCH (R235). DEDUCED (log 87). -/
def State.prefetchCommand (s : State) (ext : List Byte) : State :=
  match s.takeNew fun j => jbKind j == 4 && jbSub j == 0x10 with
  | none => s
  | some (c, j, s) => s.courierJob c 0x10 (j.entry.get 40 8) (j.entry.get 24 8) fun s => s.prefetchRun c j ext

/-- Rewrite the leaf of one source page: WTYPE, CACHE and TARGET of the destination's leaf (R235). DEDUCED (log 103). -/
def State.remapPage (s : State) (c src dst : Nat) : State :=
  let root := s.num 0x5040 c
  match s.walk c src, s.walk c dst, (s.walkPlaces c src [0, 1, 2, 3] (bits root 43 38) (bits root 35 0)).getLast? with
  | .ok a, .ok b, some (k, off) =>
    let keep := a.entry - bits a.entry 59 56 * 2 ^ 56 - bits a.entry 43 0
    s.hbmWrite k off (toBytes 8 (keep + bits b.entry 59 56 * 2 ^ 56 + bits b.entry 43 0))
  | _, _, _ => s

/-- At a boundary, remapped pages take their new leaves, cached translations of the source go, and their commands are done
(R235). DEDUCED (log 103). -/
def State.remapBoundary (s : State) : State :=
  s.each s.existing fun s c =>
    let rs := (s.cuvee c).serving.remaps
    if rs.isEmpty then s
    else
      let s := s.each rs fun s r =>
        (s.each (List.range (r.2.2.1 / 65536)) fun s i => s.remapPage c (r.1 + 65536 * i) (r.2.1 + 65536 * i)).invalidate
          c r.1 r.2.2.1
      let s := s.updServing c fun v => { v with remaps := [] }
      s.each (rs.map fun r => r.2.2.2).dedup fun s j => s.completeJob c j 0

/-- WILL_NEED on one page (R236): its translation, walked once, goes into the units of every parcel where the cuvee holds tiles, its local bytes through the
cache. DEDUCED (log 198). -/
def State.willNeed (s : State) (c label va n : Nat) : Option XFault × State :=
  let ps := ((s.cvTiles c).map tileParcel).dedup
  let r := s.walkCounted c va 0
  match r.1 with
  | .error k => (some ⟨k, va⟩, r.2.countXFault c)
  | .ok lf =>
    let s := r.2.each ps fun s p => s.fillUnit c p (lf.key va) lf.value
    let q := if teType lf.entry = 0 then s.vaRead c va n label [] else (.ok [], s)
    match q.1 with
    | .error f => (some f, q.2)
    | .ok _ => (none, q.2)

/-- WILL_NEED on a range, page by page. DEDUCED (log 198). -/
def State.willNeedAll (c label : Nat) : Nat → Nat → Nat → State → Option XFault × State
  | 0, _, _, s => (none, s)
  | f + 1, va, n, s =>
    if n = 0 then (none, s)
    else
      let k := min n (65536 - va % 65536)
      let q := s.willNeed c label va k
      match q.1 with
      | some x => (some x, q.2)
      | none => State.willNeedAll c label f (va + k) (n - k) q.2

/-- The lines, by pseudo-channel, that 64 KiB at an offset of a set stand in: 256 B after 256 B over the set's members (R188). -/
def State.pageLines (s : State) (c set off : Nat) : List (Nat × Nat) :=
  (List.range 256).filterMap fun i => (s.resolveSet c set (off + 256 * i)).map fun p => (p.1, p.2 / 256)

/-- DONT_NEED on one page (R236): the cuvee's lines of a local page leave the cache. DEDUCED (log 198). -/
def State.dontNeed (s : State) (c va : Nat) : State :=
  match s.walk c va with
  | .error _ => s
  | .ok lf =>
    if teType lf.entry ≠ 0 then s
    else
      let gone := s.pageLines c (teSet lf.entry) (teOff lf.entry + va % pageSize lf.level / 65536 * 65536)
      s.each (gone.map fun e => pcParcel e.1).dedup fun s p => s.updParcel p fun x =>
        { x with lines := x.lines.filter fun l => !gone.contains (l.pc, l.line) }

/-- Ranges of advice overlap. -/
def adviceMeets (va n : Nat) (e : Nat × Nat × Nat × Nat × Nat) : Bool := decide (e.1 < va + n) && decide (va < e.1 + e.2.1)

/-- An ADVISE (R236), with the RESULT of its daybook record. -/
def State.adviseRun (s : State) (c : Nat) (j : Job) : Nat × State :=
  let va := j.entry.get 24 8
  let alt := j.entry.get 32 8
  let n := j.entry.get 40 8
  let code := jbOpt j
  let label := j.entry.get 18 1
  let kept := (s.cuvee c).serving.advice.filter fun e => !adviceMeets va n e
  if code = 5 then (0, (s.updServing c fun v => { v with advice := kept }).completeJob c j 0)
  else if code = 1 then
    let s := s.each (pagesOf va n) fun s v => s.dontNeed c v
    (0, (if n = 0 then s else s.invalidate c va n).completeJob c j 0)
  else
    let q := if code ≤ 2 then State.willNeedAll c label (n / 65536 + 2) va n s else (none, s)
    match q.1 with
    | some f => (7, q.2.courierFault c j f)
    | none =>
      if code = 0 then (0, q.2.completeJob c j 0)
      else if 16 ≤ kept.length then (9, q.2.completeJob c j 9)
      else
        (0, (q.2.updServing c fun v => { v with advice := kept ++ [(va, n, alt, code, s.time.epochs + 1)] }).completeJob c j 0)

/-- ADVISE (R236). DEDUCED (log 87). -/
def State.adviseCommand (s : State) : State :=
  match s.takeNew fun j => jbKind j == 4 && jbSub j == 0x11 with
  | none => s
  | some (c, j, s) => s.courierJob c 0x11 (j.entry.get 40 8) (j.entry.get 24 8) fun s => s.adviseRun c j

/-- AdviceTable (R236). -/
def State.adviceTable (s : State) (c : Nat) : Blob :=
  let es := (s.cuvee c).serving.advice
  Blob.array 32 ((List.range 16).map fun i => match es[i]? with
    | some e => (Blob.record [(8, e.1), (8, e.2.1), (8, e.2.2.1), (1, e.2.2.2.1), (7, 0)]).val
    | none => 0)

def execLoadModel (b : BottleFindings) (s : State) : Result := .next (s.loadModel b)
def execBottleLoadDone (c model : Nat) (b : BottleFindings) (s : State) : Result := .next (s.bottleLoadDone c model b)
def execUnloadModel (s : State) : Result := .next s.unloadModel
def execPlace (s : State) : Result := .next s.placeModel
def execControlCancel (s : State) : Result := .next s.controlCancel
def execPrefetch (hostData : List Byte) (s : State) : Result := .next (s.prefetchCommand hostData)
def execAdvise (s : State) : Result := .next s.adviseCommand

end Sys2Proof.Machine
end

