-- ==== Sys2Proof/Machine/Text.lean ====
section
/-! DEFINITION. Machine/Text.lean: text models: casks and staves (R294, R295, R337), continuous batching and descriptors
(R291–R293), sampling (R296), and the token stream (R285). -/

namespace Sys2Proof.Machine

/-! ## Casks and staves -/

/-- CASK_TABLE_VA (R304). DEDUCED (log 104). -/
def State.caskTable (s : State) (c : Nat) : Nat := (s.val 0x7000 c).get 0 8

/-- A cask-table entry's bytes (R294); LIST_VA for a list base and the bytes of one list. DEDUCED (log 104). -/
def caskBytes (x : Cask) (listVa : Nat) : List Byte :=
  toBytes 32 (Blob.record [(1, x.state), (1, x.model), (2, 0), (4, x.vintage), (4, x.tokens), (4, x.staves.length),
    (8, listVa), (8, x.holder)]).val

/-- The stave list of a cask (R294). -/
def listVa (m : Model) (id : Nat) : Nat := m.recipe.buffers.getD 4 0 + id * 4 * ceilDiv (btMaxLength m) 64

/-- Cask id of cuvee c. -/
def State.cask (s : State) (c id : Nat) : Option Cask := (s.cuvee c).serving.casks.find id

/-- Put a cask into the table: the device's own record, and the table, the list and the origin table in the cuvee's memory
(R294, R337). DEDUCED (log 104). -/
def State.setCask (s : State) (c id : Nat) (x : Cask) : State :=
  let s := s.updServing c fun v => { v with casks := v.casks.insert id x }
  let list := match s.model c x.model with
    | some m => listVa m id
    | none => 0
  let s := s.coreWrite c (s.caskTable c + 32 * id) (caskBytes x list)
  let s := s.coreWrite c (s.caskTable c + 0x20_0000 + 8 * id) (toBytes 8 x.uid)
  if x.staves.isEmpty then s else s.coreWrite c list (x.staves.flatMap fun n => toBytes 4 n)

/-- A cask becomes FREE, with its staves (R293). -/
def State.freeCask (s : State) (c id : Nat) : State :=
  let s := s.updServing c fun v => { v with casks := Sparse.erase v.casks id }
  s.coreWrite c (s.caskTable c + 32 * id) (toBytes 32 0)

/-- The lowest FREE cask ID (R294). -/
def State.freeCaskId (s : State) (c : Nat) : Option Nat :=
  (List.range 65536).find? fun i => ((s.cuvee c).serving.casks.find i).isNone

/-- Staves of a model that some cask holds. -/
def State.stavesUsed (s : State) (c slot : Nat) : List Nat :=
  ((s.cuvee c).serving.casks.filter fun e => e.2.model == slot).flatMap fun e => e.2.staves

/-- The n lowest free staves of a model's pool (R294): `none` when fewer are free. DESIGN CHOICE (log 94). -/
def State.freeStaves (s : State) (c slot n : Nat) : Option (List Nat) :=
  match s.model c slot with
  | none => none
  | some m =>
    let used := s.stavesUsed c slot
    let pool := Config.stavePool (m.recipe.buffers.getD 3 0)
    let got := ((List.range (used.length + n)).filter fun i => decide (i < pool) && !used.contains i).take n
    if got.length = n then some got else none

/-- Give a cask the staves of positions below `len` (R295); `none` when they cannot all be given. -/
def State.giveStaves (s : State) (c id len : Nat) : Option State :=
  match s.cask c id with
  | none => none
  | some x =>
    let need := ceilDiv len 64 - x.staves.length
    if need = 0 then some s
    else (s.freeStaves c x.model need).map fun got => s.setCask c id { x with staves := x.staves ++ got }

/-- A new cask's UID (R337). -/
def State.newUid (s : State) (id : Nat) : Nat := s.deviceId % 4096 * 2 ^ 52 + id * 2 ^ 36 + s.time.e % 2 ^ 36

/-! ## Sampling (R296) -/

/-- An FP32 value from n / 2^k, exactly where it has 24 bits or fewer. -/
def ratio32 (n k : Nat) : Word32 := (Num.fin false (n * one / 2 ^ k)).toF32

/-- Candidates in order: scaled logit descending, ties by lower token. -/
def candBefore (a b : Nat × Word32) : Bool :=
  let x := f32 (fadd a.2 0)
  let y := f32 (fadd b.2 0)
  y.less x || (!x.less y && decide (a.1 < b.1))

/-- Put a candidate into an ordered list. -/
def putCand (x : Nat × Word32) : List (Nat × Word32) → List (Nat × Word32)
  | [] => [x]
  | y :: ys => if candBefore x y then x :: y :: ys else y :: putCand x ys

/-- The draw of the generator, 24 bits of it (R296). -/
def drawBits (seed c : Nat) : Nat :=
  let x := (seed + (c + 1) * 0x9E3779B97F4A7C15) % 2 ^ 64
  let x := (x ^^^ (x / 2 ^ 30)) * 0xBF58476D1CE4E5B9 % 2 ^ 64
  let x := (x ^^^ (x / 2 ^ 27)) * 0x94D049BB133111EB % 2 ^ 64
  (x ^^^ (x / 2 ^ 31)) / 2 ^ 40

/-- The shortest prefix whose sum reaches p, else all. -/
def topPrefix (p : Word32) : Word32 → List ((Nat × Word32) × Word32) → List ((Nat × Word32) × Word32)
  | _, [] => []
  | sum, x :: xs =>
    let sum := fadd sum x.2
    if (f32 sum).less (f32 p) then x :: topPrefix p sum xs else [x]

/-- The first kept candidate whose running sum reaches the target, else the last kept. DESIGN CHOICE (log 97). -/
def pickAt (target : Word32) : Word32 → List ((Nat × Word32) × Word32) → Option (Nat × Word32)
  | _, [] => none
  | _, [x] => some x.1
  | sum, x :: xs =>
    let sum := fadd sum x.2
    if (f32 sum).less (f32 target) then pickAt target sum xs else some x.1

/-- Sample one record: temperature, k and p of the entry, its seed, and the position c: the token with its scaled logit.
DESIGN CHOICE (log 97). -/
def sampleRecord (e : Blob) (c : Nat) (r : Candidates) : Option (Nat × Word32) :=
  let ordered := r.cands.foldl (fun l x => putCand x l) []
  if e.get 46 2 = 0 then ordered.head?
  else
    let k := if e.get 44 2 = 0 then 1024 else e.get 44 2
    let probs := (ordered.take k).map fun x => (x, Config.exp2Sampler (fadd x.2 (r.lse ^^^ 0x80000000)))
    let kept := if e.get 48 2 = 0 then probs else topPrefix (ratio32 (e.get 48 2) 16) 0 probs
    let total := kept.foldl (fun a x => fadd a x.2) 0
    pickAt (fmul (ratio32 (drawBits (e.get 56 8) c) 24) total) 0 kept

/-- A candidate record's bytes (R291). -/
def candidateBytes (r : Candidates) : List Byte :=
  toBytes 16 (Blob.record [(2, r.seqSlot), (2, r.cands.length), (4, r.lse.toNat), (8, 0)]).val ++
    r.cands.flatMap fun e => toBytes 4 e.1 ++ toBytes 4 e.2.toNat

/-- A read by the vintner core; one that faults is recorded and brings nothing. -/
def State.coreRead (s : State) (c va n : Nat) (ext : List Byte) : Option (List Byte) × State :=
  let r := s.vaRead c va n (s.num 0x5046 c) ext
  match r.1 with
  | .ok bs => (some bs, r.2)
  | .error f => (none, r.2.plainFault c 2 1 0xFFFF f.va f.kind 0)

/-- n candidate records, one after another from a VA (R291): COUNT is at most 1,024, and a record with a reserved byte set is
not acted on. `ext` is what a host window answers. -/
def State.readCandidates (c : Nat) : Nat → Nat → List Byte → State → List Candidates × State
  | 0, _, _, s => ([], s)
  | n + 1, va, ext, s =>
    let r := s.coreRead c va 16 ext
    match r.1 with
    | none => ([], r.2)
    | some bs =>
      let h : Blob := ⟨16, ofBytes bs⟩
      let count := min (h.get 2 2) 1024
      let q := r.2.coreRead c (va + 16) (8 * count) (ext.drop 16)
      match q.1 with
      | none => ([], q.2)
      | some es =>
        let b : Blob := ⟨8 * count, ofBytes es⟩
        let rec_ : Candidates := ⟨h.get 0 2, BitVec.ofNat 32 (h.get 4 4),
          (List.range count).map fun i => (b.get (8 * i) 4, BitVec.ofNat 32 (b.get (8 * i + 4) 4))⟩
        let rest := State.readCandidates c n (va + 16 + 8 * count) (ext.drop (16 + 8 * count)) q.2
        (if h.get 8 8 = 0 then rec_ :: rest.1 else rest.1, rest.2)

/-- The candidate records of the step that has run: one for each sequence that it samples. DESIGN CHOICE (log 212). -/
def State.candidatesOf (s : State) (c : Nat) (m : Model) (host : List Candidates) : List Candidates × State :=
  State.readCandidates c (m.seqs.filter fun q => decide (0 < q.inStep) && q.sampling).length (m.recipe.buffers.getD 1 0)
    (host.flatMap candidateBytes) s

/-! ## Sequences -/

/-- FLAGS of a TEXT_SEQUENCE entry (R278). -/
def sqStream (q : Seq) : Bool := bit (jbFlags q.job) 0
def sqLogprob (q : Seq) : Bool := bit (jbFlags q.job) 1
def sqKeep (q : Seq) : Bool := bit (jbFlags q.job) 2 || bit (jbFlags q.job) 3
/-- Bytes of one token record (R285), and the bytes written for n tokens. -/
def sqToken (q : Seq) : Nat := if sqLogprob q then 8 else 4
def sqBytes (q : Seq) (n : Nat) : Nat := 16 + n * sqToken q
/-- A token as it is written: U32 ID, and its log-probability where asked for. Tokens are kept as ID + 2^32 × pattern. -/
def tokenBytes (q : Seq) (t : Nat) : List Byte := toBytes (sqToken q) t

/-- Change the sequences of a model. -/
def State.updSeqs (s : State) (c slot : Nat) (f : List Seq → List Seq) : State :=
  s.updModel c slot fun m => { m with seqs := f m.seqs }
/-- Replace one sequence. -/
def State.putSeq (s : State) (c slot : Nat) (q : Seq) : State :=
  s.updSeqs c slot fun l => l.map fun x => if x.slot = q.slot then q else x

/-- Write tokens from number `first`, the header body, then GEN (R285, R75). DEDUCED (log 92). -/
def State.writeTokens (s : State) (c : Nat) (q : Seq) (first gen : Nat) : Option XFault × State :=
  let va := q.job.entry.get 32 8
  let label := rgLabel (s.ringEntry c q.job.pair)
  s.writePieces c label [
    (va + sqBytes q first, (q.generated.drop first).flatMap (tokenBytes q)),
    (va, toBytes 14 (Blob.record [(4, q.generated.length), (4, q.pos), (6, 0)]).val),
    (va + 14, toBytes 2 gen)]

/-- A sequence leaves its slot: output that is still to be written is written, the cask is kept or freed, and the request
completes (R285, R293, R295). DEDUCED (log 96, 213). -/
def State.leaveSeq (s : State) (c slot : Nat) (q : Seq) (result leave : Nat) (keep : Bool) : State :=
  let w := if sqStream q then (none, s) else s.writeTokens c q 0 1
  let s := w.2.updSeqs c slot fun l => l.filter fun x => x.slot != q.slot
  let s := s.updCuvee c fun v => { v with serving := { v.serving with counters := bump 64 v.serving.counters 2 1 } }
  let s := if keep then
      match s.cask c q.cask with
      | some x => s.setCask c q.cask { x with holder := 0, tokens := q.pos }
      | none => s
    else s.freeCask c q.cask
  match w.1 with
  | some f => (s.plainFault c 2 1 q.job.pair f.va f.kind 0).complete c q.job 7 0 0 f.kind (if keep then q.cask else noCask)
  | none =>
    let written := if sqStream q then q.outBytes else sqBytes q q.generated.length
    s.complete c q.job result (16 * leave) written q.generated.length (if keep then q.cask else noCask)

/-- The first test of R293 that a sampled sequence meets: its LEAVE code, 0 when it stays. -/
def Model.leaveCode (m : Model) (q : Seq) : Nat :=
  let stops := m.recipe.stopSets.getD (q.job.entry.get 50 1) []
  let token := q.generated.getLastD 0 % 2 ^ 32
  if q.job.cancel then 4
  else if bit (jbFlags q.job) 3 then 6
  else if q.job.entry.get 50 1 ≠ 0xFF && token ≠ 0xFFFF_FFFF && stops.contains token then 1
  else if q.job.entry.get 28 4 ≤ q.generated.length then 3
  else if btMaxLength m ≤ q.pos then 2
  else if q.job.entry.get 40 4 < sqBytes q (q.generated.length + 1) then 5
  else 0

/-- What a completed step does to one sequence (R291, R293): tokens run join the cask; a sampled one gets its token. A
missing candidate record leaves the token open. DESIGN CHOICE (log 97); DEDUCED (log 213). -/
def State.stepSeq (s : State) (c slot : Nat) (cands : List Candidates) (q : Seq) : State :=
  match s.model c slot with
  | none => s
  | some m =>
    if q.inStep = 0 then (if q.job.cancel then s.leaveSeq c slot q 1 4 (sqKeep q) else s)
    else
      let pos := q.pos + q.inStep
      let picked := ((cands.find? fun r => r.seqSlot == q.slot).bind (sampleRecord q.job.entry pos))
      let lse := ((cands.find? fun r => r.seqSlot == q.slot).map Candidates.lse).getD 0
      let f := s.fresh
      let tok := match picked with
        | some (t, l) => (t % 2 ^ 32 + 2 ^ 32 * (fadd l (lse ^^^ 0x80000000)).toNat, s)
        | none => (f.1 % 2 ^ 64, f.2)
      let sampled := q.sampling
      let r := if sampled then tok else (0, s)
      let s := r.2
      let q := { q with
        pos := pos, prompt := q.prompt.drop q.inStep, inStep := 0, done_ := q.done_ + q.inStep, sampling := false
        generated := if sampled then q.generated ++ [r.1] else q.generated }
      let s := match s.cask c q.cask with
        | some x => s.setCask c q.cask { x with tokens := pos }
        | none => s
      if !sampled then (if q.job.cancel then s.leaveSeq c slot q 1 4 (sqKeep q) else s.putSeq c slot q)
      else
        let gen := q.outGen % 65535 + 1
        let w := if sqStream q then s.writeTokens c q (q.generated.length - 1) gen else (none, s)
        let before := q.outBytes
        let q := { q with outGen := gen, outBytes := if sqStream q then sqBytes q q.generated.length else q.outBytes }
        match w.1 with
        | some f =>
          let s := (w.2.updSeqs c slot fun l => l.filter fun x => x.slot != q.slot).freeCask c q.cask
          (s.plainFault c 2 1 q.job.pair f.va f.kind 0).complete c q.job 7 0 before f.kind noCask
        | none =>
          let code := m.leaveCode q
          if code = 0 then w.2.putSeq c slot q
          else w.2.leaveSeq c slot q (if code = 4 then 1 else 0) code (sqKeep q)

/-! ## The next batch (R292, R295) -/

/-- A record of the descriptor (R291). -/
structure BatchRec where
  seq    : Seq
  count  : Nat
  tokens : List Nat
  pre    : Bool
  sample : Bool
deriving DecidableEq, Repr, Inhabited

/-- Sequences in join order. -/
def putJoined (q : Seq) : List Seq → List Seq
  | [] => [q]
  | x :: xs => if q.joined < x.joined then q :: x :: xs else x :: putJoined q xs
def joinOrder (l : List Seq) : List Seq := l.foldl (fun o q => putJoined q o) []

/-- A sequence takes part with `count` tokens, once its staves are given; otherwise it is left out (R295).
DEDUCED (log 95). -/
def State.enrol (s : State) (c slot : Nat) (q : Seq) (count : Nat) (tokens : List Nat) (pre sample : Bool) :
    Option BatchRec × State :=
  match s.giveStaves c q.cask (q.pos + count) with
  | some s =>
    let q := { q with inStep := count, sampling := sample, leftOut := 0 }
    (some ⟨q, count, tokens, pre, sample⟩, s.putSeq c slot q)
  | none => (none, s.putSeq c slot { q with inStep := 0, sampling := false, leftOut := q.leftOut + 1 })

/-- Add one sequence to the batch under the budget left. DEDUCED (log 95). -/
def State.batchSeq (s : State) (c slot : Nat) (m : Model) (budget : Nat) (q : Seq) : Option BatchRec × State :=
  if q.prompt = [] then
    if q.generated = [] || budget = 0 then (none, s)
    else s.enrol c slot q 1 [q.generated.getLastD 0 % 2 ^ 32] false true
  else
    let n := min (min (btChunk m) q.prompt.length) budget
    if n = 0 then (none, s) else s.enrol c slot q n (q.prompt.take n) true (n == q.prompt.length)

/-- Add sequences in turn. -/
def State.batchAll (c slot : Nat) (m : Model) : List Seq → Nat → List BatchRec → State → Nat × List BatchRec × State
  | [], budget, rs, s => (budget, rs, s)
  | q :: qs, budget, rs, s =>
    let r := s.batchSeq c slot m budget q
    match r.1 with
    | some b => State.batchAll c slot m qs (budget - b.count) (rs ++ [b]) r.2
    | none => State.batchAll c slot m qs budget rs r.2

/-- The lowest free sequence slot. -/
def Model.freeSlot (m : Model) : Option Nat :=
  (List.range (btSlots m)).find? fun i => !(m.seqs.any fun q => q.slot == i)

/-- The cask a waiting request joins with: a new one, or its own once it is OWNED and unheld; `none` to go on waiting
(R279, R345). -/
def State.joinCask (s : State) (c slot : Nat) (j : Job) : Option (Nat × Cask) :=
  let id := j.entry.get 52 4
  if id = noCask then
    (s.freeCaskId c).map fun i => (i, { (default : Cask) with state := 1, model := slot, vintage := 1, uid := s.newUid i })
  else match s.cask c id with
    | some x => if x.state = 1 && !s.caskHeld c id then some (id, x) else none
    | none => none

/-- A waiting request joins (R292): its prompt is read and it takes a slot and its cask. A prompt that cannot be read ends
the request (R284). DEDUCED (log 98). -/
def State.join (s : State) (c slot : Nat) (j : Job) (at_ id : Nat) (x : Cask) (ext : List Byte) :
    Option Seq × State :=
  let n := j.entry.get 24 4
  let s := s.updServing c fun v => { v with waiting := v.waiting.erase j }
  let r := s.vaRead c (j.entry.get 16 8) (4 * n) (rgLabel (s.ringEntry c j.pair)) ext
  match r.1 with
  | .error f => (none, (r.2.plainFault c 2 1 j.pair f.va f.kind 0).completeJob c j 7 f.kind)
  | .ok bs =>
    let prompt := (List.range n).map fun i => ofBytes ((bs.drop (4 * i)).take 4)
    let k := (s.cuvee c).serving.counters.getD 1 0
    let q : Seq := ⟨at_, j, id, x.tokens, prompt, n, 0, [], 0, 0, false, 0, 0, k⟩
    let s := r.2.updServing c fun v => { v with counters := bump 64 v.counters 1 1 }
    let s := s.setCask c id { x with holder := jbRequest j }
    (some q, s.updSeqs c slot fun l => l ++ [q])

/-- Waiting requests of a model join in fetch order, while a slot is free, budget remains and no sequence is left out.
DEDUCED (log 98). -/
def State.joinAll (c slot : Nat) (prompts : List (Nat × List Nat)) :
    List Job → Nat → List BatchRec → State → List BatchRec × State
  | [], _, rs, s => (rs, s)
  | j :: js, budget, rs, s =>
    match s.model c slot with
    | none => (rs, s)
    | some m =>
      if budget = 0 || (m.seqs.any fun q => decide (0 < q.leftOut)) then (rs, s)
      else
        let id := j.entry.get 52 4
        if id ≠ noCask && (s.cask c id).isNone then
          State.joinAll c slot prompts js budget rs
            ((s.updServing c fun v => { v with waiting := v.waiting.erase j }).completeJob c j 2)
        else match m.freeSlot, s.joinCask c slot j with
          | none, _ => (rs, s)
          | _, none => State.joinAll c slot prompts js budget rs s
          | some at_, some (k, x) =>
            let ext := ((prompts.find? fun p => p.1 == 65536 * j.pair + j.sqPos).map fun p =>
              p.2.flatMap fun t => toBytes 4 t).getD []
            let r := s.join c slot j at_ k x ext
            match r.1 with
            | none => State.joinAll c slot prompts js budget rs r.2
            | some q =>
              let b := r.2.batchSeq c slot m budget q
              match b.1 with
              | some rec_ => State.joinAll c slot prompts js (budget - rec_.count) (rs ++ [rec_]) b.2
              | none => State.joinAll c slot prompts js budget rs b.2

/-- The descriptor's records and tokens (R291). -/
def recordBytes (m : Model) : List BatchRec → Nat → List Byte
  | [], _ => []
  | r :: rs, off =>
    toBytes 32 (Blob.record [(2, r.seq.slot), (2, b2n r.pre + 2 * b2n r.sample), (4, r.seq.pos), (4, r.count), (4, r.seq.cask),
      (4, off), (2, r.seq.job.entry.get 46 2), (2, 0), (8, listVa m r.seq.cask)]).val ++ recordBytes m rs (off + r.count)

/-- Build the batch of the next step, write its descriptor and arrive at STEP_BARRIER (R291, R292).
DESIGN CHOICE (log 212). -/
def State.nextBatch (s : State) (c slot : Nat) (prompts : List (Nat × List Nat)) : State :=
  match s.model c slot with
  | none => s
  | some m =>
    let all := joinOrder m.seqs
    let r1 := State.batchAll c slot m (all.filter fun q => q.prompt == []) (btTokens m) [] s
    let r2 := State.batchAll c slot m (all.filter fun q => q.prompt != []) r1.1 r1.2.1 r1.2.2
    let waiting := (s.cuvee c).serving.waiting.filter fun j => jbKind j == 1 && jbModel j == slot
    let r3 := State.joinAll c slot prompts waiting r2.1 r2.2.1 r2.2.2
    let tokens := r3.1.flatMap BatchRec.tokens
    let bytes := descriptorHeader (m.steps + 1) r3.1.length tokens.length ++ recordBytes m r3.1 0 ++
      tokens.flatMap fun t => toBytes 4 t
    ((r3.2.coreWrite c (m.recipe.buffers.getD 0 0) bytes).vintnerTask c 1 slot r3.1.length (m.steps + 1)).coresArrive c m

/-- TEXT_SEQUENCE and TENSOR_JOB: a fetched entry joins the waiting queue of its model (R280, R292). -/
def State.takeWaiting (s : State) (kind : Nat) : State :=
  match s.takeNew fun j => jbKind j == kind with
  | none => s
  | some (c, j, s) => s.updServing c fun v => { v with waiting := v.waiting ++ [j] }

/-- STAVES_EXHAUSTED (R295): a generating sequence has been left out of eight steps in a row; the sequence that joined most
recently among those holding staves is evicted. -/
def State.stavesExhausted (s : State) (c slot : Nat) : State :=
  match s.model c slot with
  | none => s
  | some m =>
    if !(m.seqs.any fun q => q.prompt == [] && decide (8 ≤ q.leftOut)) || !(s.cuvee c).live then s
    else
      let s := s.updSeqs c slot fun l => l.map fun q => if 8 ≤ q.leftOut then { q with leftOut := 0 } else q
      let holding := (joinOrder m.seqs).filter fun q => !(((s.cask c q.cask).map Cask.staves).getD []).isEmpty
      match holding.getLast? with
      | none => s
      | some q =>
        let s := s.updServing c fun v => { v with counters := bump 64 v.counters 6 1 }
        s.leaveSeq c slot q 3 0 false

def execTextSequence (s : State) : Result := .next (s.takeWaiting 1)
def execTensorJob (s : State) : Result := .next (s.takeWaiting 3)
def execStavesExhausted (c model : Nat) (s : State) : Result := .next (s.stavesExhausted c model)

end Sys2Proof.Machine
end

