-- ==== Sys2Proof/Machine/Steps.lean ====
section
/-! DEFINITION. Machine/Steps.lean: steps of every model kind as the serving loop runs them: pages (R290, R298), switching and
pre-emption (R299, R300), the end of a step (R286, R291), and outputs. -/

namespace Sys2Proof.Machine

/-! ## The requests of a step -/

/-- A stream's group on the cuvee. -/
def streamGroup (m : Model) (e : Nat) : Nat := onCuvee m.groupBase (smGroup e)

/-- Change the requests that a step of group g holds: `p` says which of a vision model's frames, by key and job. -/
def State.stepRequests (s : State) (c slot g : Nat) (p : Nat → Job → Bool) (f : Job → Job) : State :=
  match s.model c slot with
  | none => s
  | some m =>
    let inBatch := g == onCuvee m.groupBase (btGroup m)
    let change := fun (e : Nat × Job) =>
      let k := s.stream c (e.1 % 256)
      if smModel k == slot && streamGroup m k == g && p e.1 e.2 then (e.1, f e.2) else e
    s.updServing c fun v =>
      if m.recipe.kind = 1 then
        if !inBatch then v
        else { v with models := v.models.insert slot { m with
          seqs := m.seqs.map fun q => if 0 < q.inStep then { q with job := f q.job } else q } }
      else if m.recipe.kind = 3 then
        if !inBatch then v else { v with models := v.models.insert slot { m with current := m.current.map f } }
      else { v with stepJobs := v.stepJobs.map change }

/-- The requests of group g's step that have begun. DEDUCED (log 99). -/
def State.stepJobsOf (s : State) (c slot g : Nat) : List Job :=
  match s.model c slot with
  | none => []
  | some m =>
    let all := if m.recipe.kind = 1 then (m.seqs.filter fun q => decide (0 < q.inStep)).map Seq.job
      else if m.recipe.kind = 3 then m.current
      else ((s.cuvee c).serving.stepJobs.filter fun e =>
        let k := s.stream c (e.1 % 256)
        smModel k == slot && streamGroup m k == g).map Prod.snd
    if m.recipe.kind ≠ 2 && g ≠ onCuvee m.groupBase (btGroup m) then [] else all.filter Job.started

/-- A step of a group begins on its tiles; `row` is the row that started it: the requests it holds are noted (R301). -/
def State.stepBegins (s : State) (c g : Nat) (row : Nat) : State :=
  match s.groupModel c g with
  | none => s
  | some slot =>
    match s.model c slot with
    | none => s
    | some m =>
      if m.recipe.kind = 2 then
        let mine := fun (e : Nat × Job) =>
          let k := s.stream c (e.1 % 256)
          smModel k == slot && streamGroup m k == g && smStart k == rowSlot row && !e.2.started && decide (e.1 / 256 ≤ s.time.epochs)
        match (s.cuvee c).serving.stepJobs.find? mine with
        | none => s
        | some e =>
          (s.noteStart c e.2).updServing c fun v => { v with stepJobs := v.stepJobs.insert e.1 { e.2 with started := true } }
      else if g ≠ onCuvee m.groupBase (btGroup m) then s
      else
        let s := s.updModel c slot fun m => { m with unsampled := m.unsampled + 1 }
        if m.recipe.kind = 1 then
          let s := s.each (m.seqs.filter fun q => decide (0 < q.inStep)) fun s q => s.noteStart c q.job
          s.updSeqs c slot fun l => l.map fun q => if 0 < q.inStep then { q with job := { q.job with started := true } } else q
        else match m.current.find? fun j => !j.started with
          | none => s
          | some j =>
            (s.noteStart c j).updModel c slot fun m => { m with
              current := m.current.map fun x => if x = j then { j with started := true } else x }

/-- The deadline of a row's step has passed: its requests are late (R61). -/
def State.stepLate (s : State) (c : Nat) (w : Watch) : State :=
  match s.groupModel c w.tgroup with
  | none => s
  | some slot =>
    s.stepRequests c slot w.tgroup (fun k _ => k / 256 == w.row.dueAt / 4096) fun j => { j with late := true }

/-! ## Starting a group (R64, R299, R300) -/

/-- Two groups share a tile. -/
def State.groupsMeet (s : State) (c a b : Nat) : Bool :=
  let ts := s.groupTiles c b
  (s.groupTiles c a).any ts.contains

/-- The cuvee's quiesce has begun and its pause has not ended. -/
def State.quiescing (s : State) (c : Nat) : Bool := ((s.cuvee c).quiesce.map Quiesce.begun).getD false

/-- A group is busy for R64: a tile runs, is held or counts as held (an IDLE tile of a quiesce or pause, R252), a switch
is in progress on its tiles, or a step of it is pre-empted. -/
def State.groupOccupied (s : State) (c g : Nat) : Bool :=
  let v := (s.cuvee c).serving
  s.groupBusy c g || (s.quiescing c && (s.groupTiles c g).any fun t => (s.tile t).act == .idle) || (v.switching.any fun h => s.groupsMeet c g h.1) ||
    (v.preempts.any fun h => h.2.any fun l => s.groupsMeet c g l)

/-- The steps that run on a group's tiles, by their groups. -/
def State.stepsOn (s : State) (c g : Nat) : List Nat :=
  (((s.groupTiles c g).filter fun t => (s.tile t).busy).map fun t => (s.tile t).runGroup).dedup

/-- PRIORITY of a group (R288). -/
def State.groupPriority (s : State) (c g : Nat) : Nat := bits (s.groupEntry c g) 62 61

/-- A START_STEP of a group pre-empts what runs on its tiles (R300). -/
def State.preemptsNow (s : State) (c g : Nat) : Bool :=
  let v := (s.cuvee c).serving
  let lows := s.stepsOn c g
  s.preemptOn c && !lows.isEmpty && (s.groupModel c g).isSome &&
    (lows.all fun l => s.groupModel c l != s.groupModel c g && decide (s.groupPriority c l < s.groupPriority c g) &&
      (v.preempts.find l).isNone && !(v.preempts.any fun h => h.2.contains l)) &&
    !(v.switching.any fun h => s.groupsMeet c g h.1)

/-- A group's step needs a switch (R299): a tile's last step belonged to another model, or to none since the placement. -/
def State.needsSwitch (s : State) (c g : Nat) : Bool :=
  match s.groupModel c g with
  | none => false
  | some m => (s.groupTiles c g).any fun t => (s.tile t).lastModel != some m

/-- A start reaches a free group: at once, or when its model has switched in. -/
def State.issueStart (s : State) (c g entry tag watch row : Nat) : State :=
  if s.needsSwitch c g then
    s.updServing c fun v => { v with
      switching := v.switching.insert g ⟨(s.groupModel c g).getD 0, entry, tag, watch, s.slotCount⟩ }
  else (s.startGroup c g entry tag).stepBegins c g row

/-- Pre-emption (R300): every step on the group's tiles stops at its next boundaries, its requests are marked and counted,
and the start waits for the switch. -/
def State.preempt (s : State) (c g entry tag watch : Nat) : State :=
  let lows := s.stepsOn c g
  let s := s.each lows fun s l =>
    let s := s.each (s.groupTiles c l) fun s t =>
      if (s.tile t).busy && (s.tile t).runGroup == l then s.updTile t fun x => { x with preempted := true } else s
    match s.groupModel c l with
    | none => s
    | some slot =>
      let s := s.each (s.stepJobsOf c slot l) fun s j => s.account c (jbClient j) fun a => (a.1, a.2.1, (a.2.2 + 1) % 2 ^ 32)
      s.stepRequests c slot l (fun _ j => j.started) fun j => { j with preempted := true }
  s.updServing c fun v => { v with
    switching := v.switching.insert g ⟨(s.groupModel c g).getD 0, entry, tag, watch, s.slotCount⟩
    preempts := v.preempts.insert g lows, counters := bump 64 v.counters 4 lows.length }

/-! ## Switching (R115, R299) -/

/-- A courier's read of the switch area for cuvee c; one that faults is recorded and brings nothing.
DESIGN CHOICE (log 211). -/
def State.switchRead (s : State) (c va n : Nat) : Option (List Byte) × State :=
  let r := s.vaRead c va n (s.num 0x5046 c) []
  match r.1 with
  | .ok bs => (some bs, r.2)
  | .error f => (none, r.2.plainFault c 2 1 0xFFFF f.va f.kind 0)

/-- Load a model's resident range into one tile from the switch area (R287, R299): its bytes, transfer table and STEP_BASE.
DEDUCED (log 102). -/
def State.loadResident (s : State) (t : Nat) (m : Model) : State :=
  let c := (s.tile t).cuvee
  let n := (s.tile t).ctile - m.base
  let base := m.recipe.buffers.getD 5 0 + programBase m.recipe m.placement
  let images := placed (fun (e : Nat × Nat × List Byte) => e.2.2.length) m.place.image base
  let rows := placed (fun (_ : Nat × Nat × Nat) => 16) m.place.xferRows (base + sumNat (m.place.image.map fun e => e.2.2.length))
  let s := s.each (images.filter fun e => e.1.1 == n) fun s e =>
    let r := s.switchRead c e.2 e.1.2.2.length
    match r.1 with
    | some bs => r.2.storeWrite t e.1.2.1 bs
    | none => r.2
  let s := s.updTile t fun x => { x with rows := [], stepBase := m.place.stepBase.getD n 0 }
  s.each (rows.filter fun e => e.1.1 == n) fun s e =>
    let r := s.switchRead c e.2 16
    match r.1 with
    | some bs => r.2.updTile t fun x => { x with rows := x.rows.set 0 e.1.2.1 (ofBytes bs) }
    | none => r.2

/-- Save what the model that ran last on a tile declares live (R299), in the parcel's stash where it has room (R198).
DESIGN CHOICE (log 196). -/
def State.saveLive (s : State) (t : Nat) : State :=
  let x := s.tile t
  match x.lastModel with
  | none => s
  | some m =>
    let key := 2048 * m + x.ctile
    let p := tileParcel t
    let r := s.tileRecord t
    let fits := decide (s.stashUsed x.cuvee p key + r.record.size ≤ s.stashBytes x.cuvee p)
    s.updServing x.cuvee fun v => { v with saved := v.saved.insert key { r with stash := if fits then some p else none } }

/-- One tile switches to a model: save, load, restore its live state, reload the planes. DEDUCED (log 102). -/
def State.switchTile (s : State) (t slot : Nat) (m : Model) : State :=
  let x := s.tile t
  let s := (s.saveLive t).loadResident t m
  let key := 2048 * slot + x.ctile
  let r := (s.cuvee x.cuvee).serving.saved.find key
  let bytes := (r.map SavedTile.bytes).getD []
  let s := s.storePatch t bytes
  let old := (r.map SavedTile.tile).getD default
  let s := s.updTile t fun y => { y with
    cells := { old.cells with plane0 := y.cells.plane0, plane1 := y.cells.plane1 }, activeP1 := old.activeP1, lastModel := some slot
    act := if y.act = .faulted then .faulted else .idle, preempted := false }
  (s.loadInto t true old.img1).loadInto t false old.img0

/-- A tile has stopped and moved everything it had under way. -/
def Tile.switchable (x : Tile) : Bool := x.act != .running && x.out.isEmpty && x.queue.isEmpty && x.load.isNone

/-- SWITCH_DONE (R299): the last tile of a group has its new model, and the step starts. -/
def State.switchDone (s : State) (c g : Nat) : State :=
  match (s.cuvee c).serving.switching.find g with
  | none => s
  | some h =>
    match s.model c h.model with
    | none => s
    | some m =>
      if !(s.cuvee c).live || (s.cuvee c).quiesce.isSome || !((s.groupTiles c g).all fun t => (s.tile t).switchable) then s
      else
        let s := s.each (s.groupTiles c g) fun s t =>
          let x := s.tile t
          if x.lastModel ≠ some h.model || x.act = .held then s.switchTile t h.model m else s
        let s := s.updServing c fun v => { v with
          switching := Sparse.erase v.switching g
          counters := bump 64 (bump 64 v.counters 3 1) 5 (s.slotCount - h.since) }
        let row := ((s.watch h.watch).map fun w => w.row.row).getD 0
        (s.startGroup c g h.entry h.tag).stepBegins c g row

/-- A pre-empted tile that the pre-empting step ran on gets its step back, as it stood at the boundary (R115, R300).
Flags and barriers live in the tile's cluster node and go on as they are. DEDUCED (log 102). -/
def State.resumeSaved (s : State) (t slot : Nat) (m : Model) : State :=
  let own := s.tile t
  match (s.cuvee own.cuvee).serving.saved.find (2048 * slot + own.ctile) with
  | none => s
  | some r =>
    -- a tile that stopped FAULTED in the pre-empting step stays FAULTED (R103)
    if own.act = .faulted then
      s.updServing own.cuvee fun v => { v with saved := Sparse.erase v.saved (2048 * slot + own.ctile) }
    else
    let s := (s.saveLive t).loadResident t m
    let s := s.storePatch t r.bytes
    let s := s.setTile t { r.tile with
      cuvee := own.cuvee, ctile := own.ctile, retired := own.retired, corrected := own.corrected, recent := own.recent
      phi := own.phi, flags := own.flags, bars := own.bars, micro := own.micro, landed := own.landed, preempted := false
      progress := s.time.now }
    let s := (s.loadInto t true r.tile.img1).loadInto t false r.tile.img0
    s.updServing own.cuvee fun v => { v with saved := Sparse.erase v.saved (2048 * slot + own.ctile) }

/-- PREEMPTED_RESUME (R300): the pre-empting step is over; the steps it stopped switch back in and go on at their held
entries. -/
def State.preemptedResume (s : State) (c g : Nat) : State :=
  match (s.cuvee c).serving.preempts.find g with
  | none => s
  | some lows =>
    if s.groupBusy c g || ((s.cuvee c).serving.switching.find g).isSome || !(s.cuvee c).live || (s.cuvee c).quiesce.isSome then s
    else
      let shared := s.groupTiles c g
      let s := s.updServing c fun v => { v with preempts := Sparse.erase v.preempts g, counters := bump 64 v.counters 3 1 }
      s.each lows fun s l =>
        match s.groupModel c l with
        | none => s
        | some slot =>
          match s.model c slot with
          | none => s
          | some m =>
            s.each (s.groupTiles c l) fun s t =>
              let s := if shared.contains t then s.resumeSaved t slot m
                else s.updTile t fun x => { x with preempted := false }
              if (s.tile t).act = .held then s.resumeTile t else s

/-! ## The end of a step (R286, R291) -/

/-- The step of a group is over, though a later one may already run: it is not busy, or `again` says it began once more. -/
def State.stepOver (s : State) (c g : Nat) (again : Bool) : Bool :=
  again || (!s.groupBusy c g && !((s.cuvee c).serving.preempts.any fun h => h.2.contains g))

/-- One more step is counted. -/
def State.countStep (s : State) (c slot : Nat) : State :=
  let s := s.updServing c fun v => { v with counters := bump 64 v.counters 0 1 }
  s.updModel c slot fun m => { m with steps := m.steps + 1 }

/-- A finished frame or tensor job goes to the courier, or ends without its output under DROP_LATE (R286, R298).
DEDUCED (log 105). -/
def State.stepOutput (s : State) (c : Nat) (j : Job) (policy : Nat) : State :=
  let s := if jbKind j = 2 && j.late then s.updServing c fun v => { v with counters := bump 64 v.counters 7 1 } else s
  if jbKind j = 2 && j.late && policy = 1 then
    (s.updServing c fun v => { v with counters := bump 64 v.counters 8 1 }).completeJob c j (if j.cancel then 1 else 4)
  else s.updServing c fun v => { v with outputs := v.outputs ++ [j] }

/-- The finished frames of a vision model: its group is idle, or a later frame of the same group has begun.
DEDUCED (log 99, 105). -/
def State.framesDone (s : State) (c slot : Nat) (m : Model) : List (Nat × Job) :=
  let begun := (s.cuvee c).serving.stepJobs.filter fun e => e.2.started && smModel (s.stream c (e.1 % 256)) == slot
  begun.filter fun e =>
    let g := streamGroup m (s.stream c (e.1 % 256))
    s.stepOver c g (begun.any fun d => decide (e.1 < d.1) && streamGroup m (s.stream c (d.1 % 256)) == g)

/-- STEP_COMPLETE: the candidate records of a text model's step are read and sampled, leaves and joins follow, and the next descriptor is written (R291–R296);
a vision or tensor model's outputs go to the courier (R286). -/
def State.stepComplete (s : State) (c slot : Nat) (cands : List Candidates) (prompts : List (Nat × List Nat)) : State :=
  match s.model c slot with
  | none => s
  | some m =>
    if !(s.cuvee c).live then s
    else if m.recipe.kind = 2 then
      s.each (s.framesDone c slot m) fun s e =>
        let s := (s.updServing c fun v => { v with stepJobs := Sparse.erase v.stepJobs e.1 }).countStep c slot
        s.stepOutput c e.2 (smPolicy (s.stream c (e.1 % 256)))
    else if m.unsampled = 0 || !s.stepOver c (onCuvee m.groupBase (btGroup m)) (decide (2 ≤ m.unsampled)) then s
    else
      let s := (s.updModel c slot fun m => { m with unsampled := m.unsampled - 1 }).countStep c slot
      if m.recipe.kind = 1 then
        let s := s.vintnerTask c 2 slot m.seqs.length ((m.steps + 1) % 2 ^ 64)
        let r := s.candidatesOf c m cands
        (r.2.each m.seqs fun s q => s.stepSeq c slot r.1 q).nextBatch c slot prompts
      else match m.current.find? Job.started with
        | none => s
        | some j => (s.updModel c slot fun m => { m with current := m.current.erase j }).stepOutput c j 0

/-- OUTPUT_COPY_DONE (R286): the courier of the home parcel has copied the oldest output from the staging buffer. -/
def State.outputCopyDone (s : State) (c : Nat) : State :=
  match (s.cuvee c).serving.outputs with
  | [] => s
  | j :: rest =>
    if !(s.cuvee c).live then s
    else
      let s := s.updServing c fun v => { v with outputs := rest }
      match s.model c (jbModel j) with
      | none => s.completeJob c j 6
      | some m =>
        let va := m.recipe.buffers.getD 2 0
        let label := rgLabel (s.ringEntry c j.pair)
        let r := s.vaRead c va 16 label []
        match r.1 with
        | .error f => r.2.courierFault c j f
        | .ok head =>
          let count := ofBytes (head.take 4)
          let room := j.entry.get 40 4
          let n := min count room
          r.2.courierJob c (Config.courierKind 0) n (va + 16) fun s =>
            let q := s.courierCopy c label (va + 16) (j.entry.get 32 8) n []
            match q.1 with
            | some f => (7, q.2.courierFault c j f)
            | none => (0, q.2.complete c j (if j.cancel then 1 else 0) (if room < count then 4 else 0) n
                (ofBytes ((head.drop 4).take 4)) noCask)

/-! ## Pages (R290, R298) -/

/-- FRAME (R298): a fetched frame joins its stream's queue, or completes OVERCOMMIT where the queue is full.
DEDUCED (log 99). -/
def State.takeFrame (s : State) : State :=
  match s.takeNew fun j => jbKind j == 2 with
  | none => s
  | some (c, j, s) =>
    let k := j.entry.get 28 2
    let q := (s.cuvee c).serving.streamQ.getD k []
    if smDepth (s.stream c k) + 1 ≤ q.length then s.completeJob c j 9
    else s.updServing c fun v => { v with streamQ := v.streamQ.set [] k (q ++ [j]) }

/-- Frames whose row went by without starting a step return to the head of their queues. DEDUCED (log 100). -/
def State.returnFrames (s : State) (c : Nat) : State :=
  let old := (s.cuvee c).serving.stepJobs.filter fun e => !e.2.started && decide (e.1 / 256 < s.time.epochs)
  s.each old.reverse fun s e =>
    let s := s.updServing c fun v => { v with stepJobs := Sparse.erase v.stepJobs e.1 }
    if e.2.cancel then s.completeJob c e.2 1
    else s.updServing c fun v => { v with
      streamQ := v.streamQ.set [] (e.1 % 256) (e.2 :: v.streamQ.getD (e.1 % 256) []) }

/-- Add a row for the next page, in slot order. -/
def putRow (r : Nat) : List Nat → List Nat
  | [] => [r]
  | x :: xs => if rowSlot r < rowSlot x then r :: x :: xs else x :: putRow r xs
/-- DEDUCED (log 101). -/
def State.planRow (s : State) (c r : Nat) : State :=
  s.updServing c fun v => { v with pageRows := putRow r v.pageRows }

/-- One stream at the page's close (R298). TAG of its row is the core's own. DEDUCED (log 101). -/
def State.closeStream (s : State) (c k : Nat) : State :=
  let e := s.stream c k
  match s.model c (smModel e) with
  | none => s
  | some m =>
    if !smValid e || m.state ≠ 2 || m.recipe.kind ≠ 2 then s
    else
      let q := (s.cuvee c).serving.streamQ.getD k []
      let stale := if smPolicy e = 2 then q.dropLast else []
      let s := s.each stale fun s j =>
        (s.updServing c fun v => { v with counters := bump 64 v.counters 8 1 }).completeJob c j 4
      match q.drop stale.length with
      | [] =>
        s.updServing c fun v => { v with counters := bump 64 v.counters 9 1 }
      | j :: rest =>
        let f := s.fresh
        let s := f.2.updServing c fun v => { v with
          streamQ := v.streamQ.set [] k rest, stepJobs := v.stepJobs.insert (256 * (s.time.epochs + 1) + k) j }
        s.planRow c (makeRow 1 (smStart e) 0 0 c (streamGroup m e) 0 (smEnergy e) (smDeadline e) 0 true false 0 f.1)

/-- A text or tensor model's step row (R290): RESERVE, DEFER_MAX and TAG are the core's own. -/
def State.stepRow (s : State) (c : Nat) (m : Model) (entry : Nat) : State :=
  let a := s.fresh
  let b := a.2.fresh
  let d := b.2.fresh
  d.2.planRow c (makeRow 1 (btStepSlot m) (btStepMod m) 0 c (onCuvee m.groupBase (btGroup m)) entry (btEnergy m)
    (btDlSlot m) (btDlEpochs m) (bit a.1 0) false (b.1 % 32) d.1)

/-- One model at the page's close: a row per step; a tensor model's names the entry of the job it takes (R280, R290). -/
def State.closeModel (s : State) (c slot : Nat) : State :=
  match s.model c slot with
  | none => s
  | some m =>
    if m.state ≠ 2 || m.recipe.kind = 2 then s
    else if m.recipe.kind = 1 then s.stepRow c m 0
    else if (s.time.e + 1) % 2 ^ 40 % (btStepMod m + 1) ≠ 0 then s
    else match m.current.find? fun j => !j.started with
      | some j => s.stepRow c m (j.entry.get 28 2)
      | none =>
        match (s.cuvee c).serving.waiting.find? fun j => jbKind j == 3 && jbModel j == slot with
        | none => s
        | some j =>
          let s := s.updServing c fun v => { v with waiting := v.waiting.erase j }
          (s.updModel c slot fun m => { m with current := m.current ++ [j] }).stepRow c m (j.entry.get 28 2)

/-- PageClose of a cuvee (R304). -/
def State.pageCloseSlot (s : State) (c : Nat) : Nat :=
  let p := (s.val 0x7000 c).get 8 2
  if p = 0 then 3968 else p

/-- PAGE_CLOSE (R298): once in an epoch, from slot PageClose on. -/
def State.pageClose (s : State) (c : Nat) : State :=
  let v := s.cuvee c
  if !v.live || s.time.slot < s.pageCloseSlot c || v.serving.closedAt = some s.time.epochs then s
  else
    let s := (s.updServing c fun v => { v with closedAt := some s.time.epochs, pageRows := [] }).returnFrames c
    let s := s.each (List.range 256) fun s k => s.closeStream c k
    s.each (List.range 16) fun s m => s.closeModel c m

/-- NEXT_PAGE_COMPLETE (R69): the core's rows and the others of the page stand in the next page, in slot order, and
NEXT_READY is set. A locked page is not written. DEDUCED (log 101). -/
def State.nextPageComplete (s : State) (c : Nat) (rows : List Nat) : State :=
  let g := s.seg c
  let st := (s.cuvee c).state
  if g.length = 0 || g.ready || !(st == .bound || (s.cuvee c).live) then s
  else
    let page := ((s.cuvee c).serving.pageRows.foldl (fun l r => putRow r l) rows).take g.length
    let s := s.each (List.range g.length) fun s i => s.setRow (g.nextPage + i) (page.getD i 0 % 2 ^ 128)
    let s := (s.updServing c fun v => { v with pageRows := [] }).updSeg c fun g => { g with ready := true }
    s.vintnerTask c 3 0 page.length 0

def execFrame (s : State) : Result := .next s.takeFrame
def execSwitchDone (c g : Nat) (s : State) : Result := .next (s.switchDone c g)
def execPreemptedResume (c g : Nat) (s : State) : Result := .next (s.preemptedResume c g)
def execStepComplete (c model : Nat) (cands : List Candidates) (prompts : List (Nat × List Nat)) (s : State) : Result :=
  .next (s.stepComplete c model cands prompts)
def execOutputCopyDone (c : Nat) (s : State) : Result := .next (s.outputCopyDone c)
def execPageClose (c : Nat) (s : State) : Result := .next (s.pageClose c)
def execNextPageComplete (c : Nat) (rows : List Nat) (s : State) : Result := .next (s.nextPageComplete c rows)

end Sys2Proof.Machine
end

