-- ==== Sys2Proof/Machine/Casks.lean ====
section
/-! DEFINITION. Machine/Casks.lean: casks between devices (R337–R346): offers and their streams, the hand-over log, queries,
limbo, and what a freeze, a squash or a reset does to a hand-over. -/

namespace Sys2Proof.Machine

/-! ## The hand-over log (R337) -/

/-- Add to field i of CaskCounters: 0 offers sent, 1 offers committed, 2 declines received, 3 withdrawals, 4 queries sent,
5 LIMBO entries. -/
def State.caskCount (s : State) (c i : Nat) : State :=
  s.updCuvee c fun v => { v with caskCounters := bump 64 v.caskCounters i 1 }

/-- A log entry's 32 bytes. -/
def handLogBytes (h : HandLog) : List Byte :=
  toBytes 32 (Blob.record [(8, h.uid), (4, h.vintage), (2, h.offerer), (2, h.receiver), (2, h.device), (1, h.outcome), (5, 0),
    (8, h.at_)]).val

/-- Put an entry into the log, in the device's record and in the cuvee's memory. -/
def State.setLog (s : State) (c i : Nat) (h : HandLog) : State :=
  (s.updServing c fun v => { v with handLog := v.handLog.insert i h }).coreWrite c (s.caskTable c + 0x28_0000 + 32 * i) (handLogBytes h)

/-- The entry of a hand-over, with its place. -/
def State.logOf (s : State) (c uid vintage : Nat) : Option (Nat × HandLog) :=
  (s.cuvee c).serving.handLog.find? fun e => e.2.uid == uid && e.2.vintage == vintage && e.2.outcome != 0

/-- Empty an entry. -/
def State.clearLog (s : State) (c i : Nat) : State :=
  (s.updServing c fun v => { v with handLog := Sparse.erase v.handLog i }).coreWrite c (s.caskTable c + 0x28_0000 + 32 * i) (toBytes 32 0)

/-- The older of two entries whose outcome is known. DEDUCED (log 114). -/
def olderLog (a b : Nat × HandLog) : Nat × HandLog := if b.2.when_ < a.2.when_ then b else a

/-- The place of a new entry: an empty one, else the oldest whose outcome is older than LogRetention.
DEDUCED (log 114). -/
def State.logPlace (s : State) (c : Nat) : Option Nat :=
  let log := (s.cuvee c).serving.handLog
  match (List.range 16384).find? fun i => (Sparse.find log i).isNone with
  | some i => some i
  | none =>
    let keep : Rat := (s.num 0x6010 6 : Nat)
    match log.filter fun e => e.2.outcome != 1 && decide (keep < s.time.now - e.2.when_) with
    | [] => none
    | e :: es => some (es.foldl olderLog e).1

/-- Give the entry of a hand-over its outcome. -/
def State.logOutcome (s : State) (c uid vintage outcome receiver device : Nat) : State :=
  match s.logOf c uid vintage with
  | none => s
  | some (i, h) =>
    s.setLog c i { h with outcome := outcome, receiver := receiver, device := device, at_ := s.stamp, when_ := s.time.now }

/-! ## Messages -/

/-- Send a cask message to another device; without an egress it is dropped and counted (R328). DEDUCED (log 111). -/
def State.sendCask (s : State) (m : CaskMsg) : State := s.forwardMsg m.dst m.hops (.cask m)

/-- A cask message of cuvee c to a device. -/
def State.caskMsg (s : State) (c sub code dst uid vintage offerer : Nat) (receiver : Option Nat) : CaskMsg :=
  { sub := sub, hops := 0, code := code, src := s.deviceId, dst := dst, group := s.group c, window := 0
    rcvValid := receiver.isSome, offerer := offerer, receiver := receiver.getD 0, vintage := vintage, xtag := 0, uid := uid
    tokens := 0, reserved := 0 }

/-- Requests that wait for a cask that left the cuvee or was discarded complete with CASK_LOST (R345). -/
def State.loseCask (s : State) (c id : Nat) : State :=
  let hit := fun (j : Job) => jbKind j == 1 && j.entry.get 52 4 == id
  let v := (s.cuvee c).serving
  let lost := v.newJobs.filter hit ++ v.waiting.filter hit
  let s := s.updServing c fun v => { v with
    newJobs := v.newJobs.filter fun j => !hit j, waiting := v.waiting.filter fun j => !hit j }
  s.each lost fun s j => s.completeJob c j 2

/-- A record of a cask in LimboLog (R346). -/
def State.limboRecord (s : State) (c id : Nat) (x : Cask) : State :=
  let b := Blob.record [(8, x.uid), (4, x.vintage), (2, id), (1, c), (1, 0), (2, x.peer), (6, 0), (8, s.stamp)]
  { s with links := { s.links with
    limboLog := s.links.limboLog.insert (s.links.limboWritten % 64) b, limboWritten := (s.links.limboWritten + 1) % 2 ^ 32 } }

/-- The fetch that an incoming cask serves (R338). DESIGN CHOICE (log 109). -/
def State.fetchFor (s : State) (c id : Nat) : Option Fetching := (s.cuvee c).serving.fetches.find? fun f => f.cask == some id

/-- A fetch completes. DEDUCED (log 110). -/
def State.endFetch (s : State) (c : Nat) (f : Fetching) (result cask : Nat) : State :=
  (s.updServing c fun v => { v with fetches := v.fetches.erase f }).completeJob c f.job result 0 cask

/-- An incoming cask that did not come to be owned leaves its fetch without one. DEDUCED (log 110). -/
def State.unfetch (s : State) (c id : Nat) : State :=
  s.updServing c fun v => { v with
    fetches := v.fetches.map fun f => if f.cask = some id then { f with cask := none } else f }

/-- A cask goes into LIMBO (R341, R346): a fetch that it served ends with CASK_LOST and its ID. DEDUCED (log 106). -/
def State.toLimbo (s : State) (c id : Nat) (x : Cask) : State :=
  let s := ((s.setCask c id { x with state := 5 }).limboRecord c id x).caskCount c 5
  match s.fetchFor c id with
  | some f => s.endFetch c f 2 id
  | none => s

/-! ## Offering (R338, R340, R341) -/

/-- The bytes of a stave. -/
def State.staveBytes (s : State) (c : Nat) (m : Model) (n label : Nat) : List Byte × State :=
  let r := s.vaRead c (m.recipe.buffers.getD 3 0 + n * btStave m) (btStave m) label []
  match r.1 with
  | .ok bs => (bs, r.2)
  | .error f => ((List.replicate (btStave m) 0), r.2.plainFault c 2 1 0xFFFF f.va f.kind 0)

/-- A digest of R340: CRC-64, folded with F. -/
def foldedCrc (f : Nat) (bs : List Byte) : Nat :=
  crcResult 1 (bs.foldl (fun a b => crcByte 1 a b.toNat) (crcStart 1 f))

/-- The staves of a stream from ordinal k on, each with its digest, and the digests. DEDUCED (log 115). -/
def State.streamStaves (s : State) (c : Nat) (m : Model) (vintage label : Nat) : List Nat → Nat → List Byte × List Nat × State
  | [], _ => ([], [], s)
  | n :: ns, k =>
    let r := s.staveBytes c m n label
    let d := foldedCrc (vintage * 2 ^ 32 + k) r.1
    let q := r.2.streamStaves c m vintage label ns (k + 1)
    (r.1 ++ toBytes 8 d ++ toBytes 8 0 ++ q.1, d :: q.2.1, q.2.2)

/-- The digest of digests. -/
def digestOfDigests (ds : List Nat) : Nat := foldedCrc ds.length (ds.flatMap fun d => toBytes 8 d)

/-- The stream of a cask under vintage n + 1 (R340): header and staves. DEDUCED (log 115). -/
def State.caskStream (s : State) (c remoteModel label : Nat) (m : Model) (x : Cask) : List Byte × State :=
  let count := ceilDiv x.tokens 64
  let q := s.streamStaves c m (x.vintage + 1) label (x.staves.take count) 0
  let head := toBytes 64 (Blob.record [(8, x.uid), (4, x.vintage + 1), (4, x.tokens), (4, btStave m), (2, count),
    (1, remoteModel), (1, 0), (8, digestOfDigests q.2.1), (32, 0)]).val
  (head ++ q.1, q.2.2)

/-- A stream of this device leaves its port; one that has no DONE yet ends with STATUS st in the daybook (R412). -/
def State.dropStream (s : State) (x : Cask) (st : Nat) : State :=
  match s.linkXfer x.port true x.xtag with
  | none => s
  | some y =>
    let s := s.dropXfer x.port true x.xtag
    if y.answer.isSome then s else s.jobEnd y.cuvee 4 4 y.xtag y.data.length st y.req.dst

/-- A hand-over ends without the cask leaving (R341): its stream stops, the cask is OWNED with the vintage given, and its
command completes REJECTED. -/
def State.endOffer (s : State) (c id : Nat) (x : Cask) (vintage : Nat) : State :=
  let s := (s.dropStream x 3).setCask c id
    { x with state := 1, vintage := vintage, peer := 0, port := 0, xtag := 0, window := 0, job := none }
  match x.job with
  | some j => s.completeJob c j 0x0B
  | none => s

/-- An offer is withdrawn (R341): WITHDRAWN in the log, OWNED at n + 1. -/
def State.withdraw (s : State) (c id : Nat) (x : Cask) : State :=
  ((s.logOutcome c x.uid (x.vintage + 1) 3 0 x.peer).caskCount c 3).endOffer c id x (x.vintage + 1)

/-- Offer an OWNED cask through a link window: R337's log entry, STATE OFFERED, the OFFER and its stream. The answer is the
RESULT of a command that cannot offer, 0 otherwise. -/
def State.offerCask (s : State) (c id w remoteModel label : Nat) (job : Option Job) : Nat × State :=
  match s.cask c id with
  | none => (8, s)
  | some x =>
    if x.state ≠ 1 || s.caskHeld c id then (8, s)
    else match s.logPlace c, s.model c x.model with
      | none, _ => (9, s)
      | _, none => (8, s)
      | some i, some m =>
        let lw := s.linkWindow c w
        let e := s.routeEntry (bits lw 223 216)
        let peer := bits lw 215 204
        let s := s.setLog c i ⟨x.uid, x.vintage + 1, id, 0, peer, 1, 0, s.time.now⟩
        let s := s.caskCount c 0
        if !(bit lw 255) || !(bit e 31) || bits e 11 0 ≠ peer || s.group c = 0 || (s.egress e).isNone then
          (0, s.withdraw c id { x with peer := peer, job := job })
        else
          let port := (s.egress e).getD 0
          let tag := (s.port port).newTag
          let q := s.caskStream c remoteModel label m x
          let s := q.2.setCask c id { x with state := 2, peer := peer, port := port, window := w, xtag := tag, job := job }
          let req : LinkRequest := ⟨s.labelVc label, 4, 0, tag, s.deviceId, peer, s.group c, bits lw 203 192, 0, 1⟩
          let s := s.updPort port fun p => { p with
            xfers := p.xfers ++ [⟨tag, true, c, req, [], false, q.1, 0, none, none, label⟩] }
          let msg := { s.caskMsg c 0 0 peer x.uid (x.vintage + 1) id none with
            window := bits lw 203 192, xtag := tag, tokens := x.tokens }
          (0, (((s.linkSend port (.cask msg)).linkSend port (.request req)).linkTraffic c q.1.length).jobBegin c 4 4 tag q.1.length
            peer)

/-- CASK_OFFER (R338). -/
def State.caskOffer (s : State) : State :=
  match s.controlDue 0x30 with
  | none => s
  | some (c, j) =>
    let s := s.controlDone c
    let r := s.offerCask c (j.entry.get 24 4) (j.entry.get 28 1) (j.entry.get 29 1) (j.entry.get 30 1) (some j)
    if r.1 = 0 then r.2 else r.2.completeJob c j r.1

/-- CASK_FETCH (R338): FETCH goes to the owner; one that cannot be reached ends the command. -/
def State.caskFetch (s : State) : State :=
  match s.controlDue 0x31 with
  | none => s
  | some (c, j) =>
    let s := s.controlDone c
    let w := j.entry.get 28 1
    let lw := s.linkWindow c w
    let e := s.routeEntry (bits lw 223 216)
    let peer := bits lw 215 204
    match s.egress e with
    | none => s.completeJob c j 2
    | some port =>
      if !(bit lw 255) || !(bit e 31) || bits e 11 0 ≠ peer || s.group c = 0 then s.completeJob c j 2
      else
        let model := j.entry.get 29 1
        let msg := { s.caskMsg c 6 model peer 0 0 (j.entry.get 24 4 % 65536) none with window := bits lw 203 192 }
        (s.updServing c fun v => { v with
          fetches := v.fetches ++ [⟨j, j.entry.get 24 4, w, model, none⟩] }).linkSend port (.cask msg)

/-- CASK_FREE (R338). -/
def State.caskFree (s : State) : State :=
  match s.controlDue 0x32 with
  | none => s
  | some (c, j) =>
    let s := s.controlDone c
    let id := j.entry.get 24 4
    match s.cask c id with
    | none => s.completeJob c j 8
    | some x =>
      if x.state ≠ 1 || s.caskHeld c id then s.completeJob c j 8
      else ((s.freeCask c id).loseCask c id).completeJob c j 0

/-- The link window of cuvee c that names a device. DESIGN CHOICE (log 109). -/
def State.windowTo (s : State) (c device : Nat) : Option Nat :=
  (List.range ((s.val 0x5042 c).size / 32)).find? fun w => bit (s.linkWindow c w) 255 && bits (s.linkWindow c w) 215 204 == device

/-- Serve one FETCH (R338): UNKNOWN without the cask, a decline where it cannot be offered, else the offer.
DESIGN CHOICE (log 109). -/
def State.serveFetch (s : State) (c : Nat) (f : Nat × Nat × Nat × Nat) : State :=
  let peer := f.1
  let id := f.2.1
  match s.cask c id with
  | none => s.sendCask (s.caskMsg c 5 2 peer 0 0 id none)
  | some x =>
    if x.state ≠ 1 || s.caskHeld c id then s.sendCask (s.caskMsg c 2 6 peer x.uid 0 id none)
    else match s.windowTo c peer with
      | none => s.sendCask (s.caskMsg c 2 8 peer x.uid 0 id none)
      | some w =>
        let r := s.offerCask c id w f.2.2.1 (s.num 0x5046 c) none
        if r.1 = 0 then r.2 else r.2.sendCask (s.caskMsg c 2 6 peer x.uid 0 id none)

/-- The stream of an offer has ended with its port or route (R344): STATUS 3, or the port has left UP.
DEDUCED (log 112). -/
def State.streamBroken (s : State) (x : Cask) : Bool :=
  match s.linkXfer x.port true x.xtag with
  | none => !(s.port x.port).up
  | some y => y.answer == some 3

/-- Offers whose stream is broken are withdrawn. DEDUCED (log 112). -/
def State.brokenOffers (s : State) (c : Nat) : State :=
  s.each (s.cuvee c).serving.casks fun s e =>
    if e.2.state = 2 && s.streamBroken e.2 then s.withdraw c e.1 e.2 else s

/-- The same for every cuvee, after a command that may have ended streams. DEDUCED (log 112). -/
def State.allBroken (s : State) : State := s.each s.existing State.brokenOffers

/-- At a boundary: FETCH messages that arrived before it are served, and broken offers withdrawn (R338, R344). -/
def State.caskBoundary (s : State) : State :=
  s.each (s.existing.filter fun c => (s.cuvee c).live) fun s c =>
    let due := (s.cuvee c).serving.serves.filter fun f => decide (f.2.2.2 < 4096 * s.time.epochs)
    let s := s.updServing c fun v => { v with serves := v.serves.filter fun f => !due.contains f }
    (s.brokenOffers c).each due fun s f => s.serveFetch c f

/-! ## Receiving (R341–R343) -/

/-- An incoming cask is abandoned: its entry and staves are freed. -/
def State.dropIncoming (s : State) (c id : Nat) (x : Cask) : State :=
  ((s.dropXfer x.port false x.xtag).freeCask c id).unfetch c id

/-- Refuse a stream's REQUEST, where it has come. DESIGN CHOICE (log 108). -/
def State.refuseStream (s : State) (k tag : Nat) : State :=
  match s.linkXfer k false tag with
  | some x => (s.dropXfer k false tag).sendDone k x.req 2 0
  | none => s

/-- An incoming cask is declined after its offer had been taken (R341). DESIGN CHOICE (log 108). -/
def State.declineIncoming (s : State) (c id : Nat) (x : Cask) (code : Nat) : State :=
  (((s.refuseStream x.port x.xtag).dropIncoming c id x).loseCask c id).sendCask (s.caskMsg c 2 code x.peer x.uid x.vintage x.peerCask none)

/-- Take in the staves that stand whole in the stream from ordinal k on: allotted, checked and written to their place. The
result is the DECLINE code of the first that fails. -/
def State.takeStaves (s : State) (c id : Nat) (m : Model) (data : List Byte) : Nat → Nat → Nat × State
  | 0, _ => (0, s)
  | n + 1, k =>
    let size := btStave m
    let at_ := 64 + k * (size + 16)
    if data.length < at_ + size + 16 then (0, s)
    else match s.giveStaves c id (64 * (k + 1)) with
      | none => (3, s)
      | some s =>
        match s.cask c id with
        | none => (3, s)
        | some x =>
          let bs := (data.drop at_).take size
          let digest := ofBytes ((data.drop (at_ + size)).take 8)
          if digest ≠ foldedCrc (x.vintage * 2 ^ 32 + k) bs then (5, s)
          else
            let s := s.coreWrite c (m.recipe.buffers.getD 3 0 + x.staves.getD k 0 * size) bs
            let s := s.updServing c fun v => { v with casks := v.casks.map fun e =>
              if e.1 = id then (e.1, { e.2 with got := k + 1 }) else e }
            s.takeStaves c id m data n (k + 1)

/-- The digests that a stream carries. -/
def streamDigests (data : List Byte) (size : Nat) : Nat → Nat → List Nat
  | 0, _ => []
  | n + 1, k => ofBytes ((data.drop (64 + k * (size + 16) + size)).take 8) :: streamDigests data size n (k + 1)

/-- A stream that is whole and verified is ACCEPTED (R341). DESIGN CHOICE (log 108). -/
def State.acceptIncoming (s : State) (c id : Nat) : State :=
  match s.cask c id with
  | none => s
  | some x =>
    let s := match s.linkXfer x.port false x.xtag with
      | some y => ((s.dropXfer x.port false x.xtag).sendDone x.port y.req 0 1).linkTraffic c y.data.length
      | none => s
    (s.setCask c id { x with state := 4, queries := 0 }).sendCask (s.caskMsg c 1 0 x.peer x.uid x.vintage x.peerCask (some id))

/-- What has come of cask id's stream is taken in. -/
def State.caskData (s : State) (c id : Nat) : State :=
  match s.cask c id with
  | none => s
  | some x =>
    if x.state ≠ 3 then s
    else match s.linkXfer x.port false x.xtag, s.model c x.model with
      | some y, some m =>
        let total := ceilDiv x.tokens 64
        let r := s.takeStaves c id m y.data (total - x.got) x.got
        if r.1 ≠ 0 then r.2.declineIncoming c id x r.1
        else if ((r.2.cask c id).map Cask.got).getD 0 < total then r.2
        else if ofBytes ((y.data.drop 24).take 8) ≠ digestOfDigests (streamDigests y.data (btStave m) total 0) then
          r.2.declineIncoming c id x 5
        else r.2.acceptIncoming c id
      | _, _ => s

/-- Data on port k goes to the casks that it belongs to. -/
def State.caskStreams (s : State) (k : Nat) : State :=
  s.each s.existing fun s c =>
    s.each ((s.cuvee c).serving.casks.filter fun e => e.2.state == 3 && e.2.port == k) fun s e => s.caskData c e.1

/-- The DECLINE code of an offer for cuvee c, by R342 and R343, given the stream's header; 0 for none.
DEDUCED (log 107). -/
def State.offerCode (s : State) (c : Nat) (m : CaskMsg) (head : Blob) : Nat :=
  let slot := head.get 22 1
  let size := head.get 16 4
  let tokens := head.get 12 4
  match s.model c slot with
  | none => 1
  | some md =>
    let held := (s.cuvee c).serving.casks.filter fun e => e.2.state == 1 && e.2.uid == m.uid
    if md.state ≠ 2 || md.recipe.kind ≠ 1 then 1
    else if size ≠ btStave md || btMaxLength md < tokens || head.get 20 2 ≠ ceilDiv tokens 64 then 2
    else if held.any fun e => decide (m.vintage ≤ e.2.vintage) then 7
    else if (s.freeCaskId c).isNone then 4
    else 0

/-- R343: a local copy of a lower vintage gives way. -/
def State.outranked (s : State) (c : Nat) (uid : Nat) : State :=
  s.each ((s.cuvee c).serving.casks.filter fun e => e.2.state == 1 && e.2.uid == uid) fun s e =>
    ((s.freeCask c e.1).loseCask c e.1).limboRecord c e.1 e.2

/-- The receiving port lets a cask in through its inbound window (R342 code 8). -/
def State.offerWindowOk (s : State) (k c : Nat) (m : CaskMsg) : Bool :=
  s.inboundOk k m.window m.src m.group 0 0 true && bits (s.inbound m.window) 99 92 == c

/-- An offer is refused before any entry was taken for it. DEDUCED (log 107). -/
def State.declineOffer (s : State) (k c : Nat) (m : CaskMsg) (code : Nat) : State :=
  (s.refuseStream k m.xtag).sendCask { s.caskMsg c 2 code m.src m.uid m.vintage m.offerer none with group := m.group }

/-- OFFER (R341–R344): taken once its stream's header has come; one that goes on to another device takes its stream's REQUEST
with it, under the tag of that link (R328). DEDUCED (log 107). -/
def State.offer (s : State) (k : Nat) (m : CaskMsg) : State :=
  match s.linkXfer k false m.xtag with
  | none => s
  | some x =>
    if m.dst ≠ s.deviceId then
      match s.takeMsg k (.cask m) with
      | none => s
      | some s =>
        let s := if x.fwdPort.isNone then ((s.takeMsg k (.request x.req)).getD s).forwardRequest k x.req else s
        match (s.linkXfer k false m.xtag).bind LinkXfer.fwdPort with
        | some (k2, tag) => s.linkSend k2 (.cask { m with hops := m.hops + 1, xtag := tag })
        | none => { s with links := { s.links with dropped := s.links.dropped + 1 } }
    else
      match s.groupCuvee m.group with
      | none => match s.takeMsg k (.cask m) with
        | none => s
        | some s => s.declineOffer k 0 m 8
      | some c =>
        let early := if !(s.cuvee c).live then 6 else if !s.offerWindowOk k c m then 8 else 0
        if early = 0 && x.data.length < 64 then s
        else match s.takeMsg k (.cask m) with
          | none => s
          | some s =>
            let s := s.vintnerTask c 4 0 1 0
            if early ≠ 0 then s.declineOffer k c m early
            else
              let head : Blob := ⟨64, ofBytes (x.data.take 64)⟩
              let code := s.offerCode c m head
              if code ≠ 0 then s.declineOffer k c m code
              else
                let s := s.outranked c m.uid
                let id := (s.freeCaskId c).getD 0
                let s := s.setCask c id { (default : Cask) with
                  state := 3, model := head.get 22 1, vintage := m.vintage, tokens := head.get 12 4, uid := m.uid
                  peer := m.src, peerCask := m.offerer, port := k, xtag := m.xtag }
                let s := s.updServing c fun v => { v with fetches := v.fetches.map fun f =>
                  if f.cask.isNone && f.remote % 65536 == m.offerer && bits (s.linkWindow c f.window) 215 204 == m.src then
                    { f with cask := some id } else f }
                s.caskData c id

/-- Take a cask message; one for another device goes on (R328). `act` is given the group's cuvee. DEDUCED (log 111). -/
def State.onCask (s : State) (k : Nat) (m : CaskMsg) (sub : Nat) (act : State → Nat → State) : State :=
  if m.sub ≠ sub then s
  else match s.takeMsg k (.cask m) with
    | none => s
    | some s =>
      if m.dst ≠ s.deviceId then s.forwardMsg m.dst m.hops (.cask { m with hops := m.hops + 1 })
      else match s.groupCuvee m.group with
        | none => { s with links := { s.links with dropped := s.links.dropped + 1 } }
        | some c => act (s.vintnerTask c 4 0 1 0) c

/-- A message that only a RUNNING or PAUSED cuvee takes; any other drops and counts it (R344). -/
def State.ifLive (s : State) (c : Nat) (act : State → State) : State :=
  if (s.cuvee c).live then act s else { s with links := { s.links with dropped := s.links.dropped + 1 } }

/-- Answer an ACCEPT or QUERY from the log (R341, R342). -/
def State.answerFromLog (s : State) (c : Nat) (m : CaskMsg) : State :=
  let h := s.logOf c m.uid m.vintage
  let code := match h.map fun e => e.2.outcome with
    | some 2 => 0
    | some 3 => 1
    | some 1 => 3
    | _ => 2
  s.sendCask (s.caskMsg c 5 code m.src m.uid m.vintage m.offerer (if m.rcvValid then some m.receiver else none))

/-- ACCEPT (R341): while the cask is OFFERED with that vintage the hand-over commits; otherwise the log answers. -/
def State.acceptMessage (s : State) (k : Nat) (m : CaskMsg) : State :=
  s.onCask k m 1 fun s c =>
    match s.cask c m.offerer with
    | none => s.answerFromLog c m
    | some x =>
      if x.state ≠ 2 || x.uid ≠ m.uid || x.vintage + 1 ≠ m.vintage || !(s.cuvee c).live then s.answerFromLog c m
      else
        let s := (s.logOutcome c m.uid m.vintage 2 m.receiver m.src).caskCount c 1
        let s := ((s.dropStream x 0).freeCask c m.offerer).loseCask c m.offerer
        let s := s.sendCask (s.caskMsg c 3 0 m.src m.uid m.vintage m.offerer (some m.receiver))
        match x.job with
        | some j => s.completeJob c j 0 x.tokens m.receiver
        | none => s

/-- The owner declines a FETCH: its command completes REJECTED (R338). -/
def State.refusedFetch (s : State) (c : Nat) (m : CaskMsg) : State :=
  match (s.cuvee c).serving.fetches.find? fun f => f.cask.isNone && f.remote % 65536 == m.offerer &&
      bits (s.linkWindow c f.window) 215 204 == m.src with
  | some f => s.endFetch c f 0x0B noCask
  | none => s

/-- DECLINE (R341): of an offer, which is OWNED again; of a FETCH, whose command completes REJECTED. -/
def State.declineMessage (s : State) (k : Nat) (m : CaskMsg) : State :=
  s.onCask k m 2 fun s c => s.ifLive c fun s =>
    match s.cask c m.offerer with
    | some x =>
      if x.state = 2 && x.uid = m.uid && x.vintage + 1 = m.vintage then
        let s := match s.logOf c m.uid m.vintage with
          | some (i, _) => s.clearLog c i
          | none => s
        (s.caskCount c 2).endOffer c m.offerer x x.vintage
      else s.refusedFetch c m
    | none => s.refusedFetch c m

/-- A cask ACCEPTED or in LIMBO becomes OWNED at n + 1 (R341): its origin table entry stands, and its fetch is done.
DEDUCED (log 106). -/
def State.ownCask (s : State) (c id : Nat) (x : Cask) : State :=
  let s := s.setCask c id { x with state := 1, peer := 0, port := 0, xtag := 0, queries := 0 }
  match s.fetchFor c id with
  | some f => s.endFetch c f 0 id
  | none => s

/-- The incoming cask that a RELEASE or ANSWER names. -/
def State.incoming (s : State) (c : Nat) (m : CaskMsg) : Option (Nat × Cask) :=
  (s.cuvee c).serving.casks.find? fun e => (e.2.state == 4 || e.2.state == 5) && e.2.uid == m.uid && e.2.vintage == m.vintage

/-- CASK_RELEASE (R341). DEDUCED (log 106). -/
def State.releaseMessage (s : State) (k : Nat) (m : CaskMsg) : State :=
  s.onCask k m 3 fun s c => s.ifLive c fun s =>
    match s.incoming c m with
    | some (id, x) => s.ownCask c id x
    | none => s

/-- CASK_QUERY (R341, R344). -/
def State.queryMessage (s : State) (k : Nat) (m : CaskMsg) : State := s.onCask k m 4 fun s c => s.answerFromLog c m

/-- ANSWER (R341): YOURS, WITHDRAWN, UNKNOWN or PENDING; of a FETCH, UNKNOWN ends it with CASK_LOST (R338).
DEDUCED (log 106). -/
def State.answerMessage (s : State) (k : Nat) (m : CaskMsg) : State :=
  s.onCask k m 5 fun s c => s.ifLive c fun s =>
    match s.incoming c m with
    | some (id, x) =>
      match m.code with
      | 0 => s.ownCask c id x
      | 1 => ((s.freeCask c id).unfetch c id).loseCask c id
      | 2 => if x.state = 4 then s.toLimbo c id x else s
      | _ => s
    | none =>
      if m.code ≠ 2 then s
      else match (s.cuvee c).serving.fetches.find? fun f => f.cask.isNone && f.remote % 65536 == m.offerer &&
          bits (s.linkWindow c f.window) 215 204 == m.src with
        | some f => s.endFetch c f 2 noCask
        | none => s

/-- FETCH (R338): served at the owner's next boundary. -/
def State.fetchMessage (s : State) (k : Nat) (m : CaskMsg) : State :=
  s.onCask k m 6 fun s c => s.ifLive c fun s =>
    s.updServing c fun v => { v with serves := v.serves ++ [(m.src, m.offerer, m.code, s.slotCount)] }

/-! ## Timers (R341) -/

/-- OFFER_TIMEOUT: an offer is withdrawn; an incoming cask whose stream stalls is freed without a message.
DESIGN CHOICE (log 16); DEDUCED (log 113). -/
def State.offerTimeout (s : State) (c id : Nat) : State :=
  match s.cask c id with
  | none => s
  | some x =>
    if !(s.cuvee c).live then s
    else if x.state = 2 then s.withdraw c id x
    else if x.state = 3 then (s.dropIncoming c id x).loseCask c id
    else s

/-- ACCEPT_TIMER: a QUERY, or LIMBO after QueryLimit of them. It stands still while the cuvee is frozen (R344).
DESIGN CHOICE (log 16); DEDUCED (log 113). -/
def State.acceptTimer (s : State) (c id : Nat) : State :=
  match s.cask c id with
  | none => s
  | some x =>
    if x.state ≠ 4 || !(s.cuvee c).live then s
    else if s.num 0x6010 4 ≤ x.queries then s.toLimbo c id x
    else
      let s := (s.setCask c id { x with queries := x.queries + 1 }).caskCount c 4
      s.sendCask (s.caskMsg c 4 0 x.peer x.uid x.vintage x.peerCask (some id))

/-- FETCH_TIMEOUT (R338): no OFFER came. DESIGN CHOICE (log 16); DEDUCED (log 113). -/
def State.fetchTimeout (s : State) (c reqId : Nat) : State :=
  match (s.cuvee c).serving.fetches.find? fun f => f.cask.isNone && jbRequest f.job == reqId with
  | some f => if (s.cuvee c).live then s.endFetch c f 2 noCask else s
  | none => s

/-! ## LimboCommand (R346) -/

/-- The cask is in LIMBO. -/
def State.inLimbo (s : State) (c id : Nat) : Bool := ((s.cask c id).map Cask.state) == some 5
/-- ASSIGN: OWNED at VINTAGE + 1. -/
def State.limboAssign (s : State) (c id : Nat) : State :=
  match s.cask c id with
  | some x => s.setCask c id { x with state := 1, vintage := x.vintage + 1, peer := 0, port := 0, xtag := 0, queries := 0 }
  | none => s
/-- DISCARD: freed, and its waiting requests complete with CASK_LOST. -/
def State.limboDiscard (s : State) (c id : Nat) : State := (s.freeCask c id).loseCask c id

/-! ## What else meets a hand-over (R335, R344) -/

/-- Hand-overs of a cuvee that has frozen: offers are withdrawn at the cut, incoming streams freed and declined. -/
def State.caskCut (s : State) (c : Nat) : State :=
  if (s.cuvee c).state ≠ .frozen then s
  else s.each (s.cuvee c).serving.casks fun s e =>
    if e.2.state = 2 then s.withdraw c e.1 e.2
    else if e.2.state = 3 then s.declineIncoming c e.1 e.2 6
    else s

/-- The same for every cuvee, after a command that may have cut some. -/
def State.casksCut (s : State) : State := s.each s.existing State.caskCut

/-- SQUASH frees the incoming casks of its sender's group (R335). -/
def State.squashCasks (s : State) (k : Nat) (m : SquashMsg) : State :=
  if m.dst ≠ s.deviceId || m.reason = 3 || !(s.port k).inbox.contains (.squash m) then s.squashMessage k m
  else
    let s := s.squashMessage k m
    match s.groupCuvee m.group with
    | none => s
    | some c => s.each ((s.cuvee c).serving.casks.filter fun e => e.2.state == 3 && e.2.peer == m.src) fun s e =>
        (s.dropIncoming c e.1 e.2).loseCask c e.1

/-- DESIGN CHOICE (log 3). -/
def execCut (sc : Scope) (s : State) : Result := .next (s.cut sc).casksCut
def execQuiesceLimit (sc : Scope) (s : State) : Result := .next (s.quiesceLimit sc).casksCut
def execEstateFatal (source : Nat) (s : State) : Result := .next (s.estateStop source).casksCut
def execRebindMovesDone (c : Nat) (s : State) : Result := .next (s.rebindMovesDone c).casksCut
def execSquash (k : Nat) (m : SquashMsg) (s : State) : Result := .next (s.squashCasks k m)
def execFlitReceive (k : Nat) (f : Flit) (s : State) : Result := .next ((s.flitReceive k f).caskStreams k).allBroken
def execSignalLoss (k : Nat) (s : State) : Result := .next (s.signalLoss k).allBroken
def execLaneFailure (k lane : Nat) (s : State) : Result := .next (s.laneFailure k lane).allBroken
def execDone (k : Nat) (m : LinkDone) (s : State) : Result := .next (s.doneMessage k m).allBroken
def execCaskOffer (s : State) : Result := .next s.caskOffer
def execCaskFetch (s : State) : Result := .next s.caskFetch
def execCaskFree (s : State) : Result := .next s.caskFree
def execOffer (k : Nat) (m : CaskMsg) (s : State) : Result := .next (s.offer k m)
def execAccept (k : Nat) (m : CaskMsg) (s : State) : Result := .next (s.acceptMessage k m)
def execDecline (k : Nat) (m : CaskMsg) (s : State) : Result := .next (s.declineMessage k m)
def execCaskRelease (k : Nat) (m : CaskMsg) (s : State) : Result := .next (s.releaseMessage k m)
def execCaskQuery (k : Nat) (m : CaskMsg) (s : State) : Result := .next (s.queryMessage k m)
def execAnswer (k : Nat) (m : CaskMsg) (s : State) : Result := .next (s.answerMessage k m)
def execFetch (k : Nat) (m : CaskMsg) (s : State) : Result := .next (s.fetchMessage k m)
def execOfferTimeout (c cask : Nat) (s : State) : Result := .next (s.offerTimeout c cask)
def execAcceptTimer (c cask : Nat) (s : State) : Result := .next (s.acceptTimer c cask)
def execFetchTimeout (c reqId : Nat) (s : State) : Result := .next (s.fetchTimeout c reqId)

end Sys2Proof.Machine
end

