-- ==== Sys2Proof/Machine/Slot.lean ====
section
/-! DEFINITION. Machine/Slot.lean: the slot fire tick (R62, R355–R357, R402), the actions of almanac rows (R59, R64, R65, R441),
and their deadlines (R61). -/

namespace Sys2Proof.Machine

/-! ## What a tick counts -/

/-- Cycles of the arithmetic clock in a time. -/
def State.cyclesIn (s : State) (len : Rat) : Nat := if s.cycle ≤ 0 then 0 else (len / s.cycle).floor.toNat

/-- BUSY and STALL of the slot just ended, of `len` ns (R402): a RUNNING tile between entries advances no beat.
DEDUCED (log 116). -/
def State.countBusy (s : State) (len : Rat) : State :=
  let n := s.cyclesIn len
  s.each s.tiles fun s e =>
    let t := e.1
    let x := e.2
    if x.act ≠ .running then s
    else
      let s := (s.count (8 * t) n).tally x.cuvee 0 n
      if x.inEntry then s else (s.count (8 * t + 1) n).tally x.cuvee 1 n

/-- TILE_SLOTS at a fire tick (R397). DEDUCED (log 116). -/
def State.countTileSlots (s : State) : State :=
  s.each (s.existing.filter fun c => (s.cuvee c).state.metered) fun s c =>
    let n := (s.cvTiles c).length
    s.updCuvee c fun v => { v with meter := { v.meter with tileSlots := (v.meter.tileSlots + n) % 2 ^ 64 } }

/-- The pseudo-channel time of a slot of `len` ns that has ended (R397). -/
def State.countPcTime (s : State) (len : Rat) : State :=
  s.each (s.existing.filter fun c => (s.cuvee c).state.metered) fun s c =>
    let n := (s.cvPcs c).length
    s.updCuvee c fun v => { v with meter := { v.meter with pcNs := v.meter.pcNs + (n : Nat) * len } }

/-- A tile waits at WAIT_B on a group barrier whose local count is complete (R373). -/
def State.waitsForPeers (s : State) (t : Nat) : Bool :=
  let x := s.tile t
  let en := s.boundaryEntry t
  let b := s.barBase x.cuvee + enBarrier en
  x.act == .running && !x.inEntry && enWaitB en && !x.barrierOpen (enBarrier en) && (s.groupBarrier b).isSome &&
    match s.barrier b with
    | some r => !r.await.isEmpty
    | none => false

/-- PeerPace of the slot just ended. -/
def State.countPeers (s : State) : State :=
  s.each s.existing fun s c =>
    if (s.cvTiles c).any s.waitsForPeers then
      s.updCuvee c fun v => { v with peerPace := (v.peerPace.1, v.peerPace.2.1 + 1, (v.peerPace.2.2 + 1) % 2 ^ 64) }
    else s

/-! ## The rows of a tick -/

/-- One position of a segment's current page at the slot that began: malformed rows are counted, due ones presented or
counted as skipped (R60, R66, R68, R356). The rows found so far go before it. -/
def State.takeRow (s : State) (c i : Nat) (found : List RowInst) : List RowInst × State :=
  let at_ := (s.seg c).current + i
  let r := s.row at_
  if !rowValid r || rowSlot r ≠ s.time.slot then (found, s)
  else if s.rowMalformed c i r then (found, s.countMalformed c)
  else if !s.rowDue r then (found, s)
  else if !s.rowFires c r then (found, s.countSkip c)
  else (found ++ [⟨c, at_, r, s.time.e, s.slotCount, 0, 0, 0⟩], s)

/-- The rows of a segment. -/
def State.takePage (s : State) (c : Nat) : List RowInst × State :=
  (List.range (s.seg c).length).foldl (fun (a : List RowInst × State) i => a.2.takeRow c i a.1) ([], s)

/-- The rows of every cuvee's segment, in ascending ID. -/
def State.takePages (s : State) (cs : List Nat) : List RowInst × State :=
  cs.foldl (fun (a : List RowInst × State) c =>
    let q := a.2.takePage c
    (a.1 ++ q.1, q.2)) ([], s)

/-- Rows of the slot are presented (R62, R357): the estate's, which the ledger passes, then the rows still deferred, then the
cuvees' rows due. DEDUCED (log 117). -/
def State.presentSlot (s : State) : State :=
  let e := s.takePage 0
  let q := e.2.takePages ((s.alm.segs.map Prod.fst).filter (· != 0))
  let s := q.2
  let rows := e.1 ++ s.alm.deferred ++ q.1
  let s := { s with alm := { s.alm with present := rows, deferred := [] } }
  State.presentAll rows.length s

/-- The latch of every NEXT_READY (R69). -/
def State.latchReady (s : State) : State :=
  s.each (s.alm.segs.map Prod.fst) fun s c => s.updSeg c fun g => { g with latched := g.ready }

/-- The cuvees that a HOLIDAY row names (R59). -/
def holidayScope (r : Nat) : Scope :=
  match bits (rowOperand r) 1 0 with
  | 0 => .cuvee (rowCuvee r)
  | 1 => .estate
  | _ => .group (bits (rowOperand r) 23 12)

/-- A holiday row's work is done once no cuvee of its scope has a quiesce still in progress (R61, R444). -/
def State.holidaysEnd (s : State) : State :=
  s.each (s.alm.watches.filter fun w => rowAction w.row.row == 6) fun s w =>
    let going := (s.scopeHeld (holidayScope w.row.row)).any fun c => ((s.cuvee c).quiesce.map fun q => !q.complete).getD false
    if going then s else s.workDone w

/-- A slot's fire tick, once the clock stands at it; `len` is the length of the slot just ended. -/
def State.slotTick (s : State) (len : Rat) : State :=
  let s := s.signal flitSlotTick (payTick s.time.slot s.time.e)
  let s := State.presentFinish s.alm.present.length s
  let s := if s.time.slot = 4095 then s.latchReady else s
  let s := (((s.holidaysEnd.countBusy len).countTileSlots).countPeers).bookTokens len
  let s := ((s.throttleSlot len).windowBoundary).refreshApply
  let s := s.slotCommands
  let s := s.each (s.existing.filter fun c => (s.cuvee c).binding.isSome) State.accrue
  s.regulateAll.presentSlot.budgetSlot

/-- SLOT_FIRE: the next slot of the epoch in progress begins. -/
def State.slotFire (s : State) : State :=
  if !s.time.running || s.epochSpent then s
  else
    let len := s.slotLen
    let s := (s.at_ (s.slotStart (s.time.slot + 1))).countPcTime len
    ({ s with time := { s.time with slot := s.time.slot + 1 } }).slotTick len

/-! ## The actions of rows -/

/-- The row at the head of the issue queue, when its action is the one named: its BEGIN record is written as it is issued
(R62, R412). -/
def State.issueRow (s : State) (action : Nat) : Option (RowInst × State) :=
  match s.alm.issue with
  | [] => none
  | x :: rest =>
    if rowAction x.row ≠ action then none
    else
      let s := { s with alm := { s.alm with issue := rest } }
      some (x, s.daybook x.seg 0 0 x.idx action (rowTag x.row) (x.dueE % 2 ^ 32) x.deferred 0)

/-- A row's END record: 0 done, 1 skipped. DEDUCED (log 119). -/
def State.rowEnd (s : State) (x : RowInst) (how : Nat) : State :=
  s.daybook x.seg 1 0 x.idx (rowAction x.row) (rowTag x.row) (x.dueE % 2 ^ 32) x.deferred how

/-- The deadline of a row as a slot count (R61). -/
def rowDeadline (x : RowInst) : Option Nat :=
  if rowHasDeadline x.row then some ((x.dueAt / 4096 + rowDlEpochs x.row) * 4096 + rowDlSlot x.row) else none

/-- The work that a row starts is watched until it is complete. -/
def State.watchRow (s : State) (x : RowInst) (tileWork : Bool) : State :=
  { s with alm := { s.alm with
    watches := s.alm.watches ++ [⟨s.alm.nextWatch, x.seg, rowGroup x.row, rowTag x.row, tileWork, rowDeadline x, false, false,
      false, x⟩]
    nextWatch := s.alm.nextWatch + 1 } }

/-- A row that R64 or R65 skips is refunded (R356). -/
def State.skipRow (s : State) (x : RowInst) : State := (s.refund x).rowEnd x 1

/-- START_STEP (R64, R300). DEDUCED (log 123). -/
def State.startStep (s : State) : State :=
  match s.issueRow 1 with
  | none => s
  | some (x, s) =>
    let c := x.seg
    let g := rowGroup x.row
    let entry := bits (rowOperand x.row) 9 0
    let tag := rowTag x.row
    let id := s.alm.nextWatch
    if !s.groupOccupied c g then
      let s := (s.watchRow x true).issueStart c g entry tag id x.row
      if s.groupBusy c g || ((s.cuvee c).serving.switching.find g).isSome then s else s.groupsDone c
    else if s.preemptsNow c g then (s.watchRow x true).preempt c g entry tag id
    else if rowSkipBusy x.row || (s.alm.heldStarts.find (256 * c + g)).isSome then (s.countOverrun c).skipRow x
    else
      let s := s.watchRow x true
      let s := s.each (s.groupTiles c g) fun s t => s.updTile t fun y => { y with heldStart := some entry }
      { s with alm := { s.alm with heldStarts := s.alm.heldStarts.insert (256 * c + g) (entry, tag, id) } }

/-- HELD_START_ISSUE (R64): the last tile of the group has finished, and the held start goes to all of them. -/
def State.heldStartIssue (s : State) (c g : Nat) : State :=
  match s.alm.heldStarts.find (256 * c + g) with
  | none => s
  | some (entry, tag, id) =>
    if s.groupOccupied c g || !(s.cuvee c).live || (s.cuvee c).quiesce.isSome then s
    else
      let row := ((s.watch id).map fun w => w.row.row).getD 0
      let s := { s with alm := { s.alm with heldStarts := Sparse.erase s.alm.heldStarts (256 * c + g) } }
      let s := s.each (s.groupTiles c g) fun s t => s.updTile t fun y => { y with heldStart := none }
      s.issueStart c g entry tag id row

/-- LOAD_PLANE (R90, R111, R252): every tile of the group loads the image, but one that is held in a quiesce or pause, or
counts as held, keeps the latest for later. -/
def State.loadPlane (s : State) : State :=
  match s.issueRow 2 with
  | none => s
  | some (x, s) =>
    let img := bits (rowOperand x.row) 6 0
    let parked := s.quiescing x.seg
    let s := s.each (s.groupTiles x.seg (rowGroup x.row)) fun s t =>
      s.updTile t fun y => if parked && (y.act == .held || y.act == .idle) then { y with loadHeld := some img } else y.askLoad img
    (s.watchRow x false).loadsDone x.seg

/-- FETCH_SQ (R65, R72, R73). DEDUCED (log 118). -/
def State.fetchRow (s : State) (ext : List SqEntry) : State :=
  match s.issueRow 3 with
  | none => s
  | some (x, s) =>
    let c := x.seg
    let near := match (s.seg c).lastFetch with
      | some n => decide (s.slotCount < n + s.num 0x2004 c)
      | none => false
    if near then (s.countSkip c).skipRow x
    else
      let s := s.updSeg c fun g => { g with lastFetch := some s.slotCount }
      (s.fetchSq c (bits (rowOperand x.row) 9 0) (bits (rowOperand x.row) 23 12) ext).rowEnd x 0

/-- WRITE_CQ (R74). DEDUCED (log 119). -/
def State.writeRow (s : State) : State :=
  match s.issueRow 4 with
  | none => s
  | some (x, s) => (s.writeCq x.seg (bits (rowOperand x.row) 9 0)).rowEnd x 0

/-- HARVEST (R404): with the counters, the clients' accounts are latched (R301). DEDUCED (log 119). -/
def State.harvestRow (s : State) : State :=
  match s.issueRow 5 with
  | none => s
  | some (x, s) =>
    let s := s.harvestAct
    let s := s.each s.existing fun s c => s.updServing c fun v => { v with accLatch := v.accounts }
    s.rowEnd x 0

/-- HOLIDAY_COMPLETE: the holiday is complete (R444), and with it the work of the row that began it. -/
def State.holidayFinish (s : State) (sc : Scope) : State := (s.holidayDone sc).holidaysEnd

/-- HOLIDAY (R441): like a FREEZE that begins now; a scope without a RUNNING or PAUSED cuvee is counted as skipped. -/
def State.holidayRow (s : State) : State :=
  match s.issueRow 6 with
  | none => s
  | some (x, s) =>
    let sc := holidayScope x.row
    let target := match sc with
      | .cuvee c => c
      | .estate => 0
      | .group g => g
    match s.scopeLive sc with
    | [] => (s.countSkip x.seg).rowEnd x 1
    | cs => (s.watchRow x false).each cs fun s c => s.callQuiesce c (Scope.code sc) target 1 s.quiesceBy

/-- RECONCILE (R359). -/
def State.reconcileRow (s : State) : State :=
  match s.issueRow 7 with
  | none => s
  | some (x, s) => s.reconcileAct.rowEnd x 0

/-- NOP. -/
def State.nopRow (s : State) : State :=
  match s.issueRow 0 with
  | none => s
  | some (x, s) => s.rowEnd x 0

/-- DEADLINE_MISS (R61): the deadline of a row's work is reached with the work not complete. It goes on, marked late. -/
def State.deadlineMiss (s : State) (id : Nat) : State :=
  let s := s.holidaysEnd
  match s.watch id with
  | none => s
  | some w =>
    match w.deadline with
    | none => s
    | some d =>
      if w.late || w.complete || s.slotCount < d then s
      else
        let seg := w.row.seg
        let s := s.updSeg seg fun g => { g with dlMisses := (g.dlMisses + 1) % 2 ^ 64 }
        let s := if seg = 0 then s.count (8 * 5100 + 7) 1 else s
        let s := s.daybook seg 2 7 0 1 w.tag 0 0 0
        let s := if seg = 0 then s else s.bookTrigger seg 3 w.tag
        let s := s.signal flitDeadline (payDeadline w.cuvee w.tag)
        (s.updWatch id fun w => { w with late := true }).stepLate w.cuvee w

/-- DESIGN CHOICE (log 3). -/
def execSlotFire (s : State) : Result := .next s.slotFire
def execDeferLimit (c idx : Nat) (s : State) : Result := .next (s.deferLimit c idx)
def execStartStep (s : State) : Result := .next s.startStep
def execHeldStartIssue (c g : Nat) (s : State) : Result := .next (s.heldStartIssue c g)
def execLoadPlane (s : State) : Result := .next s.loadPlane
def execFetchSq (hostEntries : List SqEntry) (s : State) : Result := .next (s.fetchRow hostEntries)
def execWriteCq (s : State) : Result := .next s.writeRow
def execHarvest (s : State) : Result := .next s.harvestRow
def execHolidayComplete (sc : Scope) (s : State) : Result := .next (s.holidayFinish sc)
def execHoliday (s : State) : Result := .next s.holidayRow
def execReconcile (s : State) : Result := .next s.reconcileRow
def execNop (s : State) : Result := .next s.nopRow
def execDeadlineMiss (id : Nat) (s : State) : Result := .next (s.deadlineMiss id)

end Sys2Proof.Machine
end

