-- ==== Sys2Proof/Machine/View.lean ====
section
/-! DEFINITION. Machine/View.lean: what a read of each object gives: the read-only and computed objects of every chapter's
table, the objects that only the tenant's view has (R271 and the view tables), and per-class values. -/

namespace Sys2Proof.Machine

/-! ## Shapes -/

/-- The UTF-8 bytes of an ASCII string (R459). -/
def strBlob (x : String) : Blob := Blob.array 1 (x.toList.map Char.toNat)

/-- A LIST value: COUNT, element type code, 0, elements of n bytes (R459). -/
def listBlob (code n : Nat) (xs : List Nat) : Blob :=
  Blob.record [(2, xs.length), (1, code), (1, 0), (n * xs.length, packList n xs)]

/-- A ring of n records of k bytes; a record never written is 0. -/
def ringBlob (n k : Nat) (m : Sparse Blob) : Blob :=
  Blob.record ((List.range n).map fun i => (k, (m.getD i ⟨k, 0⟩).val))

/-- The select values of a class (R419, R430): its own, else the value stored for the object. DESIGN CHOICE (log 27). -/
def State.select (s : State) (a : Acc) (i sub : Nat) : Nat :=
  match s.dict.selects.find? fun e => e.1 == a && e.2.1 == objKey i sub with
  | some e => e.2.2
  | none => s.num i sub

/-- Set a class's select value. DESIGN CHOICE (log 27). -/
def State.setSelect (s : State) (a : Acc) (i sub v : Nat) : State :=
  { s with dict := { s.dict with
    selects := (s.dict.selects.filter fun e => !(e.1 == a && e.2.1 == objKey i sub)) ++ [(a, objKey i sub, v)] } }

/-! ## Staging and store (R489, R490) -/

/-- The lasting staging record of a class. -/
def State.stageStat (s : State) (a : Acc) : StageStat :=
  match s.dict.stats.find? fun e => e.1 == a with
  | some e => e.2
  | none => default

/-- StagingStatus of a class (R490). DESIGN CHOICE (log 19). -/
def State.stagingStatus (s : State) (a : Acc) : Blob :=
  let set := s.staging a
  let t := s.stageStat a
  let commits := (s.dict.pend.filter fun p => p.cls == a && p.commit).length
  Blob.record [(2, set.length), (2, commits), (4, sumNat (set.map fun w => w.data.size)), (8, t.epoch), (1, t.result),
    (1, t.cause), (2, t.failIdx), (1, t.failSub), (3, 0), (4, t.commits), (4, 0)]

/-- The newer of the two store records: higher store count (R476). -/
def FlashSt.newest (f : FlashSt) : Option (Nat × List ObjWrite) :=
  match f.copy0, f.copy1 with
  | some a, some b => if a.1 < b.1 then some b else some a
  | some a, none => some a
  | none, b => b

/-- StoreStatus (R489). -/
def FlashSt.storeStatus (f : FlashSt) : Blob :=
  Blob.record [(1, f.storeState), (1, f.copyLoaded), (2, (f.newest.map fun c => c.2.length).getD 0), (4, f.stores),
    (8, f.lastStore.raw)]

/-- The 0x1000 area (R489). -/
def State.readComm (s : State) (a : Acc) (i sub : Nat) : Option Blob :=
  match i, sub with
  | 0x1000, 1 => some (strBlob "Huonera Semiconductor")
  | 0x1000, 2 => some (strBlob "Goliz GZ9")
  | 0x1000, 3 => some (strBlob "GZ9-576L")
  | 0x1000, 4 => some Config.serialNumber
  | 0x1000, 5 => some (Blob.scalar 4 Config.moduleVersion)
  | 0x1000, 6 => some Config.firmwareVersion
  | 0x1000, 7 => some ⟨2, 1⟩
  | 0x1001, 2 => some ⟨1, portNo s.dict.steward⟩
  | 0x1001, 6 => some ⟨8, s.dict.lastBeat.raw⟩
  | 0x1002, 1 => some (s.stagingStatus a)
  | 0x1003, 1 => some s.flash.storeStatus
  | 0x1010, 1 => some (Blob.scalar 1 s.side.node)
  | 0x1010, 4 => some ⟨1, b2n (decide ((s.val 0x1010 3).size ≠ 0))⟩
  | 0x1010, 5 => some (Blob.array 8 s.side.counters)
  | 0x1011, 1 => some (Blob.array 8 [s.dict.winServed, s.dict.winDiscarded])
  | 0x1020, 2 => some (Blob.record [(1, s.flash.progSlot), (1, s.flash.progState), (2, 0), (4, s.flash.progBytes), (8, 0)])
  | _, _ => none

/-! ## Cadence and almanac (R78, R79) -/

/-- CadenceState's code (R47). -/
def CadState.code : CadState → Nat
  | .unlocked => 0 | .locked => 1 | .slewing => 2 | .flywheel => 3 | .cadenceLost => 4 | .freeRun => 5

/-- A length rounded to the nearest whole unit, halves up (R78). -/
def nearestUp (x : Rat) : Nat := (x + 1 / 2).floor.toNat

/-- The AlmanacSegment word (R79). -/
def Segment.word (g : Segment) : Nat := field (b2n g.curPage) 1 32 + field g.length 16 16 + field g.base 16 0

/-- AlmanacCounters (R79). -/
def Segment.counters (g : Segment) : Blob :=
  Blob.record [(8, g.misses), (8, g.skipped), (4, g.overruns), (4, g.malformed), (8, g.dlMisses)]

/-- Cadence, estate time, segments (R78). -/
def State.readCadence (s : State) (i sub : Nat) : Option Blob :=
  match i, sub with
  | 0x2001, 1 => some ⟨1, s.cad.state.code⟩
  | 0x2001, 2 => some (Blob.scalar 8 (nearestUp s.time.epochLen))
  | 0x2001, 3 => some ⟨4, unsigned 32 s.cad.phaseError⟩
  | 0x2001, 4 => some (Blob.scalar 1 s.cad.flywheel)
  | 0x2001, 5 => some ⟨1, b2n s.cad.present⟩
  | 0x2001, 6 => some (Blob.scalar 4 s.cad.rejected)
  | 0x2001, 7 => some (Blob.scalar 4 s.cad.missed)
  | 0x2001, 8 => some ⟨8, s.cad.lockTime.raw⟩
  | 0x2001, 9 => some (Blob.scalar 4 s.cad.lostCount)
  | 0x2001, 10 => some (Blob.scalar 8 s.time.epochs)
  | 0x2002, 1 => some ⟨8, s.stamp⟩
  | 0x2002, 2 => some (Blob.scalar 4 (nearestUp (s.slotLen * 1000)))
  | 0x2005, n => some ⟨8, (s.seg (n - 1)).word⟩
  | 0x2006, n => some (s.seg (n - 1)).counters
  | _, _ => none

/-! ## Energy (R374) -/

/-- LedgerStatus (R374): all zero before the cuvee is first bound. DESIGN CHOICE (log 46). -/
def State.ledgerStatus (s : State) (c : Nat) : Blob :=
  let v := s.cuvee c
  if v.state == .none || v.state == .defined then ⟨32, 0⟩
  else Blob.record [(8, unsigned 64 v.ledger.gen), (8, unsigned 64 v.ledger.res), (2, v.ledger.k), (2, s.deferredNow c),
    (4, v.ledger.overflow), (8, v.ledger.defers)]

/-- EstateEnergy (R374): the fields in order, then 0. DESIGN CHOICE (log 46). -/
def PowerSt.energyRecord (p : PowerSt) : Blob :=
  Blob.record ([(8, p.eMeas), (8, unsigned 64 p.excess), (2, p.avg1ms), (2, p.tenthsV), (1, p.clk)] ++
    p.limits.map (fun l => (1, l)) ++ [(2, p.shareScale), (5, 0)])

/-- Energy, domains, heat. -/
def State.readEnergy (s : State) (i sub : Nat) : Option Blob :=
  match i, sub with
  | 0x2010, 2 => some (Blob.scalar 2 Config.standingPower)
  | 0x2010, 6 => some (Blob.scalar 2 (sumNat (s.existing.map s.share)))
  | 0x2010, 7 => some (Blob.scalar 2 Config.rampInterval)
  | 0x2012, c => some (s.ledgerStatus c)
  | 0x2013, c => some (Blob.scalar 8 (s.cuvee c).ledger.energy)
  | 0x2014, k => some ⟨4, (Config.energyPerByte k).toNat⟩
  | 0x2015, 1 => some s.power.energyRecord
  | 0x2016, 1 => some (Blob.array 1 ((List.range 181).map s.domain))
  | 0x2017, 1 => some (Blob.array 1 (s.power.dieTemps ++ s.power.stackTemps ++ [s.power.dieState, s.power.hbmState, s.thermal]))
  | 0x2018, 1 => some (ringBlob 256 32 s.power.throttleLog)
  | 0x2018, 2 => some (Blob.scalar 4 s.power.throttleWritten)
  | 0x2019, c =>
    let p := (s.cuvee c).peerPace
    some (Blob.record [(4, p.1), (4, 0), (8, p.2.2)])
  | _, _ => none

/-! ## Muster, pool, cuvees (R32, R272) -/

/-- Units of the free pool in force (R238, R272, R516): what only a pending or staged composition write names still counts;
what a staged or running plan names does not. DESIGN CHOICE (log 46). -/
def State.freeUnits (s : State) (isTile : Bool) : Nat :=
  let held := s.existing.flatMap fun c => if isTile then s.cvTiles c else s.cvPcs c
  let planned := (s.dict.reserved.filter fun e => e.2.1 == isTile && (s.cuvee e.1).rebindActive).map fun e => e.2.2
  let map := if isTile then s.muster.tileMap else s.muster.pcMap
  (map.filter fun e => s.unitGood isTile e.1 && !held.contains e.1 && !planned.contains e.1 &&
    !s.dict.scrubbing.contains (isTile, e.1) && !(!isTile && s.obs.estate.contains e.1)).length

/-- Binding (R272). -/
def Cuvee.bindingWord (v : Cuvee) : Nat :=
  match v.binding with
  | none => 0
  | some (p, vf) => field 1 1 15 + field (portNo p) 1 8 + field vf 8 0

/-- Muster objects (R32): until the pass that sets it has completed, a number reads 0 and a map is an empty BLOB. -/
def State.readMuster (s : State) (i sub : Nat) : Option Blob :=
  let m := s.muster
  let num := fun (w : Nat) (ready : Bool) (v : Nat) => some (Blob.scalar w (if ready then v else 0))
  let map := fun (ready : Bool) (b : Blob) => some (if ready then b else ⟨0, 0⟩)
  match i, sub with
  | 0x3000, 1 => num 4 m.coreDone m.generation
  | 0x3000, 2 => num 2 m.coreDone m.tiles
  | 0x3000, 3 => num 1 m.coreDone m.clusters
  | 0x3000, 4 => num 2 m.memDone m.parcels
  | 0x3000, 5 => num 2 m.memDone m.pcCount
  | 0x3000, 6 => num 1 m.coreDone m.hosts
  | 0x3000, 7 => num 2 m.coreDone m.repairs
  | 0x3000, 8 => num 1 true m.state
  | 0x3000, 9 => num 1 true m.cause
  | 0x3000, 10 => num 2 m.coreDone m.links
  | 0x3001, n => some (Blob.scalar 8 (m.parcelWord (n - 1)))
  | 0x3002, n => some (Blob.scalar 4 (m.clusterWord (n - 1)))
  | 0x3003, 1 => map m.coreDone (Blob.array 1 ((List.range 2448).map m.repairByte))
  | 0x3004, 1 => map m.coreDone (Blob.array 2 (allTiles.map fun t => m.tileMap.getD t 0xFFFF))
  | 0x3005, 1 => map m.memDone (Blob.array 2 (allPcs.map fun k => m.pcMap.getD k 0xFFFF))
  | 0x3006, n => some (Blob.scalar 2 (m.fabricWord (n - 1)))
  | _, _ => none

/-- Free pool, cuvee state, commands, re-binding. -/
def State.readCompose (s : State) (i sub : Nat) : Option Blob :=
  match i, sub with
  | 0x3010, 1 => some (Blob.scalar 2 (s.freeUnits true))
  | 0x3010, 2 => some (Blob.scalar 2 (s.freeUnits false))
  | 0x3010, 3 => some (Blob.scalar 2 (8192 - sumNat (s.existing.map s.ringPairs)))
  | 0x3010, 4 => some (Blob.scalar 4 s.largestRun)
  | 0x3010, 5 => some (Blob.scalar 1 s.existing.length)
  | 0x3011, c => some (Blob.scalar 2 (s.cuvee c).word)
  | 0x3013, c => some (s.cuvee c).statusRecord
  | 0x3019, c => some (Blob.scalar 2 (s.cuvee c).bindingWord)
  | 0x301B, c => some (s.cuvee c).rebindRecord
  | 0x301D, c => some (Blob.scalar 4 (s.cuvee c).resets)
  | _, _ => none

/-! ## Tiles and trellis (R117, R118) -/

/-- TileStateMap's code: a retired tile keeps its activity state while a cuvee holds it; a tile held before its BIND is
IDLE. DESIGN CHOICE (log 46). -/
def State.tileCode (s : State) (held : List Nat) (t : Nat) : Nat :=
  let x := s.tile t
  if (s.muster.tileMap.find t).isNone then 6
  else if !(held.contains t || x.cuvee ≠ 0) then (if x.retired then 5 else 0)
  else match x.act with
    | .idle => 1
    | .running => 2
    | .held => 3
    | .faulted => 4

/-- Tiles that a cuvee holds. -/
def State.heldTiles (s : State) : List Nat := s.existing.flatMap s.cvTiles

/-- Tiles, formats, trellis. -/
def State.readFabric (s : State) (i sub : Nat) : Option Blob :=
  match i, sub with
  | 0x3080, 1 =>
    let held := s.heldTiles
    some (Blob.array 1 (allTiles.map (s.tileCode held)))
  | 0x3080, 2 => some (Blob.array 4 (allTiles.map fun t => (s.tile t).position false))
  | 0x3080, 3 => some (Blob.array 1 (allTiles.map fun t => (s.tile t).cause))
  | 0x3081, k => some ⟨4, (Config.energyPerOp k).toNat⟩
  | 0x3092, 1 => some ⟨2, 0x3FFF⟩
  | 0x30A2, 2 => some (Blob.scalar 16 s.net.fenced)
  | 0x30A4, c => some (Blob.scalar 4 (s.cuvee c).mcIncomplete)
  | 0x30A5, c => some (Blob.scalar 4 (s.cuvee c).barErrors)
  | 0x30A6, c => some (Blob.scalar 4 (s.cuvee c).flagOver)
  | 0x30A7, 1 => some (Blob.array 8 s.net.errors)
  | _, _ => none

/-! ## Memory and translation (R211, R237) -/

/-- EccCounters' fields of one pseudo-channel (R211). DESIGN CHOICE (log 46). -/
def Pc.ecc (x : Pc) : Nat := (Blob.array 4 [x.corrected, x.uncorr, x.stackRep, x.poisonRun]).val

/-- Memory objects. -/
def State.readMemory (s : State) (i sub : Nat) : Option Blob :=
  match i, sub with
  | 0x5001, n => some (Blob.scalar 8 (s.parcelStatus (n - 1)))
  | 0x5012, 1 => some (Blob.array 1 ((List.range 256).map fun k =>
      s.levelOf (k / 16) (k % 16) ((s.parcel (k / 16)).avg.getD (k % 16) 0)))
  | 0x5012, 2 => some (Blob.array 4 ((List.range 256).map fun k => (s.parcel (k / 16)).avg.getD (k % 16) 0))
  | 0x5013, 1 => some (Blob.array 2 ((List.range 42).map s.reservedOf))
  | 0x5014, 1 => some (Blob.array 2 ((List.range 42).map fun r => s.mem.eff.getD r (s.effective r)))
  | 0x5020, 1 => some (ringBlob 64 32 s.mem.shortLog)
  | 0x5020, 2 => some (Blob.scalar 4 s.mem.shortWritten)
  | 0x5021, c => some ⟨1, b2n (s.cuvee c).shortSeen⟩
  | 0x5030, 1 => some (Blob.array 16 (allPcs.map fun k => (s.pc k).ecc))
  | 0x5032, 1 => some (Blob.array 1 (allPcs.map fun k => s.muster.margins.getD k 0))
  | 0x5045, c => some (Blob.scalar 4 (s.cuvee c).sync)
  | 0x5047, c => some (s.adviceTable c)
  | 0x5048, c => some (Blob.array 8 (s.cuvee c).xCounters)
  | 0x5070, 1 => some (Blob.array 4 ((List.range 4096).map fun k => s.links.rejects.getD k 0))
  | _, _ => none

/-! ## Links and serving (R304, R349) -/

/-- Link objects. -/
def State.readLinks (s : State) (i sub : Nat) : Option Blob :=
  match i, sub with
  | 0x6002, n => some (Blob.scalar 8 (s.port (n - 1)).status)
  | 0x6006, n => some (Blob.array 8 (s.port (n - 1)).counters)
  | 0x6013, 1 => some (ringBlob 16 16 s.links.flareLog)
  | 0x6020, 1 => some (ringBlob 64 32 s.links.limboLog)
  | 0x6020, 2 => some (Blob.scalar 4 s.links.limboWritten)
  | 0x6022, c => some (Blob.array 8 (s.cuvee c).linkErrors)
  | 0x6023, c => some (Blob.array 8 (s.cuvee c).caskCounters)
  | _, _ => none

/-- Serving objects. -/
def State.readServing (s : State) (i c : Nat) : Option Blob :=
  let v := (s.cuvee c).serving
  match i with
  | 0x7001 => if (s.dict.vals.find (objKey i c)).isSome then none else some (Blob.zero (32 * s.ringPairs c))
  | 0x7002 => some (s.ringStatus c)
  | 0x7003 => some (Blob.array 32 ((List.range 16).map (s.modelRecord c)))
  | 0x7004 => some (Blob.array 8 ((List.range 255).map fun g => v.groups.getD g 0))
  | 0x7007 => some (Blob.array 32 ((List.range 1024).map fun k =>
      let r := v.accLatch.getD k (0, 0, 0)
      (Blob.record [(8, r.1), (8, r.2.1), (4, r.2.2), (12, 0)]).val))
  | 0x7008 => some (Blob.array 8 ((List.range 10).map fun k => v.counters.getD k 0))
  | _ => none

/-! ## Observation (R430, R431) -/

/-- Harvest, daybook, check channels. -/
def State.readObserve (s : State) (a : Acc) (i sub : Nat) : Option Blob :=
  match i, sub with
  | 0x8001, 1 => some (Blob.scalar 4 s.obs.harvestWritten)
  | 0x8001, 2 => some (Blob.scalar 4 (s.select a 0x8001 2))
  | 0x8001, 3 => some (s.obs.records.getD (s.select a 0x8001 2 % max 1 (s.num 0x8000 3)) ⟨147456, 0⟩)
  | 0x8002, 2 => some (listBlob 3 2 s.obs.estate)
  | 0x8006, c => some ⟨256, (s.cuvee c).cntBlock.val⟩
  | 0x9000, 2 => some (Blob.scalar 4 (650000 * s.obs.estate.length))
  | 0x9004, n => some (s.book (n - 1)).status
  | 0x9005, 1 => some (Blob.scalar 8 (s.select a 0x9005 1))
  | 0x9005, 2 =>
    let x := s.select a 0x9005 1
    some (s.bookPage (bits x 39 32) (bits x 31 0))
  | 0x9020, 1 => some (Blob.array 1 ((List.range 64).map s.channelOwner))
  | _, _ => none

/-! ## Security and faults (R400, R457) -/

/-- Measurement k of the image that booted (R383). DESIGN CHOICE (log 47). -/
def State.measurement (s : State) (k : Nat) : Nat := Config.measurement (s.flash.imageKey s.sec.booted * 8 + k)
/-- Measurements: blocks 1–6 of R383. -/
def State.measurements (s : State) : Blob :=
  Blob.record ((List.range 4).map (fun k => (64, s.measurement (k + 1))) ++
    (List.range 4).map (fun k => (4, s.svnOf s.sec.booted (k + 1))) ++ s.flash.rollback.map (fun r => (4, r)) ++
    [(1, s.sec.debug)])

/-- The certificates in order (R378). -/
def State.certificates (s : State) : List Blob :=
  [Config.certificate 0, Config.certificate 1, Config.certificate 2, Config.aliasCertificate (s.flash.imageKey s.sec.booted)]

/-- CertificateChain: U32 length and DER of each certificate. -/
def State.certificateChain (s : State) : Blob := Blob.record (s.certificates.flatMap fun b => [(4, b.size), (b.size, b.val)])

/-- SpdmStatus of a port. -/
def HostSt.spdmStatus (h : HostSt) : Blob :=
  let code := fun k =>
    let keys := h.ideKeys.filter fun e => e.1.stream == k
    if keys.any fun e => e.2.2.2 then 2 else if keys.isEmpty then 0 else 1
  Blob.record ([(1, h.sessions.length)] ++ (List.range 5).map (fun k => (1, code k)) ++ [(10, 0)])

/-- SessionStatus: 16 places. -/
def SecSt.sessionStatus (x : SecSt) : Blob :=
  Blob.array 32 ((List.range 16).map fun k => match x.sessions[k]? with
    | none => 0
    | some e => (Blob.record [(4, e.id), (1, e.state), (1, e.role), (2, 0), (16, e.peer), (8, e.created.raw)]).val)

/-- ConfigDigest (R386), over the objects listed, in that order. DESIGN CHOICE (log 45). -/
def State.configDigest (s : State) (c : Nat) : Nat :=
  let wins := (List.range 4096).filterMap fun k =>
    let b := s.val (0x5050 + k / 128) (k % 128 + 1)
    if bit b.val 127 && bits b.val 99 92 = c then some (16, b.val) else none
  let part := fun i => ((s.val i c).size, (s.val i c).val)
  Config.shake256 (Blob.record ([part 0x3018, part 0x5042] ++ wins ++ [part 0x301C, part 0xA004])) 64

/-- BottleStatus (R400). -/
def Cuvee.bottleStatus (v : Cuvee) : Blob :=
  Blob.record [(1, v.bottle.getD 0 0), (3, 0), (4, v.bottle.getD 1 0), (4, v.bottle.getD 2 0), (4, 0), (16, v.bottle.getD 3 0)]

/-- Security objects. DEDUCED (log 48). -/
def State.readSecurity (s : State) (i sub : Nat) : Option Blob :=
  match i, sub with
  | 0xA000, 1 => some (Blob.scalar 64 Config.identityDigest)
  | 0xA000, 2 => some s.certificateChain
  | 0xA000, 3 => some (Blob.scalar 1568 bottleKey)
  | 0xA000, 4 => some (Blob.scalar 1 s.sec.identity)
  | 0xA001, 1 => some s.measurements
  | 0xA001, 2 => some (Blob.array 4 s.flash.rollback)
  | 0xA001, 5 => some (Blob.array 1 [s.sec.booted, s.sec.failA, s.sec.failB])
  | 0xA002, n => some (s.host (portOf (n - 1))).spdmStatus
  | 0xA003, c => some (Blob.scalar 1 (s.cuvee c).tdi)
  | 0xA005, c => some (s.cuvee c).bottleStatus
  | 0xA006, 2 => some s.sec.blob
  | 0xA006, 3 => some s.sec.sessionStatus
  | 0xA007, 3 => some (ringBlob 1024 1536 s.sec.meterLog)
  | 0xA007, 4 => some (Blob.scalar 4 s.sec.meterWritten)
  | 0xA009, c => some (Blob.scalar 64 (if (s.cuvee c).state == .none then 0 else s.configDigest c))
  | _, _ => none

/-- Fault objects. -/
def State.readFaults (s : State) (i sub : Nat) : Option Blob :=
  let f := s.faults
  match i, sub with
  | 0xB000, c => some (ringBlob 64 64 (s.cuvee c).faultLog)
  | 0xB001, c => some (Blob.scalar 4 (s.cuvee c).faults)
  | 0xB010, 1 => some (ringBlob 256 64 f.log)
  | 0xB010, 2 => some (Blob.scalar 4 f.written)
  | 0xB011, 0 => some (listBlob 4 4 f.retired)
  | 0xB013, 1 => some (Blob.array 1 ((List.range 273).map fun k => f.engines.getD k 0))
  | 0xB020, 1 => some (Blob.scalar 1 f.estateState)
  | 0xB020, 2 => some f.estateFault
  | 0xB021, 2 => some (Blob.record [(1, f.resetOp), (1, f.resetPhase), (2, 0), (4, 0), (8, f.resetDone.raw)])
  | 0xB022, 1 => some (Blob.record [(8, s.flash.tripTime.raw), (1, s.flash.tripSensor), (1, s.flash.tripDegC), (2, 0),
      (4, s.flash.trips)])
  | 0xB023, 1 => some f.holiday
  | _, _ => none

/-! ## Reading an object -/

/-- The computed objects, by the area of R492. -/
def State.computed (s : State) (a : Acc) (i sub : Nat) : Option Blob :=
  if i < 0x2000 then s.readComm a i sub
  else if i < 0x2010 then s.readCadence i sub
  else if i < 0x3000 then s.readEnergy i sub
  else if i < 0x3010 then s.readMuster i sub
  else if i < 0x3080 then s.readCompose i sub
  else if i < 0x4000 then s.readFabric i sub
  else if i < 0x6000 then s.readMemory i sub
  else if i < 0x7000 then s.readLinks i sub
  else if i < 0x8000 then s.readServing i sub
  else if i < 0xA000 then s.readObserve a i sub
  else if i < 0xB000 then s.readSecurity i sub
  else if i < 0xC000 then s.readFaults i sub
  else none

/-- The in-force value of an object for a class. -/
def State.objValue (s : State) (a : Acc) (i sub : Nat) : Blob :=
  match s.computed a i sub with
  | some b => b
  | none => s.val i sub

/-! ## The objects that exist only in the view -/

/-- VC, TARGET and WAYS of a label where it is permitted (R211). -/
def State.labelShown (s : State) (c l : Nat) : Nat :=
  let e := s.num 0x5010 (l + 1)
  if bit (s.num 0x5011 c) l then field (bits e 62 61) 2 61 + field (bits e 47 32) 16 32 + field (bits e 31 16) 16 16 else 0

/-- MeterOwn (R401): record n of the cuvee by SEQ. DEDUCED (log 48). -/
def Meter.ownBlob (m : Meter) : Blob :=
  Blob.record ((List.range 16).map fun k =>
    (1536, ((m.own.filter fun b => b.get 16 4 % 16 == k).getLast?.getD ⟨1536, 0⟩).val))

/-- FaultLog with CUVEE 0 (R458). -/
def hideCuvee (n : Nat) (b : Blob) : Blob := (List.range n).foldl (fun b k => b.put (64 * k + 10) 1 0) b

/-- Three parts, each with its length (R401). -/
def State.identityParts (s : State) : Blob :=
  let m := s.measurements
  Blob.record [(4, 64), (64, Config.identityDigest), (4, s.certificateChain.size), (s.certificateChain.size, s.certificateChain.val),
    (4, m.size), (m.size, m.val)]

/-- A view-only object of cuvee c (R271, R375, R401, R432). -/
def State.viewOnly (s : State) (c i sub : Nat) : Blob :=
  let ts := s.cvTiles c
  let v := s.cuvee c
  match i, sub with
  | 0x4000, 4 => Blob.scalar 4 (field (s.cvPcs c).length 16 16 + field ts.length 16 0)
  | 0x4001, 1 => Blob.array 1 (ts.map (s.tileCode ts))
  | 0x4001, 2 => Blob.array 4 (ts.map fun t => (s.tile t).position true)
  | 0x4001, 3 => Blob.array 1 (ts.map fun t => (s.tile t).cause)
  | 0x4005, 5 => Blob.array 8 ((List.range 16).map (s.labelShown c))
  | 0x4005, 7 => Blob.array 16 ((s.cvPcs c).map fun k => (s.pc k).ecc)
  | 0x4012, 3 => ringBlob 64 32 v.ownLog
  | 0x4012, 4 => ⟨1, b2n v.throttleSeen⟩
  | 0x4012, 5 => Blob.array 4 (v.thrSummary ++ [0])
  | 0x4012, 6 => Blob.scalar 1 s.power.thermalView
  | 0x4013, 6 => v.meter.ownBlob
  | 0x4013, 7 => s.identityParts
  | 0x4014, 8 => Blob.scalar 8 (s.select (.tenant c) 0x4014 8)
  | 0x4014, 9 => s.bookPage c (bits (s.select (.tenant c) 0x4014 8) 31 0)
  | 0x4014, 12 => Blob.scalar 1 (s.channelsOf c)
  | _, _ => ⟨0, 0⟩

/-- The value that a tenant reads through a row of the view. -/
def State.viewValue (s : State) (c : Nat) (w : ViewDesc) : Blob :=
  match w.target with
  | .only => s.viewOnly c w.idx w.sub
  | .own 0xB000 => hideCuvee 64 (s.objValue (.tenant c) 0xB000 c)
  | _ => s.objValue (.tenant c) (w.base c).1 (w.base c).2

end Sys2Proof.Machine
end

