-- ==== Sys2Proof/Machine/Checks.lean ====
section
/-! DEFINITION. Machine/Checks.lean: what a write of each object is checked for (R460, R468 steps 7–11): its size, its
Range, the state it meets, and the admission limits of R516. -/

namespace Sys2Proof.Machine

/-- The outcomes of a value's checks, one flag per step of R468: OUT_OF_RANGE, STATE_CONFLICT, OVERCOMMIT, BUSY. -/
structure Chk where
  range    : Bool := false
  conflict : Bool := false
  overc    : Bool := false
  busy     : Bool := false
deriving DecidableEq, Repr, Inhabited

/-- The first code whose condition holds; OK when none does (R468). -/
def verdict : List (Bool × Nat) → Nat
  | [] => stOk
  | (b, k) :: l => if b then k else verdict l

/-- The code of a check. -/
def Chk.code (k : Chk) : Nat :=
  verdict [(k.range, stRange), (k.conflict, stConflict), (k.overc, stOver), (k.busy, stBusy)]

/-- What only the security controller or the boot ROM can find of a written value: whether a blob's certificate and signature
verify (R388), the SESSION an OPEN draws, and what a boot that a reset starts finds (R379). -/
structure Extra where
  verifies : Bool
  session  : Nat
  boot     : BootFindings
deriving DecidableEq, Repr, Inhabited

/-- A valuation of the objects, as admission counts them. -/
abbrev Vals := Nat → Nat → Blob

/-! ## Sizes (R460) -/

/-- Bytes of a LIST's elements, by object. DEDUCED (log 25). -/
def listElem (i : Nat) : Nat := if i = 0x8002 then 2 else 4

/-- The length of a write's data keeps R460. -/
def sizeOk (v : Vals) (d : ObjDesc) (sub : Nat) (b : Blob) : Bool :=
  match d.ty with
  | .list => decide (4 ≤ b.size) && b.size == 4 + b.get 0 2 * listElem d.idx
  | .str | .blob =>
    if d.idx = 0x7001 then b.size == 32 * bits (v 0x3016 sub).val 31 21
    else if d.idx = 0xA004 then b.size == 1793
    else if d.idx = 0xA006 && sub = 1 then
      decide (8 ≤ b.size ∧ b.size ≤ 8192) &&
        (match b.get 0 1 with
          | 1 => b.size == 72
          | 4 => b.size == 8
          | _ => true)
    else decide (d.minSize ≤ b.size ∧ b.size ≤ d.maxSize) && b.size % max 1 d.elem == 0
  | _ => b.size == d.minSize

/-- A LIST's own Range: its COUNT within the bound, its element type, its zero byte (R459, R460). DEDUCED (log 25). -/
def listBad (d : ObjDesc) (b : Blob) : Bool :=
  d.ty == .list && (decide (d.maxSize < b.size) || b.get 2 1 != (if d.idx = 0x8002 then 3 else 4) || b.get 3 1 != 0)

/-! ## Chapters 1 and 2 -/

/-- An entry of the ExclusionList (R36). -/
def exclusionBad (e : Nat) : Bool :=
  bits e 27 19 != 0 ||
    match bits e 31 28 with
    | 1 => decide (8 < exCluster e ∨ 16 < exUnit e ∨ 32 < exCell e)
    | 2 => decide (8 < exCluster e ∨ 16 < exUnit e) || exCell e != 0
    | 3 => decide (8 < exCluster e) || exUnit e != 0 || exCell e != 0
    | 4 => bits e 14 11 != 0 || exCell e != 0
    | _ => true

/-- A value lies in [lo, hi]. -/
def within (x lo hi : Nat) : Bool := decide (lo ≤ x ∧ x ≤ hi)

/-- Identity, steward, side-band, flash (R462, R489). -/
def State.chkComm (s : State) (a : Acc) (i sub : Nat) (b : Blob) : Chk :=
  match i, sub with
  | 0x1001, 3 =>
    let holder := s.dict.steward
    let h := s.host holder
    let silent := s.num 0x1001 5 != 0 && decide (s.dict.beatFrom + (s.num 0x1001 5 : Nat) ≤ s.time.now)
    let present := fun p => bit s.muster.hosts (portNo p)
    { conflict := match a, b.val with
        | .deputy, 1 => !(h.perst || !h.linkUp || silent)
        | .manager, 2 => !present (otherPort holder)
        | .side, 3 => !present .a
        | .side, 4 => !present .b
        | _, _ => true }
  | 0x1001, 5 => { range := !(b.val == 0 || within b.val 10000000 60000000000) }
  | 0x1020, 1 =>
    let slot := b.get 0 1
    let off := b.get 4 4
    { range := decide (1 < slot) || b.get 1 3 != 0
      conflict := slot == s.sec.booted ||
        !(off == 0 || (s.flash.progState == 2 && slot == s.flash.progSlot && off == s.flash.progBytes))
      busy := s.flash.job.isSome }
  | _, _ => {}

/-- Cadence and estate rows (R50, R78). DEDUCED (log 38). -/
def State.chkCadence (s : State) (i sub : Nat) (b : Blob) : Chk :=
  match i, sub with
  | 0x2000, 9 => { conflict := !s.cadenceCommandOk b.val }
  | 0x2003, _ =>
    { range := rowAloneBad 0 b.val || rowAction b.val == 5 || rowAction b.val == 7
      -- the next page is locked until the swap (R69)
      busy := (s.seg 0).ready }
  | _, _ => {}

/-- EnergyShare (R374). -/
def State.chkEnergy (s : State) (v : Vals) (i c : Nat) (b : Blob) : Chk :=
  if i = 0x2011 then
    { range := decide (1500 < b.get 0 2 ∨ 16 < b.get 2 1) || b.get 3 1 != 0 || !within (b.get 4 4) 16 65536
      conflict := (s.cuvee c).state == .releasing
      overc := !sharesFit v s.existing }
  else {}

/-! ## Chapter 8 -/

/-- Another existing cuvee counts one of the units as its own. -/
def State.unitsTaken (s : State) (v : Vals) (c : Nat) (isTile : Bool) (us : List Nat) : Bool :=
  s.existing.any fun d => d != c && (if isTile then vTiles v d else vPcs v d).any us.contains

/-- Queue minima and translation groups that a composition implies (R205, R220). -/
def State.implied (s : State) (v : Vals) : Bool :=
  queuesFit v s.existing && (List.range 16).all (groupsFit v s.existing)

/-- The cuvee is in one of the states. -/
def State.isIn (s : State) (c : Nat) (l : List CvState) : Bool := l.contains (s.cuvee c).state

/-- ServiceSlots' layout (R272). -/
def serviceBad (b : Blob) : Bool :=
  (List.range 16).any (fun p => decide (13 < b.get p 1)) || decide (56 < b.get 16 1 ∨ 13 < b.get 17 1) || b.get 18 14 != 0

/-- ImageTarget's layout (R263). -/
def imageTargetBad (n : Nat) : Bool :=
  bits n 255 254 == 3 || decide (1 < bits n 253 252) || bits n 231 224 != 0 || bits n 63 0 != 0 ||
    bits n 139 128 != 0

/-- RebindPlan's layout (R250, R251). DEDUCED (log 25). -/
def planBad (b : Blob) : Bool :=
  match parsePlan b with
  | none => true
  | some p => p.newTiles == 0 || p.newPcs == 0 || decide (2048 < p.newTiles ∨ 512 < p.newPcs) ||
      p.tiles.any (fun e => bits e 19 11 != 0) || p.pcs.any (fun e => bits e 21 9 != 0) ||
      p.allots.any fun e => bits e 47 16 != 0 || (allotTarget e).isNone

/-- Muster lists, composition, re-binding, images (R36, R239–R241, R263, R272, R336). DEDUCED (log 42). -/
def State.chkCompose (s : State) (v : Vals) (i c : Nat) (b : Blob) : Chk :=
  let n := b.val
  match i with
  | 0x3007 => { range := ((List.range (b.get 0 2)).any fun k => exclusionBad (b.get (4 + 4 * k) 4)) }
  | 0x3014 | 0x3015 =>
    let isTile := i == 0x3014
    let us := b.elems 2
    let st := s.unitsStatus c isTile us
    { range := st == stRange
      conflict := !s.isIn c [.defined]
      overc := st == stOver || s.unitsTaken v c isTile us || !s.implied v }
  | 0x3016 =>
    { range := !within (bits n 47 32) 1 16384 || !within (bits n 31 21) 1 1024 || bits n 63 48 != 0 || bits n 20 0 != 0
      conflict := !s.isIn c [.defined]
      overc := !ringsFit v s.existing }
  | 0x3017 => { range := serviceBad b, overc := !serviceFit v s.existing }
  | 0x3018 =>
    { range := decide (4096 ≤ n)
      conflict := !s.isIn c [.defined, .bound]
      overc := n != 0 && s.existing.any fun d => d != c && (v 0x3018 d).val == n }
  | 0x301A => { range := planBad b, conflict := (s.cuvee c).rebindActive }
  | 0x301C => { range := imageTargetBad n, conflict := (s.cuvee c).saveActive || (s.cuvee c).restoreActive }
  | _ => {}

/-! ## Chapter 5 -/

/-- Barrier and multicast allotments (R182). -/
def State.chkFabric (s : State) (v : Vals) (i c : Nat) (b : Blob) : Chk :=
  let n := b.val
  match i with
  | 0x30A0 =>
    { range := bits n 31 29 != 0 || bits n 15 12 != 0 || decide (4096 < bits n 11 0 + bits n 28 16)
      conflict := !s.isIn c [.defined], overc := !barriersFit v s.existing c }
  | 0x30A1 =>
    { range := bits n 31 27 != 0 || bits n 15 10 != 0 || decide (1024 < bits n 9 0 + bits n 26 16)
      conflict := !s.isIn c [.defined], overc := !multicastFit v s.existing c }
  | 0x30A2 | 0x30A3 | _ => {}

/-! ## Chapters 6 and 7 -/

/-- A label entry breaks R199. DEDUCED (log 43). -/
def labelBad (n : Nat) : Bool :=
  let vc := bits n 62 61
  bits n 58 48 != 0 || bits n 15 9 != 0 || vc == 3 || decide (256 < bits n 8 0) ||
    (bit n 63 &&
      (if vc = 1 then bits n 47 32 == 0 else bits n 60 59 != 0 || bits n 47 32 != 0 || (vc == 0 && bits n 8 0 == 0)))

/-- A set entry breaks R188 for a cuvee that holds the pseudo-channels ks. DEDUCED (log 26). -/
def setBad (ks : List Nat) (e : Nat) : Bool :=
  let n := bits e 62 60
  let members := (List.range (2 ^ n)).map fun k => ks[bits e 8 0 + k]?
  bits e 59 9 != 0 || decide (5 < n) ||
    (bit e 63 && (members.any Option.isNone || decide (1 < (members.filterMap fun m => m.map pcParcel).dedup.length)))

/-- The label of a table entry is permitted, as the valuation has it. DEDUCED (log 43). -/
def vPermits (v : Vals) (c l : Nat) : Bool := bit (v 0x5011 c).val l

/-- A host window breaks R226. DEDUCED (log 26). -/
def hostWindowBad (v : Vals) (c n : Nat) : Bool :=
  bits n 246 176 != 0 || bits n 63 24 != 0 || bits n 143 128 != 0 || bits n 75 64 != 0 ||
    (n != 0 && !vPermits v c (bits n 252 249)) || decide (2 ^ 64 < bits n 127 64 + 65536 * (bits n 23 0 + 1))

/-- A link window breaks R228. DEDUCED (log 26). -/
def linkWindowBad (v : Vals) (c n : Nat) : Bool :=
  bits n 248 224 != 0 || bits n 191 176 != 0 || bits n 143 128 != 0 || bits n 103 88 != 0 || bits n 63 0 != 0 ||
    (n != 0 && !vPermits v c (bits n 252 249))

/-- An inbound window breaks R230. DEDUCED (log 26). -/
def inboundBad (v : Vals) (n : Nat) : Bool :=
  let c := bits n 99 92
  bit n 124 || bits n 63 48 != 0 || bits n 15 0 != 0 || c == 255 || (c == 0 && bit n 127) ||
    (c != 0 && !vPermits v c (bits n 91 88))

/-- Entries of n bytes, one of which is bad. -/
def anyEntry (n : Nat) (b : Blob) (bad : Nat → Bool) : Bool := (b.elems n).any bad

/-- Memory objects (R188, R195, R198–R200, R205). -/
def State.chkMemory (s : State) (v : Vals) (i sub : Nat) (b : Blob) : Chk :=
  let cs := s.existing
  let n := b.val
  let defined := s.isIn sub [.defined]
  let ps := List.range 16
  match i with
  | 0x5002 =>
    let p := sub - 1
    let masks := cs.map fun c => vWays v c p
    { conflict := if n = 1 then masks.any (fun m => decide (256 ≤ m)) || decide (6 < sumNat (masks.map popcount))
        else cs.any fun c => (v 0x5004 c).get p 1 != 0 }
  | 0x5003 =>
    { range := ps.any fun p => b.get (2 * p) 2 != 0 && !(s.parcel p).cacheOn
      conflict := !defined, overc := !(ps.all (waysFit v cs)) }
  | 0x5004 =>
    { range := ps.any fun p => decide (16 < b.get p 1) || (b.get p 1 != 0 && !(s.parcel p).cacheOn)
      conflict := !defined, overc := !(ps.all (stashFit v cs)) }
  | 0x5005 => { conflict := !defined, overc := !queuesFit v cs }
  | 0x5006 => { range := anyEntry 8 b (setBad (s.cvPcs sub)) }
  | 0x5010 =>
    { range := labelBad n
      conflict := cs.any fun c => (s.cuvee c).live && s.permits c (sub - 1)
      overc := !(cs.all (labelsFit v)) }
  | 0x5011 => { conflict := !defined, overc := !labelsFit v sub }
  | _ => {}

/-- Translation objects (R220, R226, R228, R230, R237). DEDUCED (log 43). -/
def State.chkTranslate (s : State) (v : Vals) (i c : Nat) (b : Blob) : Chk :=
  let n := b.val
  let stopped := s.isIn c [.saved, .resetting, .releasing] ||
    (s.isIn c [.frozen] && ((s.cuvee c).saveActive || (s.cuvee c).restoreActive))
  match i with
  | 0x5040 => { range := bits n 62 44 != 0 || bits n 37 36 != 0 || bits n 11 0 != 0, conflict := stopped }
  | 0x5041 => { range := anyEntry 32 b (hostWindowBad v c), conflict := stopped }
  | 0x5042 => { range := anyEntry 32 b (linkWindowBad v c), conflict := stopped }
  | 0x5043 =>
    { range := anyEntry 1 b fun g => decide (64 < g)
      conflict := !s.isIn c [.defined], overc := !((List.range 16).all (groupsFit v s.existing)) }
  | 0x5044 => { conflict := stopped }
  | 0x5046 => { range := !vPermits v c n, conflict := stopped }
  | _ =>
    if 0x5050 ≤ i && i < 0x5070 then
      { range := inboundBad v n
        conflict := bits n 99 92 != 0 && s.isIn (bits n 99 92) [.none, .releasing] }
    else {}

/-! ## Chapters 9 and 10 -/

/-- A route entry breaks R327; one that is zero, as after muster, breaks nothing. -/
def routeBad (n : Nat) : Bool :=
  n != 0 && (bits n 18 12 != 0 || !within (bits n 30 28) 1 4 || decide (11 < bits n 27 24) || decide (11 < bits n 22 19))

/-- A group-barrier entry breaks R333. DEDUCED (log 26). -/
def groupBarrierBad (n : Nat) : Bool := bits n 29 24 != 0 || (bit n 63 && bit n 62 && bits n 61 54 == 0)

/-- Link objects (R311, R346, R347, R349). -/
def State.chkLinks (s : State) (i sub : Nat) (b : Blob) : Chk :=
  let n := b.val
  match i, sub with
  | 0x6000, 1 => { conflict := (List.range 12).any fun k => (s.port k).state != 0 && (s.port k).state != 5 }
  | 0x6003, _ => { range := decide (4095 < b.get 0 2) }
  | 0x6004, _ => { conflict := !s.portCommandOk (sub - 1) n }
  | 0x6005, 1 => { range := anyEntry 4 b routeBad }
  | 0x6007, 1 => { range := anyEntry 8 b groupBarrierBad }
  | 0x6012, 1 => { conflict := (s.groupCuvee n).isNone }
  | 0x6021, 1 =>
    { range := !within (b.get 0 1) 1 254 || !within (b.get 1 1) 1 2 || b.get 2 2 != 0
      conflict := !s.inLimbo (b.get 0 1) (b.get 4 4) }
  | _, _ => {}

/-- An entry of RingPairs breaks R274; one that is zero, as every entry is before it is written, breaks nothing. -/
def ringBad (v : Vals) (c n : Nat) : Bool :=
  bits n 242 176 != 0 || bits n 127 112 != 0 || bits n 63 0 != 0 ||
    (n != 0 && (!vPermits v c (rgLabel n) || !within (bits n 250 247) 4 15 || !within (bits n 246 243) 4 15 ||
      rgSqVa n % 64 != 0 || rgCqVa n % 32 != 0))

/-- A fetched request of the pair is still without its completion. -/
def Ring.owing (r : Ring) : Bool := r.reserved != 0

/-- A write of RingPairs meets the ENABLE rules of R274. -/
def State.ringsConflict (s : State) (c : Nat) (b : Blob) : Bool :=
  let live := (s.cuvee c).live
  (List.range (b.size / 32)).any fun k =>
    let old := s.ringEntry c k
    let new := b.get (32 * k) 32
    (live && bit old 255 && old != new && new + 2 ^ 255 != old) || (!bit old 255 && bit new 255 && (s.ring c k).owing)

/-- A StreamTable entry breaks R297. DEDUCED (log 26). -/
def streamRowBad (n : Nat) : Bool :=
  bits n 68 0 != 0 || smPolicy n == 3 || (smValid n && decide (smDeadline n ≤ smStart n))

/-- Serving objects (R274, R297, R304). -/
def State.chkServing (s : State) (v : Vals) (i c : Nat) (b : Blob) : Chk :=
  let still := s.isIn c [.frozen, .saved, .resetting, .releasing]
  match i with
  | 0x7000 =>
    { range := b.get 0 8 % 2 ^ 21 != 0 || !(b.get 8 2 == 0 || within (b.get 8 2) 64 4032) || b.get 10 6 != 0
      conflict := still }
  | 0x7001 =>
    { range := anyEntry 32 b (ringBad v c)
      conflict := s.isIn c [.saved, .resetting, .releasing] ||
        (s.isIn c [.frozen] && ((s.cuvee c).saveActive || (s.cuvee c).restoreActive)) || s.ringsConflict c b }
  | 0x7005 => { range := anyEntry 16 b streamRowBad, conflict := still }
  | 0x7006 => { conflict := still }
  | _ => {}

/-! ## Chapter 13 -/

/-- MiB of the estate space (R410). DESIGN CHOICE (log 32). -/
def State.estateMiB (s : State) : Nat := 1152 * s.obs.estate.length

/-- Harvest, daybook and watch objects (R413, R415, R418, R421, R430–R432). DESIGN CHOICE (log 32). -/
def State.chkObserve (s : State) (v : Vals) (i sub : Nat) (b : Blob) : Chk :=
  let n := b.val
  let gone := s.isIn sub [.releasing]
  let gone1 := sub ≠ 1 && s.isIn (sub - 1) [.releasing]
  match i, sub with
  | 0x8002, 1 => { range := (List.range (b.get 0 2)).any fun k => decide (512 ≤ b.get (4 + 2 * k) 2) }
  | 0x8004, _ => { conflict := gone }
  | 0x8005, _ => { range := n % 4096 != 0, conflict := gone }
  | 0x9000, 1 =>
    { range := n % 16 != 0
      overc := (!s.obs.estate.isEmpty && n != 0 && decide (s.estateMiB < n + 256)) || !daybookFit v s.existing s.obs.estate.length }
  | 0x9001, _ =>
    let resize := b.get 0 4 != (s.val 0x9001 sub).get 0 4
    { range := b.get 0 4 % 16 != 0
      conflict := gone1 || (sub ≠ 1 && resize && !s.isIn (sub - 1) [.defined, .bound])
      overc := !daybookFit v s.existing s.obs.estate.length }
  | 0x9002, _ =>
    { range := decide (3 < b.get 0 1 ∨ 15 < b.get 1 1 ∨ 15 < b.get 2 1) || b.get 3 5 != 0 || b.get 24 8 != 0
      conflict := gone1 }
  | 0x9003, _ => { conflict := gone1 || !s.bookControlOk (sub - 1) n }
  | 0x9005, 1 => { range := decide (254 < bits n 39 32) || bits n 63 40 != 0 }
  | 0x4014, 8 => { range := bits n 63 32 != 0 }
  | 0x9010, _ => { range := anyEntry 8 b fun p => decide (5 < wpFmt p) || bits p 34 0 != 0, conflict := gone }
  | 0x9011, _ => { range := n % 8192 != 0, conflict := gone }
  | _, _ => {}

/-! ## Chapters 12 and 14 -/

/-- The session of an ID. -/
def SecSt.find (x : SecSt) (id : Nat) : Option Session := x.sessions.find? fun e => e.id == id

/-- The fields of a session blob (R388). -/
def blobId (b : Blob) : Nat := b.get 12 4
def blobKind (b : Blob) : Nat := b.get 16 1
def blobSource (b : Blob) : Nat := b.get 24 64
def blobTarget (b : Blob) : Nat := b.get 88 64
def blobOffer (b : Blob) : Nat := b.get 160 64

/-- The body of SessionCommand, a blob from byte 8 on, is well formed for a kind: lengths, MAGIC, reserved bytes.
DESIGN CHOICE (log 30). -/
def blobWell (b : Blob) (kind : Nat) : Bool :=
  decide (8 + 1788 + 1280 ≤ b.size) && b.get 8 4 == 0x53533947 && blobId b != 0 && blobKind b == kind && b.get 17 7 == 0 &&
    b.size == 8 + 1788 + b.get (8 + 1784) 4 + 1280

/-- SessionCommand (R388, R400). DESIGN CHOICE (log 29, 30). -/
def State.chkSession (s : State) (b : Blob) (x : Extra) : Chk :=
  let full := decide (16 ≤ s.sec.sessions.length)
  let pad := b.get 1 3 != 0
  match b.get 0 1 with
  | 1 => { range := pad, overc := full }
  | 2 =>
    { range := pad || !blobWell b 1 || !x.verifies || blobTarget b != Config.identityDigest % 2 ^ 512 || blobOffer b != 0
      conflict := (s.sec.find (blobId b)).isSome, overc := full }
  | 3 =>
    let e := s.sec.find (blobId b)
    { range := pad || !blobWell b 2 || !x.verifies || blobSource b != Config.identityDigest % 2 ^ 512 ||
        (e.any fun e => e.state == 1 && e.role == 1 && (e.key != blobOffer b || e.peer != blobTarget b % 2 ^ 128))
      conflict := !(e.any fun e => e.state == 1 && e.role == 1) }
  | 4 => { range := pad, conflict := (s.sec.find (b.get 4 4)).isNone }
  | _ => { range := true }

/-- MeterTarget's layout (R400). DEDUCED (log 137). -/
def meterTargetBad (b : Blob) : Bool :=
  b.get 0 8 % 4096 != 0 || decide (1 < b.get 12 1) || b.get 13 3 != 0 ||
    (b.val != 0 && !((List.range 13).any fun k => b.get 8 4 == 2 ^ (k + 4)))

/-- Security objects (R380, R388, R400). DESIGN CHOICE (log 28). -/
def State.chkSecurity (s : State) (i sub : Nat) (b : Blob) (x : Extra) : Chk :=
  match i, sub with
  | 0xA001, 3 => { conflict := s.sec.booted == 255 }
  | 0xA004, _ =>
    { conflict := !s.isIn sub [.bound] || (s.cuvee sub).serving.models.any fun e => e.2.state != 0 }
  | 0xA006, 1 => s.chkSession b x
  | 0xA007, 2 => { range := meterTargetBad b }
  | 0xA008, _ => { conflict := !s.isIn sub [.defined, .bound] }
  | _, _ => {}

/-- A cuvee that is not NONE or DEFINED holds a unit of the parcel (R454). -/
def State.parcelHeld (s : State) (p : Nat) : Bool :=
  s.existing.any fun c => !s.isIn c [.defined] &&
    ((s.cvTiles c).any (fun t => tileParcel t == p) || (s.cvPcs c).any fun k => pcParcel k == p)

/-- Fault objects (R454, R457). DESIGN CHOICE (log 31). -/
def State.chkFaults (s : State) (i sub : Nat) (b : Blob) : Chk :=
  match i, sub with
  | 0xB002, _ =>
    { range := decide (255 < b.get 0 2) || !within (b.get 2 2) 2 255 || b.get 4 4 != 0 || !within (b.get 8 8) 1000000 10000000000 }
  | 0xB012, 1 => { range := !within (b.get 0 2) 1 65535 || !within (b.get 2 2) 1 64 || !within (b.get 4 4) 1 1048576 }
  | 0xB021, 1 =>
    let p := b.get 1 1
    let one := b.get 0 1 == 1
    { range := !within (b.get 0 1) 1 2 || decide (15 < p) || b.get 2 6 != 0
      conflict := one && (s.parcelHeld p || s.obs.estate.any fun k => pcParcel k == p)
      busy := s.faults.resetPhase == 1 }
  | 0xB024, 1 => { range := !s.obs.estate.isEmpty && decide (s.estateMiB < b.val) }
  | _, _ => {}

/-! ## All of them -/

/-- The checks of one object's value, by the area of R492. -/
def State.chkObject (s : State) (a : Acc) (v : Vals) (i sub : Nat) (b : Blob) (x : Extra) : Chk :=
  if i < 0x2000 then s.chkComm a i sub b
  else if i < 0x2010 then s.chkCadence i sub b
  else if i < 0x3000 then s.chkEnergy v i sub b
  else if i < 0x3080 then s.chkCompose v i sub b
  else if i < 0x4000 then s.chkFabric v i sub b
  else if i < 0x5000 then s.chkObserve v i sub b
  else if i < 0x5040 then s.chkMemory v i sub b
  else if i < 0x6000 then s.chkTranslate v i sub b
  else if i < 0x7000 then s.chkLinks i sub b
  else if i < 0x8000 then s.chkServing v i sub b
  else if i < 0xA000 then s.chkObserve v i sub b
  else if i < 0xB000 then s.chkSecurity i sub b x
  else s.chkFaults i sub b

/-- The value is outside the scalar Range of the table. -/
def ObjDesc.outside (d : ObjDesc) (n : Nat) : Bool :=
  match d.range with
  | some r => !within n r.1 r.2
  | none => false

/-- Steps 8–11 of R468 for a write of class a, after the writes `ws` of the same commit: a status code. R515 is a conflict of
step 9. -/
def State.valueStatus (s : State) (a : Acc) (ws : List ObjWrite) (d : ObjDesc) (w : ObjWrite) (x : Extra) : Nat :=
  let v := s.view a (ws ++ [w])
  let k := s.chkObject a v w.idx w.sub w.data x
  let c := d.cuveeOf w.sub
  Chk.code { k with
    range := k.range || d.outside w.data.val || listBad d w.data
    conflict := k.conflict || (c != 0 && (s.cuvee c).state == .none) }

/-- Step 6 of R468 as far as the value decides it: StewardCommand codes (R462), a tenant's command codes (R246), and flash
images in recovery (R489). -/
def State.valueDenied (s : State) (a : Acc) (i sub : Nat) (b : Blob) : Bool :=
  match i, sub with
  | 0x1001, 3 => match a, b.val with
    | .manager, 3 | .manager, 4 | .deputy, 3 | .deputy, 4 | .side, 1 | .side, 2 => true
    | _, _ => false
  | 0x3012, _ => match a with
    | .tenant _ => !within (b.get 15 1) 4 6
    | _ => false
  | 0x1020, 1 => s.sec.booted == 255 && a != .side
  | _, _ => false

end Sys2Proof.Machine
end

