-- ==== Sys2Proof/Machine/Acts.lean ====
section
/-! DEFINITION. Machine/Acts.lean: what comes about when a write of each object takes effect, Immediate or at its boundary
(R470, R472 and the objects' own rules). -/

namespace Sys2Proof.Machine

/-! ## Units of a composition (R238, R253) -/

/-- Someone holds a unit or has reserved it. -/
def State.unitKept (s : State) (isTile : Bool) (u : Nat) : Bool :=
  (s.existing.any fun d => (if isTile then s.cvTiles d else s.cvPcs d).contains u) ||
    s.dict.reserved.any fun e => e.2.1 == isTile && e.2.2 == u

/-- Units that nobody holds or reserves any more wait for their scrub. -/
def State.settleUnits (s : State) (isTile : Bool) (us : List Nat) : State :=
  s.giveBack isTile (us.filter fun u => !s.unitKept isTile u)

/-- The composition list that a write carries: whether it is of tiles, and its units. -/
def ObjWrite.units (w : ObjWrite) : Option (Bool × List Nat) :=
  if w.idx = 0x3014 then some (true, w.data.elems 2)
  else if w.idx = 0x3015 then some (false, w.data.elems 2)
  else none

/-- An accepted write takes its units out of the pool and wakes the gated clusters it names (R238, R364). -/
def State.holdUnits (s : State) (w : ObjWrite) : State :=
  match w.units with
  | some (isTile, us) =>
    let s := s.reserveUnits w.sub isTile us
    if isTile then s.wakeClusters us else s
  | none =>
    if w.idx = 0x301A then
      match parsePlan w.data with
      | some p => s.wakeClusters (p.tiles.map teNew)
      | none => s
    else s

/-- The reservations of a write end, entry by entry. -/
def State.freeUnitsOf (s : State) (w : ObjWrite) : State :=
  match w.units with
  | some (isTile, us) =>
    let left := us.foldl (fun (l : List (Nat × Bool × Nat)) u => l.erase (w.sub, isTile, u)) s.dict.reserved
    { s with dict := { s.dict with reserved := left } }
  | none => s

/-- An accepted write that will not act, or has acted: its reservations end, and what nobody keeps returns. -/
def State.endHold (s : State) (w : ObjWrite) : State :=
  match w.units with
  | some (isTile, us) => (s.freeUnitsOf w).settleUnits isTile us
  | none => s

/-- POOL_RETURN (R238, R253): a scrub ends, and the unit is zero and in the pool again; one whose scrub fails is retired.
Units of a parcel in its reset return with the parcel. DEDUCED (log 130). -/
def State.poolReturn (s : State) (isTile : Bool) (u : Nat) (scrubOk : Bool) : State :=
  if !s.dict.scrubbing.contains (isTile, u) || s.inReset (if isTile then tileParcel u else pcParcel u) then s
  else
    let s := { s with dict := { s.dict with scrubbing := s.dict.scrubbing.filter (· != (isTile, u)) } }
    match isTile, scrubOk with
    | true, true => s.zeroTile u
    | true, false => s.retireTile u
    | false, true => s.zeroPc u
    | false, false => s.retirePc u

def execPoolReturn (isTile : Bool) (unit : Nat) (scrubOk : Bool) (s : State) : Result :=
  .next (s.poolReturn isTile unit scrubOk)

/-! ## Estate rows (R57, R67, R78) -/

/-- The HARVEST and RECONCILE rows, in rows 0 and 1 of both estate pages (R67). -/
def State.deviceRows (s : State) : State :=
  let h := makeRow 5 s.alm.harvestSlot (s.alm.harvestEvery - 1) 0 0 0 0 0 0 0 false false 0 0
  let r := makeRow 7 s.alm.reconcileSlot 0 0 0 0 0 0 0 0 false false 0 0
  ((((s.setRow 0 h).setRow 1 r).setRow 64 h).setRow 65 r)

/-- The values of ReconcileSlot, HarvestSlot and HarvestEvery reach their rows. -/
def State.takeDeviceRows (s : State) : State :=
  let s := { s with alm := { s.alm with
    harvestSlot := s.num 0x8000 1, harvestEvery := s.num 0x8000 2, reconcileSlot := s.num 0x2010 3 } }
  s.deviceRows

/-- A change of HarvestSlot or HarvestEvery: the first harvest under the new values waits (R405).
DESIGN CHOICE (log 39). -/
def State.harvestChange (s : State) : State :=
  let first := match s.alm.lastHarvestEpoch with
    | some e => e + 2
    | none => s.alm.harvestNotBefore
  { s.takeDeviceRows with alm := { s.takeDeviceRows.alm with harvestNotBefore := first } }

/-- An EstateRow value goes into the next estate page and sets NEXT_READY (R78). DEDUCED (log 38). -/
def State.placeEstateRow (s : State) (n row : Nat) : State :=
  (s.setRow ((s.seg 0).nextPage + n + 1) row).updSeg 0 fun g => { g with ready := true }

/-! ## Effects of other objects -/

/-- PowerCap acts: shares beyond the row budget are scaled by one factor, rounded down (R354). -/
def State.scaleShares (s : State) : State :=
  let budget := s.num 0x2010 1 - Config.standingPower
  let cs := s.existing
  let total := sumNat (cs.map s.share)
  if total ≤ budget then s.updPower fun p => { p with shareScale := 65536 }
  else
    let s := s.each cs fun s c =>
      let b := s.val 0x2011 c
      s.setVal 0x2011 c (b.put 0 2 (b.get 0 2 * budget / total))
    s.updPower fun p => { p with shareScale := 65536 * budget / total }

/-- A stash is enabled: ways 8–15 no longer cache (R198). -/
def State.stashOn (s : State) (p : Nat) : State :=
  s.updParcel p fun x => { x with lines := x.lines.filter fun l => decide (l.way < 8) }

/-- A manager-set object of a cuvee's report changed (R386). -/
def State.reportChange (s : State) (c : Nat) (old new : Blob) : State := if old = new then s else s.tdiError c

/-- An inbound window changed: every cuvee that the old or the new entry names. -/
def State.inboundChange (s : State) (old new : Blob) : State :=
  let who := fun (b : Blob) => if bit b.val 127 then bits b.val 99 92 else 0
  ((s.reportChange (who old) old new).reportChange (who new) old new)

/-- The steward role moves (R462): the former manager's uncommitted staging set goes; the heartbeat counts anew. -/
def State.moveSteward (s : State) (p : HostPort) : State :=
  if s.dict.steward = p then s
  else { s with dict := { s.dict with
    steward := p, beatFrom := s.time.now, staging := s.dict.staging.filter fun e => e.1 != .manager } }

/-- StewardCommand (R462). -/
def State.stewardAct (s : State) (a : Acc) (code : Nat) : State :=
  match a, code with
  | .deputy, 1 | .manager, 2 => s.moveSteward (otherPort s.dict.steward)
  | .side, 3 => s.moveSteward .a
  | .side, 4 => s.moveSteward .b
  | _, _ => s

/-- StewardHeartbeat (R462). -/
def State.heartbeatAct (s : State) : State :=
  { s with dict := { s.dict with lastBeat := s.etime, beatFrom := s.time.now } }

/-- ResetCommand PARCEL is accepted (R454): the parcel's units leave the pool. DEDUCED (log 139). -/
def State.parcelReset (s : State) (p : Nat) : State :=
  { s with
    dict := { s.dict with scrubbing := (s.dict.scrubbing ++ s.parcelUnits p).dedup }
    faults := { s.faults with resetOp := 1, resetPhase := 1, resetParcel := p } }

/-- FirmwareCommit (R380): each counter rises to the SVN of the component now running. -/
def State.firmwareCommit (s : State) : State :=
  { s with flash := { s.flash with
    rollback := s.flash.rollback.zipIdx.map fun e => max e.1 (s.svnOf s.sec.booted (e.2 + 1)) } }

/-- The image of a flash slot. -/
def FlashSt.image (f : FlashSt) (slot : Nat) : List Byte := if slot = 0 then f.imageA else f.imageB
/-- Replace it. -/
def FlashSt.setImage (f : FlashSt) (slot : Nat) (l : List Byte) : FlashSt :=
  if slot = 0 then { f with imageA := l } else { f with imageB := l }

/-- FlashProgram is accepted (R489): at OFFSET 0 the slot is erased, which its answer waits for; else the image goes on.
DESIGN CHOICE (log 31). -/
def State.flashProgram (s : State) (b : Blob) : State :=
  let slot := b.get 0 1
  let n := b.size - 8
  let bs := toBytes n (b.get 8 n)
  let f := if b.get 4 4 = 0 then
      { s.flash.setImage slot bs with progSlot := slot, progState := 1, progBytes := n }
    else
      { s.flash.setImage slot (s.flash.image slot ++ bs) with progBytes := s.flash.progBytes + n }
  { s with flash := f }

/-! ## Migration sessions (R388) -/

/-- A session blob up to its signature, signed by the identity key. -/
def signBlob (body : Blob) : Blob :=
  Blob.record [(body.size, body.val), (1280, identitySign body)]

/-- The body of a blob of this device. -/
def sessionBody (id kind source target time offer crypto : Nat) : Blob :=
  let cert := Config.certificate 2
  Blob.record [(4, 0x53533947), (4, id), (1, kind), (7, 0), (64, source), (64, target), (8, time), (64, offer),
    (1568, crypto), (4, cert.size), (cert.size, cert.val)]

/-- The key of an image, from the shared secret and both blobs. -/
def sessionKey (secret id offerDigest acceptDigest : Nat) : Nat :=
  Config.shake256 (Blob.record [(7, (strBlob "GZ9 MIG").val), (32, secret), (4, id), (64, offerDigest), (64, acceptDigest)]) 64 % 2 ^ 256

/-- The digest of an accept blob without its signature. -/
def acceptDigest (b : Blob) : Nat := Config.shake256 ⟨b.size - 1280, b.get 0 (b.size - 1280)⟩ 64

/-- OPEN: SESSION, an ML-KEM key pair, and the offer in SessionBlob. While OFFERED, `key` keeps the offer's digest. -/
def State.sessionOpen (s : State) (target id : Nat) : State :=
  let n := s.free
  let seed := Config.random n
  let blob := signBlob (sessionBody id 1 Config.identityDigest target s.stamp 0 (Config.mlkemKey seed))
  let e : Session := ⟨id, 1, 1, target % 2 ^ 128, s.etime, Config.shake256 blob 64, seed⟩
  { s with free := n + 1, sec := { s.sec with sessions := s.sec.sessions ++ [e], blob := blob } }

/-- ACCEPT: the target encapsulates and publishes the accept blob; its session is READY once the source completes, and serves
as READY here. -/
def State.sessionTake (s : State) (b : Blob) : State :=
  let offer : Blob := ⟨b.size - 8, b.get 8 (b.size - 8)⟩
  let n := s.free
  let key := offer.get 216 1568
  let secret := Config.mlkemSecret key (Config.random n)
  let digest := Config.shake256 offer 64
  let body := sessionBody (blobId b) 2 (blobSource b) (blobTarget b) s.stamp digest (Config.mlkemCipher key (Config.random n))
  let e : Session :=
    ⟨blobId b, 2, 2, blobSource b % 2 ^ 128, s.etime, sessionKey secret (blobId b) digest (Config.shake256 body 64), 0⟩
  { s with free := n + 1, sec := { s.sec with sessions := s.sec.sessions ++ [e], blob := signBlob body } }

/-- COMPLETE: the source decapsulates and its session is READY. -/
def State.sessionDone (s : State) (b : Blob) : State :=
  let blob : Blob := ⟨b.size - 8, b.get 8 (b.size - 8)⟩
  let seed := ((s.sec.find (blobId b)).map Session.seed).getD 0
  let secret := Config.decapsulate seed (blob.get 216 1568)
  let key := sessionKey secret (blobId b) (blobOffer b) (acceptDigest blob)
  let done := s.sec.sessions.map fun e => if e.id = blobId b then { e with state := 2, key := key } else e
  { s with sec := { s.sec with sessions := done } }

/-- SessionCommand acts. -/
def State.sessionAct (s : State) (b : Blob) (x : Extra) : State :=
  match b.get 0 1 with
  | 1 => s.sessionOpen (b.get 8 64) x.session
  | 2 => s.sessionTake b
  | 3 => s.sessionDone b
  | _ => s.eraseSession (b.get 4 4)

/-! ## One object -/

/-- Writes of estate objects whose effect goes beyond their value. `old` is the value before. -/
def State.actEstate (s : State) (i sub : Nat) (old new : Blob) : State :=
  match i, sub with
  | 0x1001, 5 => { s with dict := { s.dict with beatFrom := s.time.now } }
  | 0x2000, 3 => s.restartDivider
  | 0x2003, n => s.placeEstateRow n new.val
  | 0x2000, 7 => if old = new then s else s.peerGone new.val
  | 0x2010, 1 => s.scaleShares
  | 0x2010, 3 => s.takeDeviceRows
  | 0x30A2, 1 => s.refence allTiles
  | 0x5002, p => if new.val = 1 then s.stashOn (p - 1) else s
  | 0x5010, l => s.resetLabel (l - 1)
  | 0x8000, 1 | 0x8000, 2 => if old = new then s else s.harvestChange
  | 0x8000, 3 => if old = new then s else { s with obs := { s.obs with records := [], harvestWritten := 0 } }
  | _, _ => if 0x5050 ≤ i ∧ i < 0x5070 then s.inboundChange old new else s

/-- Writes of objects of cuvee c. -/
def State.actCuvee (s : State) (i sub : Nat) (old new : Blob) : State :=
  match i with
  | 0x3014 => s.settleUnits true (old.elems 2)
  | 0x3015 => s.settleUnits false (old.elems 2)
  | 0x3018 | 0x301C | 0x5042 | 0xA004 => s.reportChange sub old new
  | 0x5003 => s.cleanWays old new
  | 0x5004 => s.trimStash sub
  | 0x5040 => s.invalidate sub 0 0
  | 0x7001 => s.ringsChange sub old new
  | 0x8005 => s.updCuvee sub fun v => { v with fwdOn := true, fwdCount := 0 }
  | 0x9001 => if old.get 0 4 = new.get 0 4 then s else s.bookRestart (sub - 1)
  | 0x9002 => s.bookRestart (sub - 1)
  | 0x9010 => s.watchRewrite sub
  | _ => s

/-- A command object's write acts; it has no value to keep. CuveeCommand is staged, not written (R247), and an estate warm
reset begins where the write is served. -/
def State.actCommand (s : State) (a : Acc) (w : ObjWrite) (x : Extra) : State :=
  let n := w.data.val
  match w.idx, w.sub with
  | 0x1001, 3 => s.stewardAct a n
  | 0x1020, 1 => s.flashProgram w.data
  | 0x2000, _ => s.cadenceCommandAct n
  | 0x6004, k => s.portCommand (k - 1) n
  | 0x6012, _ => s.flareAct n
  | 0x6021, _ =>
    if w.data.get 1 1 = 1 then s.limboAssign (w.data.get 0 1) (w.data.get 4 4)
    else s.limboDiscard (w.data.get 0 1) (w.data.get 4 4)
  | 0x9003, p => s.bookControl (p - 1) n
  | 0xA001, _ => s.firmwareCommit
  | 0xA006, _ => s.sessionAct w.data x
  | 0xB021, _ => if w.data.get 0 1 = 1 then s.parcelReset (w.data.get 1 1) else s
  | _, _ => s

/-- A checked write takes effect. -/
def State.actWrite (s : State) (a : Acc) (w : ObjWrite) (x : Extra) : State :=
  match objAt w.idx w.sub with
  | none => if w.idx = 0x4014 then s.setSelect a w.idx w.sub w.data.val else s
  | some d =>
    if d.cmd then s.actCommand a w x
    else match w.idx, w.sub with
      | 0x1001, 4 => s.heartbeatAct
      | 0x8001, 2 | 0x9005, 1 => s.setSelect a w.idx w.sub w.data.val
      | 0x6001, k =>
        let on := w.data.val == 1
        (s.portEnable (k - 1) on).setDomain (163 + k) (if on then 2 else 0)
      | 0x5044, c => s.invalidateAct c (w.data.get 0 8) (w.data.get 8 8)
      | _, _ =>
        let old := s.val w.idx w.sub
        let s := s.setVal w.idx w.sub w.data
        match d.owner with
        | .estate => s.actEstate w.idx w.sub old w.data
        | _ => s.actCuvee w.idx w.sub old w.data

end Sys2Proof.Machine
end

