-- ==== Sys2Proof/Machine/Boundary.lean ====
section
/-! DEFINITION. Machine/Boundary.lean: the epoch boundary (R70): the new epoch and its length, page swaps, staged writes and
commands, and what else falls due there (R209, R235, R252, R289, R338, R364, R373, R396). -/

namespace Sys2Proof.Machine

/-! ## Steps 1 and 2 -/

/-- E increments and the epoch of the length fixed before begins (R45, R70). -/
def State.beginEpoch (s : State) (at_ len : Rat) : State :=
  let s := s.at_ at_
  let s := s.updCad fun c => { c with windowClosed := false }
  { s with time := { s.time with
    e := (s.time.e + 1) % 2 ^ 40, slot := 0, epochs := (s.time.epochs + 1) % 2 ^ 64, epochStart := at_
    prevLen := at_ - s.time.epochStart, epochLen := len, jumped := false
    lockCut := if s.cutHere.isSome then none else s.time.lockCut
    lockLen := if s.cutHere.isSome then none else s.time.lockLen } }

/-- First lock (R51, R52): the boundary is the accepted reference boundary; E is set, and the state is LOCKED. -/
def State.firstLock (s : State) : State :=
  let n := s.time.epochs
  let b := s.time.epochStart
  let s := s.updCad fun c => { c with accepted := some (b, n), paired := some n, phaseError := 0, flywheel := 0 }
  s.jumpE.enterLocked

/-- One segment at the boundary (R69): a latched page swaps in; otherwise a cuvee's segment misses a page. -/
def State.swapPage (s : State) (c : Nat) : State :=
  if (s.seg c).latched then
    let s := s.updSeg c fun g => { g with curPage := !g.curPage, ready := false, latched := false }
    if c = 0 then s else s.updCuvee c fun v => { v with missRun := 0 }
  else if c = 0 then s
  else
    let s := s.updSeg c fun g => { g with misses := (g.misses + 1) % 2 ^ 64 }
    let s := s.daybook c 2 7 0 7 0 0 0 0
    s.updCuvee c fun v => { v with missRun := if v.live then v.missRun + 1 else 0 }

/-! ## Step 3: pending writes, commits and commands -/

/-- An outcome in StagingStatus (R490): the epoch is the present one; the failing object as the class names it.
DESIGN CHOICE (log 19). -/
def State.noteStage (s : State) (a : Acc) (result cause idx sub : Nat) : State :=
  let shown := match a with
    | .tenant c => viewOf c idx sub
    | _ => (idx, sub)
  let old := s.stageStat a
  let new := { old with epoch := s.time.e, result := result, cause := cause, failIdx := shown.1, failSub := shown.2 }
  { s with dict := { s.dict with stats := (s.dict.stats.filter fun e => e.1 != a) ++ [(a, new)] } }

/-- A checked write meets its checks again, after the writes `ws` of its commit (R472): size, rights that hang on the value,
and steps 8–11. DEDUCED (log 18). -/
def State.recheck (s : State) (a : Acc) (ws : List ObjWrite) (w : ObjWrite) : Nat :=
  match objAt w.idx w.sub with
  | none => stOk
  | some d =>
    if !sizeOk (s.view a (ws ++ [w])) d w.sub w.data then stType
    else if s.valueDenied a w.idx w.sub w.data then stDenied
    else s.valueStatus a ws d w default

/-- The first of a commit's writes that fails, with its code. -/
def State.firstFailure (s : State) (a : Acc) : List ObjWrite → List ObjWrite → Option (ObjWrite × Nat)
  | _, [] => none
  | ws, w :: rest =>
    let r := s.recheck a ws w
    if r = stOk then s.firstFailure a (ws ++ [w]) rest else some (w, r)

/-- A pending write or commit that acts at this boundary (R470, R471, R473): one that names an epoch acts at the boundary
that begins it, or at the next boundary after a jump that passed it. DEDUCED (log 17). -/
def State.pendDue (s : State) (p : Pending) : Bool :=
  match p.named with
  | none => decide (p.due ≤ s.time.epochs)
  | some e => e == s.time.e || (!s.time.jumped && !epochLater e s.time.e)

/-- A pending write or commit acts whole or not at all (R472). -/
def State.actPending (s : State) (p : Pending) : State :=
  let s := { s with dict := { s.dict with pend := s.dict.pend.filter fun q => q.seq != p.seq } }
  let late := match p.named with
    | some e => e != s.time.e
    | none => false
  match s.firstFailure p.cls [] p.writes with
  | some (w, r) => (s.each p.writes State.endHold).noteStage p.cls r 1 w.idx w.sub
  | none =>
    let s := s.each p.writes fun s w => (s.actWrite p.cls w default).endHold w
    s.noteStage p.cls stOk (if late then 4 else 0) 0 0

/-- What falls due at step 3. -/
inductive DueItem where
  | write (p : Pending)
  | command (seq c : Nat)
deriving DecidableEq, Repr, Inhabited

/-- Its place in the order of acceptance. -/
def DueItem.order : DueItem → Nat
  | .write p => p.seq
  | .command n _ => n

/-- Put an item in its place. -/
def putDue (x : DueItem) : List DueItem → List DueItem
  | [] => [x]
  | y :: l => if x.order < y.order then x :: y :: l else y :: putDue x l

/-- Everything due, in order of acceptance (R470). A CREATE is staged by a cuvee that is still NONE.
DEDUCED (log 17, 121). -/
def State.dueItems (s : State) : List DueItem :=
  let ws := (s.dict.pend.filter s.pendDue).map DueItem.write
  let cs := s.cuvees.filterMap fun e => match e.2.staged with
    | some st => if s.commandDue st then some (DueItem.command st.seq e.1) else none
    | none => none
  (ws ++ cs).foldr putDue []

/-- One item acts. A command that something before it dropped is gone. -/
def State.actDue (s : State) (x : DueItem) : State :=
  match x with
  | .write p => s.actPending p
  | .command n c => if ((s.cuvee c).staged.map Staged.seq) = some n then s.commandAct c else s

/-- Step 3, with the plans, remaps, placements and casks that wait for a boundary (R235, R252, R289, R338). -/
def State.actStaged (s : State) : State :=
  let s := s.each s.dueItems State.actDue
  s.rebindBoundary.remapBoundary.placeBoundary.caskBoundary.fenceBoundary

/-! ## The rest of the boundary -/

/-- Cuvees that are metered. -/
def State.meteredNow (s : State) : List Nat := s.existing.filter fun c => (s.cuvee c).state.metered

/-- The epoch that ends counts into EXTERNAL_NS (R398). DEDUCED (log 138). -/
def State.countEpochTime (s : State) (len : Rat) : State :=
  s.each s.meteredNow fun s c => s.updCuvee c fun v => { v with meter := { v.meter with ns := v.meter.ns + len } }

/-- Meter periods end (R396) for cuvees metered before and after step 3. DEDUCED (log 138). -/
def State.meterBoundary (s : State) (before : List Nat) (every : Nat) : State :=
  let now := s.num 0xA007 1
  if s.time.jumped || now ≠ every || s.time.e % max 1 now = 0 then
    s.each (s.meteredNow.filter before.contains) fun s c => s.meterEnd c (if s.time.jumped then 4 else 0) false
  else s

/-- PeerPace of the epoch that ended (R373). -/
def State.paceBoundary (s : State) : State :=
  s.each s.existing fun s c => s.updCuvee c fun v => { v with peerPace := (v.peerPace.2.1, 0, v.peerPace.2.2) }

/-- ClusterGating (R364, R365): clusters whose tiles are all free and idle power down. DEDUCED (log 129). -/
def State.gateClusters (s : State) : State :=
  if s.num 0x2010 5 ≠ 1 then s
  else s.each (List.range 144) fun s d =>
    let ts := (s.muster.tileMap.filter fun e => physCluster e.2 == d).map Prod.fst
    if s.domain d = 2 && !ts.isEmpty && ts.all (s.unitFree true) && ts.all (fun t => (s.tile t).phi == 0) then s.setDomain d 0
    else s

/-- Stored EstateRow values go into the next estate page, as if a COMMIT of them acted at the first boundary (R57).
DEDUCED (log 12). -/
def State.storedRows (s : State) : State :=
  s.each (List.range 62) fun s k =>
    match s.dict.vals.find (objKey 0x2003 (k + 1)) with
    | some b => s.placeEstateRow (k + 1) b.val
    | none => s

/-- EPOCH_BOUNDARY: the epoch in progress ends, after its last slot or where first lock cuts it (R51, R70).
DEDUCED (log 13). -/
def State.epochBoundary (s : State) : State :=
  if !s.time.running || !s.epochSpent then s
  else
    let at_ := s.boundaryAt
    let len := s.nextLength
    let ended := at_ - s.time.epochStart
    let last := at_ - s.slotStart s.time.slot
    let lock := s.cutHere.isSome
    let first := s.time.epochs == 0
    let s := (s.countPcTime last).countEpochTime ended
    let s := s.beginEpoch at_ len
    let s := if lock then s.firstLock else s
    let s := s.each (s.alm.segs.map Prod.fst) State.swapPage
    let before := s.meteredNow
    let every := s.num 0xA007 1
    let s := if first then s.storedRows else s
    let s := s.actStaged.sourceChange
    let s := if s.time.jumped then { s with obs := { s.obs with flags := s.obs.flags ||| 2 } } else s
    let s := ((s.meterBoundary before every).paceBoundary.gateClusters).markUnlocked
    s.slotTick last

def execEpochBoundary (s : State) : Result := .next s.epochBoundary

end Sys2Proof.Machine
end

