-- ==== Sys2Proof/Machine/Boot.lean ====
section
/-! DEFINITION. Machine/Boot.lean: power, boot and muster (R20–R25, R185, R186, R379–R381, R476, R499, R501), the start of
cadence acquisition (R52, R57), and the estate warm reset. -/

namespace Sys2Proof.Machine

/-- Change the boot record. -/
def State.updBoot (s : State) (f : BootSt → BootSt) : State := { s with boot := f s.boot }

/-- The sequence ends without READY (R25, R379). -/
def State.bootFails (s : State) : State := s.updBoot fun b => { b with step := .failed }

/-! ## Stored objects (R476) -/

/-- The store record that loads, with its copy number: the newer one that checks. -/
def FlashSt.loads (f : FlashSt) : Option (Nat × List ObjWrite) :=
  match f.copy0, f.copy1 with
  | some a, some b => if a.1 < b.1 then some (1, b.2) else some (0, a.2)
  | some a, none => some (0, a.2)
  | none, some b => some (1, b.2)
  | none, none => none

/-- Objects of a store record as values in force. -/
def storedVals (ws : List ObjWrite) : Sparse Blob :=
  ws.foldl (fun m w => m.insert (objKey w.idx w.sub) w.data) []

/-- The stored dictionary is loaded: what a record holds takes its stored value, everything else its Default.
DEDUCED (log 51, 141). -/
def State.loadDictionary (s : State) (ok0 ok1 : Bool) : State :=
  let f := { s.flash with
    copy0 := if ok0 then s.flash.copy0 else none, copy1 := if ok1 then s.flash.copy1 else none
    storeState := 0, stores := 0, lastStore := ⟨0, 0, 0⟩, progSlot := 0, progState := 0, progBytes := 0 }
  { s with
    flash := { f with copyLoaded := (f.loads.map Prod.fst).getD 255 }
    side := { s.side with counters := List.replicate 6 0 }
    dict := { (default : DictSt) with
      vals := storedVals ((f.loads.map Prod.snd).getD []), windows := s.dict.windows, steward := s.dict.steward } }

/-! ## The boot ROM (R379–R381, R383) -/

/-- Identity, then the slots: the one of BootSlot first, the other second, else recovery. True when the boot goes on.
DEDUCED (log 140); DESIGN CHOICE (log 144). -/
def State.bootRom (s : State) (f : BootFindings) : Bool × State :=
  let pref := s.num 0xA001 4
  let fails := fun k => if k = 0 then f.slotFailA else f.slotFailB
  let base : SecSt := { (default : SecSt) with identity := f.identity, booted := s.sec.booted }
  if !f.secSelfTest || f.identity ≠ 0 then (false, { s with sec := base })
  else
    let debug := b2n f.diagnostics
    -- a slot that was not tried has failed no step
    let failPref := fails pref
    let failOther := if failPref = 0 then 0 else fails (1 - pref)
    let booted := if failPref = 0 then pref else if failOther = 0 then 1 - pref else 255
    let sec := { base with
      booted := booted, debug := if booted = 255 then 2 else debug
      failA := if pref = 0 then failPref else failOther, failB := if pref = 0 then failOther else failPref }
    (booted != 255, { s with sec := sec })

/-! ## Power (R499, R501) -/

/-- The rails are up: every domain but the clusters and the link ports is on (R363). -/
def State.railsUp (s : State) : State :=
  s.each (List.range 181) fun s d => s.setDomain d (if d < 144 || (164 ≤ d && d < 176) then 0 else 2)

/-- Power and findings at hand, the cold boot begins: rails, boot ROM, stored dictionary, self-test. DEDUCED (log 140). -/
def State.startBoot (s : State) (f : BootFindings) : State :=
  let s := s.estateLost.updBoot fun b => { b with pwrEn := true, pwrGood := true, warm := false, findings := some f }
  let r := s.railsUp.bootRom f
  if !r.1 then r.2.bootFails
  else
    let s := r.2.loadDictionary f.copyOk0 f.copyOk1
    ({ s with muster := { s.muster with state := 1 } }).updBoot fun b => { b with step := .selfTest }

/-- COLD_BOOT: PWR_EN rises. It waits for the always-on domain, and for an input of 40 V or more.
DESIGN CHOICE (log 144). -/
def State.coldBoot (s : State) (f : BootFindings) (tenthsV : Nat) : State :=
  if s.boot.pwrEn then s
  else
    let s := s.updBoot fun b => { b with pwrEn := true, findings := some f }
    if tenthsV < 400 then s.updBoot fun b => { b with step := .waitInput }
    else if !s.boot.standby then s
    else s.startBoot f

/-- MAIN_INPUT_IN_RANGE: a boot that waited for its input goes on. -/
def State.mainInputInRange (s : State) : State :=
  match s.boot.step, s.boot.findings with
  | .waitInput, some f => if s.boot.standby then s.startBoot f else s.updBoot fun b => { b with step := .off }
  | _, _ => s

/-- STANDBY_START: the always-on domain starts with the straps, the standby set as stored, and Wizor's sequence mark
(R483, R485, R488). A PWR_EN that had risen before goes on. DEDUCED (log 141). -/
def State.standbyStart (s : State) (strap : Nat) : State :=
  if s.boot.standby then s
  else
    let stored := ((s.flash.loads.map Prod.snd).getD []).filter fun w => standbyKeys.contains (objKey w.idx w.sub)
    let s := { s with
      side := { (default : SidebandSt) with
        node := strap % 16, highSeq := s.flash.wizorSeq + 65536, counters := List.replicate 6 0 }
      dict := { s.dict with vals := storedVals stored } }
    let wait := s.boot.step == .waitInput
    let s := (s.setDomain 180 2).updBoot fun b =>
      { b with standby := true, step := if wait then .waitInput else .standby }
    match s.boot.pwrEn && !wait, s.boot.findings with
    | true, some f => s.startBoot f
    | _, _ => s

/-- Main power is gone from the switched domains: PWR_GOOD is low and the estate is lost. -/
def State.powerGone (s : State) : State :=
  (s.updBoot fun b => { b with pwrGood := false, step := if b.standby then .standby else .off, warm := false }).estateLost.setDomain
    180 (b2n s.boot.standby * 2)

/-- PWR_EN_FALL: main power goes, and THERM_TRIP_N and the input latch are released. -/
def State.pwrEnFall (s : State) : State :=
  s.powerGone.updBoot fun b => { b with pwrEn := false, thermTrip := false, latched := false, findings := none }

/-- MAIN_INPUT_FAULT: while PWR_EN is high the estate is lost, and stays off until PWR_EN has been low. -/
def State.mainInputFault (s : State) : State :=
  if !s.boot.pwrGood then s else s.powerGone.updBoot fun b => { b with latched := true, findings := none }

/-- STANDBY_LOST: everything stops, the always-on domain and the front ends included. -/
def State.standbyLost (s : State) : State :=
  { State.reset with
    pending := s.pending, flash := s.flash, out := s.out, free := s.free
    time := { State.reset.time with now := s.time.now }
    hostA := { HostSt.init with perst := s.hostA.perst }, hostB := { HostSt.init with perst := s.hostB.perst } }

/-- PLCA_BEACON (R483): the port follows the coordinator, or goes on with CSMA/CD; a period without BEACON counts.
DEDUCED (log 50). -/
def State.plcaBeacon (s : State) (present : Bool) : State :=
  if !s.boot.standby then s
  else { s with side := { s.side with
    plca := present, counters := if present then s.side.counters else bump 64 s.side.counters 5 1 } }

/-! ## The muster (R20–R25) -/

/-- The core muster, its test, and the power of the clusters: assigned ones on, the others dark (R21, R363). -/
def State.coreMuster (s : State) : State :=
  let m := s.muster.core s.exclusions
  let cause := m.coreCause
  if cause ≠ 0 then ({ s with muster := { m with state := 4, cause := cause } }).bootFails
  else
    let on := (m.tileMap.map fun e => physCluster e.2).dedup
    let s := { s with muster := { m with trained := 0 } }
    let s := s.each (List.range 144) fun s d => s.setDomain d (if on.contains d then 2 else 4)
    let s := s.each (List.range 12) fun s k => s.setDomain (164 + k) (if s.num 0x6001 (k + 1) = 1 then 2 else 0)
    s.updBoot fun b => { b with step := .training }

/-- SELF_TEST_DONE. -/
def State.selfTestDone (s : State) (v : SelfTest) : State :=
  if s.boot.step ≠ .selfTest then s else ({ s with muster := { s.muster with test := v } }).coreMuster

/-- STACK_TRAINING_DONE (R185, R186): stacks in order; an estate warm reset keeps the memory test's verdicts. -/
def State.stackTrained (s : State) (p : Nat) (r : TrainingResult) : State :=
  if s.boot.step ≠ .training || p ≠ s.muster.trained || 16 ≤ p then s
  else
    let at_ := fun k => 32 * p + k % 32
    { s with muster := { s.muster with
      trained := p + 1, pcBad := (s.muster.pcBad ++ (trainFailed r).map at_).dedup
      pcTestBad := if s.boot.warm then s.muster.pcTestBad else (s.muster.pcTestBad ++ (testFailed r).map at_).dedup
      margins := r.timing.foldl (fun (m : Sparse Nat) e => Sparse.set 0 m (at_ e.1) (e.2 % 256)) s.muster.margins } }

/-- Memory as the muster leaves it: zero, the estate's pseudo-channels taken (R185, R187, R410). DEDUCED (log 143). -/
def State.memoryReady (s : State) : State :=
  let m := s.muster
  let listed := (List.range ((s.val 0x8002 1).get 0 2)).map fun k => (s.val 0x8002 1).get (4 + 2 * k) 2
  let estate := (estateChoice listed m).dedup
  let margins : Sparse Nat := m.pcMap.foldl (fun (t : Sparse Nat) e => Sparse.set 0 t e.1 (m.margins.getD e.2 0)) []
  let s := { s with
    muster := { m with margins := margins }
    mem := { s.mem with hbm := [], store := [], pcs := [] }
    faults := { s.faults with retired := [] }
    obs := { s.obs with estate := estate, flags := s.obs.flags ||| 4 } }
  let s := s.each estate fun s k => s.updPc k fun x => { x with owner := some 0 }
  let on := (m.tileMap.map fun e => physCluster e.2).dedup
  let s := s.each (List.range 144) fun s d => if on.contains d then s else s.setDomain d 4
  s.each (List.range 16) fun s p => s.updParcel p fun x =>
    { x with present := bit m.parcels p, cacheOn := bit m.parcels p && decide (8 ≤ m.goodBanks p) }

/-! ## Acquisition begins (R52, R57) -/

/-- Provisional epochs begin at E = EpochSeed with the estate segment alone. This tick is no epoch boundary: stored rows and
writes accepted before it wait for the first one (R52, R57, R488). DEDUCED (log 12, 143, 163). -/
def State.acquire (s : State) : State :=
  let now := s.time.now
  let period : Rat := (s.num 0x2000 2 : Nat)
  let s := { s with
    time := { s.time with
      e := s.num 0x2000 6, slot := 0, epochs := 0, running := true, epochStart := now, epochLen := period, prevLen := period
      lockCut := none, lockLen := none, jumped := false }
    cad := { (default : CadenceSt) with source := s.num 0x2000 1, windowClosed := true }
    alm := { (default : AlmanacSt) with segs := [(0, { (default : Segment) with length := 64 })] } }
  let s := s.takeDeviceRows.bookRestart 0
  let s := { s with power := { s.power with reconciledAt := now } }
  let s := s.windowBegin.markUnlocked
  s.slotTick 0

/-- MEMORY_MUSTER, once every stack is trained, and the vintner step: the rest of the numbering; without a reachable parcel
the sequence ends (R25). DEDUCED (log 142). -/
def State.memoryMuster (s : State) : State :=
  if s.boot.step ≠ .training || s.muster.trained ≠ 16 then s
  else
    let s := { s with muster := s.muster.memory }
    if s.muster.state = 4 then s.bootFails
    else
      let s := (s.memoryReady.refence allTiles).acquire
      let s := s.each (List.range 12) fun s k => if s.num 0x6001 (k + 1) = 1 then s.portTrain k else s
      s.updBoot fun b => { b with step := .vintner }

/-- The port that holds the steward role at READY (R462). -/
def State.firstSteward (s : State) : HostPort :=
  let p := portOf (s.num 0x1001 1)
  if bit s.muster.hosts (portNo p) then p else otherPort p

/-- ESTATE_READY. -/
def State.estateReady (s : State) : State :=
  if s.boot.step ≠ .vintner then s
  else
    let p := s.firstSteward
    let stamp := s.etime
    let done := s.faults.resetOp == 2 && s.faults.resetPhase == 1
    let s := { s with
      dict := { s.dict with steward := p, beatFrom := s.time.now }
      faults := { s.faults with
        estateState := 0, resetPhase := if done then 2 else s.faults.resetPhase
        resetDone := if done then stamp else s.faults.resetDone } }
    s.updBoot fun b => { b with step := .ready }

/-! ## Estate warm reset (R24, R186, R454, R501) -/

/-- Engines that R451 retired stay retired: a unit retired since the last cold boot is bad. DEDUCED (log 139). -/
def keptEngines (l : Sparse Nat) : Sparse Nat := l.filter fun e => e.2 == 2

/-- The exclusion list in force goes through an estate warm reset as it stands: only a cold boot asks for a STORE (R37).
DEDUCED (log 166). -/
def State.keepExclusions (s old : State) : State :=
  { s with dict := { s.dict with vals := s.dict.vals.insert (objKey 0x3007 0) (old.val 0x3007 0) } }

/-- ESTATE_WARM is accepted: every cuvee is gone, the rails stay up, and the boot runs again from the boot ROM, with the
self-test's verdicts and the retired units of the last cold boot, up to its core muster. A device that has no verdicts yet,
because its cold boot ended before self-test, runs it now. DEDUCED (log 139). -/
def State.warmReset (s : State) (f : BootFindings) : State :=
  let old := s
  let tested := old.muster.state != 0
  let s := s.estateLost
  let s := { s with
    muster := { old.muster with state := 1, cause := 0, pcBad := [], margins := [], tileMap := [], pcMap := [], parcels := 0, memDone := false }
    faults := { s.faults with engines := keptEngines old.faults.engines, resetOp := 2, resetPhase := 1 }
    power := { s.power with
      clk := old.power.clk, limits := old.power.limits, overRun := old.power.overRun, underRun := old.power.underRun
      voltRun := old.power.voltRun, dieTemps := old.power.dieTemps, stackTemps := old.power.stackTemps
      dieState := old.power.dieState, hbmState := old.power.hbmState, dieRun := old.power.dieRun, hbmRun := old.power.hbmRun
      avg1ms := old.power.avg1ms, tenthsV := old.power.tenthsV }
    dict := { s.dict with vals := old.dict.vals } }
  let s := s.railsUp.updBoot fun b => { b with warm := tested, findings := some f }
  let r := s.bootRom f
  if !r.1 then ({ r.2 with muster := { r.2.muster with state := if tested then 1 else 0 } }).bootFails
  else
    let s := (r.2.loadDictionary f.copyOk0 f.copyOk1).keepExclusions old
    -- diagnostics unlock at a cold boot only (R383)
    let s := { s with sec := { s.sec with debug := if old.sec.debug = 1 then 1 else 0 } }
    if tested then s.coreMuster else s.updBoot fun b => { b with step := .selfTest }

def execStandbyStart (strap : Nat) (s : State) : Result := .next (s.standbyStart strap)
def execStandbyLost (s : State) : Result := .next s.standbyLost
def execColdBoot (boot : BootFindings) (inputTenthsV : Nat) (s : State) : Result := .next (s.coldBoot boot inputTenthsV)
def execPwrEnFall (s : State) : Result := .next s.pwrEnFall
def execMainInputFault (s : State) : Result := .next s.mainInputFault
def execMainInputInRange (s : State) : Result := .next s.mainInputInRange
def execPlcaBeacon (present : Bool) (s : State) : Result := .next (s.plcaBeacon present)
def execSelfTestDone (v : SelfTest) (s : State) : Result := .next (s.selfTestDone v)
def execStackTrainingDone (p : Nat) (r : TrainingResult) (s : State) : Result := .next (s.stackTrained p r)
def execMemoryMuster (s : State) : Result := .next s.memoryMuster
def execEstateReady (s : State) : Result := .next s.estateReady

end Sys2Proof.Machine
end

