-- ==== Sys2Proof/Machine/Access.lean ====
section
/-! DEFINITION. Machine/Access.lean: a dictionary request, from its header to its answer (R461–R472, R475, R476, R488, R492). -/

namespace Sys2Proof.Machine

/-- A request as it is served: its path, the number its answer carries (REQ_GEN or SEQ), the header (R464) and the data. -/
structure Req where
  path     : Path
  gen      : Nat
  op       : Nat
  flags    : Nat
  index    : Nat
  sub      : Nat
  ty       : Nat
  tag      : Nat
  offset   : Nat
  length   : Nat
  epoch    : Nat
  reserved : Nat
  data     : Blob
deriving DecidableEq, Repr, Inhabited

/-- FLAGS of R464. -/
def Req.more (r : Req) : Bool := bit r.flags 0
def Req.named (r : Req) : Bool := bit r.flags 1
def Req.pending (r : Req) : Bool := bit r.flags 2

/-- LENGTH's limit on a path (R477, R484). -/
def pathLimit : Path → Nat
  | .sideband _ => 1024
  | _ => 65536

/-- The class of a path (R461); `none` for a VF that is not bound. -/
def State.classOf (s : State) : Path → Option Acc
  | .pf p => some (if p = s.dict.steward then .manager else .deputy)
  | .vf p n => (s.existing.find? fun c => (s.cuvee c).binding == some (p, n)).map Acc.tenant
  | .sideband _ => some .side

/-- A malformed header (R468 step 1). -/
def Req.malformed (r : Req) : Bool :=
  decide (8 ≤ r.flags) || r.op == 0 || decide (8 < r.op) || r.reserved != 0 || decide (pathLimit r.path < r.length) ||
    (if r.named then !(r.op == 4 || r.op == 5) || decide (2 ^ 40 ≤ r.epoch) else r.epoch != 0)

/-! ## Readiness (R488) -/

/-- How far the side-band's table of R488 has come: 0 nothing, 1 the standby set, 2 the dictionary loaded, 3 self-test
begun, 4 READY. -/
def State.sideLevel (s : State) : Nat :=
  match s.boot.step with
  | .off => 0
  | .standby | .waitInput => 1
  | .selfTest | .training | .memory | .vintner => 3
  | .ready => 4
  | .failed => if s.muster.state ≠ 0 then 3 else if s.sec.booted = 255 then 2 else 1

/-- The 0x1000 and 0xA000 areas. -/
def commArea (i : Nat) : Bool := decide (0x1000 ≤ i ∧ i < 0x2000)
def securityArea (i : Nat) : Bool := decide (0xA000 ≤ i ∧ i < 0xB000)

/-- The request names no object: STORE or RESTORE_DEFAULTS of all, COMMIT, ENUMERATE, ABORT of the set or of a commit. -/
def Req.whole (r : Req) : Bool :=
  r.op == 4 || r.op == 6 || (r.op == 5 && r.named) || (5 ≤ r.op && r.index == 0 && r.sub == 0)

/-- The standby set (R488). -/
def Req.standby (r : Req) : Bool :=
  let key := objKey r.index r.sub
  match r.op with
  | 1 => commArea r.index || (r.index == 0xA000 && within r.sub 1 4) || (r.index == 0xA001 && within r.sub 4 5) ||
      key == objKey 0xB020 1 || key == objKey 0xB022 1
  | 2 => standbyKeys.contains key
  | 7 => r.whole || standbyKeys.contains key
  | _ => false

/-- What the loaded dictionary adds (R488). -/
def Req.loaded (r : Req) : Bool :=
  let shared := (objAt r.index r.sub).any fun d => d.owner == .estate && bit d.side 1
  match r.op with
  | 1 => commArea r.index || securityArea r.index || shared
  | 2 => shared
  | 6 | 7 | 8 => true
  | _ => false

/-- The unit that serves the request is ready (R468 step 2, R488). DEDUCED (log 51). -/
def State.serves (s : State) (r : Req) : Bool :=
  s.faults.estateState != 3 ||
    match r.path with
    | .sideband _ =>
      let n := s.sideLevel
      n == 4 || (decide (1 ≤ n) && r.standby) || (decide (2 ≤ n) && r.loaded) ||
        (decide (3 ≤ n) && r.op == 1 && within r.index 0x3000 0x3007)
    | _ => r.op == 1 && commArea r.index

/-! ## The object of a request -/

/-- An object as a class sees it: its own address, type code, rights of the class, largest size. -/
structure ObjRef where
  idx    : Nat
  sub    : Nat
  ty     : Nat
  rights : Nat
  max    : Nat
  desc   : Option ObjDesc
  view   : Option ViewDesc
deriving DecidableEq, Repr, Inhabited

/-- Rights of a class on a row: [0] R, [1] W. -/
def ObjDesc.rights (d : ObjDesc) (a : Acc) : Nat :=
  match a with
  | .manager => d.mgr
  | .deputy => d.dep
  | .side => d.side
  | .tenant _ => 0

/-- Rights on the vendor area (R492). DESIGN CHOICE (log 40). -/
def State.vendorRights (s : State) (a : Acc) : Nat :=
  match a with
  | .manager | .side => if s.sec.debug = 1 then 3 else 1
  | _ => 0

/-- Steps 4 and 5 of R468. DEDUCED (log 44). -/
def State.target (s : State) (a : Acc) (i sub : Nat) : Nat × Option ObjRef :=
  match a with
  | .tenant c =>
    match viewAt i sub with
    | some v =>
      let b := v.base c
      (stOk, some ⟨b.1, b.2, v.ty.code, v.rights, v.max, objAt b.1 b.2, some v⟩)
    | none => (if viewHasIndex i then stNoSub else stNoObject, none)
  | _ =>
    match objAt i sub with
    | some d => (stOk, some ⟨i, sub, d.ty.code, d.rights a, d.maxSize, some d, none⟩)
    | none =>
      match Config.vendorObjects.find? fun o => 0xF000 ≤ i && o.1 == i && o.2.1 == sub with
      | some o => (stOk, some ⟨i, sub, o.2.2, s.vendorRights a, 65536, none, none⟩)
      | none =>
        (if hasIndex i || (0xF000 ≤ i && Config.vendorObjects.any fun o => o.1 == i) then stNoSub else stNoObject, none)

/-- The value that the class reads. A vendor object's value is open, and a read does not change it (R76). -/
def State.targetValue (s : State) (a : Acc) (t : ObjRef) : Blob × State :=
  match a, t.view, t.desc with
  | .tenant c, some v, _ => (s.viewValue c v, s)
  | _, _, some _ => (s.objValue a t.idx t.sub, s)
  | _, _, none =>
    let b := Config.vendorValue t.idx t.sub s.free
    (⟨b.size % 65537, b.val % 256 ^ (b.size % 65537)⟩, s)

/-- The count of R54 at which a pending write acts. -/
def State.actsAt (s : State) (p : Pending) : Nat :=
  match p.named with
  | none => p.due
  | some e => s.time.epochs + epochAhead e s.time.e

/-- The value after every accepted write still to act (R463 PENDING): the write that acts last stands. -/
def State.pendingValue (s : State) (t : ObjRef) (v : Blob) : Blob :=
  let ws := s.dict.pend.flatMap fun p =>
    (p.writes.filter fun w => w.idx == t.idx && w.sub == t.sub).map fun w => (s.actsAt p, w.data)
  (ws.foldl (fun (best : Nat × Blob) e => if best.1 ≤ e.1 then e else best) (0, v)).2

/-! ## Answers (R465) -/

/-- What an answer says beyond what it echoes. -/
structure Reply where
  status : Nat
  ty     : Nat
  data   : Blob
  total  : Nat
deriving DecidableEq, Repr, Inhabited

/-- An answer without data. -/
def Reply.code (st : Nat) : Reply := ⟨st, 0, ⟨0, 0⟩, 0⟩

/-- The response (R465), stamped with the moment of service. DEDUCED (log 22). -/
def Req.response (r : Req) (stamp : Nat) (y : Reply) : Response :=
  ⟨r.op, y.status, r.index, r.sub, y.ty, r.tag, r.offset, y.data.size, y.total % 2 ^ 32, stamp, y.data⟩

/-- READ (R463, R469): the bytes that lie inside the object. -/
def State.readTarget (s : State) (a : Acc) (r : Req) (t : ObjRef) : Reply × State :=
  let q := s.targetValue a t
  let v := if r.pending then s.pendingValue t q.1 else q.1
  let want := if r.length = 0 then pathLimit r.path else r.length
  let n := min want (v.size - r.offset)
  (⟨stOk, t.ty, ⟨n, v.get r.offset n⟩, v.size⟩, q.2)

/-! ## Fragments (R469, R486) -/

/-- The assembly of a path. -/
def State.asmOf (s : State) (p : Path) : Option Assembly := s.dict.asm.find? fun x => x.path == p
/-- Discard it. -/
def State.dropAsm (s : State) (p : Path) : State :=
  { s with dict := { s.dict with asm := s.dict.asm.filter fun x => x.path != p } }
/-- Keep one. -/
def State.putAsm (s : State) (x : Assembly) : State :=
  let s := s.dropAsm x.path
  { s with dict := { s.dict with asm := s.dict.asm ++ [x] } }
/-- It comes from the side-band. -/
def Assembly.side (x : Assembly) : Bool :=
  match x.path with
  | .sideband _ => true
  | _ => false

/-- A request for another object, or another kind of write of the same one, discards the source's assembly. -/
def State.settleAsm (s : State) (r : Req) : State :=
  match s.asmOf r.path with
  | none => s
  | some x =>
    if !r.whole && (x.idx != r.index || x.sub != r.sub || ((r.op == 2 || r.op == 3) && x.op != r.op)) then s.dropAsm r.path
    else s

/-- What a write's data amounts to. -/
inductive Piece where
  | whole (b : Blob) | held | broken | full
deriving DecidableEq, Repr, Inhabited

/-- The data of a WRITE or STAGE joins its assembly. DEDUCED (log 24). -/
def State.assemble (s : State) (r : Req) : Piece × State :=
  match s.asmOf r.path with
  | some x =>
    let size := x.data.size + r.data.size
    if r.offset ≠ x.data.size || 65536 < size then (.broken, s.dropAsm r.path)
    else
      let b : Blob := ⟨size, x.data.val + r.data.val <<< (8 * x.data.size)⟩
      if r.more then (.held, s.putAsm { x with data := b }) else (.whole b, s.dropAsm r.path)
  | none =>
    if r.offset ≠ 0 then (.broken, s)
    else if !r.more then (.whole r.data, s)
    else
      let x : Assembly := ⟨r.path, r.op, r.index, r.sub, r.data⟩
      if x.side && 4 ≤ (s.dict.asm.filter Assembly.side).length then (.full, s) else (.held, s.putAsm x)

/-! ## Staging and pending writes (R470, R471) -/

/-- The boundary at which what is accepted now acts. Before the first one, that one (R488). -/
def State.nextDue (s : State) : Nat :=
  if !s.time.running then 0 else if s.time.slot < 4095 then s.time.epochs + 1 else s.time.epochs + 2

/-- Replace a class's staging set. -/
def State.putStaging (s : State) (a : Acc) (ws : List ObjWrite) : State :=
  let rest := s.dict.staging.filter fun e => e.1 != a
  { s with dict := { s.dict with staging := if ws.isEmpty then rest else rest ++ [(a, ws)] } }

/-- Two writes are of one object. -/
def ObjWrite.same (w : ObjWrite) (i sub : Nat) : Bool := w.idx == i && w.sub == sub

/-- The set with a write added: `none` beyond its limits. DEDUCED (log 41). -/
def State.stageWrite (s : State) (a : Acc) (w : ObjWrite) : Option State :=
  let rest := (s.staging a).filter fun x => !x.same w.idx w.sub
  if 256 ≤ rest.length || 65536 < sumNat (rest.map fun x => x.data.size) + w.data.size then none
  else some (s.putStaging a (rest ++ [w]))

/-- A write or a commit becomes pending. -/
def State.post (s : State) (a : Acc) (commit : Bool) (ws : List ObjWrite) (named : Option Nat) : State :=
  let p : Pending := ⟨s.dict.nextSeq, a, commit, ws, s.nextDue, named⟩
  let s := { s with dict := { s.dict with pend := s.dict.pend ++ [p], nextSeq := s.dict.nextSeq + 1 } }
  s.each ws State.holdUnits

/-- COMMIT (R471). -/
def State.commitSet (s : State) (a : Acc) (r : Req) : Nat × State :=
  let ahead := epochAhead r.epoch s.time.e
  let early := !epochLater r.epoch s.time.e || decide (65536 < ahead) || (ahead == 1 && decide (4095 ≤ s.time.slot))
  let ws := s.staging a
  if r.named && early then (stRange, s)
  else if ws.isEmpty then (stConflict, s)
  else if 8 ≤ (s.dict.pend.filter fun p => p.cls == a && p.commit).length then (stBusy, s)
  else
    let s := (s.putStaging a []).post a true ws (if r.named then some r.epoch else none)
    let t := s.stageStat a
    (stStaged, { s with dict := { s.dict with
      stats := (s.dict.stats.filter fun e => e.1 != a) ++ [(a, { t with commits := (t.commits + 1) % 2 ^ 32 })] } })

/-- Withdraw a pending write or commit. -/
def State.unpost (s : State) (p : Pending) : State :=
  let s := { s with dict := { s.dict with pend := s.dict.pend.filter fun q => q.seq != p.seq } }
  (s.each p.writes State.endHold).noteStage p.cls stOk 3 0 0

/-- ABORT of an object (R471): from the set, else the class's latest pending write, else a staged command. -/
def State.abortObject (s : State) (a : Acc) (t : ObjRef) : Nat × State :=
  let ws := s.staging a
  if ws.any fun w => w.same t.idx t.sub then (stOk, s.putStaging a (ws.filter fun w => !w.same t.idx t.sub))
  else
    match (s.dict.pend.filter fun p => p.cls == a && !p.commit && p.writes.any fun w => w.same t.idx t.sub).getLast? with
    | some p => (stOk, s.unpost p)
    | none =>
      match (if t.idx = 0x3012 then (s.cuvee t.sub).staged else none) with
      | none => (stConflict, s)
      | some st =>
        let mine := st.by_ == a || (a == .manager && st.by_ == .tenant t.sub)
        if mine then (stOk, s.withdrawCommand t.sub) else (stConflict, s)

/-- ABORT of the whole set or of a named commit (R471). DESIGN CHOICE (log 19). -/
def State.abortSet (s : State) (a : Acc) (r : Req) : Nat × State :=
  if r.named then
    match (s.dict.pend.filter fun p => p.cls == a && p.commit && p.named == some r.epoch).getLast? with
    | some p => (stOk, s.unpost p)
    | none => (stConflict, s)
  else if (s.staging a).isEmpty then (stConflict, s)
  else (stOk, s.putStaging a [])

/-! ## Cuvee commands (R245–R249) -/

/-- A command record's CODE and fields (R245). -/
def parseRecord (n : Nat) : Nat × CmdRec :=
  (bits n 127 120, ⟨bit n 119, bits n 118 79, bits n 78 67, bits n 66 64, bits n 63 0⟩)

/-- The record of a command. -/
def packRecord (code : Nat) (k : CmdRec) : Blob :=
  ⟨16, field code 8 120 + field (b2n k.named) 1 119 + field k.epoch 40 79 + field k.slot 12 67 + field k.reserved 3 64 +
    field k.arg 64 0⟩

/-- CuveeCommand is written (R245–R251). -/
def State.command (s : State) (a : Acc) (c code : Nat) (k : CmdRec) : Nat × State :=
  if s.recordStatus code k ≠ stOk then (stRange, s)
  else
    let r := s.commandStatus a c code k.arg
    if r.2 then (r.1, s.refuseRebind c)
    else if r.1 ≠ stOk then (r.1, s)
    else if (s.cuvee c).staged.isSome then (stBusy, s)
    else (stStaged, s.stageCommand a c code k)

/-! ## Writes -/

/-- Steps 6 (by value) to 11 of R468, for a whole value; `tyOk` is the header's TYPE. CuveeCommand's own checks follow. -/
def State.writeCode (s : State) (a : Acc) (op : Nat) (tyOk : Bool) (t : ObjRef) (b : Blob) (x : Extra) : Nat :=
  let w : ObjWrite := ⟨t.idx, t.sub, b⟩
  match t.desc with
  | none =>
    let select := t.idx == 0x4014
    if !tyOk || (select && b.size != t.max) then stType
    else if select then (s.chkObject a (s.view a [w]) t.idx t.sub b x).code
    else stOk
  | some d =>
    let sizeGood := sizeOk (s.view a [w]) d t.sub b
    if sizeGood && s.valueDenied a t.idx t.sub b then stDenied
    else if !tyOk || !sizeGood then stType
    else if op = 3 && d.cmd then stRange
    else if t.idx = 0x3012 then stOk
    else s.valueStatus a [] d w x

/-- A write that has passed its checks acts or becomes pending. The flag says that the answer waits for the flash. -/
def State.acceptWrite (s : State) (a : Acc) (t : ObjRef) (b : Blob) (x : Extra) : Nat × Bool × State :=
  let w : ObjWrite := ⟨t.idx, t.sub, b⟩
  match t.desc with
  | none => (stOk, false, if t.idx = 0x4014 then s.actWrite a w x else s)
  | some d =>
    if t.idx = 0x3012 then
      let k := parseRecord b.val
      let r := s.command a t.sub k.1 k.2
      (r.1, false, r.2)
    else if t.idx = 0xB021 && b.get 0 1 = 2 then (stOk, false, s.warmReset x.boot)
    else if t.idx = 0x1020 then (stOk, b.get 4 4 == 0, s.actWrite a w x)
    else if !d.epoch then (stOk, false, s.actWrite a w x)
    else if 4096 ≤ (s.dict.pend.filter fun p => !p.commit).length then (stBusy, false, s)
    else (stStaged, false, s.post a false [w] none)

/-- WRITE and STAGE of a whole value; EstateRow is always staged (R470). -/
def State.writeValue (s : State) (a : Acc) (op : Nat) (tyOk : Bool) (t : ObjRef) (b : Blob) (x : Extra) : Nat × Bool × State :=
  let code := s.writeCode a op tyOk t b x
  if op = 3 || t.idx = 0x2003 then
    match s.stageWrite a ⟨t.idx, t.sub, b⟩ with
    | none => (if code = stOk || code = stBusy then stOver else code, false, s)
    | some s' => if code = stOk then (stOk, false, s') else (code, false, s)
  else if code ≠ stOk then (code, false, s)
  else s.acceptWrite a t b x

/-! ## Directory (R466) -/

/-- One entry: address, type, rights, effect, FLAGS, largest size, mirror slot. -/
def dirEntry (i sub ty rights effect flags size mirror : Nat) : Nat :=
  (Blob.record [(2, i), (1, sub), (1, ty), (1, rights), (1, effect), (1, flags), (1, 0), (4, size), (2, mirror), (2, 0)]).val

/-- The number of a window class for mirror slots; the side-band has none. -/
def mirrorClass : Acc → Option Nat
  | .manager => some 0
  | .deputy => some 1
  | .tenant _ => some 2
  | .side => none

/-- The mirror slot of an object, 0xFFFF for none (R481). -/
def mirrorOf (a : Acc) (i sub ty rights : Nat) : Nat :=
  match mirrorClass a with
  | some k => if ty ≤ 10 && bit rights 0 then Config.mirrorSlot k i sub else 0xFFFF
  | none => 0xFFFF

/-- The addresses of a row. -/
def ObjDesc.places (d : ObjDesc) : List (Nat × Nat) :=
  (List.range (d.idxHi + 1 - d.idx)).flatMap fun i => (List.range (d.subHi + 1 - d.subLo)).map fun k => (d.idx + i, d.subLo + k)

/-- The directory of a class, by address: key and entry. -/
def State.directory (s : State) (a : Acc) : List (Nat × Nat) :=
  match a with
  | .tenant _ => views.map fun v =>
      let d := match v.target with
        | .own i => objAt i 1
        | .own1 i => objAt i 2
        | .fixed i sub => objAt i sub
        | .only => none
      let mirror := mirrorOf a v.idx v.sub v.ty.code v.rights
      (objKey v.idx v.sub, dirEntry v.idx v.sub v.ty.code v.rights (b2n (d.any ObjDesc.epoch))
        (b2n (d.any ObjDesc.storable) + (if mirror = 0xFFFF then 0 else 2)) v.max mirror)
  | _ =>
    (objects.filter fun d => d.rights a != 0).flatMap (fun d => d.places.map fun p =>
      let mirror := mirrorOf a p.1 p.2 d.ty.code (d.rights a)
      (objKey p.1 p.2, dirEntry p.1 p.2 d.ty.code (d.rights a) (b2n d.epoch)
        (b2n d.storable + (if mirror = 0xFFFF then 0 else 2)) d.maxSize mirror)) ++
    (if s.vendorRights a = 0 then [] else Config.vendorObjects.map fun o =>
      let mirror := mirrorOf a o.1 o.2.1 o.2.2 (s.vendorRights a)
      (objKey o.1 o.2.1, dirEntry o.1 o.2.1 o.2.2 (s.vendorRights a) 0 (if mirror = 0xFFFF then 0 else 2) 65536 mirror))

/-- ENUMERATE. DEDUCED (log 23). -/
def State.enumerateFrom (s : State) (a : Acc) (r : Req) : Reply :=
  let es := (s.directory a).filter fun e => objKey r.index r.sub ≤ e.1
  let n := min (r.length / 16) es.length
  ⟨stOk, 0, Blob.array 16 ((es.take n).map Prod.snd), 16 * es.length⟩

/-! ## The store (R475, R476) -/

/-- Every storable object. -/
def storables : List (Nat × Nat) := (objects.filter ObjDesc.storable).flatMap ObjDesc.places

/-- What STORE keeps of an object: a per-class value is the storing class's own. -/
def State.storeValue (s : State) (a : Acc) (i sub : Nat) : Blob :=
  if (i = 0x8001 && sub = 2) || (i = 0x9005 && sub = 1) then Blob.scalar (s.val i sub).size (s.select a i sub) else s.val i sub

/-- The objects that a STORE or RESTORE_DEFAULTS names: one, or all; in standby only the standby set has values. -/
def State.storeKeys (s : State) (r : Req) : List (Nat × Nat) :=
  if !r.whole then [(r.index, r.sub)]
  else if s.sideLevel ≤ 1 then storables.filter fun p => standbyKeys.contains (objKey p.1 p.2)
  else storables

/-- Flash work begins, and its answer waits (R476, R489). DEDUCED (log 33). -/
def State.beginJob (s : State) (j : FlashJob) : State :=
  { s with flash := { s.flash with
    job := some j
    storeState := match j with
      | .erase .. => s.flash.storeState
      | _ => 1 } }

/-! ## One request (R468) -/

/-- A request's answer; `none` when it comes with the end of a flash write. DEDUCED (log 22, 23). -/
def State.serveObject (s : State) (a : Acc) (r : Req) (t : ObjRef) (x : Extra) : Option Reply × State :=
  let size := (s.targetValue a t).1.size
  let say := fun (st : Nat) => (⟨st, t.ty, ⟨0, 0⟩, size⟩ : Reply)
  let tyOk := r.ty == 255 || r.ty == t.ty
  match r.op with
  | 1 =>
    if !bit t.rights 0 then (some (say stDenied), s)
    else if !tyOk then (some (say stType), s)
    else
      let q := s.readTarget a r t
      (some q.1, q.2)
  | 2 | 3 =>
    if !bit t.rights 1 then (some (say stDenied), s)
    else if r.more && !tyOk then (some (say stType), s)
    else match s.assemble r with
      | (.held, s') => (some (say stOk), s')
      | (.broken, s') => (some (say (if tyOk then stRange else stType)), s')
      | (.full, s') => (some (say stBusy), s')
      | (.whole b, s') =>
        let stamp := s.stamp
        let q := s'.writeValue a r.op tyOk t b x
        if q.2.1 then (none, q.2.2.beginJob (.erase r.path r.gen (r.response stamp (say stOk)) (b.get 0 1)))
        else (some (say q.1), q.2.2)
  | 5 =>
    if !tyOk then (some (say stType), s)
    else
      let q := s.abortObject a t
      (some (say q.1), q.2)
  | _ =>
    if !(a == .manager || a == .side) then (some (say stDenied), s)
    else if !tyOk then (some (say stType), s)
    else if !(t.desc.any ObjDesc.storable) then (some (say stRange), s)
    else if s.flash.job.isSome then (some (say stBusy), s)
    else
      let keys := s.storeKeys r
      let resp := r.response s.stamp (say stOk)
      if r.op = 7 then (none, s.beginJob (.store r.path r.gen resp (keys.map fun p => ⟨p.1, p.2, s.storeValue a p.1 p.2⟩)))
      else (none, s.beginJob (.restore r.path r.gen resp keys a))

/-- The same for a request that names no object. -/
def State.serveWhole (s : State) (a : Acc) (r : Req) : Option Reply × State :=
  match r.op with
  | 4 =>
    let q := s.commitSet a r
    (some (Reply.code q.1), q.2)
  | 5 =>
    let q := s.abortSet a r
    (some (Reply.code q.1), q.2)
  | 6 => (some (s.enumerateFrom a r), s)
  | _ =>
    if !(a == .manager || a == .side) then (some (Reply.code stDenied), s)
    else if s.flash.job.isSome then (some (Reply.code stBusy), s)
    else
      let keys := s.storeKeys r
      let resp := r.response s.stamp (Reply.code stOk)
      if r.op = 7 then (none, s.beginJob (.store r.path r.gen resp (keys.map fun p => ⟨p.1, p.2, s.storeValue a p.1 p.2⟩)))
      else (none, s.beginJob (.restore r.path r.gen resp keys a))

/-- A request is served: the checks of R468 in order. -/
def State.serve (s : State) (r : Req) (x : Extra) : Option Reply × State :=
  if r.malformed then (some (Reply.code stRange), s)
  else if !s.serves r then (some (Reply.code stNotReady), s)
  else match s.classOf r.path with
    | none => (some (Reply.code stDenied), s)
    | some a =>
      let s := s.settleAsm r
      if r.whole then s.serveWhole a r
      else
        let outside := match a with
          | .tenant _ => !within r.index 0x4000 0x4FFF
          | _ => false
        if outside then (some (Reply.code stDenied), s)
        else match s.target a r.index r.sub with
          | (st, none) => (some (Reply.code st), s)
          | (_, some t) => s.serveObject a r t x

end Sys2Proof.Machine
end

