-- ==== Sys2Proof/Machine/Windows.lean ====
section
/-! DEFINITION. Machine/Windows.lean: how requests and register accesses arrive: dictionary windows (R477, R478, R481), Wizor
frames (R482–R487), BAR registers (R426, R504–R507), flash completions (R476), and resets of functions and ports (R453, R502,
R508). -/

namespace Sys2Proof.Machine

/-! ## Reach -/

/-- The window of a function. -/
def State.window (s : State) (p : Path) : Window :=
  match s.dict.windows.find? fun e => e.1 == p with
  | some e => e.2
  | none => Window.init
/-- Replace it. -/
def State.setWindow (s : State) (p : Path) (w : Window) : State :=
  { s with dict := { s.dict with windows := (s.dict.windows.filter fun e => e.1 != p) ++ [(p, w)] } }

/-- A port carries transactions (R502, R508). -/
def State.portOpen (s : State) (p : HostPort) : Bool := s.boot.standby && !(s.host p).perst && (s.host p).linkUp
/-- The key of a function's configuration register. -/
def configKey (fn reg : Nat) : Nat := 4096 * fn + reg
/-- A function in D3hot decodes no BAR (R504). -/
def State.asleep (s : State) (p : HostPort) (fn : Nat) : Bool :=
  (s.host p).config.getD (configKey fn Config.pmcsr) 0 % 4 == 3
/-- A request or access on the path reaches the device. -/
def State.reaches (s : State) (p : Path) : Bool :=
  match p with
  | .sideband _ => s.boot.standby
  | .pf q => s.portOpen q && !s.asleep q 0
  | .vf q n => s.portOpen q && within n 1 127 && !s.asleep q n

/-! ## Headers as bytes (R464, R465) -/

/-- A request header. -/
def Req.header (r : Req) : Blob :=
  Blob.record [(1, r.op), (1, r.flags), (2, r.index), (1, r.sub), (1, r.ty), (2, r.tag), (4, r.offset), (4, r.length),
    (8, r.epoch), (8, r.reserved)]

/-- A response header. -/
def respHeader (r : Response) : Blob :=
  Blob.record [(1, r.op), (1, r.status), (2, r.index), (1, r.sub), (1, r.ty), (2, r.tag), (4, r.offset), (4, r.length),
    (4, r.total), (4, 0), (8, r.stamp)]

/-- The data that goes with a header: LENGTH bytes of a WRITE or STAGE. -/
def carried (op length : Nat) (b : Blob) : Blob := if op = 2 || op = 3 then ⟨length, b.get 0 length⟩ else ⟨0, 0⟩

/-- The request that a window's areas hold. -/
def windowReq (p : Path) (gen : Nat) (h d : Blob) : Req :=
  { path := p, gen := gen, op := h.get 0 1, flags := h.get 1 1, index := h.get 2 2, sub := h.get 4 1, ty := h.get 5 1
    tag := h.get 6 2, offset := h.get 8 4, length := h.get 12 4, epoch := h.get 16 8, reserved := h.get 24 8
    data := carried (h.get 0 1) (h.get 12 4) d }

/-- The request of a command, with its operation. -/
def accessReq (a : Access) (op gen : Nat) : Req :=
  { path := a.path, gen := gen, op := op, flags := a.flags, index := a.index, sub := a.sub, ty := a.ty, tag := a.tag
    offset := a.offset, length := a.length, epoch := a.epoch, reserved := a.reserved, data := carried op a.length a.data }

/-! ## Windows -/

/-- A submission that is discarded (R478). -/
def State.discardSubmission (s : State) (p : Path) : State :=
  let w := s.window p
  let s := s.setWindow p { w with discarded := (w.discarded + 1) % 2 ^ 32 }
  { s with dict := { s.dict with winDiscarded := (s.dict.winDiscarded + 1) % 2 ^ 64 } }

/-- An answer comes to the window whose request waits for it (R478). -/
def State.answerWindow (s : State) (p : Path) (gen : Nat) (y : Response) : State :=
  let w := s.window p
  if w.inFlight ≠ some gen then s
  else
    let s := s.setWindow p { w with response := some y, respGen := gen, inFlight := none }
    { s with dict := { s.dict with winServed := (s.dict.winServed + 1) % 2 ^ 64 } }

/-- REQ_GEN takes a value: the request in the areas is submitted and served. -/
def State.submit (s : State) (p : Path) (gen : Nat) (x : Extra) : State :=
  let w := s.window p
  if w.inFlight.isSome then s.discardSubmission p
  else if gen = w.respGen then s.setWindow p { w with reqGen := gen }
  else
    let r := windowReq p gen w.reqArea w.reqData
    let stamp := s.stamp
    match (s.setWindow p { w with reqGen := gen, inFlight := some gen }).serve r x with
    | (some y, s) => s.answerWindow p gen (r.response stamp y)
    | (none, s) => s

/-- A write of REQ_GEN of some size and alignment (R478). -/
def State.writeReqGen (s : State) (p : Path) (gen size : Nat) (aligned : Bool) (x : Extra) : State :=
  if size ≠ 4 || !aligned then s.discardSubmission p else s.submit p (gen % 2 ^ 32) x

/-- REQUEST and REQ_DATA as a driver leaves them. -/
def State.fillWindow (s : State) (p : Path) (h d : Blob) : State :=
  let w := s.window p
  s.setWindow p { w with reqArea := h, reqData := ⟨65536, (w.reqData.put 0 d.size d.val).val⟩ }

/-! ## Wizor (R484–R486) -/

/-- Count a frame: 0 served, 1 answered from copy, 2 malformed, 3 tag, 4 sequence (R489). DESIGN CHOICE (log 49). -/
def State.wizorCount (s : State) (k : Nat) : State :=
  { s with side := { s.side with counters := bump 64 s.side.counters k 1 } }

/-- SidebandKey, when one is set. -/
def State.sideKey (s : State) : Option Nat :=
  let b := s.val 0x1010 3
  if b.size = 0 then none else some b.val

/-- The bytes before a frame's tag. -/
def frameBytes (flags node seq : Nat) (header data : Blob) : Blob :=
  Blob.record [(4, 0x52573947), (1, 1), (1, flags), (2, node), (8, seq), (header.size, header.val), (data.size, data.val)]

/-- A response leaves, with a tag while a key is set. DESIGN CHOICE (log 49). -/
def State.emitWizor (s : State) (src seq : Nat) (y : Response) : State :=
  s.emit (.wizor src seq y (s.sideKey.map fun k => Config.kmacWizor k (frameBytes 3 s.side.node seq (respHeader y) y.data)))

/-- It is the last one of its source. -/
def State.answerWizor (s : State) (src seq : Nat) (y : Response) : State :=
  let kept := lastN 8 ((s.side.kept.filter fun e => e.1 != src) ++ [(src, seq, y)])
  ({ s with side := { s.side with kept := kept } }).emitWizor src seq y

/-- A frame is accepted: the sequence mark, and its copy in flash at every 65,536th (R485). DESIGN CHOICE (log 49). -/
def State.acceptSeq (s : State) (seq : Nat) : State :=
  let high := max s.side.highSeq seq
  let n := s.side.accepted + 1
  { s with
    side := { s.side with highSeq := high, accepted := n }
    flash := if n % 65536 = 0 then { s.flash with wizorSeq := high } else s.flash }

/-- Why a frame is dropped: its counter, or none (R484, R485). DESIGN CHOICE (log 49). -/
def State.wizorDrop (s : State) (f : WizorFrame) (r : Req) : Option Nat :=
  let auth := bit f.flags 1
  if f.magic ≠ 0x52573947 || f.version ≠ 1 || f.node ≠ s.side.node || bit f.flags 0 || 4 ≤ f.flags || !f.lengthOk ||
      1024 < r.length then some 2
  else match s.sideKey with
    | none => if auth then some 2 else none
    | some k =>
      if auth && f.tag == Config.kmacWizor k (frameBytes f.flags f.node f.seq r.header r.data) then none else some 3

/-- A Wizor frame arrives from a source. DESIGN CHOICE (log 49). -/
def State.wizor (s : State) (src : Nat) (f : WizorFrame) (r : Req) (x : Extra) : State :=
  if !s.boot.standby then s
  else match s.wizorDrop f r with
    | some k => s.wizorCount k
    | none =>
      match s.side.kept.find? fun e => e.1 == src && e.2.1 == f.seq with
      | some e => (s.wizorCount 1).emitWizor src f.seq e.2.2
      | none =>
        if s.sideKey.isSome && f.seq ≤ s.side.highSeq then s.wizorCount 4
        else
          let s := s.acceptSeq f.seq
          let stamp := s.stamp
          match s.serve r x with
          | (some y, s) => (s.wizorCount 0).answerWizor src f.seq (r.response stamp y)
          | (none, s) => s.wizorCount 0

/-- NEIGHBOR_SOLICITATION (R482): answered for the device's own address. -/
def State.neighbour (s : State) (target : Nat) : State :=
  if s.boot.standby && target = 0xFE80 * 2 ^ 112 + 0x00475AFFFE390000 + s.side.node then s.emit (.neighbour target) else s

/-! ## The end of flash work (R476, R489) -/

/-- A record with some objects replaced. -/
def mergeStored (old new : List ObjWrite) : List ObjWrite :=
  (old.filter fun w => !(new.any fun x => x.same w.idx w.sub)) ++ new

/-- A new store record goes to the copy that is not the newest, with the next count. -/
def FlashSt.writeRecord (f : FlashSt) (ws : List ObjWrite) : FlashSt :=
  let n := ((f.newest.map Prod.fst).getD 0) + 1
  let second := match f.copy0, f.copy1 with
    | some a, some b => decide (b.1 ≤ a.1)
    | some _, none => true
    | none, _ => false
  if second then { f with copy1 := some (n, ws) } else { f with copy0 := some (n, ws) }

/-- The path, number and answer of flash work. -/
def FlashJob.waiter : FlashJob → Path × Nat × Response
  | .store p g y _ => (p, g, y)
  | .restore p g y _ _ => (p, g, y)
  | .erase p g y _ => (p, g, y)

/-- An answer that waited goes to its path. -/
def State.deliver (s : State) (p : Path) (gen : Nat) (y : Response) : State :=
  match p with
  | .sideband src => s.answerWizor src gen y
  | _ => s.answerWindow p gen y

/-- One object's Default is written as a WRITE would (R476): one that already stands at it, with nothing pending, is left.
DEDUCED (log 33). -/
def State.restoreObject (s : State) (a : Acc) (i sub : Nat) : State :=
  let b := defaultOf i sub
  let w : ObjWrite := ⟨i, sub, b⟩
  let waiting := s.dict.pend.any fun p => p.writes.any fun x => x.same i sub
  match objAt i sub with
  | none => s
  | some d =>
    if s.val i sub = b && !waiting then s
    else if d.epoch then s.post a false [w] none
    else s.actWrite a w default

/-- FLASH_WRITE_DONE. What a request is told of a flash write that fails is open. DESIGN CHOICE (log 34). -/
def State.flashDone (s : State) (ok : Bool) : State :=
  match s.flash.job with
  | none => s
  | some j =>
    let s := { s with flash := { s.flash with job := none } }
    let u := j.waiter
    if !ok then
      let q := s.fresh
      let s := { q.2 with flash := { q.2.flash with storeState := match j with
        | .erase .. => q.2.flash.storeState
        | _ => 3 } }
      s.deliver u.1 u.2.1 { u.2.2 with status := q.1 % 11 }
    else
      let old := (s.flash.newest.map Prod.snd).getD []
      let s := match j with
        | .store _ _ _ objs =>
          let f := s.flash.writeRecord (mergeStored old objs)
          { s with flash := { f with
            storeState := 2, stores := (f.stores + 1) % 2 ^ 32, lastStore := s.etime, wizorSeq := s.side.highSeq } }
        | .restore _ _ _ keys a =>
          let f := s.flash.writeRecord (old.filter fun w => !keys.contains (w.idx, w.sub))
          let s := { s with flash := { f with storeState := 2 } }
          s.each keys fun s k => s.restoreObject a k.1 k.2
        | .erase _ _ _ _ => { s with flash := { s.flash with progState := 2 } }
      s.deliver u.1 u.2.1 u.2.2

/-! ## BAR registers -/

/-- The cuvee of a VF. -/
def State.vfCuvee (s : State) (p : Path) : Option Nat :=
  match s.classOf p with
  | some (.tenant c) => some c
  | _ => none

/-- WINDOW_STATUS, REQ_GEN, RESP_GEN and DISCARDED (R477). -/
def State.windowRegs (s : State) (p : Path) : Blob :=
  let w := s.window p
  let holds := match p with
    | .pf q | .vf q _ => s.dict.steward == q
    | .sideband _ => false
  let cls := match p with
    | .pf _ => if holds then 0 else 1
    | _ => 2
  Blob.record [(4, field cls 2 2 + field (b2n holds) 1 1 + b2n (s.faults.estateState != 3)), (4, w.reqGen), (4, w.respGen),
    (4, w.discarded)]

/-- A mirror slot of a window's class (R481). DESIGN CHOICE (log 150). -/
def State.mirrorSlotValue (s : State) (p : Path) (slot : Nat) : Blob :=
  match s.classOf p with
  | none => ⟨8, 0⟩
  | some a =>
    match (s.directory a).find? fun e => bits e.2 111 96 == slot && bit e.2 49 with
    | none => ⟨8, 0⟩
    | some e =>
      if s.faults.estateState = 3 && !commArea (e.1 / 256) then ⟨8, 0⟩
      else match (s.target a (e.1 / 256) (e.1 % 256)).2 with
      | some t => Blob.scalar 8 (s.targetValue a t).1.val
      | none => ⟨8, 0⟩

/-- One byte of BAR0 (R477, R505, R506). DESIGN CHOICE (log 150). -/
def State.barByte (s : State) (p : Path) (o : Nat) : Nat :=
  let w := s.window p
  if o < 0x10 then (s.windowRegs p).get o 1
  else if 0x1000 ≤ o ∧ o < 0x1020 then w.reqArea.get (o - 0x1000) 1
  else if 0x1020 ≤ o ∧ o < 0x1040 then (w.response.map fun y => (respHeader y).get (o - 0x1020) 1).getD 0
  else if 0x10000 ≤ o ∧ o < 0x20000 then w.reqData.get (o - 0x10000) 1
  else if 0x20000 ≤ o ∧ o < 0x30000 then (w.response.map fun y => y.data.get (o - 0x20000) 1).getD 0
  else if 0x40000 ≤ o ∧ o < 0x60000 then (s.mirrorSlotValue p ((o - 0x40000) / 8)).get (o % 8) 1
  else match s.vfCuvee p with
    | none => 0
    | some c =>
      if 0x80000 ≤ o ∧ o < 0x82000 then
        let k := (o - 0x80000) / 8
        let r := s.ring c k
        if k < s.ringPairs c then (Blob.record [(4, r.doorbell), (4, r.head)]).get (o % 8) 1 else 0
      else if 0xC0000 ≤ o ∧ o < 0xC0E00 then
        match s.channel c ((o - 0xC0000) / 64) with
        | some n => (Blob.scalar 8 ((s.check n).reg (o % 64 / 8 * 8))).get (o % 8) 1
        | none => 0
      else 0

/-- The bytes from an offset as a number. -/
def barRead (byte : Nat → Nat) (o : Nat) : Nat → Nat
  | 0 => 0
  | n + 1 => byte o % 256 + 256 * barRead byte (o + 1) n

/-- A plain read of BAR0. -/
def State.bar0Read (s : State) (p : Path) (o size : Nat) : State := s.emit (.bar p o size (barRead (s.barByte p) o size))

/-- The size of a port's harvest aperture (R505). -/
def State.apertureSize (s : State) (p : HostPort) : Nat :=
  match (s.host p).config.find (configKey 0 Config.rebarControl) with
  | some v => 2 ^ (20 + max 4 (min 8 (bits v 13 8)))
  | none => 2 ^ 28

/-- One byte of the harvest aperture (R507). -/
def State.apertureByte (s : State) (p : HostPort) (o : Nat) : Nat :=
  if s.apertureSize p ≤ o || s.num 0x8000 3 * 147456 ≤ o then 0
  else ((s.obs.records.getD (o / 147456) ⟨147456, 0⟩).get (o % 147456) 1)

/-- A plain read of BAR2, which a PF alone has. -/
def State.bar2Read (s : State) (p : Path) (o size : Nat) : State :=
  match p with
  | .pf q => s.emit (.bar p o size (barRead (s.apertureByte q) o size))
  | _ => s

/-- Width of a check-channel register (R426). DEDUCED (log 147). -/
def checkWidth : Nat → Nat
  | 0x00 | 0x10 | 0x18 => 4
  | 0x08 => 8
  | 0x14 => 1
  | 0x16 => 2
  | _ => 0

/-- A write of a register of a check channel, whole and aligned. DEDUCED (log 147). -/
def State.checkReg (s : State) (p : Path) (j off size value : Nat) (aligned : Bool) : State :=
  match s.vfCuvee p with
  | none => s
  | some c =>
    match s.channel c j with
    | none => s
    | some n =>
      if size ≠ checkWidth off || !aligned then s
      else
        let v := value % 256 ^ size
        match off with
        | 0x00 => s.checkConfig n v
        | 0x08 => s.checkFold n v
        | 0x10 => s.checkStart n
        | 0x14 => s.checkFeed n v 1
        | 0x16 => s.checkFeed n v 2
        | 0x18 => s.checkFeed n v 4
        | _ => s

/-- A write of a doorbell or head register (R72, R506). -/
def State.pairReg (s : State) (p : Path) (k : Nat) (isHead : Bool) (size value : Nat) (aligned : Bool) : State :=
  match s.vfCuvee p with
  | none => s
  | some c =>
    if size ≠ 4 || !aligned || s.ringPairs c ≤ k then s
    else s.updRing c k fun r => if isHead then { r with head := value % 2 ^ 32 } else { r with doorbell := value % 2 ^ 32 }

/-- One byte written into REQUEST or REQ_DATA. -/
def Window.putByte (w : Window) (o v : Nat) : Window :=
  if 0x1000 ≤ o ∧ o < 0x1020 then { w with reqArea := ⟨32, (w.reqArea.put (o - 0x1000) 1 v).val⟩ }
  else if 0x10000 ≤ o ∧ o < 0x20000 then { w with reqData := ⟨65536, (w.reqData.put (o - 0x10000) 1 v).val⟩ }
  else w

/-- A plain write of BAR0; what is not writable discards it. -/
def State.bar0Write (s : State) (p : Path) (o size value : Nat) (x : Extra) : State :=
  if o < 8 && 4 < o + size then s.writeReqGen p value size (o == 4) x
  else if o < 0x60000 then
    let w := (List.range size).foldl (fun (w : Window) i => w.putByte (o + i) (value / 256 ^ i % 256)) (s.window p)
    s.setWindow p w
  else if 0x80000 ≤ o ∧ o < 0x82000 then s.pairReg p ((o - 0x80000) / 8) (bit o 2) size value (o % 4 == 0)
  else if 0xC0000 ≤ o ∧ o < 0xC0E00 then s.checkReg p ((o - 0xC0000) / 64) (o % 64) size value true
  else s

/-! ## A dictionary command, by its carriage -/

/-- The request of a command arrives: by a window, by Wizor, or as a plain access of a BAR (reads and writes only). -/
def State.request_ (s : State) (op : Nat) (a : Access) (x : Extra) : State :=
  if !s.reaches a.path then s
  else match a.via, a.path with
    | .window _ _ _, .sideband _ => s
    | .window gen size aligned, p =>
      (s.fillWindow p (accessReq a op gen).header (carried op a.length a.data)).writeReqGen p gen size aligned x
    | .wizor f, .sideband src => s.wizor src f (accessReq a op f.seq) x
    | .wizor _, _ => s
    | _, .sideband _ => s
    | .bar0 o size v, p => if op = 1 then s.bar0Read p o size else if op = 2 then s.bar0Write p o size v x else s
    | .bar2 o size, p => if op = 1 then s.bar2Read p o size else s

/-! ## Resets of functions and ports (R453, R473, R508) -/

/-- A class loses its staging set and its pending writes; its commits stand. DESIGN CHOICE (log 19); DEDUCED (log 20). -/
def State.dropClass (s : State) (a : Acc) : State :=
  let gone := s.dict.pend.filter fun p => p.cls == a && !p.commit
  let s := s.putStaging a []
  let s := { s with dict := { s.dict with pend := s.dict.pend.filter fun p => !(p.cls == a && !p.commit) } }
  let s := s.each (gone.flatMap Pending.writes) State.endHold
  if gone.isEmpty then s else s.noteStage a stOk 2 0 0

/-- A function's window: a request in flight is answered BUSY, and its registers return to 0. -/
def State.resetWindow (s : State) (p : Path) : State :=
  let w := s.window p
  let busy := match w.inFlight, s.flash.job with
    | some _, some j => some { j.waiter.2.2 with status := stBusy }
    | _, _ => w.response
  (s.dropAsm p).setWindow p { w with response := busy, reqGen := 0, respGen := 0, inFlight := none }

/-- The configuration space of a function returns to its reset values. -/
def State.resetConfig (s : State) (p : HostPort) (fn : Nat) : State :=
  s.updHost p fun h => { h with
    busMaster := h.busMaster.filter (· != fn), config := h.config.filter fun e => e.1 / 4096 != fn }

/-- An FLR of one function: its class, its window, and for a VF its cuvee. DEDUCED (log 20, 148). -/
def State.functionReset (s : State) (p : Path) : State :=
  let cls := s.classOf p
  let s := s.resetWindow p
  let s := match cls with
    | some a => s.dropClass a
    | none => s
  match p with
  | .pf q => s.resetConfig q 0
  | .vf q n =>
    let s := s.resetConfig q n
    match cls with
    | some (.tenant c) => s.flrCuvee c
    | _ => s
  | .sideband _ => s

/-- The functions of a port. -/
def portFunctions (p : HostPort) : List Path := .pf p :: (List.range 127).map fun n => .vf p (n + 1)

/-- Every function of a port is reset; its IDE keys and SPDM sessions are erased (R384, R387). DEDUCED (log 148). -/
def State.portReset_ (s : State) (p : HostPort) : State :=
  let s := s.each (portFunctions p) State.functionReset
  s.updHost p fun h => { h with sessions := [], handshakes := [], ideKeys := [], negotiated := false, busMaster := [], config := [], held := [] }

/-- The link of a port is down. DEDUCED (log 148). -/
def State.linkGone (s : State) (p : HostPort) : State := s.updHost p fun h => { h with linkUp := false }

/-- PERST_N. Its release lets the port train again. -/
def State.perst (s : State) (p : HostPort) (asserted : Bool) : State :=
  if asserted then ((s.portReset_ p).linkGone p).updHost p fun h => { h with perst := true }
  else s.updHost p fun h => { h with perst := false }

/-- PCIE_LINK_UP: a port whose front end has power and whose PERST_N is high has trained (R502). -/
def State.pcieLinkUp (s : State) (p : HostPort) : State :=
  if s.boot.standby && !(s.host p).perst then s.updHost p fun h => { h with linkUp := true } else s

/-- CONFIGURATION_REQUEST (R502, R504): the identity registers read as R504 gives them; what another register holds is the
PCI Express Base Specification's affair, but for Bus Master Enable and PowerState. PRESUMED (log 146). -/
def State.configRead (s : State) (p : HostPort) (fn reg : Nat) : Nat :=
  if reg = 0 then (if fn = 0 then Config.vendorId % 65536 + 0x9A00 * 65536 else 0xFFFFFFFF)
  else if reg = 8 then Config.moduleVersion % 256 + 0x120000 * 256
  else match (s.host p).config.find (configKey fn reg) with
    | some v => v
    | none => Config.pcieRegister fn reg

/-- Posted writes that waited for Bus Master Enable go out (R504). -/
def HostSt.release (h : HostSt) (fn : Nat) : HostSt :=
  { h with
    writes := (h.held.filter fun w => w.fn == fn).reverse ++ h.writes, held := h.held.filter fun w => w.fn != fn }

/-- A configuration write. DEDUCED (log 145); PRESUMED (log 146). -/
def State.configWrite (s : State) (p : HostPort) (fn reg v : Nat) : State :=
  let old := s.configRead p fn reg
  let s := s.updHost p fun h => { h with config := h.config.insert (configKey fn reg) (Config.pcieWritten reg old v) }
  let s := if reg = Config.pmcsr then
      s.updHost p fun h => { h with config := h.config.insert (configKey fn reg) (Config.pcieWritten reg old v / 4 * 4 + v % 4) }
    else s
  if reg = 4 then
    s.updHost p fun h =>
      if bit v 2 then { h with busMaster := addOnce h.busMaster fn }.release fn
      else { h with busMaster := h.busMaster.filter (· != fn) }
  else s

/-- A configuration request. -/
def State.configuration (s : State) (p : HostPort) (fn reg : Nat) (value : Option Nat) : State :=
  if !s.portOpen p || 127 < fn then s
  else match value with
    | none => s.emit (.config p fn reg (s.configRead p fn reg))
    | some v => if reg = 0 || reg = 8 then s else s.configWrite p fn reg v

/-- HOST_COMPLETION (R259): the data of a host read goes back as READ_DATA; a read of a cuvee in its drain is received and
discarded, and one that is no longer open is unexpected. DEDUCED (log 149). -/
def State.hostCompletion (s : State) (p : HostPort) (tag : Nat) (data : List Byte) : State :=
  match (s.host p).reads.find? fun r => r.tag == tag with
  | none => s
  | some r =>
    if data.length ≠ r.pkt.bytes then s
    else
      let s := s.updHost p fun h => { h with reads := h.reads.filter fun r => r.tag != tag }
      match (s.cuvee r.cuvee).seq with
      | some q => if q.squashed then s.forgetRead r.cuvee (portNo p * 65536 + tag) else s.answer r.pkt 1 0 data
      | none => s.answer r.pkt 1 0 data

def execNeighborSolicitation (target : Nat) (s : State) : Result := .next (s.neighbour target)
def execFlashWriteDone (ok : Bool) (s : State) : Result := .next (s.flashDone ok)
def execDoorbell (w : BarWrite) (s : State) : Result :=
  .next (if s.reaches (.vf w.port w.vf) then s.pairReg (.vf w.port w.vf) w.unit false w.size w.value w.aligned else s)
def execHead (w : BarWrite) (s : State) : Result :=
  .next (if s.reaches (.vf w.port w.vf) then s.pairReg (.vf w.port w.vf) w.unit true w.size w.value w.aligned else s)

/-- A write of a check-channel register by its offset. DEDUCED (log 147). -/
def State.barCheck (s : State) (w : BarWrite) (off : Nat) : State :=
  if s.reaches (.vf w.port w.vf) then s.checkReg (.vf w.port w.vf) w.unit off w.size w.value w.aligned else s

def execCheckStart (w : BarWrite) (s : State) : Result := .next (s.barCheck w 0x10)
def execFeedB (w : BarWrite) (s : State) : Result := .next (s.barCheck w 0x14)
def execFeedH (w : BarWrite) (s : State) : Result := .next (s.barCheck w 0x16)
def execFeedW (w : BarWrite) (s : State) : Result := .next (s.barCheck w 0x18)
def execConfigurationRequest (p : HostPort) (fn reg : Nat) (value : Option Nat) (s : State) : Result :=
  .next (s.configuration p fn reg value)
def execFlrPf (p : HostPort) (s : State) : Result := .next (if s.portOpen p then s.functionReset (.pf p) else s)
def execFlrVf (p : HostPort) (vf : Nat) (s : State) : Result :=
  .next (if s.portOpen p && within vf 1 127 then s.functionReset (.vf p vf) else s)
def execPerstN (p : HostPort) (asserted : Bool) (s : State) : Result := .next (s.perst p asserted)
def execHotReset (p : HostPort) (s : State) : Result := .next (if s.portOpen p then (s.portReset_ p).linkGone p else s)
def execLinkDown (p : HostPort) (s : State) : Result :=
  .next (if (s.host p).linkUp then (s.portReset_ p).linkGone p else s)
def execPcieLinkUp (p : HostPort) (s : State) : Result := .next (s.pcieLinkUp p)
def execHostCompletion (p : HostPort) (tag : Nat) (data : List Byte) (s : State) : Result :=
  .next (s.hostCompletion p tag data)

end Sys2Proof.Machine
end

