-- ==== Sys2Proof/Machine/Commands.lean ====
section
/-! DEFINITION. Machine/Commands.lean: the dictionary operations (R463) and the writes of the command objects, each a request
by its carriage (R464–R468). -/

namespace Sys2Proof.Machine

/-! ## What a plain WRITE leaves to the security controller -/

/-- A SESSION that OPEN may draw (R388): not 0, and of no session held. DESIGN CHOICE (log 35). -/
def State.drawSession (s : State) (n : Nat) : Nat :=
  let free := ((List.range 17).map fun k => (n + k) % (2 ^ 32 - 1) + 1).filter fun x => (s.sec.find x).isNone
  free.headD 0

/-- What a write finds that comes with no finding of its own: free values. DESIGN CHOICE (log 35). -/
def State.freeExtra (s : State) : Extra :=
  let n := fun k => Config.freeNat (s.free + k)
  { verifies := bit (n 0) 0
    session := s.drawSession (n 1)
    boot := ⟨bit (n 2) 0, n 3 % 4, n 4 % 5, n 5 % 5, bit (n 6) 0, bit (n 7) 0, bit (n 7) 1⟩ }

/-- WRITE: its free values are used up. DESIGN CHOICE (log 35, 36). -/
def State.plainWrite (s : State) (a : Access) : State :=
  ({ s with free := s.free + 8 }).request_ 2 a s.freeExtra

def execRead (a : Access) (s : State) : Result := .next (s.request_ 1 a default)
def execWrite (a : Access) (s : State) : Result := .next (s.plainWrite a)
def execStage (a : Access) (s : State) : Result := .next (s.request_ 3 a default)
def execCommit (a : Access) (s : State) : Result := .next (s.request_ 4 a default)
def execAbort (a : Access) (s : State) : Result := .next (s.request_ 5 a default)
def execEnumerate (a : Access) (s : State) : Result := .next (s.request_ 6 a default)
def execStore (a : Access) (s : State) : Result := .next (s.request_ 7 a default)
def execRestoreDefaults (a : Access) (s : State) : Result := .next (s.request_ 8 a default)

/-! ## Command objects -/

/-- A request comes by a window or by Wizor. -/
def framed (a : Access) : Bool :=
  match a.via with
  | .window _ _ _ | .wizor _ => true
  | .bar0 _ _ _ | .bar2 _ _ => false

/-- The request that writes `b` to a command object. DESIGN CHOICE (log 36). -/
def writingTo (a : Access) (i sub : Nat) (b : Blob) : Access :=
  { a with index := i, sub := sub, length := b.size, data := b }

/-- A command object is written. -/
def State.commandWrite (s : State) (a : Access) (i sub : Nat) (b : Blob) (x : Extra) : State :=
  if framed a then s.request_ 2 (writingTo a i sub b) x else s

/-- A one-byte command code. -/
def State.codeWrite (s : State) (a : Access) (i sub code : Nat) : State := s.commandWrite a i sub (Blob.scalar 1 code) default

/-- An object of cuvee c as the path names it: by the cuvee's number, or in the VF's view; a VF reaches its own cuvee alone.
DESIGN CHOICE (log 36). -/
def State.cuveeWrite (s : State) (a : Access) (c : Nat) (estate view : Nat × Nat) (b : Blob) : State :=
  match a.path with
  | .vf _ _ =>
    match s.vfCuvee a.path with
    | some d => if d = c then s.commandWrite a view.1 view.2 b default else s
    | none => s.commandWrite a view.1 view.2 b default
  | _ => s.commandWrite a estate.1 estate.2 b default

/-- CuveeCommand (R245). -/
def State.cuveeCommand (s : State) (a : Access) (c code : Nat) (k : CmdRec) : State :=
  s.cuveeWrite a c (0x3012, c) (0x4000, 2) (packRecord code k)

def execCreate (a : Access) (c : Nat) (k : CmdRec) (s : State) : Result := .next (s.cuveeCommand a c 1 k)
def execBind (a : Access) (c : Nat) (k : CmdRec) (s : State) : Result := .next (s.cuveeCommand a c 2 k)
def execUnbind (a : Access) (c : Nat) (k : CmdRec) (s : State) : Result := .next (s.cuveeCommand a c 3 k)
def execStart (a : Access) (c : Nat) (k : CmdRec) (s : State) : Result := .next (s.cuveeCommand a c 4 k)
def execPause (a : Access) (c : Nat) (k : CmdRec) (s : State) : Result := .next (s.cuveeCommand a c 5 k)
def execResume (a : Access) (c : Nat) (k : CmdRec) (s : State) : Result := .next (s.cuveeCommand a c 6 k)
def execFreeze (a : Access) (c : Nat) (k : CmdRec) (s : State) : Result := .next (s.cuveeCommand a c 7 k)
def execThaw (a : Access) (c : Nat) (k : CmdRec) (s : State) : Result := .next (s.cuveeCommand a c 8 k)
def execSave (a : Access) (c : Nat) (k : CmdRec) (s : State) : Result := .next (s.cuveeCommand a c 9 k)
def execRestore (a : Access) (c : Nat) (k : CmdRec) (s : State) : Result := .next (s.cuveeCommand a c 0x0A k)
def execReset (a : Access) (c : Nat) (k : CmdRec) (s : State) : Result := .next (s.cuveeCommand a c 0x0B k)
def execRelease (a : Access) (c : Nat) (k : CmdRec) (s : State) : Result := .next (s.cuveeCommand a c 0x0C k)
def execRebind (a : Access) (c : Nat) (k : CmdRec) (s : State) : Result := .next (s.cuveeCommand a c 0x0D k)
def execCancel (a : Access) (c : Nat) (k : CmdRec) (s : State) : Result := .next (s.cuveeCommand a c 0x0E k)

def execCadenceResume (a : Access) (s : State) : Result := .next (s.codeWrite a 0x2000 9 1)
def execCadenceFreeRun (a : Access) (s : State) : Result := .next (s.codeWrite a 0x2000 9 2)
def execAdoptEpoch (a : Access) (s : State) : Result := .next (s.codeWrite a 0x2000 9 3)

def execRetrain (a : Access) (port : Nat) (s : State) : Result := .next (s.codeWrite a 0x6004 (port + 1) 1)
def execRekey (a : Access) (port : Nat) (s : State) : Result := .next (s.codeWrite a 0x6004 (port + 1) 2)
def execPortReset (a : Access) (port : Nat) (s : State) : Result := .next (s.codeWrite a 0x6004 (port + 1) 3)
def execPortEnable (a : Access) (k : Nat) (on : Bool) (s : State) : Result := .next (s.codeWrite a 0x6001 (k + 1) (b2n on))

def execTake (a : Access) (s : State) : Result := .next (s.codeWrite a 0x1001 3 1)
def execYield (a : Access) (s : State) : Result := .next (s.codeWrite a 0x1001 3 2)
def execAssignA (a : Access) (s : State) : Result := .next (s.codeWrite a 0x1001 3 3)
def execAssignB (a : Access) (s : State) : Result := .next (s.codeWrite a 0x1001 3 4)
def execStewardHeartbeat (a : Access) (v : Nat) (s : State) : Result :=
  .next (s.commandWrite a 0x1001 4 (Blob.scalar 4 v) default)

def execFlareCommand (a : Access) (group : Nat) (s : State) : Result :=
  .next (s.commandWrite a 0x6012 1 (Blob.scalar 2 group) default)

/-- LimboCommand (R346). -/
def limboRecord (c op cask : Nat) : Blob := Blob.record [(1, c), (1, op), (2, 0), (4, cask)]

def execAssign (a : Access) (c cask : Nat) (s : State) : Result :=
  .next (s.commandWrite a 0x6021 1 (limboRecord c 1 cask) default)
def execDiscard (a : Access) (c cask : Nat) (s : State) : Result :=
  .next (s.commandWrite a 0x6021 1 (limboRecord c 2 cask) default)

/-- DaybookControl of a partition (R417, R418). -/
def State.daybookCommand (s : State) (a : Access) (part code : Nat) : State :=
  s.cuveeWrite a part (0x9003, part + 1) (0x4014, 6) (Blob.scalar 1 code)

def execArm (a : Access) (part : Nat) (s : State) : Result := .next (s.daybookCommand a part 1)
def execTrigger (a : Access) (part : Nat) (s : State) : Result := .next (s.daybookCommand a part 2)
def execStop (a : Access) (part : Nat) (s : State) : Result := .next (s.daybookCommand a part 3)

/-- ResetCommand (R454, R455). -/
def resetRecord (op p : Nat) : Blob := Blob.record [(1, op), (1, p), (6, 0)]

def execParcel (a : Access) (p : Nat) (s : State) : Result :=
  .next (s.commandWrite a 0xB021 1 (resetRecord 1 p) default)
/-- DESIGN CHOICE (log 144). -/
def execEstateWarm (a : Access) (boot : BootFindings) (s : State) : Result :=
  .next (s.commandWrite a 0xB021 1 (resetRecord 2 0) { (default : Extra) with boot := boot })

/-- SessionCommand (R388, R400). -/
def sessionRecord (op id : Nat) (body : Blob) : Blob :=
  Blob.record [(1, op), (3, 0), (4, id), (body.size, body.val)]

/-- OPEN with the SESSION that the device draws. DESIGN CHOICE (log 37). -/
def State.openWith (s : State) (a : Access) (digest id : Nat) : State :=
  if id = 0 || 2 ^ 32 ≤ id || (s.sec.find id).isSome then s
  else s.commandWrite a 0xA006 1 (sessionRecord 1 0 (Blob.scalar 64 digest)) { (default : Extra) with session := id }

/-- DESIGN CHOICE (log 37). -/
def execOpenSession (a : Access) (digest session : Nat) (s : State) : Result := .next (s.openWith a digest session)
def execSessionAccept (a : Access) (blob : Blob) (verifies : Bool) (s : State) : Result :=
  .next (s.commandWrite a 0xA006 1 (sessionRecord 2 0 blob) { (default : Extra) with verifies := verifies })
def execComplete (a : Access) (blob : Blob) (verifies : Bool) (s : State) : Result :=
  .next (s.commandWrite a 0xA006 1 (sessionRecord 3 0 blob) { (default : Extra) with verifies := verifies })
def execClose (a : Access) (session : Nat) (s : State) : Result :=
  .next (s.commandWrite a 0xA006 1 (sessionRecord 4 session ⟨0, 0⟩) default)

def execFirmwareCommit (a : Access) (s : State) : Result := .next (s.codeWrite a 0xA001 3 1)
def execFlashProgram (a : Access) (slot offset : Nat) (image : Blob) (s : State) : Result :=
  .next (s.commandWrite a 0x1020 1 (Blob.record [(1, slot), (3, 0), (4, offset), (image.size, image.val)]) default)

end Sys2Proof.Machine
end

