-- ==== Sys2Proof/Machine/Image.lean ====
section
/-! DEFINITION. Machine/Image.lean: the image of a cuvee as bytes (R263–R265, R302): its sections, chunks, header and trailer; the
end of a SAVE, and what a RESTORE checks and brings in (R267–R269). -/

namespace Sys2Proof.Machine

/-! ## Sections (R264) -/

/-- Blobs one after another. -/
def Blob.join (bs : List Blob) : Blob := Blob.record (bs.map fun b => (b.size, b.val))

/-- A list of entries with its U32 count in front. DESIGN CHOICE (log 206). -/
def countedBlob (bs : List Blob) : Blob := Blob.join (⟨4, bs.length⟩ :: bs)

/-- An object with its index and size. DESIGN CHOICE (log 206). -/
def objectBlob (i : Nat) (b : Blob) : Blob := Blob.record [(2, i), (2, 0), (4, b.size), (b.size, b.val)]

/-- A job: its ring pair, position, fetch slot count, marks and 64 B entry. DESIGN CHOICE (log 206). -/
def Job.blob (j : Job) : Blob :=
  Blob.record [(2, j.pair), (2, j.sqPos), (4, b2n j.started + 2 * b2n j.late + 4 * b2n j.preempted + 8 * b2n j.cancel),
    (8, j.fetchAt), (64, j.entry.val)]

/-- CONTROL: the allotment shape with k_c, then the cuvee's objects. DESIGN CHOICE (log 206). -/
def State.controlSection (s : State) (c : Nat) : Blob :=
  let mine := objects.filter fun d => d.owner != .estate && !d.cmd && bit d.mgr 1
  let values := mine.map fun d => objectBlob d.idx (s.val d.idx (if d.owner = .cuvee0 then c + 1 else c))
  Blob.join [Blob.array 2 [(s.cvTiles c).length, (s.cvPcs c).length, s.ringPairs c, s.pageLength c],
    ⟨4, (s.cuvee c).ledger.k⟩, countedBlob values]

/-- ALMANAC: CUR_PAGE, NEXT_READY and the last FETCH_SQ fire position, both pages, held starts, held plane loads.
DESIGN CHOICE (log 206). -/
def State.almanacSection (s : State) (c : Nat) : Blob :=
  let g := s.seg c
  let rows := (List.range (2 * g.length)).map fun i => s.alm.rows.getD (g.base + i) 0
  let held := s.alm.heldStarts.filter fun e => e.1 / 256 == c
  let loads := (s.cvTiles c).zipIdx.filterMap fun e => (s.tile e.1).loadHeld.map fun i => Blob.array 2 [e.2, i]
  Blob.join [Blob.record [(1, b2n g.curPage), (1, b2n g.ready), (2, g.length), (4, b2n g.lastFetch.isSome), (8, g.lastFetch.getD 0)],
    Blob.array 16 rows, countedBlob (held.map fun e => Blob.record [(2, e.1 % 256), (2, e.2.1), (4, e.2.2.1)]), countedBlob loads]

/-- CHANNELS: link flits recorded to the markers, by port, then courier commands stopped at the cut.
DESIGN CHOICE (log 206). -/
def State.channelsSection (s : State) (c : Nat) : Blob :=
  let v := s.cuvee c
  let flits := v.holdFlits.map fun e => Blob.record [(4, e.1), (4, e.2.blob.size), (32, e.2.blob.val)]
  let remaps := v.serving.remaps.map fun r => Blob.join [Blob.record [(8, r.1), (8, r.2.1), (8, r.2.2.1)], r.2.2.2.blob]
  let fetches := v.serving.fetches.map fun f => Blob.join [Blob.record [(4, f.remote), (2, f.window), (2, f.model)], f.job.blob]
  let data := v.holdData.map fun e => Blob.record [(4, e.1), (4, 256), (256, e.2.2.blob.val)]
  Blob.join [countedBlob flits, countedBlob data, countedBlob (v.serving.outputs.map Job.blob), countedBlob remaps, countedBlob fetches]

/-- The requests fetched and not completed. -/
def Serving.jobs (v : Serving) : List Job :=
  v.waiting ++ v.streamQ.flatMap Prod.snd ++ v.stepJobs.map Prod.snd ++ v.control ++ v.newJobs ++ v.outputs ++
    v.remaps.map (fun r => r.2.2.2) ++ v.fetches.map Fetching.job ++
    v.models.flatMap fun e => e.2.seqs.map Seq.job ++ e.2.current ++ e.2.loadJob.toList

/-- RINGS: per ring pair its positions and count, the reserved slots, the completions held, and the entries in work.
DESIGN CHOICE (log 206). -/
def State.ringsSection (s : State) (c : Nat) : Blob :=
  let jobs := (s.cuvee c).serving.jobs
  Blob.join ((List.range (s.ringPairs c)).flatMap fun k =>
    let r := s.ring c k
    [Blob.record [(4, r.doorbell), (4, r.head), (2, r.sqPos), (1, r.state), (1, r.cause), (4, r.n), (4, r.reserved), (8, r.fetched)],
      countedBlob (r.ready.map fun b => ⟨34, b.val⟩),
      countedBlob ((jobs.filter fun j => j.pair == k).map fun j => ⟨64, j.entry.val⟩)])

/-- A sequence slot (R302): its request, its state (0 generating, 1 prefilling, 2 left out), entry, and tokens generated.
DESIGN CHOICE (log 206). -/
def Seq.blob (q : Seq) : Blob :=
  let state := if 0 < q.leftOut then 2 else if q.prompt.isEmpty then 0 else 1
  Blob.join [Blob.record [(8, jbRequest q.job), (2, q.job.pair), (2, q.job.sqPos), (2, jbClient q.job), (2, state), (2, q.slot),
      (2, q.done_), (4, q.cask), (4, q.pos)], q.job.blob,
    countedBlob (q.generated.map fun t => ⟨8, t⟩)]

/-- The descriptor of a text model's step held at the cut (R291), empty where none is. DESIGN CHOICE (log 206). -/
def Model.heldDescriptor (m : Model) : Blob :=
  let rs := (m.seqs.filter fun q => decide (0 < q.inStep)).map fun q =>
    (⟨q, q.inStep, q.prompt.take q.inStep, !q.prompt.isEmpty, q.sampling⟩ : BatchRec)
  if m.unsampled = 0 then ⟨0, 0⟩
  else
    let bs := descriptorHeader (m.steps + 1) rs.length (sumNat (rs.map BatchRec.count)) ++ recordBytes m rs 0
    ⟨bs.length, ofBytes bs⟩

/-- SERVING (R302), in the order of the rule. DESIGN CHOICE (log 206). -/
def State.servingSection (s : State) (c : Nat) : Blob :=
  let v := (s.cuvee c).serving
  let accounts := (List.range 1024).map fun k =>
    let a := v.accounts.getD k (0, 0, 0)
    (Blob.record [(8, a.1), (8, a.2.1), (4, a.2.2), (12, 0)]).val
  Blob.join ([⟨16, (s.val 0x7000 c).val⟩, ⟨4, s.num 0x7006 c⟩, ⟨4096, (s.val 0x7005 c).val⟩, Blob.array 32 accounts] ++
    ((List.range 16).map fun k =>
      Blob.record [(32, s.modelRecord c k), (4, ((s.model c k).map Model.placement).getD 0)]) ++
    (v.models.map fun e => countedBlob (e.2.seqs.map Seq.blob)) ++
    [countedBlob (v.waiting.map Job.blob),
      countedBlob (v.streamQ.map fun e => Blob.join [⟨4, e.1⟩, countedBlob (e.2.map Job.blob)])] ++
    v.models.map fun e => countedBlob (if e.2.recipe.kind = 1 then [e.2.heldDescriptor] else e.2.current.map Job.blob))

/-- STASH: the saved states that stand in stashes, each with its key. -/
def State.stashSection (s : State) (c : Nat) : Blob :=
  countedBlob (((s.cuvee c).serving.saved.filter fun e => e.2.stash.isSome).map fun e => Blob.join [⟨4, e.1⟩, e.2.record])

/-- MEMORY: per pseudo-channel the regions written since it was last zeroed, and their data. -/
def State.memorySection (s : State) (c : Nat) : Blob :=
  Blob.join ((s.cvPcs c).map fun k =>
    let rs := (s.pc k).written.mergeSort
    Blob.join (countedBlob (rs.map fun r => ⟨4, r⟩) ::
      rs.map fun r => ⟨65536, patchNat s.mem.hbm (hbmKey k (65536 * r)) 65536⟩))

/-- The sections of cuvee c's image before the trailer, each with its TYPE, in order. -/
def State.imageSections (s : State) (c : Nat) : List (Nat × Blob) :=
  [(1, s.controlSection c), (2, s.almanacSection c), (3, Blob.join ((s.cvTiles c).map fun t => (s.tileRecord t).record)),
    (4, s.channelsSection c), (5, s.ringsSection c), (6, s.servingSection c), (7, s.stashSection c), (8, s.memorySection c)]

/-! ## Chunks (R265) -/

/-- A section's plaintext in pieces of 1 MiB at most. -/
def chunkPieces (b : Blob) : List Blob :=
  (List.range (ceilDiv b.size 1048576)).map fun i =>
    let n := min 1048576 (b.size - 1048576 * i)
    ⟨n, b.get (1048576 * i) n⟩

/-- Every section's chunks in order: TYPE and plaintext; their place is SEQ. -/
def chunksOf (secs : List (Nat × Blob)) : List (Nat × Blob) := secs.flatMap fun e => (chunkPieces e.2).map fun b => (e.1, b)

/-- DIGEST of a chunk: CRC-64 over the plaintext, folded with SEQ. -/
def chunkDigest (seq : Nat) (b : Blob) : Nat := foldedCrc seq (toBytes b.size b.val)

/-- The 32 B header of a chunk. -/
def chunkHeader (seq ty : Nat) (b : Blob) : Blob :=
  Blob.record [(8, seq), (1, ty), (3, 0), (4, b.size), (8, chunkDigest seq b), (8, 0)]

/-- Bytes of a chunk with n bytes of plaintext: header, ciphertext and tag, padded to 64 B. -/
def chunkBytes (n : Nat) : Nat := 64 * ceilDiv (48 + n) 64

/-- A chunk as it stands in the image under the session key: the nonce is SESSION then SEQ, the associated data the chunk's
header, after the image's for chunk 0. DESIGN CHOICE (log 127). -/
def sealedChunk (key session : Nat) (head : Blob) (seq ty : Nat) (b : Blob) : Blob :=
  let h := chunkHeader seq ty b
  let aad := if seq = 0 then Blob.join [head, h] else h
  ⟨chunkBytes b.size, (Blob.record [(32, h.val), (b.size + 16, Config.gcm key (session + seq * 2 ^ 32) aad b)]).val⟩

/-- The section directory: TYPE, first chunk, bytes. -/
def sectionDirectory : List (Nat × Blob) → Nat → List Nat
  | [], _ => []
  | e :: es, k =>
    (Blob.record [(1, e.1), (3, 0), (4, k), (8, e.2.size)]).val :: sectionDirectory es (k + (chunkPieces e.2).length)

/-- IMAGE_BYTES: the header, every chunk, and the trailer's chunk. -/
def imageBytes (secs : List (Nat × Blob)) : Nat :=
  256 + sumNat ((chunksOf secs).map fun e => chunkBytes e.2.size) + chunkBytes 32

/-- The trailer's content. -/
def imageTrailer (secs : List (Nat × Blob)) : Blob :=
  let cs := chunksOf secs
  Blob.record [(8, cs.length), (8, imageBytes secs), (8, digestOfDigests (cs.zipIdx.map fun e => chunkDigest e.2 e.1.2)), (8, 0)]

/-- The 256 B header (R264); the directory names the trailer too. DESIGN CHOICE (log 127). -/
def State.imageHeader (s : State) (c : Nat) (secs : List (Nat × Blob)) : Blob :=
  let v := s.cuvee c
  Blob.record [(4, 0x49395A47), (2, 1), (2, 256), (4, s.imageSession c), (2, s.deviceId), (2, 0), (8, v.cutTime),
    (8, (chunksOf secs).length), (8, imageBytes secs), (2, (s.cvTiles c).length), (2, (s.cvPcs c).length),
    (2, s.ringPairs c), (2, s.pageLength c), (1, v.prior), (15, 0),
    (192, packList 16 (sectionDirectory (secs ++ [(0x0F, ⟨32, 0⟩)]) 0))]

/-- The key of the session that an image uses (R388). -/
def State.sessionKey (s : State) (c : Nat) : Nat :=
  ((s.sec.sessions.find? fun x => x.id == s.imageSession c).map Session.key).getD 0

/-- The whole image of cuvee c. DESIGN CHOICE (log 127). -/
def State.imageBlob (s : State) (c : Nat) : Blob :=
  let secs := s.imageSections c
  let head := s.imageHeader c secs
  Blob.join (head :: ((chunksOf secs) ++ [(0x0F, imageTrailer secs)]).zipIdx.map fun (e : (Nat × Blob) × Nat) =>
    sealedChunk (s.sessionKey c) (s.imageSession c) head e.2 e.1.1 e.1.2)

/-! ## The end of a SAVE (R243, R263) -/

/-- The image leaves for its target: written to host memory through the steward PF, or streamed over the link.
DESIGN CHOICE (log 127). -/
def State.sendImage (s : State) (c : Nat) : State :=
  let tgt := (s.val 0x301C c).val
  let b := s.imageBlob c
  if bits tgt 255 254 = 1 then s.hostWrite (portOf (bits tgt 253 252)) 0 (bits tgt 191 128) (toBytes b.size b.val)
  else s.emit (.image (bits tgt 251 240) (bits tgt 239 232) (s.imageSession c) b)

/-- The image is larger than the buffer that the target gives it. -/
def State.imageTooLarge (s : State) (c : Nat) : Bool :=
  let tgt := (s.val 0x301C c).val
  bits tgt 255 254 == 1 && decide (bits tgt 127 64 < imageBytes (s.imageSections c))

/-- IMAGE_COMPLETE (R243, R263): the image is whole and the cuvee SAVED; or the destination refused it, or its buffer is too
small. -/
def State.imageComplete (s : State) (c : Nat) (ok : Bool) : State :=
  let v := s.cuvee c
  if !v.saveActive || v.state ≠ .frozen then s
  else if ok && !s.imageTooLarge c then
    let secs := s.imageSections c
    let s := (s.sendImage c).cryptoJobs c 2 ((chunksOf secs ++ [(0x0F, imageTrailer secs)]).map fun (e : Nat × Blob) => (e.2.size, 0))
    let s := s.eraseSession (s.imageSession c)
    let s := s.updCuvee c fun v => { v with saveActive := false, state := .saved }
    s.cmdStatusIf c 9 3 0 0
  else s.endImage c 8

/-! ## RESTORE (R267–R269) -/

/-- Members of VALID interleave sets all lie in one parcel of the placement given (R188, R267). -/
def setsInParcels (sets : Blob) (pcs : List Nat) : Bool :=
  (sets.elems 8).all fun e =>
    !bit e 63 ||
      (decide (bits e 62 60 ≤ 5) && decide (bits e 8 0 + 2 ^ bits e 62 60 ≤ pcs.length) &&
        decide ((((pcs.drop (bits e 8 0)).take (2 ^ bits e 62 60)).map pcParcel).dedup.length ≤ 1))

/-- Objects that say where a cuvee stands on this device and what it is allotted here; an image brings the others.
DEDUCED (log 128). -/
def placeObjects : List Nat :=
  [0x3012, 0x3014, 0x3015, 0x3016, 0x3017, 0x3018, 0x301A, 0x301C, 0x2011, 0x5003, 0x5004, 0x5005, 0x5043, 0x30A0, 0x30A1,
    0x9001, 0x9003, 0x5044]

/-- A window table with every VALID bit cleared (R268): entries of n bytes. -/
def clearValid (n : Nat) (b : Blob) : Blob :=
  Blob.array n ((b.elems n).map fun e => e % 2 ^ (8 * n - 1))

/-- The image matches the cuvee (R267). DEDUCED (log 207). -/
def State.imageFits (s : State) (c : Nat) (img : CuveeImage) : Bool :=
  img.tiles == (s.cvTiles c).length && img.pcs == (s.cvPcs c).length && img.ringPairs == s.ringPairs c &&
    img.pageLength == s.pageLength c && (img.prior == 3 || img.prior == 4) &&
    match img.objects.find? fun e => e.1 == 0x5006 with
    | some e => setsInParcels e.2 (s.cvPcs c)
    | none => true

/-- The contents of an image come into the cuvee (R264, R268). DEDUCED (log 128). -/
def State.restoreImage (s : State) (c : Nat) (img : CuveeImage) : State :=
  let s := s.each img.objects fun s e =>
    match objAt e.1 c with
    | some d =>
      if placeObjects.contains e.1 || !(bit d.mgr 1) then s
      else match d.owner with
        | .cuvee =>
          let b := if e.1 = 0x5041 then clearValid 32 e.2 else if e.1 = 0x5042 then clearValid 32 e.2 else e.2
          s.setVal e.1 c b
        | .cuvee0 => s.setVal e.1 (c + 1) e.2
        | .estate => s
    | none => s
  let g := s.seg c
  let s := { s with alm := { s.alm with
    segs := s.alm.segs.set default c
      { img.segment with base := g.base, length := g.length, curPage := false }
    heldStarts := img.heldStarts.foldl (fun (m : Sparse (Nat × Nat × Nat)) (e : Nat × Nat × Nat × Nat) => m.insert (256 * c + e.1 % 256) e.2) s.alm.heldStarts } }
  let s := s.each img.rows.zipIdx fun s e => if e.2 < 2 * g.length then s.setRow (g.base + e.2) e.1 else s
  let s := s.each ((s.cvTiles c).zipIdx.zip img.records) fun s e => s.putRecord e.1.1 c e.1.2 e.2
  let s := s.each img.memory fun s e =>
    match (s.cvPcs c)[e.1]? with
    | some k =>
      let bs := e.2.filter fun b => decide (b.1 < pcBytes)
      (s.setHbm (bs.foldl (fun (m : List Host.Cell) (b : Nat × Byte) => writeByte m (hbmKey k b.1) b.2) s.mem.hbm)).markWritten
        k (bs.map fun b => b.1 / 65536).dedup
    | none => s
  s.updCuvee c fun v => { v with rings := img.rings, serving := img.serving, holdFlits := img.flits, holdData := img.dataFlits, cutTime := img.freezeTime }

/-- What the checks of an image's chunks and trailer find (R265, R269), beside the tags' verdict. DEDUCED (log 207). -/
def imageVerdict (v : ImageVerdict) (img : CuveeImage) : ImageVerdict :=
  match v with
  | .ok =>
    let ds := img.chunks.map Prod.snd
    if img.chunks.zipIdx.any fun e => chunkDigest e.2 e.1.1 != e.1.2 then .badDigest
    else if img.count ≠ img.chunks.length || img.trailer ≠ some (img.count, img.bytes, digestOfDigests ds) then .truncated
    else .ok
  | v => v

/-- The restore has brought everything in: FROZEN with PRIOR from the image, counters and the meter from 0 (R268). -/
def State.restored (s : State) (c : Nat) (img : CuveeImage) : State :=
  let s := s.restoreImage c img
  let s := s.eraseSession (s.imageSession c)
  let s := s.updCuvee c fun v => { v with
    restoreActive := false, state := .frozen, prior := img.prior, freezeCause := 4
    counters := List.replicate 22 0, cntShadow := List.replicate 22 0, cntMark := List.replicate 22 0
    cntFlags := v.cntFlags ||| 4
    ledger := { v.ledger with ticks := 0, due := false, sumA := 0, sumE := 0, curE := 0, mark := [], k := img.correction } }
  let s := s.meterEnd c 0 false
  let s := s.meterOpen c true
  s.cmdStatusIf c 0x0A 3 0 0

/-- RESTORE_COMPLETE (R267–R269): the cuvee becomes FROZEN with PRIOR from the image; a shape mismatch, which the header
shows, has no effect (CAUSE 5); a failed tag or digest (6) or a missing or disagreeing trailer (7) runs the reset sequence;
an unreachable source ends with CAUSE 8. -/
def State.restoreComplete (s : State) (c : Nat) (v : ImageVerdict) (img : CuveeImage) : State :=
  if !(s.cuvee c).restoreActive || (s.cuvee c).state ≠ .bound then s
  else
    let s := s.cryptoJobs c 2 (img.chunks.map fun e => (e.1.size, 0))
    match imageVerdict v img with
    | .unreachable => s.endImage c 8
    | .ok => if s.imageFits c img then s.restored c img else s.endImage c 5
    | .badDigest => if s.imageFits c img then ((s.endImage c 6).dropStaged c stConflict 2).beginReset c false else s.endImage c 5
    | .truncated => if s.imageFits c img then ((s.endImage c 7).dropStaged c stConflict 2).beginReset c false else s.endImage c 5

def execImageComplete (c : Nat) (ok : Bool) (s : State) : Result := .next (s.imageComplete c ok)
def execRestoreComplete (c : Nat) (v : ImageVerdict) (img : CuveeImage) (s : State) : Result :=
  .next (s.restoreComplete c v img)

end Sys2Proof.Machine
end

