-- ==== Sys2Proof/Machine/Security.lean ====
section
/-! DEFINITION. Machine/Security.lean: a host port's SPDM responder (R382, R383, R387), IDE key management (R384), device
interfaces (R385, R386), signed meter records (R398, R399) and the expiry of a migration session (R388). The codes of SPDM,
IDE_KM and TDISP messages are those of their standards. -/

namespace Sys2Proof.Machine

/-! ## SPDM -/

/-- An SPDM answer. PRESUMED (log 131). -/
def State.spdmSay (s : State) (p : HostPort) (code : Nat) (body : Blob) : State := s.emit (.spdm p code body)
/-- An SPDM ERROR with its code: 1 invalid request, 2 invalid session, 4 unexpected request, 6 decryption failed,
7 unsupported request, 10 session limit exceeded, 11 session required. PRESUMED (log 131). -/
def State.spdmError (s : State) (p : HostPort) (code : Nat) : State := s.spdmSay p 0x7F (Blob.scalar 1 code)
/-- An answer whose body its standard lays out alone. PRESUMED (log 131). -/
def State.spdmStandard (s : State) (p : HostPort) (code : Nat) : State :=
  ({ s with free := s.free + 1 }).spdmSay p code (Config.standardBody code s.free)

/-- The certificates of slot 0, one after another (R378). -/
def State.slotChain (s : State) : Blob := Blob.record (s.certificates.map fun b => (b.size, b.val))

/-- Measurement block k of R383: the values alone. -/
def State.measurementBlock (s : State) (k : Nat) : Blob :=
  let m := s.measurements
  if within k 1 4 then ⟨64, m.get (64 * (k - 1)) 64⟩
  else if k = 5 then ⟨32, m.get 256 32⟩
  else if k = 6 then ⟨1, m.get 288 1⟩
  else ⟨0, 0⟩

/-- A body with the alias key's signature over it and the nonce (R377, R383). -/
def State.aliasSigned (s : State) (body : Blob) (nonce : Nat) : Blob :=
  let all := Blob.record [(body.size, body.val), (32, nonce)]
  Blob.record [(all.size, all.val), (1280, aliasSign s.measurement all)]

/-- GET_MEASUREMENTS: index 0 asks for the number of blocks, 255 for all, 1–6 for one. -/
def State.measurementBody (s : State) (index : Nat) : Option Blob :=
  if index = 0 then some (Blob.scalar 1 6)
  else if index = 255 then some s.measurements
  else if within index 1 6 then some (s.measurementBlock index)
  else none

/-- The lowest session number that a port has free. DESIGN CHOICE (log 132). -/
def HostSt.freeSession (h : HostSt) : Nat :=
  (((List.range 5).map (· + 1)).filter fun n => !(h.sessions.contains n || h.handshakes.contains n)).headD 0

/-- KEY_EXCHANGE: at most four sessions at once. DESIGN CHOICE (log 132). -/
def State.keyExchange (s : State) (p : HostPort) (slot : Nat) : State :=
  let h := s.host p
  if slot ≠ 0 then s.spdmError p 1
  else if 4 ≤ h.sessions.length + h.handshakes.length then s.spdmError p 10
  else
    let n := h.freeSession
    (({ s with free := s.free + 1 }).updHost p fun h => { h with handshakes := h.handshakes ++ [n] }).spdmSay p 0x64
      (s.aliasSigned (Blob.record [(4, n), (96, Config.random s.free)]) 0)

/-- FINISH: a session between KEY_EXCHANGE and FINISH becomes active, or ends when the request does not verify.
DESIGN CHOICE (log 132). -/
def State.spdmFinish (s : State) (p : HostPort) (n : Nat) (ok : Bool) : State :=
  if !(s.host p).handshakes.contains n then s.spdmError p 2
  else if ok then
    (s.updHost p fun h => { h with handshakes := h.handshakes.filter (· != n), sessions := h.sessions ++ [n] }).spdmStandard p 0x65
  else (s.updHost p fun h => { h with handshakes := h.handshakes.filter (· != n) }).spdmError p 6

/-- A request after the algorithms are agreed. -/
def State.spdmAgreed (s : State) (p : HostPort) (m : SpdmMsg) : State :=
  match m with
  | .getDigests => s.spdmSay p 0x01 (Blob.scalar 48 (Config.sha384 s.slotChain))
  | .getCertificate slot offset length =>
    if slot ≠ 0 || s.slotChain.size < offset then s.spdmError p 1
    else
      let n := min length (s.slotChain.size - offset)
      s.spdmSay p 0x02 ⟨n, s.slotChain.get offset n⟩
  | .challenge slot nonce =>
    if slot ≠ 0 then s.spdmError p 1
    else s.spdmSay p 0x03 (s.aliasSigned (Blob.scalar 48 (Config.sha384 s.slotChain)) nonce)
  | .getMeasurements index nonce sign =>
    match s.measurementBody index with
    | none => s.spdmError p 1
    | some b => s.spdmSay p 0x60 (if sign then s.aliasSigned b nonce else b)
  | .keyExchange slot _ => s.keyExchange p slot
  | .finish n ok => s.spdmFinish p n ok
  | .heartbeat n => if (s.host p).sessions.contains n then s.spdmStandard p 0x68 else s.spdmError p 2
  | .keyUpdate n => if (s.host p).sessions.contains n then s.spdmStandard p 0x69 else s.spdmError p 2
  | _ => s.spdmError p 7

/-- An SPDM request (R382). GET_VERSION begins the exchange anew, and no session ends by it (R387). PRESUMED (log 131). -/
def State.spdm (s : State) (p : HostPort) (m : SpdmMsg) : State :=
  if !s.portOpen p then s
  else match m with
    | .getVersion => (s.updHost p fun h => { h with negotiated := false }).spdmSay p 0x04 (Blob.record [(1, 1), (2, 0x1200)])
    | .getCapabilities => s.spdmStandard p 0x61
    | .negotiateAlgorithms => (s.updHost p fun h => { h with negotiated := true }).spdmStandard p 0x63
    | .unsupported _ => s.spdmError p 7
    | m => if (s.host p).negotiated then s.spdmAgreed p m else s.spdmError p 4

/-- END_SESSION (R387): the session's keys go, and the IDE keys that were programmed in it (R384). -/
def State.endSession (s : State) (p : HostPort) (n : Nat) : State :=
  if !s.portOpen p then s
  else if !(s.host p).sessions.contains n then s.spdmError p 2
  else
    (s.updHost p fun h => { h with
      sessions := h.sessions.filter (· != n), ideKeys := h.ideKeys.filter fun e => e.2.2.1 != n }).spdmSay p 0x6C ⟨0, 0⟩

/-! ## IDE keys (R384) -/

/-- A key name of the port: the link stream or one of four selective ones, three sub-streams, two key sets. -/
def keyValid (k : IdeKey) : Bool := decide (k.stream ≤ 4) && decide (k.subStream ≤ 2) && decide (k.keySet ≤ 1)

/-- Replace a port's keys of one name. -/
def HostSt.setKey (h : HostSt) (k : IdeKey) (e : Option (Nat × Nat × Bool)) : HostSt :=
  let rest := h.ideKeys.filter fun x => x.1 != k
  { h with ideKeys := match e with
    | some v => rest ++ [(k, v)]
    | none => rest }

/-- A message of key management reaches a port; outside a secured session it is not accepted. PRESUMED (log 133). -/
def State.inSession (s : State) (p : HostPort) (n : Nat) (act : State → State) : State :=
  if !s.portOpen p then s
  else if !(s.host p).sessions.contains n then s.spdmError p 11
  else act s

/-- QUERY: the streams that the port has. PRESUMED (log 133). -/
def State.ideQuery (s : State) (p : HostPort) : State := s.emit (.ideKm p 0x01 (Blob.array 1 [1, 4]))

/-- KEY_PROG: a key is programmed, and not yet active. PRESUMED (log 133). -/
def State.ideProgram (s : State) (p : HostPort) (n : Nat) (k : IdeKey) (key : Nat) : State :=
  if keyValid k then (s.updHost p fun h => h.setKey k (some (key, n, false))).emit (.ideKm p 0x03 (Blob.scalar 1 0))
  else s.emit (.ideKm p 0x03 (Blob.scalar 1 4))

/-- The sub-stream in use takes the key set named: the other one is active no more. -/
def HostSt.goKey (h : HostSt) (k : IdeKey) : HostSt :=
  let on := fun (e : IdeKey × Nat × Nat × Bool) =>
    if e.1 = k then (e.1, e.2.1, e.2.2.1, true)
    else if e.1.stream = k.stream && e.1.subStream = k.subStream && e.1.tx = k.tx then (e.1, e.2.1, e.2.2.1, false) else e
  { h with ideKeys := h.ideKeys.map on }

/-- K_SET_GO of a programmed key. PRESUMED (log 133). -/
def State.ideGo (s : State) (p : HostPort) (k : IdeKey) : State :=
  if (s.host p).ideKeys.any fun e => e.1 == k then (s.updHost p fun h => h.goKey k).emit (.ideKm p 0x06 (Blob.scalar 1 0))
  else s.emit (.ideKm p 0x06 (Blob.scalar 1 4))

/-- K_SET_STOP: the key is erased. PRESUMED (log 133). -/
def State.ideStop (s : State) (p : HostPort) (k : IdeKey) : State :=
  (s.updHost p fun h => h.setKey k none).emit (.ideKm p 0x06 (Blob.scalar 1 0))

/-! ## Device interfaces (R385, R386) -/

/-- A TDISP answer. PRESUMED (log 134). -/
def State.tdispSay (s : State) (p : HostPort) (vf code : Nat) (body : Blob) : State := s.emit (.tdisp p vf code body)
/-- A TDISP error: 4 invalid interface state, 0x101 no such interface. PRESUMED (log 134). -/
def State.tdispError (s : State) (p : HostPort) (vf code : Nat) : State := s.tdispSay p vf 0x7F (Blob.scalar 4 code)

/-- A TDISP request of a VF: one that is bound to no cuvee is no interface. PRESUMED (log 134). -/
def State.tdisp (s : State) (p : HostPort) (vf : Nat) (act : State → Nat → State) : State :=
  if !s.portOpen p then s
  else match s.vfCuvee (.vf p vf) with
    | none => s.tdispError p vf 0x101
    | some c => act s c

/-- GET_TDISP_VERSION: 1.0. -/
def State.tdiVersion (s : State) (p : HostPort) (vf : Nat) : State := s.tdispSay p vf 0x01 (Blob.array 1 [1, 0x10])

/-- GET_TDISP_CAPABILITIES. -/
def State.tdiCapabilities (s : State) (p : HostPort) (vf : Nat) : State :=
  ({ s with free := s.free + 1 }).tdispSay p vf 0x02 (Config.standardBody 0x202 s.free)

/-- LOCK_INTERFACE. PRESUMED (log 134). -/
def State.tdiLock (s : State) (p : HostPort) (vf stream c : Nat) : State :=
  if (s.cuvee c).tdi = 0 && s.isIn c [.bound, .running, .paused] && s.sec.debug = 0 then
    (s.updCuvee c fun v => { v with tdi := 1, tdiStream := stream }).tdispSay p vf 0x03 ⟨0, 0⟩
  else s.tdispError p vf 4

/-- GET_DEVICE_INTERFACE_REPORT (R386): the VF's BAR ranges, which its configuration space holds; tiles, pseudo-channels,
ring pairs; ConfigDigest. PRESUMED (log 134). -/
def State.tdiReport (s : State) (p : HostPort) (vf c : Nat) : State :=
  ({ s with free := s.free + 1 }).tdispSay p vf 0x04 (Blob.record [(32, Config.freeNat s.free), (4, (s.cvTiles c).length),
    (4, (s.cvPcs c).length), (4, s.ringPairs c), (64, s.configDigest c)])

/-- GET_DEVICE_INTERFACE_STATE. PRESUMED (log 134). -/
def State.tdiState (s : State) (p : HostPort) (vf c : Nat) : State := s.tdispSay p vf 0x05 (Blob.scalar 1 (s.cuvee c).tdi)

/-- START_INTERFACE. -/
def State.tdiStart (s : State) (p : HostPort) (vf c : Nat) : State :=
  if (s.cuvee c).tdi = 1 then (s.updCuvee c fun v => { v with tdi := 2 }).tdispSay p vf 0x06 ⟨0, 0⟩
  else s.tdispError p vf 4

/-- STOP_INTERFACE: the reset sequence of R259, or the one in progress; its end unlocks the interface and answers.
DEDUCED (log 135). -/
def State.tdiStop (s : State) (p : HostPort) (vf c : Nat) : State :=
  let old := (s.cuvee c).tdi
  if old = 0 then s.tdispSay p vf 0x07 ⟨0, 0⟩
  else if s.isIn c [.releasing] then s.tdispError p vf 4
  else
    (s.flrCuvee c).updCuvee c fun v => { v with tdi := old, seq := v.seq.map fun q => { q with tdiReply := true } }

/-! ## Meter records (R398, R399) -/

/-- The whole record of a body that has its PREV_DIGEST: 1,536 B, the last 1,280 its signature. DEDUCED (log 136). -/
def meterSigned (body : Blob) : Blob := Blob.record [(256, body.val), (1280, identitySign ⟨256, body.val⟩)]

/-- The record in the ring of MeterTarget, when one is set: the body first, then RECORD_NO, and GEN last (R75).
DEDUCED (log 137). -/
def State.meterRing (s : State) (n : Nat) (r : Blob) : State :=
  let t := s.val 0xA007 2
  let slots := t.get 8 4
  if t.get 0 8 = 0 || slots = 0 then s
  else
    let at_ := t.get 0 8 + 2048 * (n % slots)
    let p := s.dict.steward
    ((s.hostWrite p 0 at_ (toBytes 1536 r.val)).hostWrite p 0 (at_ + 1536) (toBytes 4 n)).hostWrite p 0 (at_ + 2046)
      (toBytes 2 (genOf n slots))

/-- A record is signed and written. A CLOSING one belongs to a cuvee that is gone, so no tenant keeps it.
DEDUCED (log 136). -/
def State.meterWrite (s : State) (c : Nat) (body : Blob) : State :=
  let first := body.get 16 4 == 0
  let r := meterSigned ⟨256, (body.put 192 64 (if first then 0 else (s.cuvee c).meter.prevDigest)).val⟩
  let n := s.sec.meterWritten
  let s := { s with sec := { s.sec with
    meterLog := s.sec.meterLog.insert (n % 1024) r, meterWritten := (n + 1) % 2 ^ 32 } }
  let s := s.updCuvee c fun v => { v with meter := { v.meter with
    prevDigest := Config.shake256 r 64, own := if bit (body.get 6 2) 1 then v.meter.own else lastN 16 (v.meter.own ++ [r]) } }
  s.meterRing n r

/-- METER_RECORD_WRITE: every record that is due, in ascending cuvee order; one that closes waits for the release.
DEDUCED (log 136). -/
def State.meterRecords (s : State) : State :=
  s.each allCuvees fun s c =>
    let v := s.cuvee c
    let ready := fun (b : Blob) => !(v.state == .releasing && bit (b.get 6 2) 1)
    if v.meter.due.isEmpty then s
    else
      let s := s.each (v.meter.due.filter ready) fun s b => s.meterWrite c b
      s.updCuvee c fun v => { v with meter := { v.meter with due := v.meter.due.filter fun b => !ready b } }

/-- SESSION_EXPIRY (R388): a session that no image uses. DESIGN CHOICE (log 16). -/
def State.sessionExpiry (s : State) (id : Nat) : State :=
  if s.sec.sessions.any fun e => e.id == id && e.state == 3 then s else s.eraseSession id

def execSpdmRequest (p : HostPort) (m : SpdmMsg) (s : State) : Result := .next (s.spdm p m)
def execEndSession (p : HostPort) (session : Nat) (s : State) : Result := .next (s.endSession p session)
def execQuery (p : HostPort) (session : Nat) (s : State) : Result :=
  .next (s.inSession p session fun s => s.ideQuery p)
def execKeyProg (p : HostPort) (session : Nat) (k : IdeKey) (key : Nat) (s : State) : Result :=
  .next (s.inSession p session fun s => s.ideProgram p session k key)
def execKSetGo (p : HostPort) (session : Nat) (k : IdeKey) (s : State) : Result :=
  .next (s.inSession p session fun s => s.ideGo p k)
def execKSetStop (p : HostPort) (session : Nat) (k : IdeKey) (s : State) : Result :=
  .next (s.inSession p session fun s => s.ideStop p k)
def execGetTdispVersion (p : HostPort) (vf : Nat) (s : State) : Result := .next (s.tdisp p vf fun s _ => s.tdiVersion p vf)
def execGetTdispCapabilities (p : HostPort) (vf : Nat) (s : State) : Result :=
  .next (s.tdisp p vf fun s _ => s.tdiCapabilities p vf)
def execLockInterface (p : HostPort) (vf stream : Nat) (s : State) : Result :=
  .next (s.tdisp p vf fun s c => s.tdiLock p vf stream c)
def execGetDeviceInterfaceReport (p : HostPort) (vf : Nat) (s : State) : Result :=
  .next (s.tdisp p vf fun s c => s.tdiReport p vf c)
def execGetDeviceInterfaceState (p : HostPort) (vf : Nat) (s : State) : Result :=
  .next (s.tdisp p vf fun s c => s.tdiState p vf c)
def execStartInterface (p : HostPort) (vf : Nat) (s : State) : Result := .next (s.tdisp p vf fun s c => s.tdiStart p vf c)
def execStopInterface (p : HostPort) (vf : Nat) (s : State) : Result := .next (s.tdisp p vf fun s c => s.tdiStop p vf c)
def execMeterRecordWrite (s : State) : Result := .next s.meterRecords
def execSessionExpiry (session : Nat) (s : State) : Result := .next (s.sessionExpiry session)

end Sys2Proof.Machine
end

