-- ==== Sys2Proof/Machine/Dispatch.lean ====
section
/-! DEFINITION. Machine/Dispatch.lean: one arm per command. -/

namespace Sys2Proof.Machine

def exec (i : Instr) (s : State) : Host.Outcome State Fault Refusal :=
  match i with
  | .read a => Sys2Proof.Machine.execRead a s
  | .write a => Sys2Proof.Machine.execWrite a s
  | .stage a => Sys2Proof.Machine.execStage a s
  | .commit a => Sys2Proof.Machine.execCommit a s
  | .abort a => Sys2Proof.Machine.execAbort a s
  | .enumerate a => Sys2Proof.Machine.execEnumerate a s
  | .store a => Sys2Proof.Machine.execStore a s
  | .restoreDefaults a => Sys2Proof.Machine.execRestoreDefaults a s
  | .neighborSolicitation target => Sys2Proof.Machine.execNeighborSolicitation target s
  | .cadenceResume a => Sys2Proof.Machine.execCadenceResume a s
  | .cadenceFreeRun a => Sys2Proof.Machine.execCadenceFreeRun a s
  | .adoptEpoch a => Sys2Proof.Machine.execAdoptEpoch a s
  | .create a c k => Sys2Proof.Machine.execCreate a c k s
  | .bind a c k => Sys2Proof.Machine.execBind a c k s
  | .unbind a c k => Sys2Proof.Machine.execUnbind a c k s
  | .start a c k => Sys2Proof.Machine.execStart a c k s
  | .pause a c k => Sys2Proof.Machine.execPause a c k s
  | .resume a c k => Sys2Proof.Machine.execResume a c k s
  | .freeze a c k => Sys2Proof.Machine.execFreeze a c k s
  | .thaw a c k => Sys2Proof.Machine.execThaw a c k s
  | .save a c k => Sys2Proof.Machine.execSave a c k s
  | .restore a c k => Sys2Proof.Machine.execRestore a c k s
  | .reset a c k => Sys2Proof.Machine.execReset a c k s
  | .release a c k => Sys2Proof.Machine.execRelease a c k s
  | .rebind a c k => Sys2Proof.Machine.execRebind a c k s
  | .cancel a c k => Sys2Proof.Machine.execCancel a c k s
  | .retrain a port => Sys2Proof.Machine.execRetrain a port s
  | .rekey a port => Sys2Proof.Machine.execRekey a port s
  | .portReset a port => Sys2Proof.Machine.execPortReset a port s
  | .take a => Sys2Proof.Machine.execTake a s
  | .yield a => Sys2Proof.Machine.execYield a s
  | .assignA a => Sys2Proof.Machine.execAssignA a s
  | .assignB a => Sys2Proof.Machine.execAssignB a s
  | .stewardHeartbeat a v => Sys2Proof.Machine.execStewardHeartbeat a v s
  | .flareCommand a group => Sys2Proof.Machine.execFlareCommand a group s
  | .assign a c cask => Sys2Proof.Machine.execAssign a c cask s
  | .discard a c cask => Sys2Proof.Machine.execDiscard a c cask s
  | .arm a part => Sys2Proof.Machine.execArm a part s
  | .trigger a part => Sys2Proof.Machine.execTrigger a part s
  | .stop a part => Sys2Proof.Machine.execStop a part s
  | .parcel a p => Sys2Proof.Machine.execParcel a p s
  | .estateWarm a boot => Sys2Proof.Machine.execEstateWarm a boot s
  | .openSession a digest session => Sys2Proof.Machine.execOpenSession a digest session s
  | .sessionAccept a blob verifies => Sys2Proof.Machine.execSessionAccept a blob verifies s
  | .complete a blob verifies => Sys2Proof.Machine.execComplete a blob verifies s
  | .close a session => Sys2Proof.Machine.execClose a session s
  | .firmwareCommit a => Sys2Proof.Machine.execFirmwareCommit a s
  | .flashProgram a slot offset image => Sys2Proof.Machine.execFlashProgram a slot offset image s
  | .doorbell w => Sys2Proof.Machine.execDoorbell w s
  | .head w => Sys2Proof.Machine.execHead w s
  | .checkStart w => Sys2Proof.Machine.execCheckStart w s
  | .feedB w => Sys2Proof.Machine.execFeedB w s
  | .feedH w => Sys2Proof.Machine.execFeedH w s
  | .feedW w => Sys2Proof.Machine.execFeedW w s
  | .configurationRequest p fn reg value => Sys2Proof.Machine.execConfigurationRequest p fn reg value s
  | .flrPf p => Sys2Proof.Machine.execFlrPf p s
  | .flrVf p vf => Sys2Proof.Machine.execFlrVf p vf s
  | .perstN p asserted => Sys2Proof.Machine.execPerstN p asserted s
  | .hotReset p => Sys2Proof.Machine.execHotReset p s
  | .linkDown p => Sys2Proof.Machine.execLinkDown p s
  | .spdmRequest p m => Sys2Proof.Machine.execSpdmRequest p m s
  | .endSession p session => Sys2Proof.Machine.execEndSession p session s
  | .query p session => Sys2Proof.Machine.execQuery p session s
  | .keyProg p session k key => Sys2Proof.Machine.execKeyProg p session k key s
  | .kSetGo p session k => Sys2Proof.Machine.execKSetGo p session k s
  | .kSetStop p session k => Sys2Proof.Machine.execKSetStop p session k s
  | .getTdispVersion p vf => Sys2Proof.Machine.execGetTdispVersion p vf s
  | .getTdispCapabilities p vf => Sys2Proof.Machine.execGetTdispCapabilities p vf s
  | .lockInterface p vf stream => Sys2Proof.Machine.execLockInterface p vf stream s
  | .getDeviceInterfaceReport p vf => Sys2Proof.Machine.execGetDeviceInterfaceReport p vf s
  | .getDeviceInterfaceState p vf => Sys2Proof.Machine.execGetDeviceInterfaceState p vf s
  | .startInterface p vf => Sys2Proof.Machine.execStartInterface p vf s
  | .stopInterface p vf => Sys2Proof.Machine.execStopInterface p vf s
  | .standbyStart strap => Sys2Proof.Machine.execStandbyStart strap s
  | .standbyLost => Sys2Proof.Machine.execStandbyLost s
  | .coldBoot boot inputTenthsV => Sys2Proof.Machine.execColdBoot boot inputTenthsV s
  | .pwrEnFall => Sys2Proof.Machine.execPwrEnFall s
  | .mainInputFault => Sys2Proof.Machine.execMainInputFault s
  | .selfTestDone v => Sys2Proof.Machine.execSelfTestDone v s
  | .stackTrainingDone p r => Sys2Proof.Machine.execStackTrainingDone p r s
  | .memoryMuster => Sys2Proof.Machine.execMemoryMuster s
  | .estateReady => Sys2Proof.Machine.execEstateReady s
  | .cadenceEdge t => Sys2Proof.Machine.execCadenceEdge t s
  | .ptpMessage m => Sys2Proof.Machine.execPtpMessage m s
  | .referenceTimeout t => Sys2Proof.Machine.execReferenceTimeout t s
  | .missedBoundary => Sys2Proof.Machine.execMissedBoundary s
  | .epochBoundary => Sys2Proof.Machine.execEpochBoundary s
  | .slotFire => Sys2Proof.Machine.execSlotFire s
  | .deferLimit c idx => Sys2Proof.Machine.execDeferLimit c idx s
  | .startStep => Sys2Proof.Machine.execStartStep s
  | .loadPlane => Sys2Proof.Machine.execLoadPlane s
  | .fetchSq hostEntries => Sys2Proof.Machine.execFetchSq hostEntries s
  | .writeCq => Sys2Proof.Machine.execWriteCq s
  | .harvest => Sys2Proof.Machine.execHarvest s
  | .holiday => Sys2Proof.Machine.execHoliday s
  | .reconcile => Sys2Proof.Machine.execReconcile s
  | .nop => Sys2Proof.Machine.execNop s
  | .correctionUpdate c => Sys2Proof.Machine.execCorrectionUpdate c s
  | .heldStartIssue c g => Sys2Proof.Machine.execHeldStartIssue c g s
  | .deadlineMiss id => Sys2Proof.Machine.execDeadlineMiss id s
  | .entryBoundary t => Sys2Proof.Machine.execEntryBoundary t s
  | .entryComplete t => Sys2Proof.Machine.execEntryComplete t s
  | .planeLoadDone t => Sys2Proof.Machine.execPlaneLoadDone t s
  | .accumulatorSwap t => Sys2Proof.Machine.execAccumulatorSwap t s
  | .vectorTrigger t => Sys2Proof.Machine.execVectorTrigger t s
  | .transferIssue t => Sys2Proof.Machine.execTransferIssue t s
  | .translationWalkDone id poisoned => Sys2Proof.Machine.execTranslationWalkDone id poisoned s
  | .trellisRead p ecc latency => Sys2Proof.Machine.execTrellisRead p ecc latency s
  | .readData p v => Sys2Proof.Machine.execReadData p v s
  | .trellisWrite p v => Sys2Proof.Machine.execTrellisWrite p v s
  | .writeAddFp32 router p => Sys2Proof.Machine.execWriteAddFp32 router p s
  | .writeAddBf16 router p => Sys2Proof.Machine.execWriteAddBf16 router p s
  | .ack p => Sys2Proof.Machine.execAck p s
  | .nack p => Sys2Proof.Machine.execNack p s
  | .mcastWrite p => Sys2Proof.Machine.execMcastWrite p s
  | .statePkt p => Sys2Proof.Machine.execStatePkt p s
  | .reductionHoldExpiry router slot => Sys2Proof.Machine.execReductionHoldExpiry router slot s
  | .multicastResend t idx => Sys2Proof.Machine.execMulticastResend t idx s
  | .barArrive node barrier gen count => Sys2Proof.Machine.execBarArrive node barrier gen count s
  | .barRelease barrier gen => Sys2Proof.Machine.execBarRelease barrier gen s
  | .flagSet c flag count => Sys2Proof.Machine.execFlagSet c flag count s
  | .repairWrite pc sector => Sys2Proof.Machine.execRepairWrite pc sector s
  | .patrolScrub pc sector ecc => Sys2Proof.Machine.execPatrolScrub pc sector ecc s
  | .stackTemperatureRead p degC => Sys2Proof.Machine.execStackTemperatureRead p degC s
  | .wayCleaningDone p way => Sys2Proof.Machine.execWayCleaningDone p way s
  | .precopyPassEnd c ks => Sys2Proof.Machine.execPrecopyPassEnd c ks s
  | .quiesceStart sc => Sys2Proof.Machine.execQuiesceStart sc s
  | .cut sc => Sys2Proof.Machine.execCut sc s
  | .quiesceLimit sc => Sys2Proof.Machine.execQuiesceLimit sc s
  | .applyTick sc => Sys2Proof.Machine.execApplyTick sc s
  | .holidayComplete sc => Sys2Proof.Machine.execHolidayComplete sc s
  | .rebindMovesDone c => Sys2Proof.Machine.execRebindMovesDone c s
  | .resetSquash c => Sys2Proof.Machine.execResetSquash c s
  | .hostReadAbandon c tag => Sys2Proof.Machine.execHostReadAbandon c tag s
  | .resetComplete c => Sys2Proof.Machine.execResetComplete c s
  | .releaseComplete c => Sys2Proof.Machine.execReleaseComplete c s
  | .imageComplete c ok => Sys2Proof.Machine.execImageComplete c ok s
  | .restoreComplete c v img => Sys2Proof.Machine.execRestoreComplete c v img s
  | .clusterPowerUp cl => Sys2Proof.Machine.execClusterPowerUp cl s
  | .textSequence => Sys2Proof.Machine.execTextSequence s
  | .frame => Sys2Proof.Machine.execFrame s
  | .tensorJob => Sys2Proof.Machine.execTensorJob s
  | .controlCancel => Sys2Proof.Machine.execControlCancel s
  | .loadModel b => Sys2Proof.Machine.execLoadModel b s
  | .unloadModel => Sys2Proof.Machine.execUnloadModel s
  | .place => Sys2Proof.Machine.execPlace s
  | .prefetch hostData => Sys2Proof.Machine.execPrefetch hostData s
  | .advise => Sys2Proof.Machine.execAdvise s
  | .bottleLoadDone c model b => Sys2Proof.Machine.execBottleLoadDone c model b s
  | .stepComplete c model cands prompts => Sys2Proof.Machine.execStepComplete c model cands prompts s
  | .stavesExhausted c model => Sys2Proof.Machine.execStavesExhausted c model s
  | .pageClose c => Sys2Proof.Machine.execPageClose c s
  | .outputCopyDone c => Sys2Proof.Machine.execOutputCopyDone c s
  | .switchDone c g => Sys2Proof.Machine.execSwitchDone c g s
  | .preemptedResume c g => Sys2Proof.Machine.execPreemptedResume c g s
  | .caskOffer => Sys2Proof.Machine.execCaskOffer s
  | .caskFetch => Sys2Proof.Machine.execCaskFetch s
  | .caskFree => Sys2Proof.Machine.execCaskFree s
  | .portEnable a k on => Sys2Proof.Machine.execPortEnable a k on s
  | .signalLoss k => Sys2Proof.Machine.execSignalLoss k s
  | .trainingDone k lanesGood => Sys2Proof.Machine.execTrainingDone k lanesGood s
  | .laneFailure k lane => Sys2Proof.Machine.execLaneFailure k lane s
  | .flitReceive k f => Sys2Proof.Machine.execFlitReceive k f s
  | .key k m => Sys2Proof.Machine.execKey k m s
  | .rekeyDue k => Sys2Proof.Machine.execRekeyDue k s
  | .request k m => Sys2Proof.Machine.execRequest k m s
  | .done k m => Sys2Proof.Machine.execDone k m s
  | .time k m arrival => Sys2Proof.Machine.execTime k m arrival s
  | .timeSend k => Sys2Proof.Machine.execTimeSend k s
  | .barrier k m => Sys2Proof.Machine.execBarrier k m s
  | .linkHolidayMark k m => Sys2Proof.Machine.execLinkHolidayMark k m s
  | .squash k m => Sys2Proof.Machine.execSquash k m s
  | .flare k m => Sys2Proof.Machine.execFlare k m s
  | .offer k m => Sys2Proof.Machine.execOffer k m s
  | .accept k m => Sys2Proof.Machine.execAccept k m s
  | .decline k m => Sys2Proof.Machine.execDecline k m s
  | .caskRelease k m => Sys2Proof.Machine.execCaskRelease k m s
  | .caskQuery k m => Sys2Proof.Machine.execCaskQuery k m s
  | .answer k m => Sys2Proof.Machine.execAnswer k m s
  | .fetch k m => Sys2Proof.Machine.execFetch k m s
  | .transferClose k xtag => Sys2Proof.Machine.execTransferClose k xtag s
  | .transferTimeout k xtag => Sys2Proof.Machine.execTransferTimeout k xtag s
  | .offerTimeout c cask => Sys2Proof.Machine.execOfferTimeout c cask s
  | .acceptTimer c cask => Sys2Proof.Machine.execAcceptTimer c cask s
  | .fetchTimeout c reqId => Sys2Proof.Machine.execFetchTimeout c reqId s
  | .powerSample milliW avg1ms tenthsV => Sys2Proof.Machine.execPowerSample milliW avg1ms tenthsV s
  | .dieSensorRead degC => Sys2Proof.Machine.execDieSensorRead degC s
  | .clockStep => Sys2Proof.Machine.execClockStep s
  | .phiStep t waiting slope => Sys2Proof.Machine.execPhiStep t waiting slope s
  | .observationWindowEnd => Sys2Proof.Machine.execObservationWindowEnd s
  | .harvestRecordWrite => Sys2Proof.Machine.execHarvestRecordWrite s
  | .meterRecordWrite => Sys2Proof.Machine.execMeterRecordWrite s
  | .sessionExpiry session => Sys2Proof.Machine.execSessionExpiry session s
  | .hangDeadline id => Sys2Proof.Machine.execHangDeadline id s
  | .hangStall t => Sys2Proof.Machine.execHangStall t s
  | .hangWatchdog c => Sys2Proof.Machine.execHangWatchdog c s
  | .sharedEngineFault e => Sys2Proof.Machine.execSharedEngineFault e s
  | .replayDone e o => Sys2Proof.Machine.execReplayDone e o s
  | .replayLimit e => Sys2Proof.Machine.execReplayLimit e s
  | .estateFatal source => Sys2Proof.Machine.execEstateFatal source s
  | .parcelResetDone p badTiles r => Sys2Proof.Machine.execParcelResetDone p badTiles r s
  | .signalDetect k => Sys2Proof.Machine.execSignalDetect k s
  | .pcieLinkUp p => Sys2Proof.Machine.execPcieLinkUp p s
  | .mainInputInRange => Sys2Proof.Machine.execMainInputInRange s
  | .nextPageComplete c rows => Sys2Proof.Machine.execNextPageComplete c rows s
  | .poolReturn isTile unit scrubOk => Sys2Proof.Machine.execPoolReturn isTile unit scrubOk s
  | .hostCompletion p tag data => Sys2Proof.Machine.execHostCompletion p tag data s
  | .flashWriteDone ok => Sys2Proof.Machine.execFlashWriteDone ok s
  | .plcaBeacon present => Sys2Proof.Machine.execPlcaBeacon present s
  | .controlFlitSend k => Sys2Proof.Machine.execControlFlitSend k s

end Sys2Proof.Machine
end

