-- ==== Sys2Proof/Safety.lean ====
section
/-! DEFINITION. Safety.lean: the terms that claims about the block use: that a request is heard and answered, that memory
is in canonical form, what a command leaves alone. -/

namespace Sys2Proof.Machine

/-- REQ_GEN of a request that comes by a window. -/
def reqGen (a : Access) : Nat := match a.via with | .window g _ _ => g | _ => 0

/-- A header with nothing in it but what it names: FLAGS, OFFSET, EPOCH and reserved 0, TYPE 255, a tag that fits (R464). -/
def plainHeader (a : Access) : Bool :=
  a.flags == 0 && a.ty == 255 && a.offset == 0 && a.epoch == 0 && a.reserved == 0 && decide (a.tag < 2 ^ 16)

/-- The path is a host function's. -/
def hostPath : Path → Bool
  | .sideband _ => false
  | _ => true

/-- A plain request by a host window is heard: the port carries it, the window waits for one, REQ_GEN is written whole and
changes it (R478), the estate serves requests (R488), and no fragments of another write wait (R469). -/
def State.hears (s : State) (a : Access) : Bool :=
  a.via == .window (reqGen a) 4 true && hostPath a.path && s.reaches a.path && (s.window a.path).inFlight == none &&
    decide (reqGen a < 2 ^ 32) && reqGen a != (s.window a.path).respGen && plainHeader a && s.faults.estateState != 3 &&
    (s.asmOf a.path).isNone

/-- The state with the request of a heard access in its window's areas. -/
def State.filled (s : State) (a : Access) (op : Nat) : State :=
  s.setWindow a.path { s.window a.path with
    reqArea := (accessReq a op (reqGen a)).header
    reqData := ⟨65536, ((s.window a.path).reqData.put 0 (carried op a.length a.data).size (carried op a.length a.data).val).val⟩
    reqGen := reqGen a, inFlight := some (reqGen a) }

/-- The window of the request holds its answer, with this status. -/
def State.answered (t : State) (a : Access) (status : Nat) : Bool :=
  (t.window a.path).respGen == reqGen a &&
    match (t.window a.path).response with
    | some y => y.status == status && y.tag == a.tag
    | none => false

/-- The frame of a request by the side-band. -/
def wizorOf (a : Access) : WizorFrame := match a.via with | .wizor f => f | _ => default
/-- The source address of a request by the side-band. -/
def wizorSource (a : Access) : Nat := match a.path with | .sideband n => n | _ => 0

/-- A plain request by the side-band is heard: a well-formed Wizor frame for this node, without AUTH as no SidebandKey is
set, which is no repeat (R484–R486). -/
def State.hearsSide (s : State) (a : Access) : Bool :=
  a.via == .wizor (wizorOf a) && a.path == .sideband (wizorSource a) && s.boot.standby && s.sideKey == none &&
    (wizorOf a).magic == 0x52573947 && (wizorOf a).version == 1 && (wizorOf a).node == s.side.node && (wizorOf a).flags == 0 &&
    (wizorOf a).lengthOk && !(s.side.kept.any fun e => e.1 == wizorSource a && e.2.1 == (wizorOf a).seq) && plainHeader a &&
    s.faults.estateState != 3 && (s.asmOf a.path).isNone

/-- The latest thing the device sent is the Wizor response to the request, with this status. -/
def State.answeredSide (t : State) (a : Access) (status : Nat) : Bool :=
  match t.out.head? with
  | some (.wizor src seq y _) => src == wizorSource a && seq == (wizorOf a).seq && y.status == status && y.tag == a.tag
  | _ => false

/-- Steps 5 to 11 of R468 pass for a write of a whole value to an object of the estate's classes. -/
def State.accepts (s : State) (acc : Acc) (i sub : Nat) (b : Blob) (x : Extra) : Bool :=
  match objAt i sub with
  | none => false
  | some d =>
    bit (d.rights acc) 1 && sizeOk (s.view acc [⟨i, sub, b⟩]) d sub b && !s.valueDenied acc i sub b &&
      s.valueStatus acc [] d ⟨i, sub, b⟩ x == stOk

/-- Both memories of bytes are in canonical form. -/
def State.memoryWf (s : State) : Prop := Memory.wf s.mem.hbm = true ∧ Memory.wf s.mem.store = true

/-- The newest completion that waits on the request's ring pair is this request's, with this RESULT (R283). -/
def State.completed (t : State) (c : Nat) (j : Job) (result : Nat) : Prop :=
  ∃ b, (t.ring c j.pair).ready.getLast? = some b ∧ b.get 0 8 = jbRequest j ∧ b.get 9 1 = result

/-- The module input's voltage, in tenths of a volt, is inside the absolute ratings of R512. -/
def withinRatings (tenthsV : Int) : Bool := decide (-5 ≤ tenthsV) && decide (tenthsV ≤ 650)

end Sys2Proof.Machine
end

