-- ==== Sys2Proof/Certificates/Slice0/Obligations.lean ====
section
/-! DEFINITION. Certificates/Slice0/Obligations.lean: what the spec's rules say the block does, as statements to be proved. -/

open Sys2Proof Sys2Proof.Machine

/-! ## Dictionary requests and command objects (chapters 2, 8, 10, 14, 15) -/

/-- R246, R247 and R249 for every command of a cuvee: a legal record that the manager's window brings is staged, alone, and
returns STAGED; CommandStatus names it, and its SEQ counts it.

R247: each cuvee holds one staged command at a time, and a further write returns BUSY and changes nothing of it.
Where the manual is silent or open it rests on the model's reading or choice: logs 121, 162. -/
def Obligations.CuveeCommandsAreStagedOneAtATime : Prop :=
  (∀ (s : State) (a : Access) (c : Nat) (k : CmdRec) (f : Access → Nat → CmdRec → Instr) (code : Nat),
    (f, code) ∈ [(Instr.create, 1), (Instr.bind, 2), (Instr.unbind, 3), (Instr.start, 4), (Instr.pause, 5), (Instr.resume, 6),
      (Instr.freeze, 7), (Instr.thaw, 8), (Instr.save, 9), (Instr.restore, 10), (Instr.reset, 11), (Instr.release, 12),
      (Instr.rebind, 13), (Instr.cancel, 14)] →
    s.hears a = true → a.path = .pf s.dict.steward → 1 ≤ c → c ≤ 254 → s.recordStatus code k = 0 →
    s.commandStatus .manager c code k.arg = (0, false) → (s.cuvee c).staged = none →
    ∃ t, exec (f a c k) s = .next t ∧ t.answered a 9 = true ∧
      (∃ st, (t.cuvee c).staged = some st ∧ st.code = code ∧ st.cmd = k ∧ st.due = s.time.epochs + 1 ∧ st.by_ = .manager) ∧
      (t.cuvee c).status.code = code ∧ (t.cuvee c).status.phase = 1 ∧
      (t.cuvee c).status.seq = ((s.cuvee c).status.seq + 1) % 2 ^ 32) ∧
  (∀ (s : State) (a : Access) (c : Nat) (k : CmdRec) (st : Staged), s.hears a = true → a.path = .pf s.dict.steward →
    1 ≤ c → c ≤ 254 → s.recordStatus 5 k = 0 → s.legal c 5 = true → (s.cuvee c).staged = some st →
    ∃ t, exec (.pause a c k) s = .next t ∧ t.answered a 8 = true ∧ t.cuvees = s.cuvees)

/-- R50: a CadenceCommand that is accepted waits for the next epoch boundary. -/
def Obligations.CadenceCommandsWaitForTheBoundary : Prop :=
  ∀ (s : State) (a : Access) (f : Access → Instr) (code : Nat),
    (f, code) ∈ [(Instr.cadenceResume, 1), (Instr.cadenceFreeRun, 2), (Instr.adoptEpoch, 3)] →
    s.hears a = true → a.path = .pf s.dict.steward → s.cadenceCommandOk code = true →
    (s.dict.pend.filter fun p => !p.commit).length < 4096 →
    ∃ (t : State) (p : Pending), exec (f a) s = .next t ∧ t.answered a 9 = true ∧ t.dict.pend = s.dict.pend ++ [p] ∧ p.cls = .manager ∧
      p.commit = false ∧ p.writes = [⟨0x2000, 9, Blob.scalar 1 code⟩] ∧ p.due = s.nextDue ∧ t.cad = s.cad ∧ t.time = s.time

/-- R462: the steward role moves on the cycle on which StewardCommand is served: TAKE by the deputy while the holder's port
has PERST_N asserted or its link down, YIELD by the manager to a port that is present, ASSIGN_A and ASSIGN_B by the side-band
to a port that is present; the former manager's staging set is discarded. StewardHeartbeat restarts the count.

R462: a TAKE while the holder's port is up and the heartbeat is in time returns STATE_CONFLICT, and the role stays. -/
def Obligations.StewardRole : Prop :=
  ((∀ (s : State) (a : Access), s.hears a = true → a.path = .pf (otherPort s.dict.steward) →
    ((s.host s.dict.steward).perst = true ∨ (s.host s.dict.steward).linkUp = false) →
    ∃ t, exec (.take a) s = .next t ∧ t.answered a 0 = true ∧ t.dict.steward = otherPort s.dict.steward ∧
      t.staging .manager = []) ∧
  (∀ (s : State) (a : Access), s.hears a = true → a.path = .pf s.dict.steward →
    bit s.muster.hosts (portNo (otherPort s.dict.steward)) = true →
    ∃ t, exec (.yield a) s = .next t ∧ t.answered a 0 = true ∧ t.dict.steward = otherPort s.dict.steward ∧
      t.staging .manager = []) ∧
  (∀ (s : State) (a : Access), s.hearsSide a = true → bit s.muster.hosts 0 = true →
    ∃ t, exec (.assignA a) s = .next t ∧ t.answeredSide a 0 = true ∧ t.dict.steward = .a) ∧
  (∀ (s : State) (a : Access), s.hearsSide a = true → bit s.muster.hosts 1 = true →
    ∃ t, exec (.assignB a) s = .next t ∧ t.answeredSide a 0 = true ∧ t.dict.steward = .b) ∧
  (∀ (s : State) (a : Access) (v : Nat), s.hears a = true → a.path = .pf s.dict.steward →
    ∃ t, exec (.stewardHeartbeat a v) s = .next t ∧ t.answered a 0 = true ∧ t.dict.beatFrom = s.time.now ∧
      t.dict.steward = s.dict.steward)) ∧
  (∀ (s : State) (a : Access), s.hears a = true → a.path = .pf (otherPort s.dict.steward) →
    (s.host s.dict.steward).perst = false → (s.host s.dict.steward).linkUp = true →
    (s.num 0x1001 5 = 0 ∨ s.time.now < s.dict.beatFrom + (s.num 0x1001 5 : Nat)) →
    ∃ t, exec (.take a) s = .next t ∧ t.answered a 6 = true ∧ t.dict.steward = s.dict.steward)

/-- FlareCommand puts a FLARE on every UP port (R347); LimboCommand's ASSIGN makes the cask OWNED at VINTAGE + 1, and DISCARD
frees it (R346). -/
def Obligations.FlareAndLimboCommandsAct : Prop :=
  (∀ (s : State) (a : Access) (g c : Nat), s.hears a = true → a.path = .pf s.dict.steward → g < 2 ^ 16 →
    s.groupCuvee g = some c →
    ∃ t, exec (.flareCommand a g) s = .next t ∧ t.answered a 0 = true ∧
      ∀ k ∈ s.upPorts, ∃ m ∈ (t.port k).ctl, ∃ h, m = .flare h ∧ h.group = g ∧ h.origin = s.deviceId) ∧
  (∀ (s : State) (a : Access) (c id : Nat) (x : Cask), s.hears a = true → a.path = .pf s.dict.steward → 1 ≤ c → c ≤ 254 →
    id < 2 ^ 32 → s.cask c id = some x → x.state = 5 →
    (∃ (t : State) (y : Cask), exec (.assign a c id) s = .next t ∧ t.answered a 0 = true ∧ t.cask c id = some y ∧ y.state = 1 ∧
      y.vintage = x.vintage + 1) ∧
    (∃ t, exec (.discard a c id) s = .next t ∧ t.answered a 0 = true ∧ t.cask c id = none))

/-- DaybookControl (R417, R418): ARM empties the partition and arms it unless its mode is OFF, TRIGGER of an armed TRIGGERED
partition whose sources name it makes it POST or, when nothing is to follow, STOPPED, and STOP stops it. -/
def Obligations.DaybookCommandsAct : Prop :=
  ∀ (s : State) (a : Access) (c : Nat), s.hears a = true → a.path = .pf s.dict.steward → 1 ≤ c → c ≤ 254 →
    (s.cuvee c).state ≠ .none →
    ((s.book c).state = 3 → s.bookMode c ≠ 0 →
      ∃ t, exec (.arm a c) s = .next t ∧ t.answered a 0 = true ∧ (t.book c).state = 1 ∧ (t.book c).recs = [] ∧
        (t.book c).lost = 0) ∧
    ((s.book c).state = 1 → s.bookMode c = 3 → bit (s.bookTriggers c) 0 = true → 1 < s.bookPositions c →
      ∃ t, exec (.trigger a c) s = .next t ∧ t.answered a 0 = true ∧ ((t.book c).state = 2 ∨ (t.book c).state = 3) ∧
        (t.book c).trigPos = (s.book c).next % (s.bookPositions c - 1)) ∧
    ((s.book c).state = 1 →
      ∃ t, exec (.stop a c) s = .next t ∧ t.answered a 0 = true ∧ (t.book c).state = 3 ∧ (t.book c).recs = (s.book c).recs)

/-- ResetCommand (R454): PARCEL of a parcel that no cuvee beyond DEFINED holds, and that is not the estate's, begins and takes
its units out of the pool; ESTATE_WARM loses every cuvee.
Where the manual is silent or open it rests on the model's reading or choice: log 139. -/
def Obligations.ResetCommandsBegin : Prop :=
  (∀ (s : State) (a : Access) (p : Nat), s.hears a = true → a.path = .pf s.dict.steward → p < 16 → s.parcelHeld p = false →
    (s.obs.estate.any fun k => pcParcel k == p) = false → s.faults.resetPhase ≠ 1 →
    ∃ t, exec (.parcel a p) s = .next t ∧ t.answered a 0 = true ∧ t.faults.resetOp = 1 ∧ t.faults.resetPhase = 1 ∧
      t.faults.resetParcel = p ∧ ∀ u ∈ s.parcelUnits p, u ∈ t.dict.scrubbing) ∧
  (∀ (s : State) (a : Access) (boot : BootFindings), s.hears a = true → a.path = .pf s.dict.steward → s.faults.resetPhase ≠ 1 →
    ∃ t, exec (.estateWarm a boot) s = .next t ∧ t.answered a 0 = true ∧ t.faults.resetOp = 2 ∧ t.faults.resetPhase = 1 ∧
      t.faults.estateState = 3 ∧ t.cuvees = [] ∧ t.boot.findings = some boot)

/-- FirmwareCommit raises each rollback counter to the SVN of the component that runs, and lowers none (R380); FlashProgram at
OFFSET 0 erases the slot, which its answer waits for (R489).

SessionCommand (R388): OPEN adds an OFFERED session under the SESSION drawn, ACCEPT and COMPLETE of a blob that passes
their checks make a READY one, CLOSE erases one.

R398, R399: every record that is due, but a CLOSING one of a release under way, is signed, written to MeterLog and counted;
R388: a session that expires while no image uses it is erased.
Where the manual is silent or open it rests on the model's reading or choice: logs 37, 136. -/
def Obligations.FirmwareSessionsAndMeters : Prop :=
  ((∀ (s : State) (a : Access), s.hears a = true → a.path = .pf s.dict.steward → s.sec.booted ≠ 255 →
    ∃ t, exec (.firmwareCommit a) s = .next t ∧ t.answered a 0 = true ∧
      t.flash.rollback.length = s.flash.rollback.length ∧
      ∀ i < s.flash.rollback.length,
        t.flash.rollback.getD i 0 = max (s.flash.rollback.getD i 0) (s.svnOf s.sec.booted (i + 1))) ∧
  (∀ (s : State) (a : Access) (slot : Nat) (image : Blob), s.hears a = true → a.path = .pf s.dict.steward → slot < 2 →
    slot ≠ s.sec.booted → s.sec.booted ≠ 255 → s.flash.job = none → image.size ≤ 65528 → image.val < 2 ^ (8 * image.size) →
    s.accepts .manager 0x1020 1 (Blob.record [(1, slot), (3, 0), (4, 0), (image.size, image.val)]) default = true →
    ∃ t, exec (.flashProgram a slot 0 image) s = .next t ∧ t.flash.progSlot = slot ∧ t.flash.progState = 1 ∧
      t.flash.progBytes = image.size ∧ t.flash.job.isSome = true ∧ (t.window a.path).respGen = (s.window a.path).respGen)) ∧
  ((∀ (s : State) (a : Access) (digest id : Nat), s.hears a = true → a.path = .pf s.dict.steward → 0 < id → id < 2 ^ 32 →
    s.sec.find id = none → s.sec.sessions.length < 16 →
    ∃ (t : State) (e : Session), exec (.openSession a digest id) s = .next t ∧ t.answered a 0 = true ∧ t.sec.sessions = s.sec.sessions ++ [e] ∧
      e.id = id ∧ e.state = 1 ∧ e.role = 1) ∧
  (∀ (s : State) (a : Access) (b : Blob), s.hears a = true → a.path = .pf s.dict.steward → b.size ≤ 8184 →
    b.val < 2 ^ (8 * b.size) → (s.chkSession (sessionRecord 2 0 b) { (default : Extra) with verifies := true }).code = 0 →
    ∃ (t : State) (e : Session), exec (.sessionAccept a b true) s = .next t ∧ t.answered a 0 = true ∧ t.sec.sessions = s.sec.sessions ++ [e] ∧
      e.id = blobId (sessionRecord 2 0 b) ∧ e.state = 2 ∧ e.role = 2) ∧
  (∀ (s : State) (a : Access) (b : Blob), s.hears a = true → a.path = .pf s.dict.steward → b.size ≤ 8184 →
    b.val < 2 ^ (8 * b.size) → (s.chkSession (sessionRecord 3 0 b) { (default : Extra) with verifies := true }).code = 0 →
    ∃ t, exec (.complete a b true) s = .next t ∧ t.answered a 0 = true ∧
      ∀ e ∈ t.sec.sessions, e.id = blobId (sessionRecord 3 0 b) → e.state = 2) ∧
  (∀ (s : State) (a : Access) (id : Nat), s.hears a = true → a.path = .pf s.dict.steward → id < 2 ^ 32 →
    (s.sec.find id).isSome = true →
    ∃ t, exec (.close a id) s = .next t ∧ t.answered a 0 = true ∧ t.sec.sessions = s.sec.sessions.filter fun e => e.id != id)) ∧
  ((∀ (s : State) (c : Nat) (b : Blob), 1 ≤ c → c ≤ 254 → (∀ d, d ≠ c → (s.cuvee d).meter.due = []) →
    (s.cuvee c).meter.due = [b] → (s.cuvee c).state ≠ .releasing →
    ∃ (t : State) (r : Blob), exec .meterRecordWrite s = .next t ∧ (t.cuvee c).meter.due = [] ∧
      t.sec.meterWritten = (s.sec.meterWritten + 1) % 2 ^ 32 ∧ t.sec.meterLog.find (s.sec.meterWritten % 1024) = some r ∧
      (t.cuvee c).meter.prevDigest = Config.shake256 r 64) ∧
  (∀ (s : State) (id : Nat), (s.sec.sessions.any fun e => e.id == id && e.state == 3) = false →
    exec (.sessionExpiry id) s =
      .next { s with sec := { s.sec with sessions := s.sec.sessions.filter fun x => x.id != id } }))

/-- READ by the manager (R463, R465, R469): the object's bytes, up to LENGTH, or the path's limit for LENGTH 0.
Where the manual is silent or open it rests on the model's reading or choice: log 22. -/
def Obligations.ReadReturnsTheValue : Prop :=
  ∀ (s : State) (a : Access) (d : ObjDesc), s.hears a = true → a.path = .pf s.dict.steward → a.index < 2 ^ 16 → a.sub < 2 ^ 8 →
    a.length ≤ 65536 → objAt a.index a.sub = some d → bit d.mgr 0 = true →
    ∃ (t : State) (y : Response), exec (.read a) s = .next t ∧ t.answered a 0 = true ∧ (t.window a.path).response = some y ∧
      y.ty = d.ty.code ∧ y.index = a.index ∧ y.sub = a.sub ∧ y.total = ((s.filled a 1).objValue .manager a.index a.sub).size % 2 ^ 32 ∧
      y.length = min (if a.length = 0 then 65536 else a.length) ((s.filled a 1).objValue .manager a.index a.sub).size ∧
      y.data.val = ((s.filled a 1).objValue .manager a.index a.sub).get 0 y.length ∧
      t.dict.vals = s.dict.vals ∧ t.cuvees = s.cuvees

/-- WRITE and STAGE (R470, R471): an accepted WRITE of an Epoch object waits for the boundary and returns STAGED, and its value
in force stands until then; an accepted STAGE joins the class's set and returns OK.

R471: COMMIT turns the set into one pending commit and returns STAGED, and beyond eight of them BUSY; a COMMIT with an empty
set returns STATE_CONFLICT; ABORT of 0x0000:00 discards the set. -/
def Obligations.WritesAndSets : Prop :=
  ((∀ (s : State) (a : Access) (d : ObjDesc), s.hears a = true → a.path = .pf s.dict.steward → a.index < 2 ^ 16 → a.sub < 2 ^ 8 →
    a.length ≤ 65536 → a.data.size = a.length → a.data.val < 2 ^ (8 * a.length) → objAt a.index a.sub = some d → d.epoch = true →
    a.index ≠ 0x3012 → a.index ≠ 0x2003 → s.accepts .manager a.index a.sub a.data s.freeExtra = true →
    (s.dict.pend.filter fun p => !p.commit).length < 4096 →
    ∃ (t : State) (p : Pending), exec (.write a) s = .next t ∧ t.answered a 9 = true ∧ t.dict.pend = s.dict.pend ++ [p] ∧ p.commit = false ∧
      p.cls = .manager ∧ p.writes = [⟨a.index, a.sub, a.data⟩] ∧ p.due = s.nextDue ∧ t.val a.index a.sub = s.val a.index a.sub) ∧
  (∀ (s : State) (a : Access) (d : ObjDesc), s.hears a = true → a.path = .pf s.dict.steward → a.index < 2 ^ 16 → a.sub < 2 ^ 8 →
    a.length ≤ 65536 → a.data.size = a.length → a.data.val < 2 ^ (8 * a.length) → objAt a.index a.sub = some d → d.cmd = false →
    s.accepts .manager a.index a.sub a.data default = true → (s.staging .manager).length < 256 →
    sumNat ((s.staging .manager).map fun w => w.data.size) + a.length ≤ 65536 →
    ∃ t, exec (.stage a) s = .next t ∧ t.answered a 0 = true ∧
      t.staging .manager = ((s.staging .manager).filter fun w => !w.same a.index a.sub) ++ [⟨a.index, a.sub, a.data⟩] ∧
      t.dict.pend = s.dict.pend)) ∧
  ((∀ (s : State) (a : Access), s.hears a = true → a.path = .pf s.dict.steward → a.index = 0 → a.sub = 0 → a.length = 0 →
    s.staging .manager ≠ [] → (s.dict.pend.filter fun p => p.cls == .manager && p.commit).length < 8 →
    ∃ (t : State) (p : Pending), exec (.commit a) s = .next t ∧ t.answered a 9 = true ∧ t.dict.pend = s.dict.pend ++ [p] ∧ p.commit = true ∧
      p.cls = .manager ∧ p.writes = s.staging .manager ∧ p.named = none ∧ p.due = s.nextDue ∧ t.staging .manager = []) ∧
  (∀ (s : State) (a : Access), s.hears a = true → a.path = .pf s.dict.steward → a.index = 0 → a.sub = 0 → a.length = 0 →
    s.staging .manager = [] →
    ∃ t, exec (.commit a) s = .next t ∧ t.answered a 6 = true ∧ t.dict.pend = s.dict.pend) ∧
  (∀ (s : State) (a : Access), s.hears a = true → a.path = .pf s.dict.steward → a.index = 0 → a.sub = 0 → a.length = 0 →
    s.staging .manager ≠ [] → 8 ≤ (s.dict.pend.filter fun p => p.cls == .manager && p.commit).length →
    ∃ t, exec (.commit a) s = .next t ∧ t.answered a 8 = true ∧ t.dict.pend = s.dict.pend ∧
      t.staging .manager = s.staging .manager) ∧
  (∀ (s : State) (a : Access), s.hears a = true → a.path = .pf s.dict.steward → a.index = 0 → a.sub = 0 → a.length = 0 →
    s.staging .manager ≠ [] →
    ∃ t, exec (.abort a) s = .next t ∧ t.answered a 0 = true ∧ t.staging .manager = [] ∧ t.dict.pend = s.dict.pend))

/-- ENUMERATE answers with the directory from an address on (R466); STORE and RESTORE_DEFAULTS begin flash work, which their
answer waits for, and one that comes meanwhile returns BUSY (R476); NEIGHBOR_SOLICITATION for the device's own address is
answered (R482).

FLASH_WRITE_DONE of a STORE (R476): the record is in a copy with the next count, STORES counts it, and the answer that
waited comes to its window.
Where the manual is silent or open it rests on the model's reading or choice: log 23. -/
def Obligations.DirectoryAndStore : Prop :=
  ((∀ (s : State) (a : Access), s.hears a = true → a.path = .pf s.dict.steward → a.index < 2 ^ 16 → a.sub < 2 ^ 8 →
    a.length ≤ 65536 →
    ∃ (t : State) (y : Response), exec (.enumerate a) s = .next t ∧ t.answered a 0 = true ∧ (t.window a.path).response = some y ∧
      y.total = (16 * ((s.directory .manager).filter fun e => objKey a.index a.sub ≤ e.1).length) % 2 ^ 32 ∧ t.dict.vals = s.dict.vals) ∧
  (∀ (s : State) (a : Access) (f : Access → Instr), f = Instr.store ∨ f = Instr.restoreDefaults → s.hears a = true →
    a.path = .pf s.dict.steward → a.index = 0 → a.sub = 0 → a.length = 0 →
    (s.flash.job = none →
      ∃ t, exec (f a) s = .next t ∧ t.flash.job.isSome = true ∧ t.flash.storeState = 1 ∧
        (t.window a.path).inFlight = some (reqGen a) ∧ (t.window a.path).respGen = (s.window a.path).respGen) ∧
    (s.flash.job.isSome = true → ∃ t, exec (f a) s = .next t ∧ t.answered a 8 = true ∧ t.flash = s.flash)) ∧
  (∀ (s : State), s.boot.standby = true →
    exec (.neighborSolicitation (0xFE80 * 2 ^ 112 + 0x00475AFFFE390000 + s.side.node)) s =
      .next { s with out := .neighbour (0xFE80 * 2 ^ 112 + 0x00475AFFFE390000 + s.side.node) :: s.out })) ∧
  (∀ (s : State) (p : HostPort) (gen : Nat) (y : Response) (ws : List ObjWrite),
    s.flash.job = some (.store (.pf p) gen y ws) → (s.window (.pf p)).inFlight = some gen →
    ∃ t, exec (.flashWriteDone true) s = .next t ∧ t.flash.job = none ∧ t.flash.storeState = 2 ∧
      t.flash.stores = (s.flash.stores + 1) % 2 ^ 32 ∧ t.flash.lastStore = s.etime ∧
      (∀ w ∈ ws, ∃ n l, t.flash.newest = some (n, l) ∧ w ∈ l) ∧
      (t.window (.pf p)).response = some y ∧ (t.window (.pf p)).respGen = gen ∧ (t.window (.pf p)).inFlight = none)

/-- The BAR registers of a VF (R72, R426, R506): a whole, aligned write of a doorbell or head of one of its cuvee's pairs takes
the value; CHECK_START zeroes a channel's count and starts it, and each feed adds its bytes to the count.

Configuration requests (R502, R504): a PF's identity reads the vendor ID and device ID 0x9A00; Bus Master Enable 1 lets the
function's posted writes that waited go out in order, and 0 holds them again.

A completion of a host read that is open and whole ends it (R259).
Where the manual is silent or open it rests on the model's reading or choice: logs 52, 146. -/
def Obligations.HostAccesses : Prop :=
  (∀ (s : State) (w : BarWrite) (c : Nat), s.reaches (.vf w.port w.vf) = true → s.classOf (.vf w.port w.vf) = some (.tenant c) →
    w.aligned = true →
    (w.size = 4 → w.unit < s.ringPairs c →
      (∃ t, exec (.doorbell w) s = .next t ∧ (t.ring c w.unit).doorbell = w.value % 2 ^ 32 ∧
        (t.ring c w.unit).head = (s.ring c w.unit).head) ∧
      (∃ t, exec (.head w) s = .next t ∧ (t.ring c w.unit).head = w.value % 2 ^ 32 ∧
        (t.ring c w.unit).doorbell = (s.ring c w.unit).doorbell)) ∧
    (∀ n, s.channel c w.unit = some n →
      (w.size = 4 → ∃ t, exec (.checkStart w) s = .next t ∧ (t.check n).running = true ∧ (t.check n).bytes = 0 ∧
        (t.check n).overrun = false ∧ (t.check n).config = (s.check n).config ∧ (t.check n).fold = (s.check n).fold) ∧
      (w.size = 1 → ∃ t, exec (.feedB w) s = .next t ∧ (t.check n).bytes = ((s.check n).bytes + 1) % 2 ^ 64 ∧
        (t.check n).crc.toNat = crcByte (s.check n).poly (s.check n).crc.toNat (w.value % 256) % 2 ^ 64) ∧
      (w.size = 2 → ∃ t, exec (.feedH w) s = .next t ∧ (t.check n).bytes = ((s.check n).bytes + 2) % 2 ^ 64) ∧
      (w.size = 4 → ∃ t, exec (.feedW w) s = .next t ∧ (t.check n).bytes = ((s.check n).bytes + 4) % 2 ^ 64))) ∧
  (∀ (s : State) (p : HostPort) (fn v : Nat), s.portOpen p = true → fn ≤ 127 →
    exec (.configurationRequest p 0 0 none) s =
      .next { s with out := .config p 0 0 (Config.vendorId % 65536 + 0x9A00 * 65536) :: s.out } ∧
    (bit v 2 = true →
      ∃ t, exec (.configurationRequest p fn 4 (some v)) s = .next t ∧ fn ∈ (t.host p).busMaster ∧
        (t.host p).writes = ((s.host p).held.filter fun w => w.fn == fn).reverse ++ (s.host p).writes ∧
        (t.host p).held = (s.host p).held.filter fun w => w.fn != fn) ∧
    (bit v 2 = false →
      ∃ t, exec (.configurationRequest p fn 4 (some v)) s = .next t ∧ fn ∉ (t.host p).busMaster ∧
        (t.host p).writes = (s.host p).writes)) ∧
  (∀ (s : State) (p : HostPort) (tag : Nat) (r : HostRead) (data : List Byte),
    (s.host p).reads.find? (fun r => r.tag == tag) = some r → data.length = r.pkt.bytes →
    ∃ t, exec (.hostCompletion p tag data) s = .next t ∧ (∀ x ∈ (t.host p).reads, x.tag ≠ tag) ∧
      ((s.cuvee r.cuvee).seq = none →
        t = (s.updHost p fun h => { h with reads := h.reads.filter fun x => x.tag != tag }).answer r.pkt 1 0 data))

/-! ## Host ports and security (chapters 12 and 16) -/

/-- Resets of a port (R384, R387, R453, R502, R508): PERST_N, hot reset and link down take the link down, end the port's SPDM
sessions, erase its IDE keys and clear Bus Master Enable of its functions; PERST_N stands until it is released.

PERST_N's release and the end of training (R502).

An FLR (R248, R473, R508): the function's window returns to 0 and its Bus Master Enable ends; the class's staging set is
discarded; a RUNNING or PAUSED cuvee of the VF is RESETTING.
Where the manual is silent or open it rests on the model's reading or choice: log 148. -/
def Obligations.HostPortAndFunctionResets : Prop :=
  (∀ (s : State) (p : HostPort) (i : Instr),
    (i = .perstN p true ∨ (i = .hotReset p ∧ s.portOpen p = true) ∨ (i = .linkDown p ∧ (s.host p).linkUp = true)) →
    ∃ t, exec i s = .next t ∧ (t.host p).linkUp = false ∧ (t.host p).sessions = [] ∧ (t.host p).ideKeys = [] ∧
      (t.host p).busMaster = [] ∧ (i = .perstN p true → (t.host p).perst = true)) ∧
  (∀ (s : State) (p : HostPort),
    exec (.perstN p false) s = .next (s.updHost p fun h => { h with perst := false }) ∧
    (s.boot.standby = true → (s.host p).perst = false →
      exec (.pcieLinkUp p) s = .next (s.updHost p fun h => { h with linkUp := true }))) ∧
  ((∀ (s : State) (p : HostPort), s.portOpen p = true →
    ∃ t, exec (.flrPf p) s = .next t ∧ (t.window (.pf p)).reqGen = 0 ∧ (t.window (.pf p)).respGen = 0 ∧
      (t.window (.pf p)).inFlight = none ∧ 0 ∉ (t.host p).busMaster ∧
      (p = s.dict.steward → t.staging .manager = []) ∧ (p ≠ s.dict.steward → t.staging .deputy = [])) ∧
  (∀ (s : State) (p : HostPort) (vf c : Nat), s.portOpen p = true → 1 ≤ vf → vf ≤ 127 →
    s.classOf (.vf p vf) = some (.tenant c) → ((s.cuvee c).state = .running ∨ (s.cuvee c).state = .paused) →
    ∃ t, exec (.flrVf p vf) s = .next t ∧ (t.window (.vf p vf)).respGen = 0 ∧ vf ∉ (t.host p).busMaster ∧
      (t.cuvee c).state = .resetting ∧ (t.cuvee c).staged = none ∧ t.staging (.tenant c) = []))

/-- SPDM (R382, R383, R387): measurements and keys are had once the algorithms are agreed; KEY_EXCHANGE takes one of at most
four sessions, FINISH makes it active, END_SESSION ends it with the IDE keys programmed in it. The message codes are PRESUMED
from the SPDM standard (log 131).

IDE_KM in a session (R384): KEY_PROG keeps the key, inactive; K_SET_GO makes it the active one of its sub-stream and
direction; K_SET_STOP erases it; QUERY names the streams.
Where the manual is silent or open it rests on the model's reading or choice: logs 131, 132, 133. -/
def Obligations.SpdmAndIde : Prop :=
  (∀ (s : State) (p : HostPort), s.portOpen p = true →
    (∃ t, exec (.spdmRequest p .negotiateAlgorithms) s = .next t ∧ (t.host p).negotiated = true) ∧
    ((s.host p).negotiated = true →
      exec (.spdmRequest p (.getMeasurements 255 0 false)) s = .next { s with out := .spdm p 0x60 s.measurements :: s.out }) ∧
    ((s.host p).negotiated = true → (s.host p).sessions.length + (s.host p).handshakes.length < 4 →
      ∃ (t : State) (n : Nat), exec (.spdmRequest p (.keyExchange 0 0)) s = .next t ∧ (t.host p).handshakes = (s.host p).handshakes ++ [n] ∧
        n ∉ (s.host p).sessions ∧ n ∉ (s.host p).handshakes ∧ 1 ≤ n ∧ n ≤ 5) ∧
    (∀ n, (s.host p).negotiated = true → n ∈ (s.host p).handshakes →
      ∃ t, exec (.spdmRequest p (.finish n true)) s = .next t ∧ n ∈ (t.host p).sessions ∧ n ∉ (t.host p).handshakes) ∧
    (∀ n, n ∈ (s.host p).sessions →
      ∃ t, exec (.endSession p n) s = .next t ∧ n ∉ (t.host p).sessions ∧ ∀ e ∈ (t.host p).ideKeys, e.2.2.1 ≠ n)) ∧
  (∀ (s : State) (p : HostPort) (n : Nat) (k : IdeKey) (key : Nat), s.portOpen p = true → n ∈ (s.host p).sessions →
    k.stream ≤ 4 → k.subStream ≤ 2 → k.keySet ≤ 1 →
    (∃ t, exec (.keyProg p n k key) s = .next t ∧ (k, key, n, false) ∈ (t.host p).ideKeys) ∧
    ((∃ e ∈ (s.host p).ideKeys, e.1 = k) →
      ∃ t, exec (.kSetGo p n k) s = .next t ∧ ∀ e ∈ (t.host p).ideKeys,
        (e.1 = k → e.2.2.2 = true) ∧
        (e.1 ≠ k → e.1.stream = k.stream → e.1.subStream = k.subStream → e.1.tx = k.tx → e.2.2.2 = false)) ∧
    (∃ t, exec (.kSetStop p n k) s = .next t ∧ ∀ e ∈ (t.host p).ideKeys, e.1 ≠ k) ∧
    exec (.query p n) s = .next { s with out := .ideKm p 0x01 (Blob.array 1 [1, 4]) :: s.out })

/-- TDISP (R385, R386): LOCK_INTERFACE of an unlocked interface of a BOUND or RUNNING cuvee on a device not in debug
locks it, START_INTERFACE of a locked one starts it, STOP_INTERFACE of a started one begins the cuvee's reset; the other
requests answer and change no interface.
Where the manual is silent or open it rests on the model's reading or choice: log 134. -/
def Obligations.DeviceInterfaces : Prop :=
  ∀ (s : State) (p : HostPort) (vf c : Nat), s.portOpen p = true → s.vfCuvee (.vf p vf) = some c →
    (∀ stream, (s.cuvee c).tdi = 0 → ((s.cuvee c).state = .bound ∨ (s.cuvee c).state = .running) → s.sec.debug = 0 →
      ∃ t, exec (.lockInterface p vf stream) s = .next t ∧ (t.cuvee c).tdi = 1 ∧ (t.cuvee c).tdiStream = stream) ∧
    ((s.cuvee c).tdi = 1 → ∃ t, exec (.startInterface p vf) s = .next t ∧ (t.cuvee c).tdi = 2) ∧
    ((s.cuvee c).tdi = 2 → (s.cuvee c).state = .running →
      ∃ t, exec (.stopInterface p vf) s = .next t ∧ (t.cuvee c).state = .resetting ∧ (t.cuvee c).tdi = 2 ∧
        ((t.cuvee c).seq.map ResetSeq.tdiReply) = some true) ∧
    exec (.getTdispVersion p vf) s = .next { s with out := .tdisp p vf 0x01 (Blob.array 1 [1, 0x10]) :: s.out } ∧
    (∃ (t : State) (b : Blob), exec (.getTdispCapabilities p vf) s = .next t ∧ t.out = .tdisp p vf 0x02 b :: s.out ∧ t.cuvees = s.cuvees) ∧
    (∃ (t : State) (b : Blob), exec (.getDeviceInterfaceReport p vf) s = .next t ∧ t.out = .tdisp p vf 0x04 b :: s.out ∧ b.size = 108 ∧
      b.get 32 4 = (s.cvTiles c).length % 2 ^ 32 ∧ b.get 36 4 = (s.cvPcs c).length % 2 ^ 32 ∧ t.cuvees = s.cuvees) ∧
    exec (.getDeviceInterfaceState p vf) s = .next { s with out := .tdisp p vf 0x05 (Blob.scalar 1 (s.cuvee c).tdi) :: s.out }

/-! ## Power and boot (chapters 1, 12 and 16) -/

/-- The standby input (R483, R485, R499, R501): STANDBY_START starts the always-on domain with the straps and Wizor's sequence
mark, before PWR_EN has risen; STANDBY_LOST leaves the machine as reset does, but for flash, the clock of events, the queue,
what has been sent and the level of PERST_N; a PLCA beacon period seen or missed shows in PLCA, and a missed one is counted.

Power goes (R499, R501): at PWR_EN's fall, and at a main-input fault while power is good, the estate is lost; the fault
stays latched, and PWR_EN's fall releases it.
Where the manual is silent or open it rests on the model's reading or choice: logs 50, 141. -/
def Obligations.StandbyAndPower : Prop :=
  ((∀ (s : State) (strap : Nat), s.boot.standby = false → s.boot.pwrEn = false → s.boot.step ≠ .waitInput →
    ∃ t, exec (.standbyStart strap) s = .next t ∧ t.boot.standby = true ∧ t.boot.step = .standby ∧ t.side.node = strap % 16 ∧
      t.side.highSeq = s.flash.wizorSeq + 65536 ∧ t.flash = s.flash) ∧
  (∀ (s : State), exec .standbyLost s = .next { State.reset with
    pending := s.pending, flash := s.flash, out := s.out, free := s.free
    time := { State.reset.time with now := s.time.now }
    hostA := { HostSt.init with perst := s.hostA.perst }, hostB := { HostSt.init with perst := s.hostB.perst } }) ∧
  (∀ (s : State) (b : Bool), s.boot.standby = true → ∃ t, exec (.plcaBeacon b) s = .next t ∧ t.side.plca = b ∧
    (b = true → t.side.counters = s.side.counters) ∧ (b = false → t.side.counters = bump 64 s.side.counters 5 1))) ∧
  (∀ (s : State),
    (∃ t, exec .pwrEnFall s = .next t ∧ t.boot.pwrEn = false ∧ t.boot.pwrGood = false ∧ t.boot.latched = false ∧
      t.boot.thermTrip = false ∧ t.cuvees = [] ∧ t.faults.estateState = 3 ∧ t.flash = s.flash ∧ t.side = s.side) ∧
    (s.boot.pwrGood = true →
      ∃ t, exec .mainInputFault s = .next t ∧ t.boot.pwrGood = false ∧ t.boot.latched = true ∧ t.cuvees = [] ∧
        t.faults.estateState = 3 ∧ t.flash = s.flash ∧ t.side = s.side))

/-- A cold boot (R379, R499, R501): with the standby domain up, an input of 40 V or more, and a slot and an identity that
check, COLD_BOOT runs the boot ROM, loads the stored dictionary and begins self-test; one that waits for its input does so at
MAIN_INPUT_IN_RANGE. No cuvee exists, and requests are not served.

The muster in order (R20–R25, R185, R462, R501): self-test leads to stack training when the core muster finds no cause to
stop; each stack trains in turn; the memory muster leads on to the vintner cores while a parcel is left; ESTATE_READY opens the
estate, with the steward role at the port of StewardPort when that is present.
Where the manual is silent or open it rests on the model's reading or choice: logs 140, 144. -/
def Obligations.ColdBootAndMuster : Prop :=
  (∀ (s : State) (f : BootFindings) (v : Nat) (i : Instr), s.boot.standby = true → f.secSelfTest = true → f.identity = 0 →
    f.slotFailA = 0 → f.slotFailB = 0 → s.estateLost.num 0xA001 4 ≤ 1 →
    ((i = .coldBoot f v ∧ s.boot.pwrEn = false ∧ 400 ≤ v) ∨
      (i = .mainInputInRange ∧ s.boot.step = .waitInput ∧ s.boot.findings = some f)) →
    ∃ t, exec i s = .next t ∧ t.boot.step = .selfTest ∧ t.boot.pwrGood = true ∧ t.muster.state = 1 ∧ t.cuvees = [] ∧
      t.faults.estateState = 3 ∧ t.sec.booted = s.estateLost.num 0xA001 4 ∧ t.mem.hbm = [] ∧ t.mem.store = []) ∧
  ((∀ (s : State) (v : SelfTest), s.boot.step = .selfTest →
    ((({ s.muster with test := v }).core ({ s with muster := { s.muster with test := v } }).exclusions).coreCause = 0) →
    ∃ t, exec (.selfTestDone v) s = .next t ∧ t.boot.step = .training ∧ t.muster.trained = 0) ∧
  (∀ (s : State) (p : Nat) (r : TrainingResult), s.boot.step = .training → p = s.muster.trained → p < 16 →
    ∃ t, exec (.stackTrainingDone p r) s = .next t ∧ t.muster.trained = p + 1 ∧ t.boot = s.boot ∧
      (∀ k ∈ trainFailed r, 32 * p + k ∈ t.muster.pcBad) ∧
      (s.boot.warm = false → ∀ k ∈ testFailed r, 32 * p + k ∈ t.muster.pcTestBad)) ∧
  (∀ (s : State), s.boot.step = .training → s.muster.trained = 16 → s.muster.memory.state ≠ 4 →
    ∃ t, exec .memoryMuster s = .next t ∧ t.boot.step = .vintner) ∧
  (∀ (s : State), s.boot.step = .vintner →
    ∃ t, exec .estateReady s = .next t ∧ t.boot.step = .ready ∧ t.faults.estateState = 0 ∧
      t.dict.steward = s.firstSteward ∧ t.dict.beatFrom = s.time.now))

/-! ## Cadence and the almanac (chapter 3) -/

/-- CADENCE_EDGE (R44, R49): an edge at least 50 µs after the last counted one ends an interval. PTP_MESSAGE (R41, R42) of the
estate's domain sets the offset, the run of good Syncs and the path delay. REFERENCE_TIMEOUT (R49) without an edge for 1 + 1/32 of the last interval clears ReferencePresent.

MISSED_BOUNDARY (R46–R48): a window that closes without an accepted boundary is counted in MissedEdges; LOCKED with the
reference present becomes SLEWING, without it FLYWHEEL, and at FlywheelLimit FLYWHEEL becomes CADENCE_LOST.
Where the manual is silent or open it rests on the model's reading or choice: log 163. -/
def Obligations.ReferenceAndCadence : Prop :=
  (∀ (s : State) (t e : Instant), s.time.running = true → s.cad.lastEdge = some e →
    (50000 ≤ t - e → ∃ u, exec (.cadenceEdge t) s = .next u ∧
      u.cad.intervals = ((t - e) :: s.cad.intervals).take 4) ∧
    (∀ m : PtpMsg, m.domain = s.num 0x2000 4 →
      ∃ u, exec (.ptpMessage m) s = .next u ∧ u.cad.ptpOffset = m.ptpTime - m.at_ ∧
        (m.slave = false → u.cad.goodSyncs = 0) ∧
        (∀ o : Rat, m.slave = true → s.cad.ptpMeasured m = some o →
          u.cad.goodSyncs = if -1000 < o ∧ o < 1000 then s.cad.goodSyncs + 1 else 0) ∧
        (∀ d b : Rat, m.slave = true → m.kind = .delayResp → s.cad.ptpReq = some (m.seq, d, b) →
          u.cad.ptpDelay = (d + (m.carried - b)) / 2)) ∧
    (∀ i l, s.cad.source = 0 → s.cad.intervals = i :: l → e + i * 33 / 32 ≤ t →
      ∃ u, exec (.referenceTimeout t) s = .next u ∧ u.cad.present = false)) ∧
  (∀ s : State, s.boundaryMissable = true →
    ∃ t, exec .missedBoundary s = .next t ∧ t.cad.missed = (s.cad.missed + 1) % 2 ^ 32 ∧ t.cad.windowClosed = true ∧
      (s.cad.state = .locked → s.cad.present = true → t.cad.state = .slewing) ∧
      ((s.cad.state = .flywheel ∨ (s.cad.state = .locked ∧ s.cad.present = false)) →
        (s.cad.flywheel + 1 < s.num 0x2000 8 → t.cad.state = .flywheel ∧ t.cad.flywheel = s.cad.flywheel + 1) ∧
        (s.num 0x2000 8 ≤ s.cad.flywheel + 1 → t.cad.state = .cadenceLost ∧
          t.cad.lostCount = (s.cad.lostCount + 1) % 2 ^ 32)))

/-- The two ticks of estate time (R38, R51, R62, R70): SLOT_FIRE begins the next slot of the epoch in progress; EPOCH_BOUNDARY,
after slot 4,095 or where first lock cuts, begins slot 0 of the next epoch, of the length fixed before. -/
def Obligations.TicksOfEstateTime : Prop :=
  ∀ s : State, s.time.running = true →
    (s.epochSpent = false →
      ∃ t, exec .slotFire s = .next t ∧ t.time.slot = s.time.slot + 1 ∧ t.time.epochs = s.time.epochs ∧
        t.time.e = s.time.e ∧ t.time.epochStart = s.time.epochStart ∧ t.time.epochLen = s.time.epochLen ∧
        t.slotStart (s.time.slot + 1) ≤ t.time.now) ∧
    (s.epochSpent = true →
      ∃ t, exec .epochBoundary s = .next t ∧ t.time.slot = 0 ∧ t.time.epochs = (s.time.epochs + 1) % 2 ^ 64 ∧
        t.time.epochStart = s.boundaryAt ∧ t.time.epochLen = s.nextLength ∧ t.time.prevLen = s.boundaryAt - s.time.epochStart ∧
        (s.cutHere.isSome = true → t.time.lockCut = none))

/-- DEFER_LIMIT (R357): the row at its limit is admitted and charged, whatever that makes of the bucket; of the rows presented
it is the first. A row that only the full table of deferred rows forces counts an overflow.

CORRECTION_UPDATE (R359): once KPeriod RECONCILE ticks have ended a period, k_c moves by R359 and its sums restart.
DEADLINE_MISS (R61): work not complete at its deadline is counted against its segment and goes on, marked late. -/
def Obligations.LedgerAndDeadlines : Prop :=
  (∀ (s : State) (x : RowInst), s.limitDue = some x → s.alm.present = [x] →
    ∃ (t : State) (y : RowInst), exec (.deferLimit x.seg x.idx) s = .next t ∧ t.alm.present = [] ∧ t.alm.issue = s.alm.issue ++ [y] ∧
      y.seg = x.seg ∧ y.idx = x.idx ∧ y.row = x.row ∧
      (t.cuvee x.seg).ledger.gen + (t.cuvee x.seg).ledger.res =
        (s.cuvee x.seg).ledger.gen + (s.cuvee x.seg).ledger.res - (s.charge x.seg x.row : Nat) * 256 ∧
      (t.cuvee x.seg).ledger.overflow =
        if s.deferSpent x then (s.cuvee x.seg).ledger.overflow else ((s.cuvee x.seg).ledger.overflow + 1) % 2 ^ 32) ∧
  ((∀ (s : State) (c : Nat), (s.cuvee c).ledger.due = true →
    ∃ t, exec (.correctionUpdate c) s = .next t ∧
      (t.cuvee c).ledger.k = correctedK (s.cuvee c).ledger.k (s.cuvee c).ledger.sumA (s.cuvee c).ledger.sumE ∧
      (t.cuvee c).ledger.sumA = 0 ∧ (t.cuvee c).ledger.sumE = 0 ∧ (t.cuvee c).ledger.ticks = 0 ∧
      (t.cuvee c).ledger.due = false) ∧
  (∀ (s : State) (id d : Nat) (w : Watch), s.holidaysEnd.watch id = some w → w.deadline = some d → w.late = false → w.complete = false →
    d ≤ s.slotCount →
    ∃ (t : State) (v : Watch), exec (.deadlineMiss id) s = .next t ∧ t.watch id = some v ∧ v.late = true ∧
      (t.seg w.row.seg).dlMisses = ((s.seg w.row.seg).dlMisses + 1) % 2 ^ 64 ∧ t.tiles = s.tiles))

/-- START_STEP (R64): a group that is not busy starts, every tile of it not FAULTED at the entry of OPERAND; a start of a busy
group with SKIP_BUSY is skipped and counted as an overrun; without it, one start of the group is held, and HELD_START_ISSUE
gives it to every tile when the last has finished. The group belongs to no model, and its tiles are the cuvee's.
Where the manual is silent or open it rests on the model's reading or choice: log 123. -/
def Obligations.StartStep : Prop :=
  (∀ (s : State) (x : RowInst) (l : List RowInst), s.alm.issue = x :: l → rowAction x.row = 1 →
    (s.groupOccupied x.seg (rowGroup x.row) = false → s.groupModel x.seg (rowGroup x.row) = none →
      (∀ t ∈ s.groupTiles x.seg (rowGroup x.row), (s.tile t).act = .idle) →
      ∃ u, exec .startStep s = .next u ∧ u.alm.issue = l ∧ ∀ t ∈ s.groupTiles x.seg (rowGroup x.row),
        (u.tile t).act = .running ∧ (u.tile t).entry = bits (rowOperand x.row) 9 0 ∧ (u.tile t).inEntry = false ∧
        (u.tile t).runTag = rowTag x.row) ∧
    (s.groupOccupied x.seg (rowGroup x.row) = true → s.preemptsNow x.seg (rowGroup x.row) = false →
      (rowSkipBusy x.row = true →
        ∃ u, exec .startStep s = .next u ∧ u.alm.issue = l ∧ u.tiles = s.tiles ∧
          (u.seg x.seg).overruns = ((s.seg x.seg).overruns + 1) % 2 ^ 32) ∧
      (rowSkipBusy x.row = false → s.alm.heldStarts.find (256 * x.seg + rowGroup x.row) = none →
        ∃ u, exec .startStep s = .next u ∧ u.alm.issue = l ∧
          u.alm.heldStarts.find (256 * x.seg + rowGroup x.row) =
            some (bits (rowOperand x.row) 9 0, rowTag x.row, s.alm.nextWatch) ∧
          (∀ t ∈ s.groupTiles x.seg (rowGroup x.row), (u.tile t).heldStart = some (bits (rowOperand x.row) 9 0) ∧
            (u.tile t).act = (s.tile t).act ∧ (u.tile t).entry = (s.tile t).entry) ∧
          ∀ t, t ∉ s.groupTiles x.seg (rowGroup x.row) → u.tile t = s.tile t))) ∧
  (∀ (s : State) (c g entry tag id : Nat), s.alm.heldStarts.find (256 * c + g) = some (entry, tag, id) →
    s.groupOccupied c g = false → (s.cuvee c).live = true → (s.cuvee c).quiesce = none → s.groupModel c g = none →
    (∀ t ∈ s.groupTiles c g, (s.tile t).act = .idle) →
    ∃ u, exec (.heldStartIssue c g) s = .next u ∧ u.alm.heldStarts.find (256 * c + g) = none ∧
      ∀ t ∈ s.groupTiles c g, (u.tile t).act = .running ∧ (u.tile t).entry = entry ∧ (u.tile t).runTag = tag)

/-- LOAD_PLANE (R90, R111) asks every tile of its group that has no load under way for the image of OPERAND; NOP only has its
records. Both leave the issue queue's rest.

FETCH_SQ (R65, R72) nearer than FetchSpacing to the last one is counted as skipped, the first one marks its slot; WRITE_CQ (R74)
leaves the issue queue's rest and no tile changed.
Where the manual is silent or open it rests on the model's reading or choice: log 118. -/
def Obligations.OtherRowActions : Prop :=
  (∀ (s : State) (x : RowInst) (l : List RowInst), s.alm.issue = x :: l →
    (rowAction x.row = 2 → s.quiescing x.seg = false →
      ∃ u, exec .loadPlane s = .next u ∧ u.alm.issue = l ∧ ∀ t ∈ s.groupTiles x.seg (rowGroup x.row),
        (s.tile t).load = none → (u.tile t).load = some (bits (rowOperand x.row) 6 0)) ∧
    (rowAction x.row = 0 → ∃ u, exec .nop s = .next u ∧ u.alm.issue = l ∧ u.tiles = s.tiles ∧ u.mem = s.mem ∧ u.net = s.net ∧
      u.alm.watches = s.alm.watches)) ∧
  (∀ (s : State) (x : RowInst) (l : List RowInst), s.alm.issue = x :: l →
    (rowAction x.row = 3 → ∀ (n : Nat) (es : List SqEntry), (s.seg x.seg).lastFetch = some n → s.slotCount < n + s.num 0x2004 x.seg →
      ∃ u, exec (.fetchSq es) s = .next u ∧ u.alm.issue = l ∧ (u.seg x.seg).skipped = ((s.seg x.seg).skipped + 1) % 2 ^ 64 ∧
        (u.seg x.seg).lastFetch = some n) ∧
    (rowAction x.row = 3 → ∀ es : List SqEntry, (s.seg x.seg).lastFetch = none →
      ∃ u, exec (.fetchSq es) s = .next u ∧ u.alm.issue = l ∧ (u.seg x.seg).lastFetch = some s.slotCount) ∧
    (rowAction x.row = 4 → ∃ u, exec .writeCq s = .next u ∧ u.alm.issue = l ∧ u.tiles = s.tiles))

/-- HARVEST (R301, R404): every counter of a unit is latched at once, stamped with the tick, and the clients' accounts with
them. RECONCILE (R359) closes the interval of the energy meter.

HARVEST_RECORD_WRITE (R406, R407): the record of the harvest latched takes its place in the ring of HarvestDepth, and the
next is awaited.
Where the manual is silent or open it rests on the model's reading or choice: log 39. -/
def Obligations.HarvestAndReconcile : Prop :=
  (∀ (s : State) (x : RowInst) (l : List RowInst), s.alm.issue = x :: l →
    (rowAction x.row = 5 → ∃ u f m, exec .harvest s = .next u ∧ u.alm.issue = l ∧ u.obs.shadow = u.obs.unit ∧
      u.obs.latched = some (s.stamp, f, s.time.epochs, m) ∧ u.obs.flags = 0 ∧ u.alm.lastHarvestEpoch = some s.time.epochs ∧
      ∀ c ∈ u.existing, (u.cuvee c).serving.accLatch = (u.cuvee c).serving.accounts) ∧
    (rowAction x.row = 7 → ∃ u, exec .reconcile s = .next u ∧ u.alm.issue = l ∧ u.power.energyAcc = 0 ∧
      u.power.reconciledAt = s.time.now)) ∧
  (∀ (s : State) (stamp flags epochs : Nat) (marks : List (Nat × Nat)), s.obs.latched = some (stamp, flags, epochs, marks) →
    ∃ t, exec .harvestRecordWrite s = .next t ∧ t.obs.latched = none ∧
      t.obs.harvestWritten = (s.obs.harvestWritten + 1) % 2 ^ 32 ∧
      t.obs.records.find (s.obs.harvestWritten % max 1 (s.num 0x8000 3)) = some (s.harvestRecord stamp flags epochs marks) ∧
      t.obs.prevStamp = stamp)

/-! ## Holidays, re-binding and reset (chapters 7, 8 and 14) -/

/-- A HOLIDAY row (R441) begins a quiesce of the cuvee it names; a scope without a RUNNING or PAUSED cuvee is counted as
skipped. -/
def Obligations.HolidayRow : Prop :=
  ∀ (s : State) (x : RowInst) (l : List RowInst), s.alm.issue = x :: l → rowAction x.row = 6 → bits (rowOperand x.row) 1 0 = 0 →
    ((s.cuvee (rowCuvee x.row)).live = true →
      (s.cuvee (rowCuvee x.row)).quiesce = none →
      ∃ (t : State) (q : Quiesce), exec .holiday s = .next t ∧ t.alm.issue = l ∧ (t.cuvee (rowCuvee x.row)).quiesce = some q ∧ q.scope = 0 ∧
        q.cause = 1 ∧ q.begun = false ∧ q.cutAt = none) ∧
    ((s.cuvee (rowCuvee x.row)).live = false →
      ∃ t, exec .holiday s = .next t ∧ t.alm.issue = l ∧ (t.seg x.seg).skipped = ((s.seg x.seg).skipped + 1) % 2 ^ 64 ∧
        (t.cuvee (rowCuvee x.row)).quiesce = (s.cuvee (rowCuvee x.row)).quiesce)

/-- The stages of a cuvee's own holiday (R441–R444, R262): QUIESCE_START holds every tile that stands at a boundary; CUT, with
every tile held, freezes the cuvee at T; QUIESCE_LIMIT cuts it anyway, CUT_INCOMPLETE where a tile was squashed mid-entry;
APPLY_TICK records it applied; HOLIDAY_COMPLETE ends it when the drain is over.
Where the manual is silent or open it rests on the model's reading or choice: log 123. -/
def Obligations.StagesOfAHoliday : Prop :=
  ∀ (s : State) (c : Nat) (q : Quiesce), (s.cuvee c).quiesce = some q → q.scope = 0 →
    (q.begun = false →
      ∃ t, exec (.quiesceStart (.cuvee c)) s = .next t ∧ ((t.cuvee c).quiesce.map Quiesce.begun) = some true ∧
        ∀ k ∈ s.cvTiles c, (t.tile k).act = if (s.tile k).atBoundary then .held else (s.tile k).act) ∧
    (q.begun = true → q.cutAt = none → s.allHeld c = true →
      ∃ t, exec (.cut (.cuvee c)) s = .next t ∧ (t.cuvee c).state = .frozen ∧ (t.cuvee c).prior = (s.cuvee c).state.code ∧
        (t.cuvee c).freezeCause = q.cause ∧ ((t.cuvee c).quiesce.bind Quiesce.cutAt) = some s.stamp) ∧
    (q.cutAt = none → s.allHeld c = false →
      ∃ t, exec (.quiesceLimit (.cuvee c)) s = .next t ∧ (t.cuvee c).state = .frozen ∧ (t.cuvee c).cutIncomplete = true ∧
        ∀ k ∈ s.cvTiles c, (t.tile k).act ≠ .running) ∧
    (q.cutAt.isSome = true → q.applied = false → q.apply.getD 0 ≤ s.slotCount →
      ∃ t, exec (.applyTick (.cuvee c)) s = .next t ∧ ((t.cuvee c).quiesce.map Quiesce.applied) = some true) ∧
    (q.applied = true → q.marks = [] → q.complete = false → s.drained c = true →
      ∃ t, exec (.holidayComplete (.cuvee c)) s = .next t ∧ (t.cuvee c).quiesce = none ∧ (t.cuvee c).state = (s.cuvee c).state)

/-- Re-binding (R252, R253, R256): a pre-copy pass of a copied pseudo-channel counts, with the bytes of the
regions written meanwhile; the moves of a plan past
its cut end it, RESUMED, and leave the cuvee FROZEN where a fault or a freeze had joined it.
Where the manual is silent or open it rests on the model's reading or choice: log 125. -/
def Obligations.RebindStages : Prop :=
  ∀ (s : State) (c : Nat), (s.cuvee c).rebindActive = true →
    (∀ k d, (s.cuvee c).rebind.phase = 2 → k ∈ s.copiedPcs c →
      d = 65536 * ((s.pc ((s.cvPcs c).getD k 0)).dirty.getD []).length → d ≤ s.num 0x301E 4 →
      ∃ t, exec (.precopyPassEnd c [k]) s = .next t ∧ (t.cuvee c).rebind.pcDirty.find k = some d ∧
        (t.cuvee c).rebind.pcPass.find k = some ((s.cuvee c).rebind.pcPass.getD k 0 + 1) ∧ (t.cuvee c).rebindActive = true) ∧
    ((s.cuvee c).rebind.phase = 4 → (s.cuvee c).pauseReady = true →
      (∀ p ∈ s.net.flight, p.ty = 8 → p.cuvee ≠ c) →
      ∃ t, exec (.rebindMovesDone c) s = .next t ∧ (t.cuvee c).rebindActive = false ∧ (t.cuvee c).rebind.phase = 5 ∧
        (t.cuvee c).rebind.resumed = s.stamp ∧
        ((s.cuvee c).live = true → (s.cuvee c).rebind.freezeAfter ≠ 0 → (t.cuvee c).state = .frozen ∧
          (t.cuvee c).freezeCause = (s.cuvee c).rebind.freezeAfter))

/-- The reset sequence (R259–R261, R385): RESET_SQUASH idles every tile and notes the reads that are open; a read open too
long is abandoned; when the drain has ended a reset zeroes the pseudo-channels and leaves the cuvee BOUND, a release frees
its ID and its units. -/
def Obligations.ResetSequence : Prop :=
  ∀ (s : State) (c : Nat) (q : ResetSeq), (s.cuvee c).seq = some q →
    (q.squashed = false → q.at_ < s.slotCount →
      ∃ (t : State) (r : ResetSeq), exec (.resetSquash c) s = .next t ∧ (t.cuvee c).seq = some r ∧ r.squashed = true ∧ r.reads = s.openReads c ∧
        r.release = q.release ∧ ∀ k ∈ s.cvTiles c, (t.tile k).act = .idle) ∧
    (∀ tag, q.squashed = true → tag ∈ q.reads →
      ∃ (t : State) (r : ResetSeq), exec (.hostReadAbandon c tag) s = .next t ∧ (t.cuvee c).seq = some r ∧ r.reads = q.reads.filter (· != tag) ∧
        ∀ e ∈ (t.host (portOf (tag / 65536))).reads, e.tag ≠ tag % 65536) ∧
    (q.release = false → q.drained = true →
      ∃ t, exec (.resetComplete c) s = .next t ∧ (t.cuvee c).state = .bound ∧ (t.cuvee c).seq = none ∧
        (t.cuvee c).resets = ((s.cuvee c).resets + 1) % 2 ^ 32 ∧ (t.cuvee c).binding = (s.cuvee c).binding ∧
        ∀ k ∈ s.cvPcs c, ∀ off < 2 ^ 31, readByte t.mem.hbm (hbmKey k off) = 0) ∧
    (q.release = true → q.drained = true →
      ∃ t, exec (.releaseComplete c) s = .next t ∧ (t.cuvee c).state = .none ∧ (t.cuvee c).binding = none ∧
        (t.cuvee c).resets = (s.cuvee c).resets ∧ t.cvTiles c = [] ∧ t.cvPcs c = [] ∧
        ∀ k ∈ s.cvPcs c, (t.pc k).owner = none)

/-- Images (R243, R263, R267–R269): a whole image leaves its cuvee SAVED, and FROZEN where its buffer is too small; one that fits leaves the cuvee restored FROZEN with
PRIOR from the image and FREEZE_CAUSE 4; one that does not match its cuvee leaves it BOUND and changes no memory. -/
def Obligations.ImagesComplete : Prop :=
  ∀ (s : State) (c : Nat),
    ((s.cuvee c).saveActive = true → (s.cuvee c).state = .frozen →
      (s.imageTooLarge c = false → ∃ t, exec (.imageComplete c true) s = .next t ∧ (t.cuvee c).state = .saved ∧
        (t.cuvee c).saveActive = false ∧ s.mem = t.mem) ∧
      (s.imageTooLarge c = true → ∃ t, exec (.imageComplete c true) s = .next t ∧ (t.cuvee c).state = .frozen ∧
        (t.cuvee c).saveActive = false ∧ s.mem = t.mem)) ∧
    (∀ img : CuveeImage, (s.cuvee c).restoreActive = true → (s.cuvee c).state = .bound → s.imageFits c img = true →
      imageVerdict .ok img = .ok →
      ∃ t, exec (.restoreComplete c .ok img) s = .next t ∧ (t.cuvee c).state = .frozen ∧ (t.cuvee c).prior = img.prior ∧
        (t.cuvee c).freezeCause = 4 ∧ (t.cuvee c).restoreActive = false) ∧
    (∀ img : CuveeImage, (s.cuvee c).restoreActive = true → (s.cuvee c).state = .bound → s.imageFits c img = false →
      ∃ t, exec (.restoreComplete c .ok img) s = .next t ∧ (t.cuvee c).state = .bound ∧ (t.cuvee c).restoreActive = false ∧
        t.mem = s.mem ∧ t.dict = s.dict)

/-- CLUSTER_POWER_UP (R364) of a cluster that was powering up makes it ON, its tiles idle and held by no cuvee; POOL_RETURN (R238, R253) of a
unit whose scrub ends well zeroes it and puts it in the pool, and retires it where its scrub fails.

ESTATE_FATAL (R452) in service makes the estate STOPPING, or STOPPED when no cuvee is RUNNING or PAUSED, with EstateFault.
PARCEL_RESET_DONE (R454) of the parcel in its reset ends it: its units are in the pool, but those that failed are
retired.
Where the manual is silent or open it rests on the model's reading or choice: logs 130, 153. -/
def Obligations.UnitsReturnAndEstateStop : Prop :=
  ((∀ (s : State) (d : Nat), s.domain d = 1 →
    ∃ t, exec (.clusterPowerUp d) s = .next t ∧ t.domain d = 2 ∧
      ∀ e ∈ s.muster.tileMap, physCluster e.2 = d → (t.tile e.1).act = .idle ∧ (t.tile e.1).cuvee = 0) ∧
  (∀ (s : State) (k : Nat) (isTile : Bool), (isTile, k) ∈ s.dict.scrubbing →
    s.inReset (if isTile then tileParcel k else pcParcel k) = false →
    (∃ t, exec (.poolReturn isTile k true) s = .next t ∧ (isTile, k) ∉ t.dict.scrubbing ∧
      (isTile = false → ∀ off < 2 ^ 31, readByte t.mem.hbm (hbmKey k off) = 0) ∧
      (isTile = true → ∀ off < 2 ^ 20, readByte t.mem.store (storeKey k off) = 0)) ∧
    (∃ t, exec (.poolReturn isTile k false) s = .next t ∧ (isTile, k) ∉ t.dict.scrubbing ∧
      (isTile = true → (t.tile k).retired = true) ∧ (isTile = false → (t.pc k).retired = true)))) ∧
  ((∀ (s : State) (source : Nat), s.faults.estateState = 0 →
    ∃ t, exec (.estateFatal source) s = .next t ∧ (t.faults.estateState = 1 ∨ t.faults.estateState = 2) ∧
      t.faults.estateFault = faultRecord s.stamp 0x0D 3 0 0 0 source 0 0 ∧
      ((∀ c ∈ s.existing, (s.cuvee c).live = false) → t.faults.estateState = 2)) ∧
  (∀ (s : State) (p : Nat) (tiles : List Nat) (r : TrainingResult), s.inReset p = true →
    ∃ t, exec (.parcelResetDone p tiles r) s = .next t ∧ t.faults.resetPhase = 2 ∧ t.faults.resetDone = s.etime ∧
      (∀ u ∈ s.parcelUnits p, u ∉ t.dict.scrubbing) ∧ (∀ k ∈ tiles, (true, k) ∈ s.parcelUnits p → (t.tile k).retired = true) ∧
      ∀ k, (false, k) ∈ s.parcelUnits p → s.muster.pcMap.getD k 0 % 32 ∈ trainFailed r ++ testFailed r → (t.pc k).retired = true))

/-! ## Tiles (chapter 5) -/

/-- ENTRY_BOUNDARY (R104, R110, R113, R252): a quiesce that has begun holds the tile; a malformed entry faults it with cause 1;
otherwise, once its waits are over and its transfers allow it, the entry begins: its flag is consumed, its plane becomes
active, and it goes on with its streams. -/
def Obligations.EntryBoundary : Prop :=
  ∀ (s : State) (t en : Nat), (s.tile t).act = .running → (s.tile t).inEntry = false → (s.tile t).ended = false →
    (s.tile t).cuvee ≠ 0 → en = s.boundaryEntry t →
    (s.quiescing (s.tile t).cuvee = true →
      ∃ u, exec (.entryBoundary t) s = .next u ∧ (u.tile t).act = .held ∧ (u.tile t).entry = (s.tile t).entry) ∧
    (s.quiescing (s.tile t).cuvee = false → (s.tile t).preempted = false → (s.tile t).xfault = none →
      (s.tile t).transfersReady (s.tile t).entry = true →
      (s.entryBad t en = true →
        ∃ u, exec (.entryBoundary t) s = .next u ∧ (u.tile t).act = .faulted ∧ (u.tile t).cause = 1) ∧
      (s.entryBad t en = false → ¬((s.tile t).entry = 1023 ∧ enLast en = false) → s.entryRowsBad t en = false →
        (enWaitB en = true → (s.tile t).barrierOpen (enBarrier en) = true) →
        (enWaitF en = true → (s.tile t).flagTaken = false → (s.tile t).flags.getD (enFlag en) 0 ≠ 0) →
        (wantedPlane en (s.tile t).activeP1 ≠ (s.tile t).activeP1 →
          (s.tile t).load = none ∧ (s.tile t).cells.planeMalformed (wantedPlane en (s.tile t).activeP1) = false) →
        (s.tile t).queue.length + (duePlaces en 3 false).length ≤ 16 →
        ∃ u : State, exec (.entryBoundary t) s = .next (u.runOn t) ∧ (u.tile t).act = .running ∧ (u.tile t).inEntry = true ∧
          (u.tile t).entry = (s.tile t).entry ∧ (u.tile t).path.beat = 0 ∧ (u.tile t).path.beats = enBeats en ∧
          (u.tile t).activeP1 = wantedPlane en (s.tile t).activeP1 ∧
          (u.tile t).flags.getD (enFlag en) 0 = (s.tile t).flags.getD (enFlag en) 0 - b2n (enWaitF en && !(s.tile t).flagTaken) ∧
          (u.tile t).cur = en))

/-- What happens in a tile (R90, R92, R97, R101, R111): a load that is done fills the shadow plane and the one that waited
starts; a swap that is due exchanges the roles of its cells' banks; a trigger begins the programs of its cells that run
none. After the last two the streams go on.

ENTRY_COMPLETE (R110, R178): the oldest entry whose answers are all in leaves the list; SET_F sends the flag up the tree,
and the run of a tile whose LAST entry completes ends IDLE. -/
def Obligations.TileEventsAndCompletion : Prop :=
  (∀ (s : State) (t : Nat),
    (∀ img, (s.tile t).load = some img →
      ∃ u, exec (.planeLoadDone t) s = .next u ∧ (u.tile t).load = (s.tile t).loadNext ∧ (u.tile t).loadNext = none ∧
        (u.tile t).activeP1 = (s.tile t).activeP1 ∧
        (if (s.tile t).activeP1 then (u.tile t).cells.plane0 = s.planeImage t img ∧ (u.tile t).cells.plane1 = (s.tile t).cells.plane1
          else (u.tile t).cells.plane1 = s.planeImage t img ∧ (u.tile t).cells.plane0 = (s.tile t).cells.plane0)) ∧
    ((s.tile t).act = .running → (s.tile t).inEntry = true → (s.tile t).path.swapDue ≠ 0 →
      ((s.tile t).path.draining ||| (s.tile t).undrained) &&& (s.tile t).path.swapDue = 0 →
      ∃ u : State, exec (.accumulatorSwap t) s = .next (u.runOn t) ∧ (u.tile t).path.swapDue = 0 ∧
        (u.tile t).fill1 = (s.tile t).fill1 ^^^ (s.tile t).path.swapDue) ∧
    (∀ m l, (s.tile t).act = .running → (s.tile t).inEntry = true → (s.tile t).path.trig = m :: l →
      ∃ u : State, exec (.vectorTrigger t) s = .next (((((u.pump t (s.tile t).cur).releaseDrains t
          (s.tile t).cur).progressed t).runOn t)) ∧
        ∀ k ∈ cellsOf m, (s.tile t).path.prog.find k = none → (u.tile t).path.prog.find k = some 0)) ∧
  (∀ (s : State) (t e en : Nat) (l : List (Nat × Nat)), (s.tile t).completing = (e, en) :: l → (s.tile t).entryDone e = true →
    (s.tile t).xfault = none → enArriveB en = false →
    ∃ u, exec (.entryComplete t) s = .next u ∧ (u.tile t).completing = l ∧
      (enSetF en = true →
        u.net.tendril = s.net.tendril ++ [⟨s.tileNode t, 3, field (s.tile t).cuvee 8 20 + field (enFlag en) 7 13 + 1⟩]) ∧
      (enSetF en = false → u.net.tendril = s.net.tendril) ∧
      (enLast en = true → ((s.tile t).act = .running ∨ (s.tile t).act = .held) → (u.tile t).act = .idle) ∧
      (enLast en = false → (u.tile t).act = (s.tile t).act))

/-- TRANSFER_ISSUE (R109, R114, R149) of an issue of one packet to another tile of the cuvee sends that packet and leaves the
queue; TRANSLATION_WALK_DONE (R218, R225) ends its walk, and a poisoned leaf leaves its fault to the tile. -/
def Obligations.TransferAndWalk : Prop :=
  (∀ (s : State) (t r : Nat) (q : Issue), (s.tile t).queue = [q] → q.sent = 0 → r = (s.tile t).rows.getD q.row 0 →
    (s.tile t).act ≠ .faulted → s.mayInject (s.tile t).cuvee = true → (s.tile t).xfault = none → xrTarget r = 1 →
    0 < xrBytes r → (xrAddr r q.n q.m % (2 ^ 20 : Nat)).toNat % 256 + xrBytes r ≤ 256 →
    (s.tile t).inFlight (xrOp r == 0) < 192 → (s.tile t).towards ((s.cvTiles (s.tile t).cuvee).getD (bits r 42 32) t) < 4 →
    ∃ (u : State) (p : Packet), exec (.transferIssue t) s = .next (u.runOn t) ∧ (u.tile t).queue = [] ∧ u.net.flight = s.net.flight ++ [p] ∧
      p.src = t ∧ p.dst = (s.cvTiles (s.tile t).cuvee).getD (bits r 42 32) t ∧ p.bytes = xrBytes r ∧ p.last = true ∧
      p.addr = (xrAddr r q.n q.m % (2 ^ 20 : Nat)).toNat ∧ p.ty = if xrOp r = 0 then 0 else xrOp r + 1) ∧
  (∀ (s : State) (id c t va : Nat) (w bad : Bool) (q : Issue),
    s.mem.walks.find? (fun e => e.1 == id) = some (id, c, t, va, w, q) →
    ∃ u, exec (.translationWalkDone id bad) s = .next u ∧ (∀ e ∈ u.mem.walks, e.1 ≠ id) ∧
      (bad = true → (s.tile t).cuvee = c → (s.tile t).queue.head?.map Issue.entry = some q.entry →
        (u.tile t).xfault = some ⟨7, va⟩ ∧ (u.tile t).queue = []))

/-! ## Trellis and tendril network (chapter 6) -/

/-- Packets land in a tile's store (R110, R149, R151, R158, R166): a WRITE and a copy of a MCAST_WRITE put their payload there, a
WRITE_ADD adds it to what stood there, and each is acknowledged; READ_DATA lands at the place its GET named. Every other
byte of memory stays.
Where the manual is silent or open it rests on the model's reading or choice: log 8. -/
def Obligations.PacketsLandInTileStores : Prop :=
  ∀ (s : State) (p : Packet), s.arrives p = true → packetOk p = true → p.dst / 2048 = 0 → p.status ≠ 1 → p.data.length = p.bytes →
    (∀ i, ((i = .trellisWrite p .clean ∧ p.ty = 2) ∨ (i = .mcastWrite ⟨p, .clean⟩ ∧ p.ty = 7)) →
      ∃ t, exec i s = .next t ∧
        (∀ k < p.bytes, readByte t.mem.store (storeKey p.dst ((p.addr % 2 ^ 20 + k) % 2 ^ 20)) = p.data.getD k 0) ∧
        (∀ a, (∀ k < p.bytes, a ≠ storeKey p.dst ((p.addr % 2 ^ 20 + k) % 2 ^ 20)) →
          readByte t.mem.store a = readByte s.mem.store a) ∧
        t.mem.hbm = s.mem.hbm ∧ (∃ q ∈ t.net.flight, q.ty = 5 ∧ q.dst = p.src ∧ q.tag = p.tag ∧ q.src = p.dst)) ∧
    (∀ i, ((i = .writeAddFp32 none ⟨p, .clean⟩ ∧ p.ty = 3) ∨ (i = .writeAddBf16 none ⟨p, .clean⟩ ∧ p.ty = 4)) →
      p.offset % (if p.ty = 3 then 4 else 2) = 0 → p.bytes % (if p.ty = 3 then 4 else 2) = 0 →
      ∃ t, exec i s = .next t ∧
        (∀ k < p.bytes, readByte t.mem.store (storeKey p.dst ((p.addr % 2 ^ 20 + k) % 2 ^ 20)) =
          (addPayload (p.ty == 4) (toBytes p.bytes (s.storeNat p.dst (p.addr % 2 ^ 20) p.bytes)) p.data).getD k 0) ∧
        (∀ a, (∀ k < p.bytes, a ≠ storeKey p.dst ((p.addr % 2 ^ 20 + k) % 2 ^ 20)) →
          readByte t.mem.store a = readByte s.mem.store a) ∧
        t.mem.hbm = s.mem.hbm ∧ (∃ q ∈ t.net.flight, q.ty = 5 ∧ q.dst = p.src ∧ q.tag = p.tag ∧ q.src = p.dst)) ∧
    (∀ o, p.ty = 1 → (s.tile p.dst).out.find? (fun x => x.isGet && x.tag == p.tag) = some o →
      ∃ t, exec (.readData p .clean) s = .next t ∧
        (∀ k < p.bytes, readByte t.mem.store (storeKey p.dst ((o.local_ + k) % 2 ^ 20)) = p.data.getD k 0) ∧
        (∀ a, (∀ k < p.bytes, a ≠ storeKey p.dst ((o.local_ + k) % 2 ^ 20)) →
          readByte t.mem.store a = readByte s.mem.store a) ∧
        t.mem.hbm = s.mem.hbm ∧ (t.tile p.dst).out = (s.tile p.dst).out.erase o)

/-- TRELLIS_READ of a tile's store (R149) is answered with READ_DATA, whose payload is the bytes there, on its VC and with its
tag; nothing of memory changes. A read of parcel memory by one who does not own the pseudo-channel is answered NACK STATUS 2; a read
of host memory waits for its completion at the port (R227).

What follows a packet (R110, R160–R165): an ACK ends the packet of its tag at its tile; a NACK of a multicast copy without a
buffer, TRY below 8, has it sent again after its backoff; MULTICAST_RESEND sends the copy to its target alone; a combine
record whose hold is over goes on; a WRITE_ADD joins a partner that waits in a router on its way; a STATE packet lands and is
acknowledged.
Where the manual is silent or open it rests on the model's reading or choice: log 8. -/
def Obligations.ReadsAndAnswers : Prop :=
  (∀ (s : State) (p : Packet) (latency : Nat), s.arrives p = true → p.ty = 0 → packetOk p = true →
    (p.dst / 2048 = 0 →
      ∃ (t : State) (a : Packet), exec (.trellisRead ⟨p, .clean⟩ .clean latency) s = .next t ∧ t.net.flight = s.net.flight.erase p ++ [a] ∧ a.ty = 1 ∧
        a.src = p.dst ∧ a.dst = p.src ∧ a.tag = p.tag ∧ a.vc = p.vc ∧ a.status = 0 ∧
        a.data = toBytes p.bytes (s.storeNat p.dst (p.addr % 2 ^ 20) p.bytes) ∧ t.mem = s.mem) ∧
    (∀ k, p.dst / 2048 = 1 → s.pcAt p = some k → s.ownerOk p.cuvee k = false →
      ∃ (t : State) (a : Packet), exec (.trellisRead ⟨p, .clean⟩ .clean latency) s = .next t ∧ t.net.flight = s.net.flight.erase p ++ [a] ∧ a.ty = 6 ∧
        a.status = 2 ∧ a.dst = p.src ∧ t.mem = s.mem) ∧
    (p.dst / 2048 = 4 → s.hostShut p.cuvee = false →
      ∃ (t : State) (h : HostRead), exec (.trellisRead ⟨p, .clean⟩ .clean latency) s = .next t ∧ t.net.flight = s.net.flight.erase p ∧
        (t.host (portOf (p.dst % 2))).reads = (s.host (portOf (p.dst % 2))).reads ++ [h] ∧ h.pkt = p ∧ h.cuvee = p.cuvee ∧
        h.addr = s.hostAddr p ∧ t.mem = s.mem)) ∧
  (∀ (s : State) (p : Packet),
    (∀ o, s.arrives p = true → packetOk p = true → p.ty = 5 → (s.leavesAnswered p).1 = [(p.dst, p.tag)] → p.dst / 2048 = 0 →
      (s.tile p.dst).out.find? (fun x => !x.isGet && x.tag == p.tag) = some o → o.mgroup = none →
      ∃ t, exec (.ack ⟨p, .clean⟩) s = .next t ∧ (t.tile p.dst).out = (s.tile p.dst).out.erase o ∧ t.net.flight = s.net.flight.erase p) ∧
    (∀ o k, s.arrives p = true → packetOk p = true → p.ty = 6 → (s.leavesAnswered p).1 = [(p.dst, p.tag)] → p.dst / 2048 = 0 →
      p.status = 3 →
      (s.tile p.dst).out.find? (fun x => !x.isGet && x.tag == p.tag) = some o →
      o.targets.find? (fun e => e.1 == p.src) = some (p.src, k) → k < 8 →
      ∃ t, exec (.nack ⟨p, .clean⟩) s = .next t ∧ t.tiles = s.tiles ∧
        t.net.resends = s.net.resends ++ [(p.dst, p.tag, p.src, k + 1, 32 * 2 ^ (k + 1))]) ∧
    (∀ t tag target k b o l, s.net.resends.filter (fun r => r.1 == t) = (t, tag, target, k, b) :: l →
      (s.tile t).out.find? (fun x => !x.isGet && x.tag == tag) = some o → s.mayInject (s.tile t).cuvee = true →
      ∃ (u : State) (q : Packet), exec (.multicastResend t 0) s = .next u ∧ u.net.flight = s.net.flight ++ [q] ∧ q.dst = target ∧ q.src = t ∧
        q.tag = tag ∧ q.try_ = k ∧ u.net.resends = s.net.resends.erase (t, tag, target, k, b)) ∧
    (∀ r slot x, s.net.combines.find? (fun y => y.router == r && y.slot == slot && !y.sent) = some x →
      ∃ t, exec (.reductionHoldExpiry r slot) s = .next t ∧ t.net.flight = s.net.flight ++ [{ x.pkt with held := r :: x.pkt.held }] ∧
        ∀ y ∈ t.net.combines, y.router = r → y.slot = slot → y.sent = true) ∧
    (∀ i r x, (p.ty = 3 ∧ i = .writeAddFp32 (some r) ⟨p, .clean⟩) ∨ (p.ty = 4 ∧ i = .writeAddBf16 (some r) ⟨p, .clean⟩) →
      s.inFlight p = true → packetOk p = true → addAligned p = true → r ≤ 159 → r ∈ s.routersOf p → s.num 0x30A3 1 ≠ 0 →
      p.combine = true → r ∉ p.held → r ∉ s.net.noCombine → s.adderServes r p.cuvee = true →
      (s.net.combines.filter fun y => y.router == r).find? (fun y => !y.sent && combines y.pkt p) = some x →
      x.contribs.length < 16 → s.recordsUsed r < recordCount r →
      ∃ (t : State), exec i s = .next t ∧ t.net.flight = s.net.flight.erase p ∧ t.mem = s.mem ∧ x.join p ∈ t.net.combines) ∧
    (p.ty = 8 → s.arrives p = true → packetOk p = true → p.status ≠ 1 →
      ∃ (t : State) (a : Packet), exec (.statePkt ⟨p, .clean⟩) s = .next t ∧ t.net.flight = s.net.flight.erase p ++ [a] ∧ a.ty = 5 ∧ a.dst = p.src ∧
        a.tag = p.tag ∧ t.mem = s.mem ∧ t.tiles = s.tiles ∧
        (t.cuvee p.cuvee).rebind.landed = (s.cuvee p.cuvee).rebind.landed ++ [(p.dst, p.addr, p.data)]))

/-- The synchronisation tree (R176–R178): arrivals at the node that a barrier tops out at are counted in their round, and any
other node sends its subtree's up as one; a complete round is released to every
participant and its count falls by the arrivals owed; a flag raises the counters of every tile of its cuvee, which saturate
at 255.
Where the manual is silent or open it rests on the model's reading or choice: log 70. -/
def Obligations.BarriersAndFlags : Prop :=
  (∀ (s : State) (b gen count : Nat) (r : Barrier) (fs : List TendrilFlit), gen < 2 → 0 < count → count ≤ 4095 →
    s.barrier b = some r →
    (takeFlits (s.topNode r) 1 ((2 * b + gen) * 8) 12 s.net.tendril count = some fs →
      ∃ (t : State) (x : Barrier), exec (.barArrive (s.topNode r) b gen count) s = .next t ∧ t.net.tendril = fs ∧
        t.barrier b = some x ∧ x.count gen = r.count gen + count) ∧
    (∀ node, node ≠ s.topNode r → node ≠ 0 → count = s.barrierOwed r node →
      takeFlits node 1 ((2 * b + gen) * 8) 12 s.net.tendril count = some fs →
      ∃ t : State, exec (.barArrive node b gen count) s = .next t ∧
        t.net.tendril = fs ++ [⟨nodeAbove node, 1, field b 12 16 + field gen 1 15 + field count 12 0⟩])) ∧
  (∀ (s : State) (b gen : Nat) (r : Barrier), s.barrier b = some r → s.releasable b gen r = true →
    ∃ (t : State) (x : Barrier), exec (.barRelease b gen) s = .next t ∧ t.barrier b = some x ∧ x.count gen = r.count gen - s.barrierTotal r ∧
      ∀ k ∈ s.groupTiles r.cuvee r.tgroup, ((s.tile k).bars.getD (b - s.barBase r.cuvee) default).arrived = true →
        ((s.tile k).bars.getD (b - s.barBase r.cuvee) default).gens = [gen] →
        ((s.tile k).bars.getD (b - s.barBase r.cuvee) default).lastGen = gen →
        ((t.tile k).bars.getD (b - s.barBase r.cuvee) default).released = true) ∧
  (∀ (s : State) (c flag count : Nat) (fs : List TendrilFlit), 0 < count → count ≤ 255 → flag < 128 →
    takeFlits 0 3 ((c * 128 + flag) * 32) 8 (s.net.tendril.map fun f =>
      if f.kind == 3 && f.payload / 2 ^ 8 == (c * 128 + flag) * 32 then { f with node := 0 } else f) count = some fs → (s.cvTiles c).Nodup →
    ∃ t, exec (.flagSet c flag count) s = .next t ∧ t.net.tendril = fs ∧
      ∀ k ∈ s.cvTiles c, (t.tile k).flags.getD flag 0 = min 255 ((s.tile k).flags.getD flag 0 + count))

/-! ## Parcel memory and power (chapters 7 and 12) -/

/-- Parcel memory between requests (R184, R191, R192, R196): the repair write of a corrected sector
that holds an entry leaves the list of those that wait; patrol scrub notes its
pass over an owned pseudo-channel; a stack's readout doubles refresh from 85 °C on and undoes it at 82 °C; a way that is
clean holds no line. -/
def Obligations.MemoryUpkeep : Prop :=
  (∀ (s : State) (k sector : Nat), (k, sector) ∈ s.repairsHeld (pcParcel k) →
    ∃ t, exec (.repairWrite k sector) s = .next t ∧
      (t.parcel (pcParcel k)).repairs = (s.parcel (pcParcel k)).repairs.erase (k, sector) ∧ t.mem.hbm = s.mem.hbm) ∧
  (∀ (s : State) (k sector c : Nat), (s.pc k).owner = some c →
    ∃ t, exec (.patrolScrub k sector .clean) s = .next t ∧ (t.pc k).scrubbed = s.time.now ∧ t.mem.hbm = s.mem.hbm) ∧
  (∀ (s : State) (p degC : Nat), s.boot.pwrGood = true →
    ∃ t, exec (.stackTemperatureRead p degC) s = .next t ∧ (t.parcel p).temp = degC ∧
      (85 ≤ degC → (t.parcel p).refreshNext = true) ∧ (degC ≤ 82 → (t.parcel p).refreshNext = false) ∧
      (82 < degC → degC < 85 → (t.parcel p).refreshNext = (s.parcel p).refreshNext)) ∧
  (∀ (s : State) (p way : Nat), way ∈ (s.parcel p).cleaning →
    ∃ t, exec (.wayCleaningDone p way) s = .next t ∧ way ∉ (t.parcel p).cleaning ∧
      ∀ l ∈ (t.parcel p).lines, l.way ≠ way)

/-- Power and heat (R359, R361, R362, R366–R369, R372): a sample adds to the energy meter, and one above 1,800 W lowers POWER_CAP
at once; the clock moves one step towards its target; φ moves by one; a die reading of 110 °C trips, a lower one sets the die
state; an observation window that is over shows its flags, and its thermal state once the one shown has held for 100
windows (R394).

R512: an input voltage beyond the absolute ratings ends what the manual says of the module. The model stops there.
Where the manual is silent or open it rests on the model's reading or choice: logs 77, 158. -/
def Obligations.PowerEvents : Prop :=
  ((∀ (s : State) (milliW avg : Nat) (v : Int), withinRatings v = true →
    ∃ t, exec (.powerSample milliW avg v) s = .next t ∧ t.power.energyAcc = s.power.energyAcc + milliW ∧
      t.power.avg1ms = avg ∧ t.power.tenthsV = v.toNat ∧ t.power.clk = s.power.clk ∧
      (s.power.limits ≠ [] → 1800000 < milliW → s.num 0x2010 1 * 95 ≤ avg * 100 → avg ≤ s.num 0x2010 1 →
        t.power.limits.getD 0 16 = max 4 (min 16 (s.power.limits.getD 0 16 - 4)))) ∧
  (∀ (s : State),
    (s.clockTarget < s.power.clk → ∃ t, exec .clockStep s = .next t ∧ t.power.clk = s.power.clk - 1) ∧
    (s.power.clk < s.clockTarget → s.power.slopeHold = false → ∃ t, exec .clockStep s = .next t ∧ t.power.clk = s.power.clk + 1)) ∧
  (∀ (s : State) (k slope : Nat), (s.tile k).phi < 16 → slope ≤ 400 →
    (∃ t, exec (.phiStep k true slope) s = .next t ∧ (t.tile k).phi = (s.tile k).phi + 1) ∧
    (∃ t, exec (.phiStep k false slope) s = .next t ∧ (t.tile k).phi = (s.tile k).phi - 1)) ∧
  (∀ (s : State) (ts : List Nat), s.boot.pwrGood = true →
    (110 ≤ maxNat ts → ∃ t, exec (.dieSensorRead ts) s = .next t ∧ t.boot.thermTrip = true ∧ t.boot.pwrGood = false ∧
      t.cuvees = [] ∧ t.flash.tripDegC = maxNat ts ∧ t.flash.trips = (s.flash.trips + 1) % 2 ^ 32) ∧
    (maxNat ts < 110 → ∃ t, exec (.dieSensorRead ts) s = .next t ∧ t.power.dieTemps = ts ∧
      (105 ≤ maxNat ts → t.power.dieState = 3) ∧ (maxNat ts < 92 → t.power.dieState = 0) ∧ t.boot = s.boot)) ∧
  (∀ (s : State) (held : Bool) (thermal : Nat), s.power.windowEnded = some (held, thermal) →
    ∃ t, exec .observationWindowEnd s = .next t ∧ t.power.windowEnded = none ∧
      (s.power.thermalHold ≤ 1 → t.power.thermalView = thermal) ∧
      (1 < s.power.thermalHold → t.power.thermalView = s.power.thermalView ∧ t.power.thermalHold = s.power.thermalHold - 1) ∧
      ∀ c ∈ s.existing, (t.cuvee c).throttleSeen = held ∧ (t.cuvee c).shortSeen = s.mem.shortEnded.contains c)) ∧
  (∀ (s : State) (milliW avg : Nat) (v : Int), withinRatings v = false →
    exec (.powerSample milliW avg v) s = .fault .beyondAbsoluteRating)

/-! ## Faults (chapter 14) -/

/-- Hangs (R437–R440): work overdue by HangEpochs, a tile without progress for StallLimit and a cuvee that misses its pages
WatchdogEpochs times over are contained faults of a RUNNING or PAUSED cuvee: the fault is counted and marked to act at the
next slot, and the state stands until then.

Shared engines (R448–R451): an engine found wrong is fenced and its suspects noted; REPLAY_DONE with a transient outcome
frees it; at REPLAY_LIMIT it is retired.
Where the manual is silent or open it rests on the model's reading or choice: logs 152, 156. -/
def Obligations.HangsAndSharedEngines : Prop :=
  (∀ (s : State) (c : Nat) (i : Instr), (s.cuvee c).live = true → (s.cuvee c).quiesce = none →
    ((∃ id w d, i = .hangDeadline id ∧ s.watch id = some w ∧ w.cuvee = c ∧ w.deadline = some d ∧ w.complete = false ∧
        w.hung = false ∧ (s.val 0xB002 c).get 0 2 ≠ 0 ∧ d + 4096 * (s.val 0xB002 c).get 0 2 ≤ s.slotCount) ∨
      (∃ t, i = .hangStall t ∧ (s.tile t).act = .running ∧ (s.tile t).cuvee = c ∧ c ≠ 0 ∧
        ((s.val 0xB002 c).get 8 8 : Nat) ≤ s.slotStart s.time.slot - (s.tile t).progress) ∨
      (i = .hangWatchdog c ∧ (s.val 0xB002 c).get 2 2 ≤ (s.cuvee c).missRun ∧ s.coresOf c = [])) →
    ∃ u, exec i s = .next u ∧ (u.cuvee c).faultNext = true ∧ (u.cuvee c).faults = ((s.cuvee c).faults + 1) % 2 ^ 32 ∧
      (u.cuvee c).state = (s.cuvee c).state) ∧
  (∀ (s : State) (e : Engine), e.kind ≤ 3 →
    (s.faults.engines.getD (engineKey e) 0 = 0 →
      ∃ t, exec (.sharedEngineFault e) s = .next t ∧ t.faults.engines.find (engineKey e) = some 1 ∧
        t.faults.suspects.find (engineKey e) = some (s.time.now, s.slotCount, s.suspectsOf e)) ∧
    (∀ x, s.faults.suspects.find (engineKey e) = some x →
      (∃ t, exec (.replayDone e .transient) s = .next t ∧ t.faults.engines.getD (engineKey e) 0 = 0 ∧
        t.faults.suspects.find (engineKey e) = none) ∧
      (∃ t, exec (.replayLimit e) s = .next t ∧ t.faults.engines.getD (engineKey e) 0 = 2 ∧
        t.faults.suspects.find (engineKey e) = none)))

/-! ## The serving loop (chapter 9) -/

/-- Fetched entries (R280, R292, R298): a text sequence and a tensor job join the waiting requests, a frame its stream's queue,
or it completes OVERCOMMIT where the queue is full.

Courier commands (R235, R236): a plain PREFETCH whose copy meets no fault completes DONE; ADVISE of a code that is kept adds
its range to the table while it has room, and completes DONE.
Where the manual is silent or open it rests on the model's reading or choice: log 87. -/
def Obligations.FetchedEntriesAndCourier : Prop :=
  (∀ (s u : State) (c : Nat) (j : Job),
    (s.takeNew (fun j => jbKind j == 1) = some (c, j, u) →
      ∃ t, exec .textSequence s = .next t ∧ (t.cuvee c).serving.waiting = (s.cuvee c).serving.waiting ++ [j] ∧
        (t.cuvee c).serving.newJobs = (s.cuvee c).serving.newJobs.erase j) ∧
    (s.takeNew (fun j => jbKind j == 3) = some (c, j, u) →
      ∃ t, exec .tensorJob s = .next t ∧ (t.cuvee c).serving.waiting = (s.cuvee c).serving.waiting ++ [j] ∧
        (t.cuvee c).serving.newJobs = (s.cuvee c).serving.newJobs.erase j) ∧
    (s.takeNew (fun j => jbKind j == 2) = some (c, j, u) →
      let k := j.entry.get 28 2
      let q := (s.cuvee c).serving.streamQ.getD k []
      (q.length ≤ smDepth (s.stream c k) →
        ∃ t, exec .frame s = .next t ∧ (t.cuvee c).serving.streamQ.getD k [] = q ++ [j]) ∧
      (smDepth (s.stream c k) < q.length → (s.ring c j.pair).state ≠ 0 →
        ∃ t, exec .frame s = .next t ∧ t.completed c j 9 ∧ (t.cuvee c).serving.streamQ = (s.cuvee c).serving.streamQ))) ∧
  (∀ (s u : State) (c : Nat) (j : Job), (s.ring c j.pair).state ≠ 0 →
    (∀ data : List Byte, s.takeNew (fun j => jbKind j == 4 && jbSub j == 0x10) = some (c, j, u) → jbOpt j = 0 →
      ((u.jobBegin c 2 0x10 0 (j.entry.get 40 8) (j.entry.get 24 8)).courierCopy c (j.entry.get 18 1) (j.entry.get 24 8)
        (j.entry.get 32 8) (j.entry.get 40 8) data).1 = none →
      ∃ t, exec (.prefetch data) s = .next t ∧ t.completed c j 0) ∧
    (s.takeNew (fun j => jbKind j == 4 && jbSub j == 0x11) = some (c, j, u) → (jbOpt j = 3 ∨ jbOpt j = 4) →
      let kept := (s.cuvee c).serving.advice.filter fun e => !adviceMeets (j.entry.get 24 8) (j.entry.get 40 8) e
      kept.length < 16 →
      ∃ t, exec .advise s = .next t ∧ t.completed c j 0 ∧ (t.cuvee c).serving.advice = kept ++
        [(j.entry.get 24 8, j.entry.get 40 8, j.entry.get 32 8, jbOpt j, s.time.epochs + 1)]))

/-- CONTROL entries at a boundary (R281, R282, R287, R289, R391): a CANCEL of a request that waits completes it CANCELLED and
itself DONE, one that finds nothing completes NOT_FOUND; LOAD_MODEL of an empty slot whose bottle fails a check is REJECTED,
and one whose bottle passes installs its recipe, LOADING, and keeps its BOTTLE_ID; UNLOAD_MODEL of an idle model empties its slot; PLACE of a placement that fits stands or waits for its boundary.

A load in progress ends (R391, R392): a bottle of which a tag or the signature fails leaves its slot EMPTY and its command REJECTED; one whose weights
are all written leaves the model READY. STAVES_EXHAUSTED (R295) leaves no sequence out of eight steps waiting on.
Where the manual is silent or open it rests on the model's reading or choice: logs 87, 91. -/
def Obligations.ControlEntriesAndLoads : Prop :=
  (∀ (s : State) (c : Nat) (j : Job), (s.ring c j.pair).state ≠ 0 →
    (s.controlDue 1 = some (c, j) →
      (∀ q l, (s.cuvee c).serving.newJobs = [] → (s.cuvee c).serving.waiting = q :: l →
        isTarget j.pair (j.entry.get 24 8) q = true →
        ∃ t, exec .controlCancel s = .next t ∧ (t.cuvee c).serving.waiting = l ∧ t.completed c j 0) ∧
      ((s.cuvee c).serving.models = [] → (s.cuvee c).serving.newJobs = [] → (s.cuvee c).serving.waiting = [] →
        (s.cuvee c).serving.streamQ = [] → (s.cuvee c).serving.stepJobs = [] → (s.cuvee c).serving.outputs = [] →
        ∃ t, exec .controlCancel s = .next t ∧ t.completed c j 0x0A)) ∧
    (∀ (b : BottleFindings) (reason : Nat) (h : Blob), s.controlDue 2 = some (c, j) → s.model c (jbOpt j) = none →
      ((s.controlDone c).openBottle c j b).1 = .ok (reason, h) →
      (reason ≠ 0 → ∃ t, exec (.loadModel b) s = .next t ∧ t.completed c j 0x0B ∧ t.model c (jbOpt j) = none) ∧
      (reason = 0 → (((s.controlDone c).openBottle c j b).2.install c (jbOpt j) b.recipe j).1 = 0 →
        ∃ (t : State) (m : Model), exec (.loadModel b) s = .next t ∧ t.model c (jbOpt j) = some m ∧ m.state = 1 ∧ m.recipe = b.recipe ∧
          m.loadJob = some j ∧ m.bottle = boId h)) ∧
    (∀ m, s.controlDue 3 = some (c, j) → s.model c (jbOpt j) = some m →
      (s.controlDone c).modelBusy c (jbOpt j) m = false →
      ∃ t, exec .unloadModel s = .next t ∧ t.model c (jbOpt j) = none ∧ t.completed c j 0) ∧
    (∀ m p, s.controlDue 4 = some (c, j) → s.model c (jbOpt j) = some m →
      firstIdx (fun (q : Placement) => q.tiles == bits (j.entry.get 24 8) 27 16) m.recipe.placements = some p →
      bits (j.entry.get 24 8) 10 0 + bits (j.entry.get 24 8) 27 16 ≤ (s.cvTiles c).length →
      groupBeyond (m.recipe.placements.getD p default) (bits (j.entry.get 24 8) 10 0) (s.cvTiles c).length = false →
      ∃ (t : State) (n : Model), exec .place s = .next t ∧ t.model c (jbOpt j) = some n ∧ t.completed c j 0 ∧
        (n.nextPlace = some (p, bits (j.entry.get 24 8) 10 0) ∨
          (n.placement = p ∧ n.base = bits (j.entry.get 24 8) 10 0 ∧ n.nextPlace = none)))) ∧
  (∀ (s : State) (c slot : Nat) (m : Model), s.model c slot = some m → (s.cuvee c).live = true →
    (∀ (b : BottleFindings) (j : Job), m.state = 1 → m.loadJob = some j → (s.ring c j.pair).state ≠ 0 →
      ((b.tags = false ∨ b.signed = false) →
        ∃ t, exec (.bottleLoadDone c slot b) s = .next t ∧ t.model c slot = none ∧ t.completed c j 0x0B) ∧
      (b.tags = true → b.signed = true →
        ((s.bottleJobs c m.content true).writePieces c (j.entry.get 18 1) m.recipe.weights).1 = none →
        ∃ (t : State) (n : Model), exec (.bottleLoadDone c slot b) s = .next t ∧ t.model c slot = some n ∧ n.state = 2 ∧ n.loadJob = none ∧
          t.completed c j 0)) ∧
    ((∃ q ∈ m.seqs, q.prompt = [] ∧ 8 ≤ q.leftOut) →
      ∃ (t : State) (n : Model), exec (.stavesExhausted c slot) s = .next t ∧ t.model c slot = some n ∧ ∀ q ∈ n.seqs, q.leftOut < 8))

/-- A step is over (R286, R291): of a text or tensor model it is counted and no longer unsampled; a tensor model's job goes on
to its output. OUTPUT_COPY_DONE takes the oldest output away.

PAGE_CLOSE (R298), once an epoch from its slot on; NEXT_PAGE_COMPLETE (R69) writes the next page and sets NEXT_READY, and
leaves the current page as it is.
Where the manual is silent or open it rests on the model's reading or choice: logs 99, 101. -/
def Obligations.StepsOutputsAndPages : Prop :=
  ((∀ (s : State) (c slot : Nat) (m : Model) (cands : List Candidates) (prompts : List (Nat × List Nat)),
    s.model c slot = some m → (s.cuvee c).live = true → m.recipe.kind ≠ 2 → 0 < m.unsampled →
    s.stepOver c (onCuvee m.groupBase (btGroup m)) (decide (2 ≤ m.unsampled)) = true →
    ∃ (t : State) (n : Model), exec (.stepComplete c slot cands prompts) s = .next t ∧ t.model c slot = some n ∧ n.steps = m.steps + 1 ∧
      n.unsampled = m.unsampled - 1 ∧
      (∀ j, m.recipe.kind = 3 → m.current.find? Job.started = some j → jbKind j = 3 →
        n.current = m.current.erase j ∧ (t.cuvee c).serving.outputs = (s.cuvee c).serving.outputs ++ [j])) ∧
  (∀ (s : State) (c : Nat) (j : Job) (l : List Job), (s.cuvee c).serving.outputs = j :: l → (s.cuvee c).live = true →
    ∃ t, exec (.outputCopyDone c) s = .next t ∧ (t.cuvee c).serving.outputs = l)) ∧
  ((∀ (s : State) (c : Nat), (s.cuvee c).live = true → s.pageCloseSlot c ≤ s.time.slot →
    (s.cuvee c).serving.closedAt ≠ some s.time.epochs →
    ∃ t, exec (.pageClose c) s = .next t ∧ (t.cuvee c).serving.closedAt = some s.time.epochs) ∧
  (∀ (s : State) (c : Nat) (rows : List Nat), (s.seg c).length ≠ 0 → (s.seg c).ready = false →
    ((s.cuvee c).state = .bound ∨ (s.cuvee c).live = true) →
    ∃ t, exec (.nextPageComplete c rows) s = .next t ∧ (t.seg c).ready = true ∧ (t.seg c).curPage = (s.seg c).curPage ∧
      (∀ i < (s.seg c).length, t.row ((s.seg c).current + i) = s.row ((s.seg c).current + i)) ∧
      ∀ i < (s.seg c).length, t.row ((s.seg c).nextPage + i) < 2 ^ 128))

/-- Switching and pre-emption (R299, R300): when every tile of the group has stopped the new model stands on them and the step
starts, on each that is not FAULTED; a pre-empting step that is over gives the steps it stopped their tiles back. -/
def Obligations.Switching : Prop :=
  ∀ (s : State) (c g : Nat), (s.cuvee c).live = true → (s.cuvee c).quiesce = none →
    (∀ h m, (s.cuvee c).serving.switching.find g = some h → s.model c h.model = some m →
      (∀ k ∈ s.groupTiles c g, (s.tile k).switchable = true ∧ (s.tile k).act ≠ .faulted) → (s.groupTiles c g).Nodup →
      ∃ t, exec (.switchDone c g) s = .next t ∧ (t.cuvee c).serving.switching.find g = none ∧
        ∀ k ∈ s.groupTiles c g, (t.tile k).act = .running ∧ (t.tile k).entry = h.entry ∧ (t.tile k).runTag = h.tag) ∧
    (∀ lows, (s.cuvee c).serving.preempts.find g = some lows → s.groupBusy c g = false →
      (s.cuvee c).serving.switching.find g = none →
      ∃ t, exec (.preemptedResume c g) s = .next t ∧ (t.cuvee c).serving.preempts.find g = none)

/-! ## Casks (chapter 11) -/

/-- Cask commands (R338): CASK_OFFER of an OWNED cask that no sequence holds, through a valid window with a way to its peer,
makes it OFFERED; CASK_FETCH sends its FETCH and waits; CASK_FREE frees the cask.

The timers of a hand-over (R341, R344) while the cuvee is live: OFFER_TIMEOUT withdraws an offer, OWNED at n + 1;
ACCEPT_TIMER sends a QUERY, and past QueryLimit the cask is in LIMBO; FETCH_TIMEOUT ends the fetch with CASK_LOST.
Where the manual is silent or open it rests on the model's reading or choice: logs 16, 113. -/
def Obligations.CaskCommandsAndTimers : Prop :=
  (∀ (s : State) (c : Nat) (j : Job), (s.ring c j.pair).state ≠ 0 → s.group c ≠ 0 →
    let lw := s.linkWindow c (j.entry.get 28 1)
    let e := s.routeEntry (bits lw 223 216)
    let id := j.entry.get 24 4
    (∀ x i m k, s.controlDue 0x30 = some (c, j) → s.cask c id = some x → x.state = 1 → s.caskHeld c id = false →
      s.logPlace c = some i → s.model c x.model = some m → bit lw 255 = true → bit e 31 = true →
      bits e 11 0 = bits lw 215 204 → s.egress e = some k →
      ∃ (t : State) (y : Cask), exec .caskOffer s = .next t ∧ t.cask c id = some y ∧ y.state = 2 ∧ y.peer = bits lw 215 204 ∧ y.vintage = x.vintage ∧
        y.port = k) ∧
    (∀ k, s.controlDue 0x31 = some (c, j) → bit lw 255 = true → bit e 31 = true → bits e 11 0 = bits lw 215 204 →
      s.egress e = some k →
      ∃ (t : State) (m : CaskMsg), exec .caskFetch s = .next t ∧ (t.cuvee c).serving.fetches = (s.cuvee c).serving.fetches ++
          [⟨j, id, j.entry.get 28 1, j.entry.get 29 1, none⟩] ∧
        (t.port k).ctl = (s.port k).ctl ++ [.cask m] ∧ m.sub = 6 ∧ m.dst = bits lw 215 204) ∧
    (∀ x, s.controlDue 0x32 = some (c, j) → s.cask c id = some x → x.state = 1 → s.caskHeld c id = false →
      ∃ t, exec .caskFree s = .next t ∧ t.cask c id = none ∧ t.completed c j 0)) ∧
  (∀ (s : State) (c : Nat), (s.cuvee c).live = true →
    (∀ id x, s.cask c id = some x → x.state = 2 →
      ∃ (t : State) (y : Cask), exec (.offerTimeout c id) s = .next t ∧ t.cask c id = some y ∧ y.state = 1 ∧ y.vintage = x.vintage + 1) ∧
    (∀ id x, s.cask c id = some x → x.state = 4 →
      (x.queries < s.num 0x6010 4 →
        ∃ (t : State) (y : Cask), exec (.acceptTimer c id) s = .next t ∧ t.cask c id = some y ∧ y.state = 4 ∧ y.queries = x.queries + 1) ∧
      (s.num 0x6010 4 ≤ x.queries →
        ∃ (t : State) (y : Cask), exec (.acceptTimer c id) s = .next t ∧ t.cask c id = some y ∧ y.state = 5)) ∧
    (∀ f id, (s.cuvee c).serving.fetches.find? (fun f => f.cask.isNone && jbRequest f.job == id) = some f →
      (s.ring c f.job.pair).state ≠ 0 →
      ∃ t, exec (.fetchTimeout c id) s = .next t ∧ (t.cuvee c).serving.fetches = (s.cuvee c).serving.fetches.erase f ∧
        t.completed c f.job 2))

/-- Hand-over messages for this device (R338, R341): ACCEPT of what is OFFERED frees the cask here; DECLINE of it makes it OWNED
again at its vintage; RELEASE and the answer YOURS make an incoming cask OWNED; a QUERY is answered from the log; a FETCH waits
for the boundary; an OFFER that nothing speaks against takes an entry, RECEIVING, and its data.
Where the manual is silent or open it rests on the model's reading or choice: logs 106, 107. -/
def Obligations.HandOverMessages : Prop :=
  ∀ (s : State) (k c : Nat) (m : CaskMsg), (.cask m) ∈ (s.port k).inbox → m.dst = s.deviceId →
    s.groupCuvee m.group = some c → (s.cuvee c).live = true →
    (∀ x, m.sub = 1 → s.cask c m.offerer = some x → x.state = 2 → x.uid = m.uid → x.vintage + 1 = m.vintage →
      ∃ t, exec (.accept k m) s = .next t ∧ t.cask c m.offerer = none) ∧
    (∀ x, m.sub = 2 → s.cask c m.offerer = some x → x.state = 2 → x.uid = m.uid → x.vintage + 1 = m.vintage →
      ∃ (t : State) (y : Cask), exec (.decline k m) s = .next t ∧ t.cask c m.offerer = some y ∧ y.state = 1 ∧ y.vintage = x.vintage) ∧
    (∀ id x, s.incoming c m = some (id, x) →
      (m.sub = 3 → ∃ (t : State) (y : Cask), exec (.caskRelease k m) s = .next t ∧ t.cask c id = some y ∧ y.state = 1 ∧ y.vintage = x.vintage) ∧
      (m.sub = 5 → m.code = 0 → ∃ (t : State) (y : Cask), exec (.answer k m) s = .next t ∧ t.cask c id = some y ∧ y.state = 1)) ∧
    (∀ e, m.sub = 4 → (s.routeTo m.src).bind s.egress = some e →
      ∃ (t : State) (a : CaskMsg), exec (.caskQuery k m) s = .next t ∧ (t.port e).ctl = (s.port e).ctl ++ [.cask a] ∧ a.sub = 5 ∧ a.dst = m.src ∧
        a.uid = m.uid ∧ a.vintage = m.vintage ∧
        a.code = (match (s.logOf c m.uid m.vintage).map fun l => l.2.outcome with
          | some 2 => 0 | some 3 => 1 | some 1 => 3 | _ => 2)) ∧
    (m.sub = 6 → ∃ t, exec (.fetch k m) s = .next t ∧
      (t.cuvee c).serving.serves = (s.cuvee c).serving.serves ++ [(m.src, m.offerer, m.code, s.slotCount)]) ∧
    (∀ x, s.linkXfer k false m.xtag = some x → s.offerWindowOk k c m = true → 64 ≤ x.data.length →
      s.offerCode c m ⟨64, ofBytes (x.data.take 64)⟩ = 0 →
      ∃ (u : State) (id : Nat) (y : Cask), exec (.offer k m) s = .next (u.caskData c id) ∧ u.cask c id = some y ∧ y.state = 3 ∧
        y.uid = m.uid ∧ y.vintage = m.vintage ∧ y.peer = m.src ∧ y.peerCask = m.offerer)

/-! ## Links (chapter 11) -/

/-- Link ports (R309–R311, R316, R329, R331): signal and its loss, training, a lane's failure, the last step of keying, and the
limit of a key. PortEnable 0 takes a port DOWN (R349).

Flits (R312–R318): a flit received whole and in order moves the sequence on by one, one out of order is not accepted and asks
for a replay; CONTROL_FLIT_SEND sends a frame, whose control flit joins the replay buffer first and returns the credits owed. TIME_SEND queues a TIME message that carries E.
Where the manual is silent or open it rests on the model's reading or choice: log 81. -/
def Obligations.PortEventsAndFlits : Prop :=
  (∀ (s : State) (k : Nat),
    (∀ a : Access, s.hears a = true → a.path = .pf s.dict.steward → k < 12 →
      ∃ t, exec (.portEnable a k false) s = .next t ∧ t.answered a 0 = true ∧ (t.port k).state = 0 ∧
        t.num 0x6001 (k + 1) = 0) ∧
    (s.num 0x6001 (k + 1) = 1 → (s.port k).state = 0 →
      ∃ t, exec (.signalDetect k) s = .next t ∧ (t.port k).state = 1 ∧ (t.port k).signal = true) ∧
    ((s.port k).state ≠ 5 → ∃ t, exec (.signalLoss k) s = .next t ∧ (t.port k).state = 0 ∧ (t.port k).signal = false ∧
      (t.port k).xfers = []) ∧
    (∀ good, ((s.port k).state = 1 ∨ (s.port k).state = 4) →
      (4 ≤ ((List.range 5).filter good.testBit).length → s.deviceId ≠ 0 →
        ∃ t, exec (.trainingDone k good) s = .next t ∧ (t.port k).state = 2) ∧
      (((List.range 5).filter good.testBit).length < 4 →
        ∃ t, exec (.trainingDone k good) s = .next t ∧ (t.port k).state = 5 ∧ (t.port k).cause = 1)) ∧
    (∀ lane, (s.port k).state = 3 → lane ≠ (s.port k).spare → (s.port k).recent = [] →
      ∃ t, exec (.laneFailure k lane) s = .next t ∧ (t.port k).state = 4 ∧ (t.port k).cause = 1 ∧
        (t.port k).retrains = ((s.port k).retrains + 1) % 65536) ∧
    (∀ m : KeyMsg, (.key m) ∈ (s.port k).inbox → (s.port k).state = 2 → (s.port k).keyStep = 5 → m.step = 5 → m.last = true →
      m.verifies = true →
      ∃ t, exec (.key k m) s = .next t ∧ (t.port k).state = 3 ∧ (t.port k).credits = [256, 256, 256, 256] ∧
        (t.port k).keyCount = 0 ∧ (t.port k).keyFails = 0) ∧
    ((s.port k).state = 3 → (s.port k).rekeying = false →
      (2 ^ 32 - 2 ^ 16 ≤ (s.port k).keyCount ∨ 600000000000 ≤ s.time.now - (s.port k).keyAge) →
      ∃ t, exec (.rekeyDue k) s = .next t ∧ (t.port k).rekeying = true ∧ (t.port k).state = 3)) ∧
  (∀ (s : State) (k : Nat), (s.port k).state = 3 →
    (∀ f : Flit, f.nak = false → (f.kind = 0 ∨ f.kind = 1) → (s.port k).accepts f = true →
      (f.seq = (s.port k).nextRx →
        ∃ t, exec (.flitReceive k f) s = .next t ∧ (t.port k).nextRx = ((s.port k).nextRx + 1) % 1024 ∧ (t.port k).nak = false) ∧
      (f.seq ≠ (s.port k).nextRx →
        ∃ t, exec (.flitReceive k f) s = .next t ∧ (t.port k).nextRx = (s.port k).nextRx ∧ (t.port k).nak = true ∧
          (t.port k).inbox = (s.port k).inbox)) ∧
    ((s.port k).replay = [] →
      ∃ (t : State) (f : Flit) (l : List Flit), exec (.controlFlitSend k) s = .next t ∧ (t.port k).replay = f :: l ∧ f.kind = 0 ∧ f.seq = (s.port k).nextTx ∧
        f.slot = 0 ∧ f.frame = (s.port k).frame ∧ f.ack = (s.port k).nextRx ∧ f.credits = (s.port k).owed) ∧
    (0 < s.cycle → ∃ (t : State) (m : TimeMsg), exec (.timeSend k) s = .next t ∧ (t.port k).ctl = (s.port k).ctl ++ [.time m] ∧
      m.e = s.time.e % 2 ^ 40 ∧ (t.port k).sentAt = s.time.now))

/-- Transfers (R230–R232, R324–R326): a write for this device that its window and places let through, with its data in, is answered DONE
with STATUS 0, and a read gets its answer; a DONE ends this device's transfer; TRANSFER_CLOSE sends the REQUEST of one that is
open; TRANSFER_TIMEOUT ends one.
Where the manual is silent or open it rests on the model's reading or choice: logs 16, 85. -/
def Obligations.Transfers : Prop :=
  (∀ (s u : State) (k : Nat) (m : LinkRequest) (x : LinkXfer) (places : List (Nat × Nat × Nat × Nat × Nat)),
    s.takeMsg k (.request m) = some u → m.dst = s.deviceId → m.op < 4 → s.linkXfer k false m.xtag = some x →
    s.inboundOk k m.window m.src m.group m.offset m.length (m.op != 3) = true →
    (u.inboundPlaces (bits (s.inbound m.window) 99 92) ((u.portParcel k).getD 0) (bits (s.inbound m.window) 91 88) (m.op != 3)
      (rangeChunks (bits (s.inbound m.window) 47 0 + m.offset) m.length)).1 = some places →
    (m.op ≠ 3 → m.length ≤ x.data.length →
      ∃ t, exec (.request k m) s = .next t ∧
        (t.port k).ctl = (s.port k).ctl ++ [.done ⟨0, 0, m.xtag, s.deviceId, m.src, m.group, m.length⟩] ∧
        t.linkXfer k false m.xtag = none) ∧
    (m.op = 3 → ∃ (t : State) (y : LinkXfer), exec (.request k m) s = .next t ∧ t.linkXfer k false m.xtag = some y ∧ y.answer.isSome = true)) ∧
  (∀ (s : State) (k tag : Nat) (x : LinkXfer), s.linkXfer k true tag = some x →
    (∀ m : LinkDone, (.done m) ∈ (s.port k).inbox → m.xtag = tag → m.status ≤ 5 → x.fwdPort = none → x.req.op ≠ 4 →
      ∃ t, exec (.done k m) s = .next t ∧ t.linkXfer k true tag = none) ∧
    (x.open_ = true → ∃ t, exec (.transferClose k tag) s = .next t ∧ (t.port k).ctl = (s.port k).ctl ++ [.request x.req] ∧
      ∀ y, t.linkXfer k true tag = some y → y.open_ = false) ∧
    (((s.cuvee x.cuvee).state ≠ .frozen ∧ (s.cuvee x.cuvee).state ≠ .saved) ∨ (s.cuvee x.cuvee).linksRun = true →
      ∃ t, exec (.transferTimeout k tag) s = .next t ∧ t.linkXfer k true tag = none))

/-- Other messages of a link (R332–R335, R347, R348): TIME notes its phase and arrival; BARRIER is held at the member or the
master; the estate's marker is taken by every cuvee that awaits it; SQUASH ends the transfers between its sender and the
group; FLARE not seen before is logged. -/
def Obligations.LinkMessages : Prop :=
  ∀ (s : State) (k : Nat),
    (∀ (m : TimeMsg) (arrival : Instant), (.time m) ∈ (s.port k).inbox →
      ∃ t, exec (.time k m arrival) s = .next t ∧ (t.port k).lastPhase = m.phase ∧ (t.port k).lastPhaseAt = arrival ∧
        (t.port k).inbox = (s.port k).inbox.erase (.time m)) ∧
    (∀ (m : GroupBarMsg) e r, (.barrier m) ∈ (s.port k).inbox → m.dst = s.deviceId →
      s.groupBarrierOf m.group m.gbar = some e → bit e 62 ≠ m.release → s.barrier (bits e 11 0) = some r →
      ∃ t, exec (.barrier k m) s = .next t ∧
        t.barrier (bits e 11 0) = some { r with members := r.members ++ [(m.gen, m.src)] }) ∧
    (∀ (m : MarkMsg), (.mark m) ∈ (s.port k).inbox → m.scope = 1 →
      ∃ t, exec (.linkHolidayMark k m) s = .next t ∧
        ∀ c ∈ s.existing, ∀ q, (t.cuvee c).quiesce = some q → k ∉ q.marks) ∧
    (∀ (m : SquashMsg), (.squash m) ∈ (s.port k).inbox → m.dst = s.deviceId → m.reason ≠ 3 →
      ∃ t, exec (.squash k m) s = .next t ∧ ∀ j < 12, ∀ x ∈ (t.port j).xfers, x.fwdPort = none → x.req.group = m.group →
        (x.mine = false → x.req.src ≠ m.src) ∧ (x.mine = true → x.req.dst ≠ m.src)) ∧
    (∀ (m : FlareMsg), (.flare m) ∈ (s.port k).inbox → (m.origin, m.id) ∉ s.links.handled →
      ∃ (t : State) (b : Blob), exec (.flare k m) s = .next t ∧ t.links.flares = s.links.flares + 1 ∧
        t.links.flareLog.find (s.links.flares % 16) = some b ∧ b.get 0 2 = m.origin % 65536 ∧ b.get 2 2 = m.group % 65536)

/-! ## The cadence input, port commands and the trip record, as their rules state them -/

/-- R44: an edge less than 50 µs after the last counted one is discarded and counted in RejectedEdges, and nothing else of the
cadence changes; one that comes later is the new last counted edge, and the divider counts it once its count has begun, with
cadence acquisition (R514), where it is the source. -/
def Obligations.CountedEdges : Prop :=
  ∀ (s : State) (t e : Instant), s.cad.lastEdge = some e →
    (t - e < 50000 → ∃ u, exec (.cadenceEdge t) s = .next u ∧
      u.cad = { s.cad with rejected := (s.cad.rejected + 1) % 2 ^ 32 } ∧
      u.objValue .manager 0x2001 6 = Blob.scalar 4 ((s.cad.rejected + 1) % 2 ^ 32)) ∧
    (50000 ≤ t - e → ∃ u, exec (.cadenceEdge t) s = .next u ∧ u.cad.lastEdge = some t ∧
      u.cad.divCount = if s.time.running = true ∧ s.cad.source = 0 then s.cad.divCount + 1 else s.cad.divCount)

/-- R311: RETRAIN and REKEY act in UP, RESET in FAILED and RETRAINING; in every other state of the port the answer is
STATE_CONFLICT, no write is queued and the port stays as it was. A port that trains with no signal is DOWN. -/
def Obligations.PortCommands : Prop :=
  ∀ (s : State) (a : Access) (k : Nat), s.hears a = true → a.path = .pf s.dict.steward → k < 12 →
    ((s.port k).state = 3 →
      (∃ t, exec (.retrain a k) s = .next t ∧ t.answered a 0 = true ∧
        (t.port k).state = if (s.port k).signal then 1 else 0) ∧
      (∃ t, exec (.rekey a k) s = .next t ∧ t.answered a 0 = true ∧ (t.port k).rekeying = true ∧ (t.port k).state = 3)) ∧
    (((s.port k).state = 5 ∨ (s.port k).state = 4) →
      ∃ t, exec (.portReset a k) s = .next t ∧ t.answered a 0 = true ∧
        (t.port k).state = if (s.port k).signal then 1 else 0) ∧
    (∀ i, ((s.port k).state ≠ 3 ∧ (i = .retrain a k ∨ i = .rekey a k)) ∨
        ((s.port k).state ≠ 5 ∧ (s.port k).state ≠ 4 ∧ i = .portReset a k) →
      ∃ t, exec i s = .next t ∧ t.answered a 6 = true ∧ t.links = s.links ∧ t.dict.pend = s.dict.pend)

/-- R455: a trip notes its estate time, sensor and reading and is counted. A step of any other command, a power removal, a cold
boot and a read among them, leaves the trip record as it stands. -/
def Obligations.TripRecordIsKept : Prop :=
  (∀ (s : State) (ts : List Nat), s.boot.pwrGood = true → 110 ≤ maxNat ts →
    ∃ t, exec (.dieSensorRead ts) s = .next t ∧ t.flash.tripTime = s.etime ∧ t.flash.tripSensor = hottest ts ∧
      t.flash.tripDegC = maxNat ts ∧ t.flash.trips = (s.flash.trips + 1) % 2 ^ 32) ∧
  (∀ (s t : State) (i : Instr), (∀ ts, i ≠ .dieSensorRead ts) → exec i s = .next t →
    t.flash.tripTime = s.flash.tripTime ∧ t.flash.tripSensor = s.flash.tripSensor ∧ t.flash.tripDegC = s.flash.tripDegC ∧
      t.flash.trips = s.flash.trips)

/-! ## The block as a whole -/

/-- A step takes the command at the front of the queue; with an empty queue the block idles (log 1, the model's choice). -/
def Obligations.StepRunsTheFrontCommand : Prop :=
  (∀ (s : State) (c : Instr) (rest : List Instr), s.pending = c :: rest → step s = exec c { s with pending := rest }) ∧
  (∀ s : State, s.pending = [] → step s = .next s)

/-- What reset leaves: nothing waits, no cuvee exists, the cadence is UNLOCKED (R47), the clock has its full frequency, no row
of time runs, and both memories are empty, in canonical form.
Where the manual is silent or open it rests on the model's reading or choice: logs 5, 7. -/
def Obligations.ResetState : Prop :=
  State.reset.pending = [] ∧ State.reset.cuvees = [] ∧ State.reset.cad.state = .unlocked ∧ State.reset.time.running = false ∧
    State.reset.time.slot = 0 ∧ State.reset.power.clk = 16 ∧ State.reset.memoryWf ∧
    (∀ a, readByte State.reset.mem.hbm a = 0) ∧ (∀ a, readByte State.reset.mem.store a = 0) ∧
    (∀ k, (State.reset.port k).state = 0) ∧ (∀ t, (State.reset.tile t).act = .idle)

/-- Every step keeps both memories in canonical form: equal memories are equal data, and zeroed memory (R185, R89) lists
nothing.
Where the manual is silent or open it rests on the model's reading or choice: log 7. -/
def Obligations.MemoryStaysCanonical : Prop :=
  ∀ s t : State, s.memoryWf → step s = .next t → t.memoryWf

/-- No command touches the commands that wait behind it. -/
def Obligations.CommandsLeaveTheQueue : Prop :=
  ∀ (s t : State) (i : Instr), exec i s = .next t → t.pending = s.pending

/-- Every command completes in every state, but a POWER_SAMPLE outside the ratings of R512, on which the model stops.
Where the manual is silent or open it rests on the model's reading or choice: logs 3, 158. -/
def Obligations.NothingElseStops : Prop :=
  ∀ (s : State) (i : Instr), (∀ w avg v, i = .powerSample w avg v → withinRatings v = true) → ∃ t, exec i s = .next t

/-- The slot in progress is one of the 4,096 of its epoch (R38) after every step. -/
def Obligations.SlotStaysInRange : Prop :=
  ∀ s t : State, s.time.slot ≤ 4095 → step s = .next t → t.time.slot ≤ 4095

/-! ## Frames -/

/-- R76: READ and ENUMERATE, by any path, change nothing but the window, the side-band's own records and what is sent. -/
def Obligations.ReadsHaveNoSideEffect : Prop :=
  ∀ (s t : State) (a : Access) (i : Instr), (i = .read a ∨ i = .enumerate a) → exec i s = .next t →
    t.mem = s.mem ∧ t.tiles = s.tiles ∧ t.cuvees = s.cuvees ∧ t.alm = s.alm ∧ t.cad = s.cad ∧ t.time = s.time ∧
      t.power = s.power ∧ t.net = s.net ∧ t.links = s.links ∧ t.faults = s.faults ∧ t.muster = s.muster ∧ t.boot = s.boot ∧
      t.sec = s.sec ∧ t.dict.vals = s.dict.vals ∧ t.dict.staging = s.dict.staging ∧ t.dict.pend = s.dict.pend ∧
      t.dict.steward = s.dict.steward ∧ t.dict.selects = s.dict.selects ∧ t.dict.scrubbing = s.dict.scrubbing

/-- A command for cuvee c (R246, R247) changes the status and the staged command of c alone, whatever the answer; REBIND also
begins its plan's record (R251). -/
def Obligations.CuveeCommandsStayInTheirCuvee : Prop :=
  ∀ (s t : State) (a : Access) (c : Nat) (k : CmdRec) (f : Access → Nat → CmdRec → Instr),
    f ∈ [Instr.create, Instr.bind, Instr.unbind, Instr.start, Instr.pause, Instr.resume, Instr.freeze, Instr.thaw, Instr.save,
      Instr.restore, Instr.reset, Instr.release, Instr.rebind, Instr.cancel] →
    c < 256 → exec (f a c k) s = .next t →
    (∀ d, d ≠ c → t.cuvee d = s.cuvee d) ∧
      (∃ st r p b, t.cuvee c = { s.cuvee c with staged := st, status := r, rebind := p, rebindActive := b } ∧
        (f a c k ≠ .rebind a c k → p = (s.cuvee c).rebind ∧ b = (s.cuvee c).rebindActive)) ∧
      t.mem = s.mem ∧ t.tiles = s.tiles ∧ t.alm = s.alm ∧ t.cad = s.cad ∧ t.time = s.time ∧ t.power = s.power ∧ t.net = s.net ∧
      t.links = s.links ∧ t.sec = s.sec ∧ t.faults = s.faults ∧ t.muster = s.muster ∧ t.dict.vals = s.dict.vals ∧
      t.dict.pend = s.dict.pend

/-- What happens in tile t (R90, R92, R97, R101, R104, R109) changes no other tile, no byte of parcel memory, no byte of another
tile's store, no object's value and no other cuvee. -/
def Obligations.TileEventsStayInTheTile : Prop :=
  ∀ (s u : State) (t : Nat) (i : Instr),
    i ∈ [Instr.entryBoundary t, .planeLoadDone t, .accumulatorSwap t, .vectorTrigger t, .transferIssue t] →
    exec i s = .next u →
    (∀ k, k ≠ t → u.tile k = s.tile k) ∧ u.mem.hbm = s.mem.hbm ∧
      (∀ q, (q < storeKey t 0 ∨ storeKey (t + 1) 0 ≤ q) → readByte u.mem.store q = readByte s.mem.store q) ∧
      (∀ d, d ≠ (s.tile t).cuvee → u.cuvee d = s.cuvee d) ∧ u.dict.vals = s.dict.vals ∧ u.time = s.time ∧ u.cad = s.cad ∧
      u.muster = s.muster

/-- Events of the cadence input, the clock, the sensors and the samples (R41–R44, R361, R366, R372) change no byte of memory, no
object's value, no cuvee's state, no link port and nothing in the store. -/
def Obligations.CadenceAndPowerEventsFrame : Prop :=
  ∀ (s t : State) (i : Instr),
    ((∃ x, i = .cadenceEdge x) ∨ (∃ m, i = .ptpMessage m) ∨ (∃ x, i = .referenceTimeout x) ∨ i = .missedBoundary ∨
      (∃ w a v, i = .powerSample w a v) ∨ i = .clockStep ∨ (∃ k b n, i = .phiStep k b n) ∨ (∃ p d, i = .stackTemperatureRead p d) ∨
      (∃ ts, i = .dieSensorRead ts ∧ maxNat ts < 110) ∨ i = .observationWindowEnd) →
    exec i s = .next t →
    t.mem.hbm = s.mem.hbm ∧ t.mem.store = s.mem.store ∧ t.dict = s.dict ∧ t.links = s.links ∧ t.net = s.net ∧ t.flash = s.flash ∧
      (∀ c, (t.cuvee c).state = (s.cuvee c).state) ∧ t.time.slot = s.time.slot ∧ t.time.epochs = s.time.epochs

/-- Events of link port k (R309–R318, R329, R331) change no byte of memory, no object's value, no other port's state and no row of
time, where no hand-over of a cask rides on what they bring or end (R340, R344). The cadence changes only with the port that
brings its reference (R43), and its state not even then. -/
def Obligations.LinkPortEventsFrame : Prop :=
  ∀ (s t : State) (k : Nat) (i : Instr),
    (i = .signalDetect k ∨ (∃ g, i = .trainingDone k g) ∨ (∃ m, i = .key k m) ∨ i = .rekeyDue k ∨ i = .controlFlitSend k ∨
      i = .timeSend k ∨
      ((i = .signalLoss k ∨ (∃ l, i = .laneFailure k l) ∨ (∃ f, i = .flitReceive k f)) ∧
        ∀ c ∈ s.existing, ∀ e ∈ (s.cuvee c).serving.casks, e.2.state ≠ 2 ∧ e.2.state ≠ 3)) →
    exec i s = .next t →
    t.mem.hbm = s.mem.hbm ∧ t.mem.store = s.mem.store ∧ t.dict.vals = s.dict.vals ∧ t.dict.pend = s.dict.pend ∧
      t.alm = s.alm ∧ t.power = s.power ∧ t.time = s.time ∧
      t.cad.state = s.cad.state ∧ (k ≠ s.num 0x2000 7 → t.cad = s.cad) ∧ ∀ j, j ≠ k → (t.port j).state = (s.port j).state
end

