-- ==== Sys2Proof/Laws/Sparse.lean ====
section
/-! SUPPORT. Laws/Sparse.lean: what the operations of a sparse table do to what it lists, and that they keep its canonical
form. -/

namespace Sys2Proof

variable {α : Type}

@[simp] theorem Sparse.find_nil (k : Nat) : Sparse.find ([] : Sparse α) k = none := rfl

@[simp] theorem Sparse.find_insert_self (m : Sparse α) (k : Nat) (x : α) : (Sparse.insert m k x).find k = some x := by
  induction m with
  | nil => simp [Sparse.insert, Sparse.find]
  | cons e m ih =>
    obtain ⟨j, y⟩ := e
    simp only [Sparse.insert]
    split
    · simp [Sparse.find]
    · split
      · simp [Sparse.find]
      · rename_i h
        simp [Sparse.find, Ne.symm h, ih]

theorem Sparse.find_insert_ne (m : Sparse α) {k q : Nat} (x : α) (h : q ≠ k) :
    (Sparse.insert m k x).find q = m.find q := by
  induction m with
  | nil => simp [Sparse.insert, Sparse.find, h.symm]
  | cons e m ih =>
    obtain ⟨j, y⟩ := e
    simp only [Sparse.insert]
    split
    · simp [Sparse.find, h.symm]
    · split
      · rename_i h2; subst h2; simp [Sparse.find, h.symm]
      · simp [Sparse.find, ih]

@[simp] theorem Sparse.find_erase_self (m : Sparse α) (k : Nat) : (Sparse.erase m k).find k = none := by
  induction m with
  | nil => rfl
  | cons e m ih =>
    obtain ⟨j, y⟩ := e
    by_cases h : j = k
    · subst h; simpa [Sparse.erase] using ih
    · simp only [Sparse.erase] at ih ⊢
      simp [Sparse.find, h, ih]

theorem Sparse.find_erase_ne (m : Sparse α) {k q : Nat} (h : q ≠ k) : (Sparse.erase m k).find q = m.find q := by
  induction m with
  | nil => rfl
  | cons e m ih =>
    obtain ⟨j, y⟩ := e
    by_cases hj : j = k
    · subst hj
      simp only [Sparse.erase] at ih ⊢
      simp [Sparse.find, h.symm, ih]
    · simp only [Sparse.erase] at ih ⊢
      simp [Sparse.find, hj, ih]

@[simp] theorem Sparse.getD_set_self [DecidableEq α] (d : α) (m : Sparse α) (k : Nat) (x : α) : (Sparse.set d m k x).getD k d = x := by
  unfold Sparse.set Sparse.getD
  split
  · rename_i h; simp [h]
  · simp

theorem Sparse.getD_set_ne [DecidableEq α] (d : α) (m : Sparse α) {k q : Nat} (x e : α) (h : q ≠ k) :
    (Sparse.set d m k x).getD q e = m.getD q e := by
  unfold Sparse.set Sparse.getD
  split
  · rw [Sparse.find_erase_ne m h]
  · rw [Sparse.find_insert_ne m x h]

/-! ## The canonical form -/

theorem Sparse.rising_mono {m : Sparse α} {lo lo' : Nat} (h : Sparse.rising lo m = true) (hl : lo' ≤ lo) :
    Sparse.rising lo' m = true := by
  cases m with
  | nil => rfl
  | cons e m =>
    simp only [Sparse.rising, Bool.and_eq_true, decide_eq_true_eq] at h ⊢
    exact ⟨by omega, h.2⟩

theorem Sparse.rising_filter {m : Sparse α} {lo : Nat} (p : Nat × α → Bool) (h : Sparse.rising lo m = true) :
    Sparse.rising lo (m.filter p) = true := by
  induction m generalizing lo with
  | nil => rfl
  | cons e m ih =>
    simp only [Sparse.rising, Bool.and_eq_true, decide_eq_true_eq] at h
    by_cases hp : p e = true
    · simp only [List.filter_cons_of_pos hp, Sparse.rising, Bool.and_eq_true, decide_eq_true_eq]
      exact ⟨h.1, ih h.2⟩
    · rw [List.filter_cons_of_neg hp]
      exact Sparse.rising_mono (ih h.2) (by omega)

theorem Sparse.rising_insert {m : Sparse α} {lo k : Nat} (x : α) (h : Sparse.rising lo m = true) (hk : lo ≤ k) :
    Sparse.rising lo (Sparse.insert m k x) = true := by
  induction m generalizing lo with
  | nil => simp [Sparse.insert, Sparse.rising, hk]
  | cons e m ih =>
    obtain ⟨j, y⟩ := e
    simp only [Sparse.rising, Bool.and_eq_true, decide_eq_true_eq] at h
    simp only [Sparse.insert]
    split
    · simp only [Sparse.rising, Bool.and_eq_true, decide_eq_true_eq]
      exact ⟨hk, by omega, h.2⟩
    · split
      · rename_i h2; subst h2
        simp only [Sparse.rising, Bool.and_eq_true, decide_eq_true_eq]
        exact ⟨hk, h.2⟩
      · simp only [Sparse.rising, Bool.and_eq_true, decide_eq_true_eq]
        exact ⟨h.1, ih h.2 (by omega)⟩

theorem Sparse.mem_insert {m : Sparse α} {k : Nat} {x : α} {e : Nat × α} (h : e ∈ Sparse.insert m k x) :
    e = (k, x) ∨ e ∈ m := by
  induction m with
  | nil => simpa [Sparse.insert] using h
  | cons a m ih =>
    obtain ⟨j, y⟩ := a
    simp only [Sparse.insert] at h
    split at h
    · simpa using h
    · split at h
      · rcases List.mem_cons.mp h with h | h
        · exact .inl h
        · exact .inr (List.mem_cons_of_mem _ h)
      · rcases List.mem_cons.mp h with h | h
        · exact .inr (h ▸ List.mem_cons_self ..)
        · rcases ih h with h | h
          · exact .inl h
          · exact .inr (List.mem_cons_of_mem _ h)

/-- Setting a key keeps the canonical form. -/
theorem Sparse.wf_set [DecidableEq α] {d : α} {m : Sparse α} (k : Nat) (x : α) (h : Sparse.wf d m = true) :
    Sparse.wf d (Sparse.set d m k x) = true := by
  simp only [Sparse.wf, Bool.and_eq_true, List.all_eq_true, decide_eq_true_eq] at h ⊢
  unfold Sparse.set
  split
  · exact ⟨Sparse.rising_filter _ h.1, fun e he => h.2 e (List.mem_of_mem_filter he)⟩
  · rename_i hx
    refine ⟨Sparse.rising_insert x h.1 (Nat.zero_le k), fun e he => ?_⟩
    rcases Sparse.mem_insert he with rfl | he
    · exact hx
    · exact h.2 e he

/-- Dropping a range of keys keeps the canonical form. -/
theorem Sparse.wf_clearRange [DecidableEq α] {d : α} {m : Sparse α} (lo n : Nat) (h : Sparse.wf d m = true) :
    Sparse.wf d (Sparse.clearRange m lo n) = true := by
  simp only [Sparse.wf, Bool.and_eq_true, List.all_eq_true, decide_eq_true_eq] at h ⊢
  exact ⟨Sparse.rising_filter _ h.1, fun e he => h.2 e (List.mem_of_mem_filter he)⟩

end Sys2Proof
end

