-- ==== Sys2Proof/Laws/State.lean ====
section
/-! SUPPORT. Laws/State.lean: one lemma per field per update of the state, so that no proof unfolds a record update. -/

namespace Sys2Proof.Machine

/-! ## What an update gives back -/

@[simp] theorem State.tile_setTile (s : State) (t : Nat) (x : Tile) : (s.setTile t x).tile t = x :=
  Sparse.getD_set_self ..
theorem State.tile_setTile_ne (s : State) {t u : Nat} (x : Tile) (h : u ≠ t) : (s.setTile t x).tile u = s.tile u :=
  Sparse.getD_set_ne _ _ _ _ h
@[simp] theorem State.tile_updTile (s : State) (t : Nat) (f : Tile → Tile) : (s.updTile t f).tile t = f (s.tile t) :=
  Sparse.getD_set_self ..
theorem State.tile_updTile_ne (s : State) {t u : Nat} (f : Tile → Tile) (h : u ≠ t) : (s.updTile t f).tile u = s.tile u :=
  Sparse.getD_set_ne _ _ _ _ h
@[simp] theorem State.cuvee_setCuvee (s : State) (c : Nat) (x : Cuvee) : (s.setCuvee c x).cuvee c = x :=
  Sparse.getD_set_self ..
theorem State.cuvee_setCuvee_ne (s : State) {c d : Nat} (x : Cuvee) (h : d ≠ c) : (s.setCuvee c x).cuvee d = s.cuvee d :=
  Sparse.getD_set_ne _ _ _ _ h
@[simp] theorem State.cuvee_updCuvee (s : State) (c : Nat) (f : Cuvee → Cuvee) :
    (s.updCuvee c f).cuvee c = f (s.cuvee c) := Sparse.getD_set_self ..
theorem State.cuvee_updCuvee_ne (s : State) {c d : Nat} (f : Cuvee → Cuvee) (h : d ≠ c) :
    (s.updCuvee c f).cuvee d = s.cuvee d := Sparse.getD_set_ne _ _ _ _ h
@[simp] theorem State.pc_updPc (s : State) (k : Nat) (f : Pc → Pc) : (s.updPc k f).pc k = f (s.pc k) :=
  Sparse.getD_set_self ..
theorem State.pc_updPc_ne (s : State) {k q : Nat} (f : Pc → Pc) (h : q ≠ k) : (s.updPc k f).pc q = s.pc q :=
  Sparse.getD_set_ne _ _ _ _ h
@[simp] theorem State.parcel_updParcel (s : State) (p : Nat) (f : ParcelSt → ParcelSt) :
    (s.updParcel p f).parcel p = f (s.parcel p) := Sparse.getD_set_self ..
theorem State.parcel_updParcel_ne (s : State) {p q : Nat} (f : ParcelSt → ParcelSt) (h : q ≠ p) :
    (s.updParcel p f).parcel q = s.parcel q := Sparse.getD_set_ne _ _ _ _ h
@[simp] theorem State.port_updPort (s : State) (k : Nat) (f : LinkPort → LinkPort) :
    (s.updPort k f).port k = f (s.port k) := Sparse.getD_set_self ..
theorem State.port_updPort_ne (s : State) {k q : Nat} (f : LinkPort → LinkPort) (h : q ≠ k) :
    (s.updPort k f).port q = s.port q := Sparse.getD_set_ne _ _ _ _ h
@[simp] theorem State.host_updHost (s : State) (p : HostPort) (f : HostSt → HostSt) :
    (s.updHost p f).host p = f (s.host p) := by cases p <;> rfl
theorem State.host_updHost_ne (s : State) {p q : HostPort} (f : HostSt → HostSt) (h : q ≠ p) :
    (s.updHost p f).host q = s.host q := by cases p <;> cases q <;> first | rfl | exact absurd rfl h

/-! ## What setTile leaves -/

@[simp] theorem State.setTile_pending (s : State) (t : Nat) (x : Tile) : (s.setTile t x).pending = s.pending := rfl
@[simp] theorem State.setTile_time (s : State) (t : Nat) (x : Tile) : (s.setTile t x).time = s.time := rfl
@[simp] theorem State.setTile_cad (s : State) (t : Nat) (x : Tile) : (s.setTile t x).cad = s.cad := rfl
@[simp] theorem State.setTile_dict (s : State) (t : Nat) (x : Tile) : (s.setTile t x).dict = s.dict := rfl
@[simp] theorem State.setTile_flash (s : State) (t : Nat) (x : Tile) : (s.setTile t x).flash = s.flash := rfl
@[simp] theorem State.setTile_side (s : State) (t : Nat) (x : Tile) : (s.setTile t x).side = s.side := rfl
@[simp] theorem State.setTile_alm (s : State) (t : Nat) (x : Tile) : (s.setTile t x).alm = s.alm := rfl
@[simp] theorem State.setTile_power (s : State) (t : Nat) (x : Tile) : (s.setTile t x).power = s.power := rfl
@[simp] theorem State.setTile_net (s : State) (t : Nat) (x : Tile) : (s.setTile t x).net = s.net := rfl
@[simp] theorem State.setTile_mem (s : State) (t : Nat) (x : Tile) : (s.setTile t x).mem = s.mem := rfl
@[simp] theorem State.setTile_cuvees (s : State) (t : Nat) (x : Tile) : (s.setTile t x).cuvees = s.cuvees := rfl
@[simp] theorem State.setTile_links (s : State) (t : Nat) (x : Tile) : (s.setTile t x).links = s.links := rfl
@[simp] theorem State.setTile_hostA (s : State) (t : Nat) (x : Tile) : (s.setTile t x).hostA = s.hostA := rfl
@[simp] theorem State.setTile_hostB (s : State) (t : Nat) (x : Tile) : (s.setTile t x).hostB = s.hostB := rfl
@[simp] theorem State.setTile_sec (s : State) (t : Nat) (x : Tile) : (s.setTile t x).sec = s.sec := rfl
@[simp] theorem State.setTile_obs (s : State) (t : Nat) (x : Tile) : (s.setTile t x).obs = s.obs := rfl
@[simp] theorem State.setTile_faults (s : State) (t : Nat) (x : Tile) : (s.setTile t x).faults = s.faults := rfl
@[simp] theorem State.setTile_muster (s : State) (t : Nat) (x : Tile) : (s.setTile t x).muster = s.muster := rfl
@[simp] theorem State.setTile_boot (s : State) (t : Nat) (x : Tile) : (s.setTile t x).boot = s.boot := rfl
@[simp] theorem State.setTile_out (s : State) (t : Nat) (x : Tile) : (s.setTile t x).out = s.out := rfl
@[simp] theorem State.setTile_free (s : State) (t : Nat) (x : Tile) : (s.setTile t x).free = s.free := rfl

/-! ## What updTile leaves -/

@[simp] theorem State.updTile_pending (s : State) (t : Nat) (f : Tile → Tile) : (s.updTile t f).pending = s.pending := rfl
@[simp] theorem State.updTile_time (s : State) (t : Nat) (f : Tile → Tile) : (s.updTile t f).time = s.time := rfl
@[simp] theorem State.updTile_cad (s : State) (t : Nat) (f : Tile → Tile) : (s.updTile t f).cad = s.cad := rfl
@[simp] theorem State.updTile_dict (s : State) (t : Nat) (f : Tile → Tile) : (s.updTile t f).dict = s.dict := rfl
@[simp] theorem State.updTile_flash (s : State) (t : Nat) (f : Tile → Tile) : (s.updTile t f).flash = s.flash := rfl
@[simp] theorem State.updTile_side (s : State) (t : Nat) (f : Tile → Tile) : (s.updTile t f).side = s.side := rfl
@[simp] theorem State.updTile_alm (s : State) (t : Nat) (f : Tile → Tile) : (s.updTile t f).alm = s.alm := rfl
@[simp] theorem State.updTile_power (s : State) (t : Nat) (f : Tile → Tile) : (s.updTile t f).power = s.power := rfl
@[simp] theorem State.updTile_net (s : State) (t : Nat) (f : Tile → Tile) : (s.updTile t f).net = s.net := rfl
@[simp] theorem State.updTile_mem (s : State) (t : Nat) (f : Tile → Tile) : (s.updTile t f).mem = s.mem := rfl
@[simp] theorem State.updTile_cuvees (s : State) (t : Nat) (f : Tile → Tile) : (s.updTile t f).cuvees = s.cuvees := rfl
@[simp] theorem State.updTile_links (s : State) (t : Nat) (f : Tile → Tile) : (s.updTile t f).links = s.links := rfl
@[simp] theorem State.updTile_hostA (s : State) (t : Nat) (f : Tile → Tile) : (s.updTile t f).hostA = s.hostA := rfl
@[simp] theorem State.updTile_hostB (s : State) (t : Nat) (f : Tile → Tile) : (s.updTile t f).hostB = s.hostB := rfl
@[simp] theorem State.updTile_sec (s : State) (t : Nat) (f : Tile → Tile) : (s.updTile t f).sec = s.sec := rfl
@[simp] theorem State.updTile_obs (s : State) (t : Nat) (f : Tile → Tile) : (s.updTile t f).obs = s.obs := rfl
@[simp] theorem State.updTile_faults (s : State) (t : Nat) (f : Tile → Tile) : (s.updTile t f).faults = s.faults := rfl
@[simp] theorem State.updTile_muster (s : State) (t : Nat) (f : Tile → Tile) : (s.updTile t f).muster = s.muster := rfl
@[simp] theorem State.updTile_boot (s : State) (t : Nat) (f : Tile → Tile) : (s.updTile t f).boot = s.boot := rfl
@[simp] theorem State.updTile_out (s : State) (t : Nat) (f : Tile → Tile) : (s.updTile t f).out = s.out := rfl
@[simp] theorem State.updTile_free (s : State) (t : Nat) (f : Tile → Tile) : (s.updTile t f).free = s.free := rfl

/-! ## What setCuvee leaves -/

@[simp] theorem State.setCuvee_pending (s : State) (c : Nat) (x : Cuvee) : (s.setCuvee c x).pending = s.pending := rfl
@[simp] theorem State.setCuvee_time (s : State) (c : Nat) (x : Cuvee) : (s.setCuvee c x).time = s.time := rfl
@[simp] theorem State.setCuvee_cad (s : State) (c : Nat) (x : Cuvee) : (s.setCuvee c x).cad = s.cad := rfl
@[simp] theorem State.setCuvee_dict (s : State) (c : Nat) (x : Cuvee) : (s.setCuvee c x).dict = s.dict := rfl
@[simp] theorem State.setCuvee_flash (s : State) (c : Nat) (x : Cuvee) : (s.setCuvee c x).flash = s.flash := rfl
@[simp] theorem State.setCuvee_side (s : State) (c : Nat) (x : Cuvee) : (s.setCuvee c x).side = s.side := rfl
@[simp] theorem State.setCuvee_alm (s : State) (c : Nat) (x : Cuvee) : (s.setCuvee c x).alm = s.alm := rfl
@[simp] theorem State.setCuvee_power (s : State) (c : Nat) (x : Cuvee) : (s.setCuvee c x).power = s.power := rfl
@[simp] theorem State.setCuvee_tiles (s : State) (c : Nat) (x : Cuvee) : (s.setCuvee c x).tiles = s.tiles := rfl
@[simp] theorem State.setCuvee_net (s : State) (c : Nat) (x : Cuvee) : (s.setCuvee c x).net = s.net := rfl
@[simp] theorem State.setCuvee_mem (s : State) (c : Nat) (x : Cuvee) : (s.setCuvee c x).mem = s.mem := rfl
@[simp] theorem State.setCuvee_links (s : State) (c : Nat) (x : Cuvee) : (s.setCuvee c x).links = s.links := rfl
@[simp] theorem State.setCuvee_hostA (s : State) (c : Nat) (x : Cuvee) : (s.setCuvee c x).hostA = s.hostA := rfl
@[simp] theorem State.setCuvee_hostB (s : State) (c : Nat) (x : Cuvee) : (s.setCuvee c x).hostB = s.hostB := rfl
@[simp] theorem State.setCuvee_sec (s : State) (c : Nat) (x : Cuvee) : (s.setCuvee c x).sec = s.sec := rfl
@[simp] theorem State.setCuvee_obs (s : State) (c : Nat) (x : Cuvee) : (s.setCuvee c x).obs = s.obs := rfl
@[simp] theorem State.setCuvee_faults (s : State) (c : Nat) (x : Cuvee) : (s.setCuvee c x).faults = s.faults := rfl
@[simp] theorem State.setCuvee_muster (s : State) (c : Nat) (x : Cuvee) : (s.setCuvee c x).muster = s.muster := rfl
@[simp] theorem State.setCuvee_boot (s : State) (c : Nat) (x : Cuvee) : (s.setCuvee c x).boot = s.boot := rfl
@[simp] theorem State.setCuvee_out (s : State) (c : Nat) (x : Cuvee) : (s.setCuvee c x).out = s.out := rfl
@[simp] theorem State.setCuvee_free (s : State) (c : Nat) (x : Cuvee) : (s.setCuvee c x).free = s.free := rfl

/-! ## What updCuvee leaves -/

@[simp] theorem State.updCuvee_pending (s : State) (c : Nat) (f : Cuvee → Cuvee) : (s.updCuvee c f).pending = s.pending := rfl
@[simp] theorem State.updCuvee_time (s : State) (c : Nat) (f : Cuvee → Cuvee) : (s.updCuvee c f).time = s.time := rfl
@[simp] theorem State.updCuvee_cad (s : State) (c : Nat) (f : Cuvee → Cuvee) : (s.updCuvee c f).cad = s.cad := rfl
@[simp] theorem State.updCuvee_dict (s : State) (c : Nat) (f : Cuvee → Cuvee) : (s.updCuvee c f).dict = s.dict := rfl
@[simp] theorem State.updCuvee_flash (s : State) (c : Nat) (f : Cuvee → Cuvee) : (s.updCuvee c f).flash = s.flash := rfl
@[simp] theorem State.updCuvee_side (s : State) (c : Nat) (f : Cuvee → Cuvee) : (s.updCuvee c f).side = s.side := rfl
@[simp] theorem State.updCuvee_alm (s : State) (c : Nat) (f : Cuvee → Cuvee) : (s.updCuvee c f).alm = s.alm := rfl
@[simp] theorem State.updCuvee_power (s : State) (c : Nat) (f : Cuvee → Cuvee) : (s.updCuvee c f).power = s.power := rfl
@[simp] theorem State.updCuvee_tiles (s : State) (c : Nat) (f : Cuvee → Cuvee) : (s.updCuvee c f).tiles = s.tiles := rfl
@[simp] theorem State.updCuvee_net (s : State) (c : Nat) (f : Cuvee → Cuvee) : (s.updCuvee c f).net = s.net := rfl
@[simp] theorem State.updCuvee_mem (s : State) (c : Nat) (f : Cuvee → Cuvee) : (s.updCuvee c f).mem = s.mem := rfl
@[simp] theorem State.updCuvee_links (s : State) (c : Nat) (f : Cuvee → Cuvee) : (s.updCuvee c f).links = s.links := rfl
@[simp] theorem State.updCuvee_hostA (s : State) (c : Nat) (f : Cuvee → Cuvee) : (s.updCuvee c f).hostA = s.hostA := rfl
@[simp] theorem State.updCuvee_hostB (s : State) (c : Nat) (f : Cuvee → Cuvee) : (s.updCuvee c f).hostB = s.hostB := rfl
@[simp] theorem State.updCuvee_sec (s : State) (c : Nat) (f : Cuvee → Cuvee) : (s.updCuvee c f).sec = s.sec := rfl
@[simp] theorem State.updCuvee_obs (s : State) (c : Nat) (f : Cuvee → Cuvee) : (s.updCuvee c f).obs = s.obs := rfl
@[simp] theorem State.updCuvee_faults (s : State) (c : Nat) (f : Cuvee → Cuvee) : (s.updCuvee c f).faults = s.faults := rfl
@[simp] theorem State.updCuvee_muster (s : State) (c : Nat) (f : Cuvee → Cuvee) : (s.updCuvee c f).muster = s.muster := rfl
@[simp] theorem State.updCuvee_boot (s : State) (c : Nat) (f : Cuvee → Cuvee) : (s.updCuvee c f).boot = s.boot := rfl
@[simp] theorem State.updCuvee_out (s : State) (c : Nat) (f : Cuvee → Cuvee) : (s.updCuvee c f).out = s.out := rfl
@[simp] theorem State.updCuvee_free (s : State) (c : Nat) (f : Cuvee → Cuvee) : (s.updCuvee c f).free = s.free := rfl

/-! ## What updPc leaves -/

@[simp] theorem State.updPc_pending (s : State) (k : Nat) (f : Pc → Pc) : (s.updPc k f).pending = s.pending := rfl
@[simp] theorem State.updPc_time (s : State) (k : Nat) (f : Pc → Pc) : (s.updPc k f).time = s.time := rfl
@[simp] theorem State.updPc_cad (s : State) (k : Nat) (f : Pc → Pc) : (s.updPc k f).cad = s.cad := rfl
@[simp] theorem State.updPc_dict (s : State) (k : Nat) (f : Pc → Pc) : (s.updPc k f).dict = s.dict := rfl
@[simp] theorem State.updPc_flash (s : State) (k : Nat) (f : Pc → Pc) : (s.updPc k f).flash = s.flash := rfl
@[simp] theorem State.updPc_side (s : State) (k : Nat) (f : Pc → Pc) : (s.updPc k f).side = s.side := rfl
@[simp] theorem State.updPc_alm (s : State) (k : Nat) (f : Pc → Pc) : (s.updPc k f).alm = s.alm := rfl
@[simp] theorem State.updPc_power (s : State) (k : Nat) (f : Pc → Pc) : (s.updPc k f).power = s.power := rfl
@[simp] theorem State.updPc_tiles (s : State) (k : Nat) (f : Pc → Pc) : (s.updPc k f).tiles = s.tiles := rfl
@[simp] theorem State.updPc_net (s : State) (k : Nat) (f : Pc → Pc) : (s.updPc k f).net = s.net := rfl
@[simp] theorem State.updPc_cuvees (s : State) (k : Nat) (f : Pc → Pc) : (s.updPc k f).cuvees = s.cuvees := rfl
@[simp] theorem State.updPc_links (s : State) (k : Nat) (f : Pc → Pc) : (s.updPc k f).links = s.links := rfl
@[simp] theorem State.updPc_hostA (s : State) (k : Nat) (f : Pc → Pc) : (s.updPc k f).hostA = s.hostA := rfl
@[simp] theorem State.updPc_hostB (s : State) (k : Nat) (f : Pc → Pc) : (s.updPc k f).hostB = s.hostB := rfl
@[simp] theorem State.updPc_sec (s : State) (k : Nat) (f : Pc → Pc) : (s.updPc k f).sec = s.sec := rfl
@[simp] theorem State.updPc_obs (s : State) (k : Nat) (f : Pc → Pc) : (s.updPc k f).obs = s.obs := rfl
@[simp] theorem State.updPc_faults (s : State) (k : Nat) (f : Pc → Pc) : (s.updPc k f).faults = s.faults := rfl
@[simp] theorem State.updPc_muster (s : State) (k : Nat) (f : Pc → Pc) : (s.updPc k f).muster = s.muster := rfl
@[simp] theorem State.updPc_boot (s : State) (k : Nat) (f : Pc → Pc) : (s.updPc k f).boot = s.boot := rfl
@[simp] theorem State.updPc_out (s : State) (k : Nat) (f : Pc → Pc) : (s.updPc k f).out = s.out := rfl
@[simp] theorem State.updPc_free (s : State) (k : Nat) (f : Pc → Pc) : (s.updPc k f).free = s.free := rfl

/-! ## What updParcel leaves -/

@[simp] theorem State.updParcel_pending (s : State) (p : Nat) (f : ParcelSt → ParcelSt) : (s.updParcel p f).pending = s.pending := rfl
@[simp] theorem State.updParcel_time (s : State) (p : Nat) (f : ParcelSt → ParcelSt) : (s.updParcel p f).time = s.time := rfl
@[simp] theorem State.updParcel_cad (s : State) (p : Nat) (f : ParcelSt → ParcelSt) : (s.updParcel p f).cad = s.cad := rfl
@[simp] theorem State.updParcel_dict (s : State) (p : Nat) (f : ParcelSt → ParcelSt) : (s.updParcel p f).dict = s.dict := rfl
@[simp] theorem State.updParcel_flash (s : State) (p : Nat) (f : ParcelSt → ParcelSt) : (s.updParcel p f).flash = s.flash := rfl
@[simp] theorem State.updParcel_side (s : State) (p : Nat) (f : ParcelSt → ParcelSt) : (s.updParcel p f).side = s.side := rfl
@[simp] theorem State.updParcel_alm (s : State) (p : Nat) (f : ParcelSt → ParcelSt) : (s.updParcel p f).alm = s.alm := rfl
@[simp] theorem State.updParcel_power (s : State) (p : Nat) (f : ParcelSt → ParcelSt) : (s.updParcel p f).power = s.power := rfl
@[simp] theorem State.updParcel_tiles (s : State) (p : Nat) (f : ParcelSt → ParcelSt) : (s.updParcel p f).tiles = s.tiles := rfl
@[simp] theorem State.updParcel_net (s : State) (p : Nat) (f : ParcelSt → ParcelSt) : (s.updParcel p f).net = s.net := rfl
@[simp] theorem State.updParcel_cuvees (s : State) (p : Nat) (f : ParcelSt → ParcelSt) : (s.updParcel p f).cuvees = s.cuvees := rfl
@[simp] theorem State.updParcel_links (s : State) (p : Nat) (f : ParcelSt → ParcelSt) : (s.updParcel p f).links = s.links := rfl
@[simp] theorem State.updParcel_hostA (s : State) (p : Nat) (f : ParcelSt → ParcelSt) : (s.updParcel p f).hostA = s.hostA := rfl
@[simp] theorem State.updParcel_hostB (s : State) (p : Nat) (f : ParcelSt → ParcelSt) : (s.updParcel p f).hostB = s.hostB := rfl
@[simp] theorem State.updParcel_sec (s : State) (p : Nat) (f : ParcelSt → ParcelSt) : (s.updParcel p f).sec = s.sec := rfl
@[simp] theorem State.updParcel_obs (s : State) (p : Nat) (f : ParcelSt → ParcelSt) : (s.updParcel p f).obs = s.obs := rfl
@[simp] theorem State.updParcel_faults (s : State) (p : Nat) (f : ParcelSt → ParcelSt) : (s.updParcel p f).faults = s.faults := rfl
@[simp] theorem State.updParcel_muster (s : State) (p : Nat) (f : ParcelSt → ParcelSt) : (s.updParcel p f).muster = s.muster := rfl
@[simp] theorem State.updParcel_boot (s : State) (p : Nat) (f : ParcelSt → ParcelSt) : (s.updParcel p f).boot = s.boot := rfl
@[simp] theorem State.updParcel_out (s : State) (p : Nat) (f : ParcelSt → ParcelSt) : (s.updParcel p f).out = s.out := rfl
@[simp] theorem State.updParcel_free (s : State) (p : Nat) (f : ParcelSt → ParcelSt) : (s.updParcel p f).free = s.free := rfl

/-! ## What updPort leaves -/

@[simp] theorem State.updPort_pending (s : State) (k : Nat) (f : LinkPort → LinkPort) : (s.updPort k f).pending = s.pending := rfl
@[simp] theorem State.updPort_time (s : State) (k : Nat) (f : LinkPort → LinkPort) : (s.updPort k f).time = s.time := rfl
@[simp] theorem State.updPort_cad (s : State) (k : Nat) (f : LinkPort → LinkPort) : (s.updPort k f).cad = s.cad := rfl
@[simp] theorem State.updPort_dict (s : State) (k : Nat) (f : LinkPort → LinkPort) : (s.updPort k f).dict = s.dict := rfl
@[simp] theorem State.updPort_flash (s : State) (k : Nat) (f : LinkPort → LinkPort) : (s.updPort k f).flash = s.flash := rfl
@[simp] theorem State.updPort_side (s : State) (k : Nat) (f : LinkPort → LinkPort) : (s.updPort k f).side = s.side := rfl
@[simp] theorem State.updPort_alm (s : State) (k : Nat) (f : LinkPort → LinkPort) : (s.updPort k f).alm = s.alm := rfl
@[simp] theorem State.updPort_power (s : State) (k : Nat) (f : LinkPort → LinkPort) : (s.updPort k f).power = s.power := rfl
@[simp] theorem State.updPort_tiles (s : State) (k : Nat) (f : LinkPort → LinkPort) : (s.updPort k f).tiles = s.tiles := rfl
@[simp] theorem State.updPort_net (s : State) (k : Nat) (f : LinkPort → LinkPort) : (s.updPort k f).net = s.net := rfl
@[simp] theorem State.updPort_mem (s : State) (k : Nat) (f : LinkPort → LinkPort) : (s.updPort k f).mem = s.mem := rfl
@[simp] theorem State.updPort_cuvees (s : State) (k : Nat) (f : LinkPort → LinkPort) : (s.updPort k f).cuvees = s.cuvees := rfl
@[simp] theorem State.updPort_hostA (s : State) (k : Nat) (f : LinkPort → LinkPort) : (s.updPort k f).hostA = s.hostA := rfl
@[simp] theorem State.updPort_hostB (s : State) (k : Nat) (f : LinkPort → LinkPort) : (s.updPort k f).hostB = s.hostB := rfl
@[simp] theorem State.updPort_sec (s : State) (k : Nat) (f : LinkPort → LinkPort) : (s.updPort k f).sec = s.sec := rfl
@[simp] theorem State.updPort_obs (s : State) (k : Nat) (f : LinkPort → LinkPort) : (s.updPort k f).obs = s.obs := rfl
@[simp] theorem State.updPort_faults (s : State) (k : Nat) (f : LinkPort → LinkPort) : (s.updPort k f).faults = s.faults := rfl
@[simp] theorem State.updPort_muster (s : State) (k : Nat) (f : LinkPort → LinkPort) : (s.updPort k f).muster = s.muster := rfl
@[simp] theorem State.updPort_boot (s : State) (k : Nat) (f : LinkPort → LinkPort) : (s.updPort k f).boot = s.boot := rfl
@[simp] theorem State.updPort_out (s : State) (k : Nat) (f : LinkPort → LinkPort) : (s.updPort k f).out = s.out := rfl
@[simp] theorem State.updPort_free (s : State) (k : Nat) (f : LinkPort → LinkPort) : (s.updPort k f).free = s.free := rfl

/-! ## What setVal leaves -/

@[simp] theorem State.setVal_pending (s : State) (i sub : Nat) (b : Blob) : (s.setVal i sub b).pending = s.pending := rfl
@[simp] theorem State.setVal_time (s : State) (i sub : Nat) (b : Blob) : (s.setVal i sub b).time = s.time := rfl
@[simp] theorem State.setVal_cad (s : State) (i sub : Nat) (b : Blob) : (s.setVal i sub b).cad = s.cad := rfl
@[simp] theorem State.setVal_flash (s : State) (i sub : Nat) (b : Blob) : (s.setVal i sub b).flash = s.flash := rfl
@[simp] theorem State.setVal_side (s : State) (i sub : Nat) (b : Blob) : (s.setVal i sub b).side = s.side := rfl
@[simp] theorem State.setVal_alm (s : State) (i sub : Nat) (b : Blob) : (s.setVal i sub b).alm = s.alm := rfl
@[simp] theorem State.setVal_power (s : State) (i sub : Nat) (b : Blob) : (s.setVal i sub b).power = s.power := rfl
@[simp] theorem State.setVal_tiles (s : State) (i sub : Nat) (b : Blob) : (s.setVal i sub b).tiles = s.tiles := rfl
@[simp] theorem State.setVal_net (s : State) (i sub : Nat) (b : Blob) : (s.setVal i sub b).net = s.net := rfl
@[simp] theorem State.setVal_mem (s : State) (i sub : Nat) (b : Blob) : (s.setVal i sub b).mem = s.mem := rfl
@[simp] theorem State.setVal_cuvees (s : State) (i sub : Nat) (b : Blob) : (s.setVal i sub b).cuvees = s.cuvees := rfl
@[simp] theorem State.setVal_links (s : State) (i sub : Nat) (b : Blob) : (s.setVal i sub b).links = s.links := rfl
@[simp] theorem State.setVal_hostA (s : State) (i sub : Nat) (b : Blob) : (s.setVal i sub b).hostA = s.hostA := rfl
@[simp] theorem State.setVal_hostB (s : State) (i sub : Nat) (b : Blob) : (s.setVal i sub b).hostB = s.hostB := rfl
@[simp] theorem State.setVal_sec (s : State) (i sub : Nat) (b : Blob) : (s.setVal i sub b).sec = s.sec := rfl
@[simp] theorem State.setVal_obs (s : State) (i sub : Nat) (b : Blob) : (s.setVal i sub b).obs = s.obs := rfl
@[simp] theorem State.setVal_faults (s : State) (i sub : Nat) (b : Blob) : (s.setVal i sub b).faults = s.faults := rfl
@[simp] theorem State.setVal_muster (s : State) (i sub : Nat) (b : Blob) : (s.setVal i sub b).muster = s.muster := rfl
@[simp] theorem State.setVal_boot (s : State) (i sub : Nat) (b : Blob) : (s.setVal i sub b).boot = s.boot := rfl
@[simp] theorem State.setVal_out (s : State) (i sub : Nat) (b : Blob) : (s.setVal i sub b).out = s.out := rfl
@[simp] theorem State.setVal_free (s : State) (i sub : Nat) (b : Blob) : (s.setVal i sub b).free = s.free := rfl

/-! ## What unsetVal leaves -/

@[simp] theorem State.unsetVal_pending (s : State) (i sub : Nat) : (s.unsetVal i sub).pending = s.pending := rfl
@[simp] theorem State.unsetVal_time (s : State) (i sub : Nat) : (s.unsetVal i sub).time = s.time := rfl
@[simp] theorem State.unsetVal_cad (s : State) (i sub : Nat) : (s.unsetVal i sub).cad = s.cad := rfl
@[simp] theorem State.unsetVal_flash (s : State) (i sub : Nat) : (s.unsetVal i sub).flash = s.flash := rfl
@[simp] theorem State.unsetVal_side (s : State) (i sub : Nat) : (s.unsetVal i sub).side = s.side := rfl
@[simp] theorem State.unsetVal_alm (s : State) (i sub : Nat) : (s.unsetVal i sub).alm = s.alm := rfl
@[simp] theorem State.unsetVal_power (s : State) (i sub : Nat) : (s.unsetVal i sub).power = s.power := rfl
@[simp] theorem State.unsetVal_tiles (s : State) (i sub : Nat) : (s.unsetVal i sub).tiles = s.tiles := rfl
@[simp] theorem State.unsetVal_net (s : State) (i sub : Nat) : (s.unsetVal i sub).net = s.net := rfl
@[simp] theorem State.unsetVal_mem (s : State) (i sub : Nat) : (s.unsetVal i sub).mem = s.mem := rfl
@[simp] theorem State.unsetVal_cuvees (s : State) (i sub : Nat) : (s.unsetVal i sub).cuvees = s.cuvees := rfl
@[simp] theorem State.unsetVal_links (s : State) (i sub : Nat) : (s.unsetVal i sub).links = s.links := rfl
@[simp] theorem State.unsetVal_hostA (s : State) (i sub : Nat) : (s.unsetVal i sub).hostA = s.hostA := rfl
@[simp] theorem State.unsetVal_hostB (s : State) (i sub : Nat) : (s.unsetVal i sub).hostB = s.hostB := rfl
@[simp] theorem State.unsetVal_sec (s : State) (i sub : Nat) : (s.unsetVal i sub).sec = s.sec := rfl
@[simp] theorem State.unsetVal_obs (s : State) (i sub : Nat) : (s.unsetVal i sub).obs = s.obs := rfl
@[simp] theorem State.unsetVal_faults (s : State) (i sub : Nat) : (s.unsetVal i sub).faults = s.faults := rfl
@[simp] theorem State.unsetVal_muster (s : State) (i sub : Nat) : (s.unsetVal i sub).muster = s.muster := rfl
@[simp] theorem State.unsetVal_boot (s : State) (i sub : Nat) : (s.unsetVal i sub).boot = s.boot := rfl
@[simp] theorem State.unsetVal_out (s : State) (i sub : Nat) : (s.unsetVal i sub).out = s.out := rfl
@[simp] theorem State.unsetVal_free (s : State) (i sub : Nat) : (s.unsetVal i sub).free = s.free := rfl

/-! ## What setHbm leaves -/

@[simp] theorem State.setHbm_pending (s : State) (m : List Host.Cell) : (s.setHbm m).pending = s.pending := rfl
@[simp] theorem State.setHbm_time (s : State) (m : List Host.Cell) : (s.setHbm m).time = s.time := rfl
@[simp] theorem State.setHbm_cad (s : State) (m : List Host.Cell) : (s.setHbm m).cad = s.cad := rfl
@[simp] theorem State.setHbm_dict (s : State) (m : List Host.Cell) : (s.setHbm m).dict = s.dict := rfl
@[simp] theorem State.setHbm_flash (s : State) (m : List Host.Cell) : (s.setHbm m).flash = s.flash := rfl
@[simp] theorem State.setHbm_side (s : State) (m : List Host.Cell) : (s.setHbm m).side = s.side := rfl
@[simp] theorem State.setHbm_alm (s : State) (m : List Host.Cell) : (s.setHbm m).alm = s.alm := rfl
@[simp] theorem State.setHbm_power (s : State) (m : List Host.Cell) : (s.setHbm m).power = s.power := rfl
@[simp] theorem State.setHbm_tiles (s : State) (m : List Host.Cell) : (s.setHbm m).tiles = s.tiles := rfl
@[simp] theorem State.setHbm_net (s : State) (m : List Host.Cell) : (s.setHbm m).net = s.net := rfl
@[simp] theorem State.setHbm_cuvees (s : State) (m : List Host.Cell) : (s.setHbm m).cuvees = s.cuvees := rfl
@[simp] theorem State.setHbm_links (s : State) (m : List Host.Cell) : (s.setHbm m).links = s.links := rfl
@[simp] theorem State.setHbm_hostA (s : State) (m : List Host.Cell) : (s.setHbm m).hostA = s.hostA := rfl
@[simp] theorem State.setHbm_hostB (s : State) (m : List Host.Cell) : (s.setHbm m).hostB = s.hostB := rfl
@[simp] theorem State.setHbm_sec (s : State) (m : List Host.Cell) : (s.setHbm m).sec = s.sec := rfl
@[simp] theorem State.setHbm_obs (s : State) (m : List Host.Cell) : (s.setHbm m).obs = s.obs := rfl
@[simp] theorem State.setHbm_faults (s : State) (m : List Host.Cell) : (s.setHbm m).faults = s.faults := rfl
@[simp] theorem State.setHbm_muster (s : State) (m : List Host.Cell) : (s.setHbm m).muster = s.muster := rfl
@[simp] theorem State.setHbm_boot (s : State) (m : List Host.Cell) : (s.setHbm m).boot = s.boot := rfl
@[simp] theorem State.setHbm_out (s : State) (m : List Host.Cell) : (s.setHbm m).out = s.out := rfl
@[simp] theorem State.setHbm_free (s : State) (m : List Host.Cell) : (s.setHbm m).free = s.free := rfl

/-! ## What setStore leaves -/

@[simp] theorem State.setStore_pending (s : State) (m : List Host.Cell) : (s.setStore m).pending = s.pending := rfl
@[simp] theorem State.setStore_time (s : State) (m : List Host.Cell) : (s.setStore m).time = s.time := rfl
@[simp] theorem State.setStore_cad (s : State) (m : List Host.Cell) : (s.setStore m).cad = s.cad := rfl
@[simp] theorem State.setStore_dict (s : State) (m : List Host.Cell) : (s.setStore m).dict = s.dict := rfl
@[simp] theorem State.setStore_flash (s : State) (m : List Host.Cell) : (s.setStore m).flash = s.flash := rfl
@[simp] theorem State.setStore_side (s : State) (m : List Host.Cell) : (s.setStore m).side = s.side := rfl
@[simp] theorem State.setStore_alm (s : State) (m : List Host.Cell) : (s.setStore m).alm = s.alm := rfl
@[simp] theorem State.setStore_power (s : State) (m : List Host.Cell) : (s.setStore m).power = s.power := rfl
@[simp] theorem State.setStore_tiles (s : State) (m : List Host.Cell) : (s.setStore m).tiles = s.tiles := rfl
@[simp] theorem State.setStore_net (s : State) (m : List Host.Cell) : (s.setStore m).net = s.net := rfl
@[simp] theorem State.setStore_cuvees (s : State) (m : List Host.Cell) : (s.setStore m).cuvees = s.cuvees := rfl
@[simp] theorem State.setStore_links (s : State) (m : List Host.Cell) : (s.setStore m).links = s.links := rfl
@[simp] theorem State.setStore_hostA (s : State) (m : List Host.Cell) : (s.setStore m).hostA = s.hostA := rfl
@[simp] theorem State.setStore_hostB (s : State) (m : List Host.Cell) : (s.setStore m).hostB = s.hostB := rfl
@[simp] theorem State.setStore_sec (s : State) (m : List Host.Cell) : (s.setStore m).sec = s.sec := rfl
@[simp] theorem State.setStore_obs (s : State) (m : List Host.Cell) : (s.setStore m).obs = s.obs := rfl
@[simp] theorem State.setStore_faults (s : State) (m : List Host.Cell) : (s.setStore m).faults = s.faults := rfl
@[simp] theorem State.setStore_muster (s : State) (m : List Host.Cell) : (s.setStore m).muster = s.muster := rfl
@[simp] theorem State.setStore_boot (s : State) (m : List Host.Cell) : (s.setStore m).boot = s.boot := rfl
@[simp] theorem State.setStore_out (s : State) (m : List Host.Cell) : (s.setStore m).out = s.out := rfl
@[simp] theorem State.setStore_free (s : State) (m : List Host.Cell) : (s.setStore m).free = s.free := rfl

/-! ## What count leaves -/

@[simp] theorem State.count_pending (s : State) (key n : Nat) : (s.count key n).pending = s.pending := rfl
@[simp] theorem State.count_time (s : State) (key n : Nat) : (s.count key n).time = s.time := rfl
@[simp] theorem State.count_cad (s : State) (key n : Nat) : (s.count key n).cad = s.cad := rfl
@[simp] theorem State.count_dict (s : State) (key n : Nat) : (s.count key n).dict = s.dict := rfl
@[simp] theorem State.count_flash (s : State) (key n : Nat) : (s.count key n).flash = s.flash := rfl
@[simp] theorem State.count_side (s : State) (key n : Nat) : (s.count key n).side = s.side := rfl
@[simp] theorem State.count_alm (s : State) (key n : Nat) : (s.count key n).alm = s.alm := rfl
@[simp] theorem State.count_power (s : State) (key n : Nat) : (s.count key n).power = s.power := rfl
@[simp] theorem State.count_tiles (s : State) (key n : Nat) : (s.count key n).tiles = s.tiles := rfl
@[simp] theorem State.count_net (s : State) (key n : Nat) : (s.count key n).net = s.net := rfl
@[simp] theorem State.count_mem (s : State) (key n : Nat) : (s.count key n).mem = s.mem := rfl
@[simp] theorem State.count_cuvees (s : State) (key n : Nat) : (s.count key n).cuvees = s.cuvees := rfl
@[simp] theorem State.count_links (s : State) (key n : Nat) : (s.count key n).links = s.links := rfl
@[simp] theorem State.count_hostA (s : State) (key n : Nat) : (s.count key n).hostA = s.hostA := rfl
@[simp] theorem State.count_hostB (s : State) (key n : Nat) : (s.count key n).hostB = s.hostB := rfl
@[simp] theorem State.count_sec (s : State) (key n : Nat) : (s.count key n).sec = s.sec := rfl
@[simp] theorem State.count_faults (s : State) (key n : Nat) : (s.count key n).faults = s.faults := rfl
@[simp] theorem State.count_muster (s : State) (key n : Nat) : (s.count key n).muster = s.muster := rfl
@[simp] theorem State.count_boot (s : State) (key n : Nat) : (s.count key n).boot = s.boot := rfl
@[simp] theorem State.count_out (s : State) (key n : Nat) : (s.count key n).out = s.out := rfl
@[simp] theorem State.count_free (s : State) (key n : Nat) : (s.count key n).free = s.free := rfl

/-! ## What emit leaves -/

@[simp] theorem State.emit_pending (s : State) (o : Out) : (s.emit o).pending = s.pending := rfl
@[simp] theorem State.emit_time (s : State) (o : Out) : (s.emit o).time = s.time := rfl
@[simp] theorem State.emit_cad (s : State) (o : Out) : (s.emit o).cad = s.cad := rfl
@[simp] theorem State.emit_dict (s : State) (o : Out) : (s.emit o).dict = s.dict := rfl
@[simp] theorem State.emit_flash (s : State) (o : Out) : (s.emit o).flash = s.flash := rfl
@[simp] theorem State.emit_side (s : State) (o : Out) : (s.emit o).side = s.side := rfl
@[simp] theorem State.emit_alm (s : State) (o : Out) : (s.emit o).alm = s.alm := rfl
@[simp] theorem State.emit_power (s : State) (o : Out) : (s.emit o).power = s.power := rfl
@[simp] theorem State.emit_tiles (s : State) (o : Out) : (s.emit o).tiles = s.tiles := rfl
@[simp] theorem State.emit_net (s : State) (o : Out) : (s.emit o).net = s.net := rfl
@[simp] theorem State.emit_mem (s : State) (o : Out) : (s.emit o).mem = s.mem := rfl
@[simp] theorem State.emit_cuvees (s : State) (o : Out) : (s.emit o).cuvees = s.cuvees := rfl
@[simp] theorem State.emit_links (s : State) (o : Out) : (s.emit o).links = s.links := rfl
@[simp] theorem State.emit_hostA (s : State) (o : Out) : (s.emit o).hostA = s.hostA := rfl
@[simp] theorem State.emit_hostB (s : State) (o : Out) : (s.emit o).hostB = s.hostB := rfl
@[simp] theorem State.emit_sec (s : State) (o : Out) : (s.emit o).sec = s.sec := rfl
@[simp] theorem State.emit_obs (s : State) (o : Out) : (s.emit o).obs = s.obs := rfl
@[simp] theorem State.emit_faults (s : State) (o : Out) : (s.emit o).faults = s.faults := rfl
@[simp] theorem State.emit_muster (s : State) (o : Out) : (s.emit o).muster = s.muster := rfl
@[simp] theorem State.emit_boot (s : State) (o : Out) : (s.emit o).boot = s.boot := rfl
@[simp] theorem State.emit_free (s : State) (o : Out) : (s.emit o).free = s.free := rfl

/-! ## What tendrilSend leaves -/

@[simp] theorem State.tendrilSend_pending (s : State) (node kind payload : Nat) : (s.tendrilSend node kind payload).pending = s.pending := rfl
@[simp] theorem State.tendrilSend_time (s : State) (node kind payload : Nat) : (s.tendrilSend node kind payload).time = s.time := rfl
@[simp] theorem State.tendrilSend_cad (s : State) (node kind payload : Nat) : (s.tendrilSend node kind payload).cad = s.cad := rfl
@[simp] theorem State.tendrilSend_dict (s : State) (node kind payload : Nat) : (s.tendrilSend node kind payload).dict = s.dict := rfl
@[simp] theorem State.tendrilSend_flash (s : State) (node kind payload : Nat) : (s.tendrilSend node kind payload).flash = s.flash := rfl
@[simp] theorem State.tendrilSend_side (s : State) (node kind payload : Nat) : (s.tendrilSend node kind payload).side = s.side := rfl
@[simp] theorem State.tendrilSend_alm (s : State) (node kind payload : Nat) : (s.tendrilSend node kind payload).alm = s.alm := rfl
@[simp] theorem State.tendrilSend_power (s : State) (node kind payload : Nat) : (s.tendrilSend node kind payload).power = s.power := rfl
@[simp] theorem State.tendrilSend_tiles (s : State) (node kind payload : Nat) : (s.tendrilSend node kind payload).tiles = s.tiles := rfl
@[simp] theorem State.tendrilSend_mem (s : State) (node kind payload : Nat) : (s.tendrilSend node kind payload).mem = s.mem := rfl
@[simp] theorem State.tendrilSend_cuvees (s : State) (node kind payload : Nat) : (s.tendrilSend node kind payload).cuvees = s.cuvees := rfl
@[simp] theorem State.tendrilSend_links (s : State) (node kind payload : Nat) : (s.tendrilSend node kind payload).links = s.links := rfl
@[simp] theorem State.tendrilSend_hostA (s : State) (node kind payload : Nat) : (s.tendrilSend node kind payload).hostA = s.hostA := rfl
@[simp] theorem State.tendrilSend_hostB (s : State) (node kind payload : Nat) : (s.tendrilSend node kind payload).hostB = s.hostB := rfl
@[simp] theorem State.tendrilSend_sec (s : State) (node kind payload : Nat) : (s.tendrilSend node kind payload).sec = s.sec := rfl
@[simp] theorem State.tendrilSend_obs (s : State) (node kind payload : Nat) : (s.tendrilSend node kind payload).obs = s.obs := rfl
@[simp] theorem State.tendrilSend_faults (s : State) (node kind payload : Nat) : (s.tendrilSend node kind payload).faults = s.faults := rfl
@[simp] theorem State.tendrilSend_muster (s : State) (node kind payload : Nat) : (s.tendrilSend node kind payload).muster = s.muster := rfl
@[simp] theorem State.tendrilSend_boot (s : State) (node kind payload : Nat) : (s.tendrilSend node kind payload).boot = s.boot := rfl
@[simp] theorem State.tendrilSend_out (s : State) (node kind payload : Nat) : (s.tendrilSend node kind payload).out = s.out := rfl
@[simp] theorem State.tendrilSend_free (s : State) (node kind payload : Nat) : (s.tendrilSend node kind payload).free = s.free := rfl

/-! ## What linkSend leaves -/

@[simp] theorem State.linkSend_pending (s : State) (k : Nat) (m : LinkMsg) : (s.linkSend k m).pending = s.pending := rfl
@[simp] theorem State.linkSend_time (s : State) (k : Nat) (m : LinkMsg) : (s.linkSend k m).time = s.time := rfl
@[simp] theorem State.linkSend_cad (s : State) (k : Nat) (m : LinkMsg) : (s.linkSend k m).cad = s.cad := rfl
@[simp] theorem State.linkSend_dict (s : State) (k : Nat) (m : LinkMsg) : (s.linkSend k m).dict = s.dict := rfl
@[simp] theorem State.linkSend_flash (s : State) (k : Nat) (m : LinkMsg) : (s.linkSend k m).flash = s.flash := rfl
@[simp] theorem State.linkSend_side (s : State) (k : Nat) (m : LinkMsg) : (s.linkSend k m).side = s.side := rfl
@[simp] theorem State.linkSend_alm (s : State) (k : Nat) (m : LinkMsg) : (s.linkSend k m).alm = s.alm := rfl
@[simp] theorem State.linkSend_power (s : State) (k : Nat) (m : LinkMsg) : (s.linkSend k m).power = s.power := rfl
@[simp] theorem State.linkSend_tiles (s : State) (k : Nat) (m : LinkMsg) : (s.linkSend k m).tiles = s.tiles := rfl
@[simp] theorem State.linkSend_net (s : State) (k : Nat) (m : LinkMsg) : (s.linkSend k m).net = s.net := rfl
@[simp] theorem State.linkSend_mem (s : State) (k : Nat) (m : LinkMsg) : (s.linkSend k m).mem = s.mem := rfl
@[simp] theorem State.linkSend_cuvees (s : State) (k : Nat) (m : LinkMsg) : (s.linkSend k m).cuvees = s.cuvees := rfl
@[simp] theorem State.linkSend_hostA (s : State) (k : Nat) (m : LinkMsg) : (s.linkSend k m).hostA = s.hostA := rfl
@[simp] theorem State.linkSend_hostB (s : State) (k : Nat) (m : LinkMsg) : (s.linkSend k m).hostB = s.hostB := rfl
@[simp] theorem State.linkSend_sec (s : State) (k : Nat) (m : LinkMsg) : (s.linkSend k m).sec = s.sec := rfl
@[simp] theorem State.linkSend_obs (s : State) (k : Nat) (m : LinkMsg) : (s.linkSend k m).obs = s.obs := rfl
@[simp] theorem State.linkSend_faults (s : State) (k : Nat) (m : LinkMsg) : (s.linkSend k m).faults = s.faults := rfl
@[simp] theorem State.linkSend_muster (s : State) (k : Nat) (m : LinkMsg) : (s.linkSend k m).muster = s.muster := rfl
@[simp] theorem State.linkSend_boot (s : State) (k : Nat) (m : LinkMsg) : (s.linkSend k m).boot = s.boot := rfl
@[simp] theorem State.linkSend_out (s : State) (k : Nat) (m : LinkMsg) : (s.linkSend k m).out = s.out := rfl
@[simp] theorem State.linkSend_free (s : State) (k : Nat) (m : LinkMsg) : (s.linkSend k m).free = s.free := rfl

/-! ## What copyPacket leaves -/

@[simp] theorem State.copyPacket_pending (s : State) (p : Packet) : (s.copyPacket p).pending = s.pending := rfl
@[simp] theorem State.copyPacket_time (s : State) (p : Packet) : (s.copyPacket p).time = s.time := rfl
@[simp] theorem State.copyPacket_cad (s : State) (p : Packet) : (s.copyPacket p).cad = s.cad := rfl
@[simp] theorem State.copyPacket_dict (s : State) (p : Packet) : (s.copyPacket p).dict = s.dict := rfl
@[simp] theorem State.copyPacket_flash (s : State) (p : Packet) : (s.copyPacket p).flash = s.flash := rfl
@[simp] theorem State.copyPacket_side (s : State) (p : Packet) : (s.copyPacket p).side = s.side := rfl
@[simp] theorem State.copyPacket_alm (s : State) (p : Packet) : (s.copyPacket p).alm = s.alm := rfl
@[simp] theorem State.copyPacket_power (s : State) (p : Packet) : (s.copyPacket p).power = s.power := rfl
@[simp] theorem State.copyPacket_tiles (s : State) (p : Packet) : (s.copyPacket p).tiles = s.tiles := rfl
@[simp] theorem State.copyPacket_mem (s : State) (p : Packet) : (s.copyPacket p).mem = s.mem := rfl
@[simp] theorem State.copyPacket_cuvees (s : State) (p : Packet) : (s.copyPacket p).cuvees = s.cuvees := rfl
@[simp] theorem State.copyPacket_links (s : State) (p : Packet) : (s.copyPacket p).links = s.links := rfl
@[simp] theorem State.copyPacket_hostA (s : State) (p : Packet) : (s.copyPacket p).hostA = s.hostA := rfl
@[simp] theorem State.copyPacket_hostB (s : State) (p : Packet) : (s.copyPacket p).hostB = s.hostB := rfl
@[simp] theorem State.copyPacket_sec (s : State) (p : Packet) : (s.copyPacket p).sec = s.sec := rfl
@[simp] theorem State.copyPacket_obs (s : State) (p : Packet) : (s.copyPacket p).obs = s.obs := rfl
@[simp] theorem State.copyPacket_faults (s : State) (p : Packet) : (s.copyPacket p).faults = s.faults := rfl
@[simp] theorem State.copyPacket_muster (s : State) (p : Packet) : (s.copyPacket p).muster = s.muster := rfl
@[simp] theorem State.copyPacket_boot (s : State) (p : Packet) : (s.copyPacket p).boot = s.boot := rfl
@[simp] theorem State.copyPacket_out (s : State) (p : Packet) : (s.copyPacket p).out = s.out := rfl
@[simp] theorem State.copyPacket_free (s : State) (p : Packet) : (s.copyPacket p).free = s.free := rfl

/-! ## What arrive leaves -/

@[simp] theorem State.arrive_pending (s : State) (p : Packet) : (s.arrive p).pending = s.pending := rfl
@[simp] theorem State.arrive_time (s : State) (p : Packet) : (s.arrive p).time = s.time := rfl
@[simp] theorem State.arrive_cad (s : State) (p : Packet) : (s.arrive p).cad = s.cad := rfl
@[simp] theorem State.arrive_dict (s : State) (p : Packet) : (s.arrive p).dict = s.dict := rfl
@[simp] theorem State.arrive_flash (s : State) (p : Packet) : (s.arrive p).flash = s.flash := rfl
@[simp] theorem State.arrive_side (s : State) (p : Packet) : (s.arrive p).side = s.side := rfl
@[simp] theorem State.arrive_alm (s : State) (p : Packet) : (s.arrive p).alm = s.alm := rfl
@[simp] theorem State.arrive_power (s : State) (p : Packet) : (s.arrive p).power = s.power := rfl
@[simp] theorem State.arrive_tiles (s : State) (p : Packet) : (s.arrive p).tiles = s.tiles := rfl
@[simp] theorem State.arrive_mem (s : State) (p : Packet) : (s.arrive p).mem = s.mem := rfl
@[simp] theorem State.arrive_cuvees (s : State) (p : Packet) : (s.arrive p).cuvees = s.cuvees := rfl
@[simp] theorem State.arrive_links (s : State) (p : Packet) : (s.arrive p).links = s.links := rfl
@[simp] theorem State.arrive_hostA (s : State) (p : Packet) : (s.arrive p).hostA = s.hostA := rfl
@[simp] theorem State.arrive_hostB (s : State) (p : Packet) : (s.arrive p).hostB = s.hostB := rfl
@[simp] theorem State.arrive_sec (s : State) (p : Packet) : (s.arrive p).sec = s.sec := rfl
@[simp] theorem State.arrive_obs (s : State) (p : Packet) : (s.arrive p).obs = s.obs := rfl
@[simp] theorem State.arrive_faults (s : State) (p : Packet) : (s.arrive p).faults = s.faults := rfl
@[simp] theorem State.arrive_muster (s : State) (p : Packet) : (s.arrive p).muster = s.muster := rfl
@[simp] theorem State.arrive_boot (s : State) (p : Packet) : (s.arrive p).boot = s.boot := rfl
@[simp] theorem State.arrive_out (s : State) (p : Packet) : (s.arrive p).out = s.out := rfl
@[simp] theorem State.arrive_free (s : State) (p : Packet) : (s.arrive p).free = s.free := rfl

/-! ## Updates with cases -/

@[simp] theorem State.updHost_pending (s : State) (p : HostPort) (f : HostSt → HostSt) : (s.updHost p f).pending = s.pending := by
  cases p <;> rfl
@[simp] theorem State.updHost_time (s : State) (p : HostPort) (f : HostSt → HostSt) : (s.updHost p f).time = s.time := by
  cases p <;> rfl
@[simp] theorem State.updHost_cad (s : State) (p : HostPort) (f : HostSt → HostSt) : (s.updHost p f).cad = s.cad := by
  cases p <;> rfl
@[simp] theorem State.updHost_dict (s : State) (p : HostPort) (f : HostSt → HostSt) : (s.updHost p f).dict = s.dict := by
  cases p <;> rfl
@[simp] theorem State.updHost_flash (s : State) (p : HostPort) (f : HostSt → HostSt) : (s.updHost p f).flash = s.flash := by
  cases p <;> rfl
@[simp] theorem State.updHost_side (s : State) (p : HostPort) (f : HostSt → HostSt) : (s.updHost p f).side = s.side := by
  cases p <;> rfl
@[simp] theorem State.updHost_alm (s : State) (p : HostPort) (f : HostSt → HostSt) : (s.updHost p f).alm = s.alm := by
  cases p <;> rfl
@[simp] theorem State.updHost_power (s : State) (p : HostPort) (f : HostSt → HostSt) : (s.updHost p f).power = s.power := by
  cases p <;> rfl
@[simp] theorem State.updHost_tiles (s : State) (p : HostPort) (f : HostSt → HostSt) : (s.updHost p f).tiles = s.tiles := by
  cases p <;> rfl
@[simp] theorem State.updHost_net (s : State) (p : HostPort) (f : HostSt → HostSt) : (s.updHost p f).net = s.net := by
  cases p <;> rfl
@[simp] theorem State.updHost_mem (s : State) (p : HostPort) (f : HostSt → HostSt) : (s.updHost p f).mem = s.mem := by
  cases p <;> rfl
@[simp] theorem State.updHost_cuvees (s : State) (p : HostPort) (f : HostSt → HostSt) : (s.updHost p f).cuvees = s.cuvees := by
  cases p <;> rfl
@[simp] theorem State.updHost_links (s : State) (p : HostPort) (f : HostSt → HostSt) : (s.updHost p f).links = s.links := by
  cases p <;> rfl
@[simp] theorem State.updHost_sec (s : State) (p : HostPort) (f : HostSt → HostSt) : (s.updHost p f).sec = s.sec := by
  cases p <;> rfl
@[simp] theorem State.updHost_obs (s : State) (p : HostPort) (f : HostSt → HostSt) : (s.updHost p f).obs = s.obs := by
  cases p <;> rfl
@[simp] theorem State.updHost_faults (s : State) (p : HostPort) (f : HostSt → HostSt) : (s.updHost p f).faults = s.faults := by
  cases p <;> rfl
@[simp] theorem State.updHost_muster (s : State) (p : HostPort) (f : HostSt → HostSt) : (s.updHost p f).muster = s.muster := by
  cases p <;> rfl
@[simp] theorem State.updHost_boot (s : State) (p : HostPort) (f : HostSt → HostSt) : (s.updHost p f).boot = s.boot := by
  cases p <;> rfl
@[simp] theorem State.updHost_out (s : State) (p : HostPort) (f : HostSt → HostSt) : (s.updHost p f).out = s.out := by
  cases p <;> rfl
@[simp] theorem State.updHost_free (s : State) (p : HostPort) (f : HostSt → HostSt) : (s.updHost p f).free = s.free := by
  cases p <;> rfl

@[simp] theorem State.moveClock_pending (s : State) (t : Instant) : (s.at_ t).pending = s.pending := by unfold State.at_; split <;> rfl
@[simp] theorem State.moveClock_cad (s : State) (t : Instant) : (s.at_ t).cad = s.cad := by unfold State.at_; split <;> rfl
@[simp] theorem State.moveClock_dict (s : State) (t : Instant) : (s.at_ t).dict = s.dict := by unfold State.at_; split <;> rfl
@[simp] theorem State.moveClock_flash (s : State) (t : Instant) : (s.at_ t).flash = s.flash := by unfold State.at_; split <;> rfl
@[simp] theorem State.moveClock_side (s : State) (t : Instant) : (s.at_ t).side = s.side := by unfold State.at_; split <;> rfl
@[simp] theorem State.moveClock_alm (s : State) (t : Instant) : (s.at_ t).alm = s.alm := by unfold State.at_; split <;> rfl
@[simp] theorem State.moveClock_power (s : State) (t : Instant) : (s.at_ t).power = s.power := by unfold State.at_; split <;> rfl
@[simp] theorem State.moveClock_tiles (s : State) (t : Instant) : (s.at_ t).tiles = s.tiles := by unfold State.at_; split <;> rfl
@[simp] theorem State.moveClock_net (s : State) (t : Instant) : (s.at_ t).net = s.net := by unfold State.at_; split <;> rfl
@[simp] theorem State.moveClock_mem (s : State) (t : Instant) : (s.at_ t).mem = s.mem := by unfold State.at_; split <;> rfl
@[simp] theorem State.moveClock_cuvees (s : State) (t : Instant) : (s.at_ t).cuvees = s.cuvees := by unfold State.at_; split <;> rfl
@[simp] theorem State.moveClock_links (s : State) (t : Instant) : (s.at_ t).links = s.links := by unfold State.at_; split <;> rfl
@[simp] theorem State.moveClock_hostA (s : State) (t : Instant) : (s.at_ t).hostA = s.hostA := by unfold State.at_; split <;> rfl
@[simp] theorem State.moveClock_hostB (s : State) (t : Instant) : (s.at_ t).hostB = s.hostB := by unfold State.at_; split <;> rfl
@[simp] theorem State.moveClock_sec (s : State) (t : Instant) : (s.at_ t).sec = s.sec := by unfold State.at_; split <;> rfl
@[simp] theorem State.moveClock_obs (s : State) (t : Instant) : (s.at_ t).obs = s.obs := by unfold State.at_; split <;> rfl
@[simp] theorem State.moveClock_faults (s : State) (t : Instant) : (s.at_ t).faults = s.faults := by unfold State.at_; split <;> rfl
@[simp] theorem State.moveClock_muster (s : State) (t : Instant) : (s.at_ t).muster = s.muster := by unfold State.at_; split <;> rfl
@[simp] theorem State.moveClock_boot (s : State) (t : Instant) : (s.at_ t).boot = s.boot := by unfold State.at_; split <;> rfl
@[simp] theorem State.moveClock_out (s : State) (t : Instant) : (s.at_ t).out = s.out := by unfold State.at_; split <;> rfl
@[simp] theorem State.moveClock_free (s : State) (t : Instant) : (s.at_ t).free = s.free := by unfold State.at_; split <;> rfl
@[simp] theorem State.tally_pending (s : State) (c k n : Nat) : (s.tally c k n).pending = s.pending := by
  unfold State.tally; split <;> rfl
@[simp] theorem State.tally_time (s : State) (c k n : Nat) : (s.tally c k n).time = s.time := by
  unfold State.tally; split <;> rfl
@[simp] theorem State.tally_cad (s : State) (c k n : Nat) : (s.tally c k n).cad = s.cad := by
  unfold State.tally; split <;> rfl
@[simp] theorem State.tally_dict (s : State) (c k n : Nat) : (s.tally c k n).dict = s.dict := by
  unfold State.tally; split <;> rfl
@[simp] theorem State.tally_flash (s : State) (c k n : Nat) : (s.tally c k n).flash = s.flash := by
  unfold State.tally; split <;> rfl
@[simp] theorem State.tally_side (s : State) (c k n : Nat) : (s.tally c k n).side = s.side := by
  unfold State.tally; split <;> rfl
@[simp] theorem State.tally_alm (s : State) (c k n : Nat) : (s.tally c k n).alm = s.alm := by
  unfold State.tally; split <;> rfl
@[simp] theorem State.tally_power (s : State) (c k n : Nat) : (s.tally c k n).power = s.power := by
  unfold State.tally; split <;> rfl
@[simp] theorem State.tally_tiles (s : State) (c k n : Nat) : (s.tally c k n).tiles = s.tiles := by
  unfold State.tally; split <;> rfl
@[simp] theorem State.tally_net (s : State) (c k n : Nat) : (s.tally c k n).net = s.net := by
  unfold State.tally; split <;> rfl
@[simp] theorem State.tally_mem (s : State) (c k n : Nat) : (s.tally c k n).mem = s.mem := by
  unfold State.tally; split <;> rfl
@[simp] theorem State.tally_links (s : State) (c k n : Nat) : (s.tally c k n).links = s.links := by
  unfold State.tally; split <;> rfl
@[simp] theorem State.tally_hostA (s : State) (c k n : Nat) : (s.tally c k n).hostA = s.hostA := by
  unfold State.tally; split <;> rfl
@[simp] theorem State.tally_hostB (s : State) (c k n : Nat) : (s.tally c k n).hostB = s.hostB := by
  unfold State.tally; split <;> rfl
@[simp] theorem State.tally_sec (s : State) (c k n : Nat) : (s.tally c k n).sec = s.sec := by
  unfold State.tally; split <;> rfl
@[simp] theorem State.tally_obs (s : State) (c k n : Nat) : (s.tally c k n).obs = s.obs := by
  unfold State.tally; split <;> rfl
@[simp] theorem State.tally_faults (s : State) (c k n : Nat) : (s.tally c k n).faults = s.faults := by
  unfold State.tally; split <;> rfl
@[simp] theorem State.tally_muster (s : State) (c k n : Nat) : (s.tally c k n).muster = s.muster := by
  unfold State.tally; split <;> rfl
@[simp] theorem State.tally_boot (s : State) (c k n : Nat) : (s.tally c k n).boot = s.boot := by
  unfold State.tally; split <;> rfl
@[simp] theorem State.tally_out (s : State) (c k n : Nat) : (s.tally c k n).out = s.out := by
  unfold State.tally; split <;> rfl
@[simp] theorem State.tally_free (s : State) (c k n : Nat) : (s.tally c k n).free = s.free := by
  unfold State.tally; split <;> rfl

/-! ## What netError leaves -/

@[simp] theorem State.netError_pending (s : State) (i : Nat) : (s.netError i).pending = s.pending := rfl
@[simp] theorem State.netError_time (s : State) (i : Nat) : (s.netError i).time = s.time := rfl
@[simp] theorem State.netError_cad (s : State) (i : Nat) : (s.netError i).cad = s.cad := rfl
@[simp] theorem State.netError_dict (s : State) (i : Nat) : (s.netError i).dict = s.dict := rfl
@[simp] theorem State.netError_flash (s : State) (i : Nat) : (s.netError i).flash = s.flash := rfl
@[simp] theorem State.netError_side (s : State) (i : Nat) : (s.netError i).side = s.side := rfl
@[simp] theorem State.netError_alm (s : State) (i : Nat) : (s.netError i).alm = s.alm := rfl
@[simp] theorem State.netError_power (s : State) (i : Nat) : (s.netError i).power = s.power := rfl
@[simp] theorem State.netError_tiles (s : State) (i : Nat) : (s.netError i).tiles = s.tiles := rfl
@[simp] theorem State.netError_mem (s : State) (i : Nat) : (s.netError i).mem = s.mem := rfl
@[simp] theorem State.netError_cuvees (s : State) (i : Nat) : (s.netError i).cuvees = s.cuvees := rfl
@[simp] theorem State.netError_links (s : State) (i : Nat) : (s.netError i).links = s.links := rfl
@[simp] theorem State.netError_hostA (s : State) (i : Nat) : (s.netError i).hostA = s.hostA := rfl
@[simp] theorem State.netError_hostB (s : State) (i : Nat) : (s.netError i).hostB = s.hostB := rfl
@[simp] theorem State.netError_sec (s : State) (i : Nat) : (s.netError i).sec = s.sec := rfl
@[simp] theorem State.netError_obs (s : State) (i : Nat) : (s.netError i).obs = s.obs := rfl
@[simp] theorem State.netError_faults (s : State) (i : Nat) : (s.netError i).faults = s.faults := rfl
@[simp] theorem State.netError_muster (s : State) (i : Nat) : (s.netError i).muster = s.muster := rfl
@[simp] theorem State.netError_boot (s : State) (i : Nat) : (s.netError i).boot = s.boot := rfl
@[simp] theorem State.netError_out (s : State) (i : Nat) : (s.netError i).out = s.out := rfl
@[simp] theorem State.netError_free (s : State) (i : Nat) : (s.netError i).free = s.free := rfl

/-! ## What signal leaves -/

@[simp] theorem State.signal_pending (s : State) (kind payload : Nat) : (s.signal kind payload).pending = s.pending := rfl
@[simp] theorem State.signal_time (s : State) (kind payload : Nat) : (s.signal kind payload).time = s.time := rfl
@[simp] theorem State.signal_cad (s : State) (kind payload : Nat) : (s.signal kind payload).cad = s.cad := rfl
@[simp] theorem State.signal_dict (s : State) (kind payload : Nat) : (s.signal kind payload).dict = s.dict := rfl
@[simp] theorem State.signal_flash (s : State) (kind payload : Nat) : (s.signal kind payload).flash = s.flash := rfl
@[simp] theorem State.signal_side (s : State) (kind payload : Nat) : (s.signal kind payload).side = s.side := rfl
@[simp] theorem State.signal_alm (s : State) (kind payload : Nat) : (s.signal kind payload).alm = s.alm := rfl
@[simp] theorem State.signal_power (s : State) (kind payload : Nat) : (s.signal kind payload).power = s.power := rfl
@[simp] theorem State.signal_tiles (s : State) (kind payload : Nat) : (s.signal kind payload).tiles = s.tiles := rfl
@[simp] theorem State.signal_mem (s : State) (kind payload : Nat) : (s.signal kind payload).mem = s.mem := rfl
@[simp] theorem State.signal_cuvees (s : State) (kind payload : Nat) : (s.signal kind payload).cuvees = s.cuvees := rfl
@[simp] theorem State.signal_links (s : State) (kind payload : Nat) : (s.signal kind payload).links = s.links := rfl
@[simp] theorem State.signal_hostA (s : State) (kind payload : Nat) : (s.signal kind payload).hostA = s.hostA := rfl
@[simp] theorem State.signal_hostB (s : State) (kind payload : Nat) : (s.signal kind payload).hostB = s.hostB := rfl
@[simp] theorem State.signal_sec (s : State) (kind payload : Nat) : (s.signal kind payload).sec = s.sec := rfl
@[simp] theorem State.signal_obs (s : State) (kind payload : Nat) : (s.signal kind payload).obs = s.obs := rfl
@[simp] theorem State.signal_faults (s : State) (kind payload : Nat) : (s.signal kind payload).faults = s.faults := rfl
@[simp] theorem State.signal_muster (s : State) (kind payload : Nat) : (s.signal kind payload).muster = s.muster := rfl
@[simp] theorem State.signal_boot (s : State) (kind payload : Nat) : (s.signal kind payload).boot = s.boot := rfl
@[simp] theorem State.signal_out (s : State) (kind payload : Nat) : (s.signal kind payload).out = s.out := rfl
@[simp] theorem State.signal_free (s : State) (kind payload : Nat) : (s.signal kind payload).free = s.free := rfl

/-! ## What markWritten leaves -/

@[simp] theorem State.markWritten_pending (s : State) (k : Nat) (rs : List Nat) : (s.markWritten k rs).pending = s.pending := rfl
@[simp] theorem State.markWritten_time (s : State) (k : Nat) (rs : List Nat) : (s.markWritten k rs).time = s.time := rfl
@[simp] theorem State.markWritten_cad (s : State) (k : Nat) (rs : List Nat) : (s.markWritten k rs).cad = s.cad := rfl
@[simp] theorem State.markWritten_dict (s : State) (k : Nat) (rs : List Nat) : (s.markWritten k rs).dict = s.dict := rfl
@[simp] theorem State.markWritten_flash (s : State) (k : Nat) (rs : List Nat) : (s.markWritten k rs).flash = s.flash := rfl
@[simp] theorem State.markWritten_side (s : State) (k : Nat) (rs : List Nat) : (s.markWritten k rs).side = s.side := rfl
@[simp] theorem State.markWritten_alm (s : State) (k : Nat) (rs : List Nat) : (s.markWritten k rs).alm = s.alm := rfl
@[simp] theorem State.markWritten_power (s : State) (k : Nat) (rs : List Nat) : (s.markWritten k rs).power = s.power := rfl
@[simp] theorem State.markWritten_tiles (s : State) (k : Nat) (rs : List Nat) : (s.markWritten k rs).tiles = s.tiles := rfl
@[simp] theorem State.markWritten_net (s : State) (k : Nat) (rs : List Nat) : (s.markWritten k rs).net = s.net := rfl
@[simp] theorem State.markWritten_cuvees (s : State) (k : Nat) (rs : List Nat) : (s.markWritten k rs).cuvees = s.cuvees := rfl
@[simp] theorem State.markWritten_links (s : State) (k : Nat) (rs : List Nat) : (s.markWritten k rs).links = s.links := rfl
@[simp] theorem State.markWritten_hostA (s : State) (k : Nat) (rs : List Nat) : (s.markWritten k rs).hostA = s.hostA := rfl
@[simp] theorem State.markWritten_hostB (s : State) (k : Nat) (rs : List Nat) : (s.markWritten k rs).hostB = s.hostB := rfl
@[simp] theorem State.markWritten_sec (s : State) (k : Nat) (rs : List Nat) : (s.markWritten k rs).sec = s.sec := rfl
@[simp] theorem State.markWritten_obs (s : State) (k : Nat) (rs : List Nat) : (s.markWritten k rs).obs = s.obs := rfl
@[simp] theorem State.markWritten_faults (s : State) (k : Nat) (rs : List Nat) : (s.markWritten k rs).faults = s.faults := rfl
@[simp] theorem State.markWritten_muster (s : State) (k : Nat) (rs : List Nat) : (s.markWritten k rs).muster = s.muster := rfl
@[simp] theorem State.markWritten_boot (s : State) (k : Nat) (rs : List Nat) : (s.markWritten k rs).boot = s.boot := rfl
@[simp] theorem State.markWritten_out (s : State) (k : Nat) (rs : List Nat) : (s.markWritten k rs).out = s.out := rfl
@[simp] theorem State.markWritten_free (s : State) (k : Nat) (rs : List Nat) : (s.markWritten k rs).free = s.free := rfl
@[simp] theorem State.markWritten_hbm (s : State) (k : Nat) (rs : List Nat) : (s.markWritten k rs).mem.hbm = s.mem.hbm := rfl
@[simp] theorem State.markWritten_store (s : State) (k : Nat) (rs : List Nat) : (s.markWritten k rs).mem.store = s.mem.store := rfl

/-! ## What landData leaves -/

@[simp] theorem State.landData_pending (s : State) (k : Nat) (owed : Bool) (f : Flit) : (s.landData k owed f).pending = s.pending := rfl
@[simp] theorem State.landData_time (s : State) (k : Nat) (owed : Bool) (f : Flit) : (s.landData k owed f).time = s.time := rfl
@[simp] theorem State.landData_cad (s : State) (k : Nat) (owed : Bool) (f : Flit) : (s.landData k owed f).cad = s.cad := rfl
@[simp] theorem State.landData_dict (s : State) (k : Nat) (owed : Bool) (f : Flit) : (s.landData k owed f).dict = s.dict := rfl
@[simp] theorem State.landData_flash (s : State) (k : Nat) (owed : Bool) (f : Flit) : (s.landData k owed f).flash = s.flash := rfl
@[simp] theorem State.landData_side (s : State) (k : Nat) (owed : Bool) (f : Flit) : (s.landData k owed f).side = s.side := rfl
@[simp] theorem State.landData_alm (s : State) (k : Nat) (owed : Bool) (f : Flit) : (s.landData k owed f).alm = s.alm := rfl
@[simp] theorem State.landData_power (s : State) (k : Nat) (owed : Bool) (f : Flit) : (s.landData k owed f).power = s.power := rfl
@[simp] theorem State.landData_tiles (s : State) (k : Nat) (owed : Bool) (f : Flit) : (s.landData k owed f).tiles = s.tiles := rfl
@[simp] theorem State.landData_net (s : State) (k : Nat) (owed : Bool) (f : Flit) : (s.landData k owed f).net = s.net := rfl
@[simp] theorem State.landData_mem (s : State) (k : Nat) (owed : Bool) (f : Flit) : (s.landData k owed f).mem = s.mem := rfl
@[simp] theorem State.landData_cuvees (s : State) (k : Nat) (owed : Bool) (f : Flit) : (s.landData k owed f).cuvees = s.cuvees := rfl
@[simp] theorem State.landData_hostA (s : State) (k : Nat) (owed : Bool) (f : Flit) : (s.landData k owed f).hostA = s.hostA := rfl
@[simp] theorem State.landData_hostB (s : State) (k : Nat) (owed : Bool) (f : Flit) : (s.landData k owed f).hostB = s.hostB := rfl
@[simp] theorem State.landData_sec (s : State) (k : Nat) (owed : Bool) (f : Flit) : (s.landData k owed f).sec = s.sec := rfl
@[simp] theorem State.landData_obs (s : State) (k : Nat) (owed : Bool) (f : Flit) : (s.landData k owed f).obs = s.obs := rfl
@[simp] theorem State.landData_faults (s : State) (k : Nat) (owed : Bool) (f : Flit) : (s.landData k owed f).faults = s.faults := rfl
@[simp] theorem State.landData_muster (s : State) (k : Nat) (owed : Bool) (f : Flit) : (s.landData k owed f).muster = s.muster := rfl
@[simp] theorem State.landData_boot (s : State) (k : Nat) (owed : Bool) (f : Flit) : (s.landData k owed f).boot = s.boot := rfl
@[simp] theorem State.landData_out (s : State) (k : Nat) (owed : Bool) (f : Flit) : (s.landData k owed f).out = s.out := rfl
@[simp] theorem State.landData_free (s : State) (k : Nat) (owed : Bool) (f : Flit) : (s.landData k owed f).free = s.free := rfl

/-! ## What inject leaves -/

@[simp] theorem State.inject_pending (s : State) (p : Packet) : (s.inject p).pending = s.pending := by simp [State.inject]
@[simp] theorem State.inject_time (s : State) (p : Packet) : (s.inject p).time = s.time := by simp [State.inject]
@[simp] theorem State.inject_cad (s : State) (p : Packet) : (s.inject p).cad = s.cad := by simp [State.inject]
@[simp] theorem State.inject_dict (s : State) (p : Packet) : (s.inject p).dict = s.dict := by simp [State.inject]
@[simp] theorem State.inject_flash (s : State) (p : Packet) : (s.inject p).flash = s.flash := by simp [State.inject]
@[simp] theorem State.inject_side (s : State) (p : Packet) : (s.inject p).side = s.side := by simp [State.inject]
@[simp] theorem State.inject_alm (s : State) (p : Packet) : (s.inject p).alm = s.alm := by simp [State.inject]
@[simp] theorem State.inject_power (s : State) (p : Packet) : (s.inject p).power = s.power := by simp [State.inject]
@[simp] theorem State.inject_tiles (s : State) (p : Packet) : (s.inject p).tiles = s.tiles := by simp [State.inject]
@[simp] theorem State.inject_mem (s : State) (p : Packet) : (s.inject p).mem = s.mem := by simp [State.inject]
@[simp] theorem State.inject_links (s : State) (p : Packet) : (s.inject p).links = s.links := by simp [State.inject]
@[simp] theorem State.inject_hostA (s : State) (p : Packet) : (s.inject p).hostA = s.hostA := by simp [State.inject]
@[simp] theorem State.inject_hostB (s : State) (p : Packet) : (s.inject p).hostB = s.hostB := by simp [State.inject]
@[simp] theorem State.inject_sec (s : State) (p : Packet) : (s.inject p).sec = s.sec := by simp [State.inject]
@[simp] theorem State.inject_faults (s : State) (p : Packet) : (s.inject p).faults = s.faults := by simp [State.inject]
@[simp] theorem State.inject_muster (s : State) (p : Packet) : (s.inject p).muster = s.muster := by simp [State.inject]
@[simp] theorem State.inject_boot (s : State) (p : Packet) : (s.inject p).boot = s.boot := by simp [State.inject]
@[simp] theorem State.inject_out (s : State) (p : Packet) : (s.inject p).out = s.out := by simp [State.inject]
@[simp] theorem State.inject_free (s : State) (p : Packet) : (s.inject p).free = s.free := by simp [State.inject]

/-! ## What answer leaves -/

@[simp] theorem State.answer_pending (s : State) (p : Packet) (ty status : Nat) (data : List Byte) : (s.answer p ty status data).pending = s.pending := by simp [State.answer]
@[simp] theorem State.answer_time (s : State) (p : Packet) (ty status : Nat) (data : List Byte) : (s.answer p ty status data).time = s.time := by simp [State.answer]
@[simp] theorem State.answer_cad (s : State) (p : Packet) (ty status : Nat) (data : List Byte) : (s.answer p ty status data).cad = s.cad := by simp [State.answer]
@[simp] theorem State.answer_dict (s : State) (p : Packet) (ty status : Nat) (data : List Byte) : (s.answer p ty status data).dict = s.dict := by simp [State.answer]
@[simp] theorem State.answer_flash (s : State) (p : Packet) (ty status : Nat) (data : List Byte) : (s.answer p ty status data).flash = s.flash := by simp [State.answer]
@[simp] theorem State.answer_side (s : State) (p : Packet) (ty status : Nat) (data : List Byte) : (s.answer p ty status data).side = s.side := by simp [State.answer]
@[simp] theorem State.answer_alm (s : State) (p : Packet) (ty status : Nat) (data : List Byte) : (s.answer p ty status data).alm = s.alm := by simp [State.answer]
@[simp] theorem State.answer_power (s : State) (p : Packet) (ty status : Nat) (data : List Byte) : (s.answer p ty status data).power = s.power := by simp [State.answer]
@[simp] theorem State.answer_tiles (s : State) (p : Packet) (ty status : Nat) (data : List Byte) : (s.answer p ty status data).tiles = s.tiles := by simp [State.answer]
@[simp] theorem State.answer_mem (s : State) (p : Packet) (ty status : Nat) (data : List Byte) : (s.answer p ty status data).mem = s.mem := by simp [State.answer]
@[simp] theorem State.answer_links (s : State) (p : Packet) (ty status : Nat) (data : List Byte) : (s.answer p ty status data).links = s.links := by simp [State.answer]
@[simp] theorem State.answer_hostA (s : State) (p : Packet) (ty status : Nat) (data : List Byte) : (s.answer p ty status data).hostA = s.hostA := by simp [State.answer]
@[simp] theorem State.answer_hostB (s : State) (p : Packet) (ty status : Nat) (data : List Byte) : (s.answer p ty status data).hostB = s.hostB := by simp [State.answer]
@[simp] theorem State.answer_sec (s : State) (p : Packet) (ty status : Nat) (data : List Byte) : (s.answer p ty status data).sec = s.sec := by simp [State.answer]
@[simp] theorem State.answer_faults (s : State) (p : Packet) (ty status : Nat) (data : List Byte) : (s.answer p ty status data).faults = s.faults := by simp [State.answer]
@[simp] theorem State.answer_muster (s : State) (p : Packet) (ty status : Nat) (data : List Byte) : (s.answer p ty status data).muster = s.muster := by simp [State.answer]
@[simp] theorem State.answer_boot (s : State) (p : Packet) (ty status : Nat) (data : List Byte) : (s.answer p ty status data).boot = s.boot := by simp [State.answer]
@[simp] theorem State.answer_out (s : State) (p : Packet) (ty status : Nat) (data : List Byte) : (s.answer p ty status data).out = s.out := by simp [State.answer]
@[simp] theorem State.answer_free (s : State) (p : Packet) (ty status : Nat) (data : List Byte) : (s.answer p ty status data).free = s.free := by simp [State.answer]

end Sys2Proof.Machine
end

