-- ==== Sys2Proof/Laws/Memory.lean ====
section
/-! SUPPORT. Laws/Memory.lean: reading after writing, and that every memory operation keeps the canonical form. -/

namespace Sys2Proof.Machine

@[simp] theorem readByte_writeByte_self (m : List Host.Cell) (a : Nat) (b : Byte) : readByte (writeByte m a b) a = b :=
  Sparse.getD_set_self ..

theorem readByte_writeByte_ne (m : List Host.Cell) {a q : Nat} (b : Byte) (h : q ≠ a) :
    readByte (writeByte m a b) q = readByte m q := Sparse.getD_set_ne _ _ _ _ h

/-- Bytes outside the written ones are unchanged. -/
theorem readByte_writeBytes_outside (bs : List Byte) (m : List Host.Cell) {a q : Nat} (h : q < a ∨ a + bs.length ≤ q) :
    readByte (writeBytes m a bs) q = readByte m q := by
  induction bs generalizing m a with
  | nil => rfl
  | cons b bs ih =>
    simp only [List.length_cons] at h
    simp only [writeBytes]
    rw [ih _ (by omega), readByte_writeByte_ne _ _ (by omega)]

/-- Every written byte reads back. -/
theorem readByte_writeBytes_inside (bs : List Byte) (m : List Host.Cell) (a i : Nat) (h : i < bs.length) :
    readByte (writeBytes m a bs) (a + i) = bs.getD i 0 := by
  induction bs generalizing m a i with
  | nil => simp at h
  | cons b bs ih =>
    simp only [writeBytes]
    cases i with
    | zero =>
      rw [readByte_writeBytes_outside _ _ (by omega)]
      simp
    | succ i =>
      rw [show a + (i + 1) = a + 1 + i by omega, ih _ _ _ (by simpa using h)]
      simp

theorem Memory.wf_writeByte {m : List Host.Cell} (a : Nat) (b : Byte) (h : Memory.wf m = true) :
    Memory.wf (writeByte m a b) = true := Sparse.wf_set a b h

theorem Memory.wf_writeBytes (bs : List Byte) {m : List Host.Cell} (a : Nat) (h : Memory.wf m = true) :
    Memory.wf (writeBytes m a bs) = true := by
  induction bs generalizing m a with
  | nil => exact h
  | cons b bs ih => exact ih (a + 1) (Memory.wf_writeByte a b h)

theorem Memory.wf_zeroBytes {m : List Host.Cell} (a n : Nat) (h : Memory.wf m = true) :
    Memory.wf (zeroBytes m a n) = true := Sparse.wf_clearRange a n h

/-- A fold of byte writes keeps the form. -/
theorem Memory.wf_foldl {α : Type} (f : List Host.Cell → α → List Host.Cell) (l : List α) {m : List Host.Cell}
    (hf : ∀ m x, Memory.wf m = true → Memory.wf (f m x) = true) (h : Memory.wf m = true) :
    Memory.wf (l.foldl f m) = true := by
  induction l generalizing m with
  | nil => exact h
  | cons x l ih => exact ih (hf m x h)

theorem Memory.wf_storeWrite {s : State} (t off : Nat) (bs : List Byte) (h : Memory.wf s.mem.store = true) :
    Memory.wf (s.storeWrite t off bs).mem.store = true :=
  Memory.wf_foldl _ _ (fun _ e h => Memory.wf_writeByte _ e.1 h) h

theorem Memory.wf_storePatch {s : State} (t : Nat) (l : List (Nat × Byte)) (h : Memory.wf s.mem.store = true) :
    Memory.wf (s.storePatch t l).mem.store = true :=
  Memory.wf_foldl _ _ (fun _ e h => Memory.wf_writeByte _ e.2 h) h

/-- A fold of writes to one tile's store leaves every byte outside that store alone. -/
theorem readByte_foldl_store {α : Type} (t : Nat) (off : α → Nat) (b : α → Byte) (l : List α) (m : List Host.Cell) {q : Nat}
    (h : q < storeKey t 0 ∨ storeKey t (2 ^ 20) ≤ q) :
    readByte (l.foldl (fun m e => writeByte m (storeKey t (off e % 2 ^ 20)) (b e)) m) q = readByte m q := by
  induction l generalizing m with
  | nil => rfl
  | cons x l ih =>
    have hx := Nat.mod_lt (off x) (show 0 < 2 ^ 20 by decide)
    rw [List.foldl_cons, ih, readByte_writeByte_ne]
    simp only [storeKey] at h ⊢
    omega

/-- A write to a tile's store leaves every byte outside that store alone. -/
theorem readByte_storeWrite_outside (s : State) (t off : Nat) (bs : List Byte) {q : Nat}
    (h : q < storeKey t 0 ∨ storeKey t (2 ^ 20) ≤ q) :
    readByte (s.storeWrite t off bs).mem.store q = readByte s.mem.store q :=
  readByte_foldl_store t (fun e : Byte × Nat => off + e.2) (fun e => e.1) _ _ h

/-- A patch of a tile's store leaves every byte outside that store alone. -/
theorem readByte_storePatch_outside (s : State) (t : Nat) (l : List (Nat × Byte)) {q : Nat}
    (h : q < storeKey t 0 ∨ storeKey t (2 ^ 20) ≤ q) :
    readByte (s.storePatch t l).mem.store q = readByte s.mem.store q :=
  readByte_foldl_store t (fun e : Nat × Byte => e.1) (fun e => e.2) _ _ h

theorem Memory.wf_hbmWrite {s : State} (k off : Nat) (bs : List Byte) (h : Memory.wf s.mem.hbm = true) :
    Memory.wf (s.hbmWrite k off bs).mem.hbm = true := Memory.wf_writeBytes bs _ h

/-- What holds before a run of actions and is kept by each of them holds after it. -/
theorem State.each_keeps {α : Type} (P : State → Prop) (f : State → α → State) (l : List α) {s : State}
    (hf : ∀ s x, P s → P (f s x)) (h : P s) : P (s.each l f) := by
  unfold State.each
  induction l generalizing s with
  | nil => exact h
  | cons x l ih => exact ih (hf s x h)

/-- What every action leaves alone, a run of them leaves alone. -/
theorem State.each_frame {α β : Type} (g : State → β) (f : State → α → State) (l : List α) (s : State)
    (hf : ∀ s x, g (f s x) = g s) : g (s.each l f) = g s :=
  State.each_keeps (fun t => g t = g s) f l (fun t x h => (hf t x).trans h) rfl

end Sys2Proof.Machine
end

