-- ==== Sys2Proof/Laws/Requests.lean ====
section
/-! SUPPORT. Laws/Requests.lean: a request's header and data survive the window (R464, R477). -/

namespace Sys2Proof.Machine

/-- The fields of a header fit their bytes. -/
def Req.fits (r : Req) : Bool :=
  decide (r.op < 2 ^ 8 ∧ r.flags < 2 ^ 8 ∧ r.index < 2 ^ 16 ∧ r.sub < 2 ^ 8 ∧ r.ty < 2 ^ 8 ∧ r.tag < 2 ^ 16 ∧ r.offset < 2 ^ 32 ∧
    r.length < 2 ^ 32 ∧ r.epoch < 2 ^ 64 ∧ r.reserved < 2 ^ 64)

/-- Every field of a header that fits reads back from its bytes. -/
theorem Req.header_get (r : Req) (h : r.fits = true) :
    r.header.get 0 1 = r.op ∧ r.header.get 1 1 = r.flags ∧ r.header.get 2 2 = r.index ∧ r.header.get 4 1 = r.sub ∧
      r.header.get 5 1 = r.ty ∧ r.header.get 6 2 = r.tag ∧ r.header.get 8 4 = r.offset ∧ r.header.get 12 4 = r.length ∧
      r.header.get 16 8 = r.epoch ∧ r.header.get 24 8 = r.reserved := by
  simp only [Req.fits, decide_eq_true_eq] at h
  simp only [Req.header, Blob.record, packFields, Blob.get, Nat.shiftLeft_eq, Nat.shiftRight_eq_div_pow]
  norm_num at h ⊢
  omega

/-- Data laid at the start of an area reads back. -/
theorem Blob.get_put_start (d : Blob) (n x : Nat) (h : x < 2 ^ (8 * n)) : (d.put 0 n x).get 0 n = x := by
  simp only [Blob.put, Blob.get, Nat.mul_zero, Nat.shiftRight_zero, Nat.shiftLeft_zero]
  rw [Nat.mod_eq_of_lt h]
  have := Nat.mod_add_div d.val (2 ^ (8 * n))
  have e : d.val - d.val % 2 ^ (8 * n) + x = x + 2 ^ (8 * n) * (d.val / 2 ^ (8 * n)) := by omega
  rw [e, Nat.add_mul_mod_self_left, Nat.mod_eq_of_lt h]

theorem State.window_setWindow (s : State) (p : Path) (w : Window) : (s.setWindow p w).window p = w := by
  unfold State.window State.setWindow
  simp only
  have : ((s.dict.windows.filter fun e => e.1 != p) ++ [(p, w)]).find? (fun e => e.1 == p) = some (p, w) := by
    rw [List.find?_append]
    rw [List.find?_eq_none.mpr]
    · simp
    · intro e he
      simp at he
      simp [he.2]
  rw [this]

theorem State.setWindow_setWindow (s : State) (p : Path) (w v : Window) : (s.setWindow p w).setWindow p v = s.setWindow p v := by
  unfold State.setWindow
  simp [List.filter_append, List.filter_filter]

theorem carried_filled (op n : Nat) (b old : Blob) (sz : Nat) :
    carried op n ⟨sz, (old.put 0 (carried op n b).size (carried op n b).val).val⟩ = carried op n b := by
  by_cases hop : (op = 2 || op = 3) = true
  · have e : carried op n b = ⟨n, b.get 0 n⟩ := by unfold carried; rw [if_pos hop]
    rw [e]
    have := Blob.get_put_start old n (b.get 0 n) (by unfold Blob.get; exact Nat.mod_lt _ (by positivity))
    unfold carried
    rw [if_pos hop]
    simp only [Blob.get] at this ⊢
    rw [this]
  · unfold carried; rw [if_neg hop, if_neg hop]

theorem windowReq_filled (a : Access) (op g : Nat) (old : Blob) (sz : Nat) (h : (accessReq a op g).fits = true) :
    windowReq a.path g (accessReq a op g).header
      ⟨sz, (old.put 0 (carried op a.length a.data).size (carried op a.length a.data).val).val⟩ = accessReq a op g := by
  obtain ⟨h0, h1, h2, h3, h4, h5, h6, h7, h8, h9⟩ := Req.header_get _ h
  unfold windowReq
  rw [h0, h1, h2, h3, h4, h5, h6, h7, h8, h9]
  simp only [accessReq, carried_filled]

theorem State.request_heard (s : State) (a : Access) (op : Nat) (x : Extra) (h : s.hears a = true)
    (hf : (accessReq a op (reqGen a)).fits = true) :
    s.request_ op a x =
      match (s.filled a op).serve (accessReq a op (reqGen a)) x with
      | (some y, t) => t.answerWindow a.path (reqGen a) ((accessReq a op (reqGen a)).response s.stamp y)
      | (none, t) => t := by
  simp only [State.hears, Bool.and_eq_true, beq_iff_eq, bne_iff_ne, decide_eq_true_eq, ne_eq] at h
  obtain ⟨⟨⟨⟨⟨⟨⟨⟨hv, hp⟩, hr⟩, hi⟩, hg⟩, hn⟩, hpl⟩, he⟩, has⟩ := h
  unfold State.request_
  simp only [hr, Bool.not_true, Bool.false_eq_true, if_false]
  rw [hv]
  have hside : ∀ n, a.path ≠ .sideband n := by
    intro n hq; rw [hq] at hp; simp [hostPath] at hp
  split
  · rename_i heq; exact absurd heq (hside _)
  · rename_i g size aligned hvia hns
    simp only [Via.window.injEq] at hvia
    obtain ⟨rfl, rfl, rfl⟩ := hvia
    unfold State.writeReqGen
    simp only [ne_eq, not_true_eq_false, decide_false, Bool.not_true, Bool.or_self, Bool.false_eq_true, if_false, Nat.mod_eq_of_lt hg]
    unfold State.submit State.fillWindow
    simp only [State.window_setWindow, hi, Option.isSome_none, Bool.false_eq_true, if_false, hn, State.setWindow_setWindow]
    rw [windowReq_filled a op _ _ _ hf]
    rfl
  all_goals simp_all
theorem hears_writingTo (s : State) (a : Access) (i sub : Nat) (b : Blob) : s.hears (writingTo a i sub b) = s.hears a := rfl

theorem carried_self (b : Blob) (h : b.val < 2 ^ (8 * b.size)) : carried 2 b.size b = b := by
  unfold carried Blob.get
  simp [Nat.mod_eq_of_lt h]

/-- The object that the estate's classes see at an address that the table lists. -/
def refOf (acc : Acc) (i sub : Nat) (d : ObjDesc) : ObjRef := ⟨i, sub, d.ty.code, d.rights acc, d.maxSize, some d, none⟩

theorem State.target_estate (s : State) (acc : Acc) (i sub : Nat) (d : ObjDesc) (ht : ∀ c, acc ≠ .tenant c)
    (hd : objAt i sub = some d) : s.target acc i sub = (stOk, some (refOf acc i sub d)) := by
  unfold State.target
  split
  · exact absurd rfl (ht _)
  · simp [hd, refOf]

/-- A heard write of a whole value to an object of the estate's classes is checked and acts, and its answer is in the
window. -/
theorem State.commandWrite_heard (s : State) (a : Access) (i sub : Nat) (b : Blob) (x : Extra) (acc : Acc) (d : ObjDesc)
    (h : s.hears a = true) (hi : i < 2 ^ 16) (hsub : sub < 2 ^ 8) (hb : b.size ≤ 65536) (hv : b.val < 2 ^ (8 * b.size))
    (hc : s.classOf a.path = some acc) (ht : ∀ c, acc ≠ .tenant c) (hd : objAt i sub = some d)
    (hw : bit (d.rights acc) 1 = true) :
    ∃ u size, u = s.filled (writingTo a i sub b) 2 ∧
      s.commandWrite a i sub b x =
        (let q := u.writeValue acc 2 true (refOf acc i sub d) b x
         if q.2.1 then q.2.2.beginJob (.erase a.path (reqGen a)
            ((accessReq (writingTo a i sub b) 2 (reqGen a)).response u.stamp ⟨stOk, d.ty.code, ⟨0, 0⟩, size⟩) (b.get 0 1))
         else q.2.2.answerWindow a.path (reqGen a)
            ((accessReq (writingTo a i sub b) 2 (reqGen a)).response s.stamp ⟨q.1, d.ty.code, ⟨0, 0⟩, size⟩)) := by
  have h' := h
  simp only [State.hears, plainHeader, Bool.and_eq_true, beq_iff_eq, bne_iff_ne, decide_eq_true_eq, ne_eq] at h'
  obtain ⟨⟨⟨⟨⟨⟨⟨⟨hvia, hp⟩, hr⟩, hin⟩, hg⟩, hn⟩, ⟨⟨⟨⟨⟨hf, hty⟩, hoff⟩, hep⟩, hres⟩, htag⟩⟩, he⟩, has⟩ := h'
  refine ⟨_, ((s.filled (writingTo a i sub b) 2).targetValue acc (refOf acc i sub d)).1.size, rfl, ?_⟩
  have hframed : framed a = true := by unfold framed; rw [hvia]
  unfold State.commandWrite
  rw [if_pos hframed, State.request_heard s (writingTo a i sub b) 2 x h]
  · have hlim : pathLimit a.path = 65536 := by
      cases hq : a.path <;> simp_all [pathLimit, hostPath]
    generalize hu : s.filled (writingTo a i sub b) 2 = u
    have e1 : (accessReq (writingTo a i sub b) 2 (reqGen a)).malformed = false := by
      simp [Req.malformed, accessReq, writingTo, hf, hres, hlim, Req.named, bit, hep]
      omega
    have e2 : u.serves (accessReq (writingTo a i sub b) 2 (reqGen a)) = true := by
      subst hu; unfold State.serves
      have : (s.filled (writingTo a i sub b) 2).faults = s.faults := rfl
      rw [this]; simp [he]
    have e3 : u.classOf a.path = some acc := by subst hu; exact hc
    have e4 : u.asmOf a.path = none := by
      subst hu
      have : (s.filled (writingTo a i sub b) 2).asmOf a.path = s.asmOf a.path := rfl
      rw [this]; simpa using has
    have e5 : u.settleAsm (accessReq (writingTo a i sub b) 2 (reqGen a)) = u := by
      unfold State.settleAsm
      have : (accessReq (writingTo a i sub b) 2 (reqGen a)).path = a.path := rfl
      rw [this, e4]
    have e6 : u.assemble (accessReq (writingTo a i sub b) 2 (reqGen a)) = (.whole b, u) := by
      unfold State.assemble
      have h1 : (accessReq (writingTo a i sub b) 2 (reqGen a)).path = a.path := rfl
      have h2 : (accessReq (writingTo a i sub b) 2 (reqGen a)).offset = 0 := hoff
      have h3 : (accessReq (writingTo a i sub b) 2 (reqGen a)).more = false := by
        simp [Req.more, accessReq, writingTo, hf, bit]
      have h4 : (accessReq (writingTo a i sub b) 2 (reqGen a)).data = b := carried_self b hv
      rw [h1, e4]
      simp [h2, h3, h4]
    have e7 : (accessReq (writingTo a i sub b) 2 (reqGen a)).whole = false := by
      simp [Req.whole, accessReq]
    have e8 := State.target_estate u acc i sub d ht hd
    have hserve : u.serve (accessReq (writingTo a i sub b) 2 (reqGen a)) x =
        u.serveObject acc (accessReq (writingTo a i sub b) 2 (reqGen a)) (refOf acc i sub d) x := by
      unfold State.serve
      simp only [e1, e2, Bool.not_true, Bool.false_eq_true, if_false]
      rw [show (accessReq (writingTo a i sub b) 2 (reqGen a)).path = a.path from rfl, e3]
      simp only [e5, e7, Bool.false_eq_true, if_false]
      rw [show (accessReq (writingTo a i sub b) 2 (reqGen a)).index = i from rfl,
        show (accessReq (writingTo a i sub b) 2 (reqGen a)).sub = sub from rfl, e8]
    rw [show reqGen (writingTo a i sub b) = reqGen a from rfl, hserve]
    unfold State.serveObject
    have o1 : (accessReq (writingTo a i sub b) 2 (reqGen a)).op = 2 := rfl
    have o2 : (refOf acc i sub d).rights = d.rights acc := rfl
    have o3 : (accessReq (writingTo a i sub b) 2 (reqGen a)).ty = 255 := hty
    have o4 : (accessReq (writingTo a i sub b) 2 (reqGen a)).more = false := by
        simp [Req.more, accessReq, writingTo, hf, bit]
    simp only [o1, o2, hw, o3, o4, Bool.not_true, Bool.false_eq_true, if_false, e6, beq_self_eq_true, Bool.true_or, Bool.false_and]
    by_cases hq : (u.writeValue acc 2 true (refOf acc i sub d) b x).2.1 = true
    · simp only [hq, if_true, Req.response, accessReq, writingTo]; rfl
    · simp only [hq, if_false, Bool.false_eq_true, Req.response, accessReq, writingTo]; rfl
  · simp only [Req.fits, accessReq, writingTo, hf, hty, hoff, hep, hres, decide_eq_true_eq]
    omega
end Sys2Proof.Machine
end

