-- ==== Sys2Proof/WellFormed.lean ====
section
/-! DEFINITION. WellFormed.lean: the operands that a sender or a unit of the machine can spell: every field inside the width
and the range that its layout gives. Every command has its meaning on operands outside them too; these are the bounds that a
reader of a log checks. -/

namespace Sys2Proof

/-- A request's path: a VF is 1–127 (R245, R505). -/
def Path.ok : Path → Bool
  | .pf _ => true
  | .vf _ n => decide (1 ≤ n ∧ n ≤ 127)
  | .sideband _ => true

/-- Bytes as a number that fits them. -/
def Blob.ok (b : Blob) : Bool := decide (b.val < 2 ^ (8 * b.size))

/-- The fields of a request header fit their widths (R464), and the data is what it says. -/
def Access.ok (a : Access) : Bool :=
  a.path.ok && a.data.ok && decide (a.flags < 2 ^ 8 ∧ a.index < 2 ^ 16 ∧ a.sub < 2 ^ 8 ∧ a.ty < 2 ^ 8 ∧ a.tag < 2 ^ 16) &&
    decide (a.offset < 2 ^ 32 ∧ a.length < 2 ^ 32 ∧ a.epoch < 2 ^ 64 ∧ a.reserved < 2 ^ 64)

/-- The fields of a command record fit their widths (R245). -/
def CmdRec.ok (k : CmdRec) : Bool :=
  decide (k.epoch < 2 ^ 40 ∧ k.slot < 2 ^ 12 ∧ k.reserved < 2 ^ 3 ∧ k.arg < 2 ^ 64)

/-- A write of a register: a size PCI Express can write, a value of that size, a function that exists (R245, R506). -/
def BarWrite.ok (w : BarWrite) : Bool :=
  decide (1 ≤ w.vf ∧ w.vf ≤ 127) && [1, 2, 4, 8].contains w.size && decide (w.value < 2 ^ (8 * w.size))

/-- A packet's fields fit the header flit, and its payload has BYTES (R146, R147). -/
def Packet.ok (p : Packet) : Bool :=
  decide (p.ty < 2 ^ 4 ∧ p.vc < 2 ^ 2 ∧ p.label < 2 ^ 4 ∧ p.flits < 2 ^ 4 ∧ p.bytes < 2 ^ 9 ∧ p.offset < 2 ^ 5) &&
    decide (p.cuvee < 2 ^ 8 ∧ p.src < 2 ^ 14 ∧ p.dst < 2 ^ 14 ∧ p.mgroup < 2 ^ 10 ∧ p.tag < 2 ^ 8 ∧ p.try_ < 2 ^ 4) &&
    decide (p.stamp < 2 ^ 16 ∧ p.addr < 2 ^ 48 ∧ p.ncomb < 2 ^ 8 ∧ p.status < 2 ^ 8) &&
    (p.data.isEmpty || p.data.length == p.bytes)

/-- A flit's header fields fit their widths, and it carries at most 240 B (R313, R315). -/
def Flit.ok (f : Flit) : Bool :=
  decide (f.kind < 2 ^ 2 ∧ f.kph < 2 ∧ f.seq < 2 ^ 10 ∧ f.ack < 2 ^ 10 ∧ f.slot < 2 ^ 4 ∧ f.xtag < 2 ^ 12 ∧ f.offset < 2 ^ 14) &&
    decide (f.bytes ≤ 240 ∧ f.data.length ≤ 240 ∧ f.frame < 2 ^ 32 ∧ f.msgs.length + f.malformedMsgs ≤ 14)

/-- REQUEST (R321). -/
def LinkRequest.ok (m : LinkRequest) : Bool :=
  decide (m.vc < 4 ∧ m.op < 8 ∧ m.hops < 4 ∧ m.xtag < 2 ^ 11 ∧ m.src < 2 ^ 12 ∧ m.dst < 2 ^ 12) &&
    decide (m.group < 2 ^ 12 ∧ m.window < 2 ^ 12 ∧ m.offset < 2 ^ 40 ∧ 1 ≤ m.length ∧ m.length ≤ 65536)

/-- DONE (R322). -/
def LinkDone.ok (m : LinkDone) : Bool :=
  decide (m.status < 8 ∧ m.hops < 4 ∧ m.xtag < 2 ^ 11 ∧ m.src < 2 ^ 12 ∧ m.dst < 2 ^ 12 ∧ m.group < 2 ^ 12 ∧ m.length ≤ 65536)

/-- TIME (R323). -/
def TimeMsg.ok (m : TimeMsg) : Bool := decide (m.e < 2 ^ 40 ∧ m.phase < 2 ^ 32 ∧ m.echo < 2 ^ 24 ∧ m.hold < 2 ^ 24)

/-- BARRIER (R323). -/
def GroupBarMsg.ok (m : GroupBarMsg) : Bool :=
  decide (m.gen < 2 ∧ m.hops < 4 ∧ m.src < 2 ^ 12 ∧ m.dst < 2 ^ 12 ∧ m.group < 2 ^ 12 ∧ m.gbar < 2 ^ 12)

/-- HOLIDAY_MARK (R323). -/
def MarkMsg.ok (m : MarkMsg) : Bool := decide (m.scope < 4 ∧ m.src < 2 ^ 12 ∧ m.group < 2 ^ 12 ∧ m.cut < 2 ^ 64)

/-- SQUASH (R323). -/
def SquashMsg.ok (m : SquashMsg) : Bool := decide (m.reason < 4 ∧ m.hops < 4 ∧ m.src < 2 ^ 12 ∧ m.dst < 2 ^ 12 ∧ m.group < 2 ^ 12)

/-- FLARE (R323). -/
def FlareMsg.ok (m : FlareMsg) : Bool := decide (m.ttl < 16 ∧ m.origin < 2 ^ 12 ∧ m.group < 2 ^ 12 ∧ m.id < 2 ^ 32)

/-- KEY: a step of R329, a fragment index of 12 bits (R323). -/
def KeyMsg.ok (m : KeyMsg) : Bool := decide (m.step < 8 ∧ m.frag < 2 ^ 12 ∧ m.device < 2 ^ 12 ∧ m.port < 12)

/-- CASK (R339). -/
def CaskMsg.ok (m : CaskMsg) : Bool :=
  decide (m.sub < 16 ∧ m.hops < 4 ∧ m.code < 16 ∧ m.src < 2 ^ 12 ∧ m.dst < 2 ^ 12 ∧ m.group < 2 ^ 12 ∧ m.window < 2 ^ 12) &&
    decide (m.offerer < 2 ^ 16 ∧ m.receiver < 2 ^ 16 ∧ m.vintage < 2 ^ 32 ∧ m.xtag < 2 ^ 11 ∧ m.uid < 2 ^ 64 ∧ m.tokens < 2 ^ 32)

/-- The name of an IDE key (R384): the link stream or one of four selective ones, a sub-stream, a key set. -/
def IdeKey.ok (k : IdeKey) : Bool := decide (k.stream ≤ 4 ∧ k.subStream < 3 ∧ k.keySet < 2)

/-- What a command names or carries, as far as a layout or a range bounds it. -/
inductive Operand where
  | access (a : Access) | record (k : CmdRec) | blob (b : Blob) | barWrite (w : BarWrite) | vf (n : Nat) | ideKey (k : IdeKey)
  | cuvee (c : Nat) | scope (sc : Scope) | tile (t : Nat) | pc (k : Nat) | parcel (p : Nat) | cluster (d : Nat)
  | packet (p : Packet) | barrier (b gen : Nat) | flag (n : Nat)
  | port (k : Nat) | flit (f : Flit) | request (m : LinkRequest) | done (m : LinkDone) | time (m : TimeMsg)
  | groupBar (m : GroupBarMsg) | mark (m : MarkMsg) | squash (m : SquashMsg) | flare (m : FlareMsg) | key (m : KeyMsg)
  | cask (m : CaskMsg) | engine (e : Engine) | flashSlot (n : Nat)
deriving DecidableEq, Repr

/-- The bounds: cuvees 1–254 (R237), tiles, pseudo-channels and parcels of R27–R29, 144 cluster domains (R30, R364), 4,096
barriers of two generations (R175, R176), 128 flags (R104), twelve link ports (R307), two firmware slots (R380).
DESIGN CHOICE (log 11). -/
def Operand.ok : Operand → Bool
  | .access a => a.ok
  | .record k => k.ok
  | .blob b => b.ok
  | .barWrite w => w.ok
  | .vf n => decide (1 ≤ n ∧ n ≤ 127)
  | .ideKey k => k.ok
  | .cuvee c => decide (1 ≤ c ∧ c ≤ 254)
  | .scope (.cuvee c) => decide (1 ≤ c ∧ c ≤ 254)
  | .scope .estate => true
  | .scope (.group g) => decide (1 ≤ g ∧ g < 2 ^ 12)
  | .tile t => decide (t < 2048)
  | .pc k => decide (k < 512)
  | .parcel p => decide (p < 16)
  | .cluster d => decide (d < 144)
  | .packet p => p.ok
  | .barrier b gen => decide (b < 4096 ∧ gen < 2)
  | .flag n => decide (n < 128)
  | .port k => decide (k < 12)
  | .flit f => f.ok
  | .request m => m.ok
  | .done m => m.ok
  | .time m => m.ok
  | .groupBar m => m.ok
  | .mark m => m.ok
  | .squash m => m.ok
  | .flare m => m.ok
  | .key m => m.ok
  | .cask m => m.ok
  | .engine e => decide (e.kind ≤ 6)
  | .flashSlot n => decide (n < 2)

/-- The operands of a command that a layout or a range bounds. -/
def Instr.operands : Instr → List Operand
  | .read a => [.access a]
  | .write a => [.access a]
  | .stage a => [.access a]
  | .commit a => [.access a]
  | .abort a => [.access a]
  | .enumerate a => [.access a]
  | .store a => [.access a]
  | .restoreDefaults a => [.access a]
  | .neighborSolicitation _ => []
  | .cadenceResume a => [.access a]
  | .cadenceFreeRun a => [.access a]
  | .adoptEpoch a => [.access a]
  | .create a c k => [.access a, .cuvee c, .record k]
  | .bind a c k => [.access a, .cuvee c, .record k]
  | .unbind a c k => [.access a, .cuvee c, .record k]
  | .start a c k => [.access a, .cuvee c, .record k]
  | .pause a c k => [.access a, .cuvee c, .record k]
  | .resume a c k => [.access a, .cuvee c, .record k]
  | .freeze a c k => [.access a, .cuvee c, .record k]
  | .thaw a c k => [.access a, .cuvee c, .record k]
  | .save a c k => [.access a, .cuvee c, .record k]
  | .restore a c k => [.access a, .cuvee c, .record k]
  | .reset a c k => [.access a, .cuvee c, .record k]
  | .release a c k => [.access a, .cuvee c, .record k]
  | .rebind a c k => [.access a, .cuvee c, .record k]
  | .cancel a c k => [.access a, .cuvee c, .record k]
  | .retrain a port => [.access a, .port port]
  | .rekey a port => [.access a, .port port]
  | .portReset a port => [.access a, .port port]
  | .take a => [.access a]
  | .yield a => [.access a]
  | .assignA a => [.access a]
  | .assignB a => [.access a]
  | .stewardHeartbeat a _ => [.access a]
  | .flareCommand a _ => [.access a]
  | .assign a c _ => [.access a, .cuvee c]
  | .discard a c _ => [.access a, .cuvee c]
  | .arm a _ => [.access a]
  | .trigger a _ => [.access a]
  | .stop a _ => [.access a]
  | .parcel a p => [.access a, .parcel p]
  | .estateWarm a _ => [.access a]
  | .openSession a _ _ => [.access a]
  | .sessionAccept a blob _ => [.access a, .blob blob]
  | .complete a blob _ => [.access a, .blob blob]
  | .close a _ => [.access a]
  | .firmwareCommit a => [.access a]
  | .flashProgram a slot _ image => [.access a, .flashSlot slot, .blob image]
  | .doorbell w => [.barWrite w]
  | .head w => [.barWrite w]
  | .checkStart w => [.barWrite w]
  | .feedB w => [.barWrite w]
  | .feedH w => [.barWrite w]
  | .feedW w => [.barWrite w]
  | .configurationRequest _ _ _ _ => []
  | .flrPf _ => []
  | .flrVf _ vf => [.vf vf]
  | .perstN _ _ => []
  | .hotReset _ => []
  | .linkDown _ => []
  | .spdmRequest _ _ => []
  | .endSession _ _ => []
  | .query _ _ => []
  | .keyProg _ _ k _ => [.ideKey k]
  | .kSetGo _ _ k => [.ideKey k]
  | .kSetStop _ _ k => [.ideKey k]
  | .getTdispVersion _ vf => [.vf vf]
  | .getTdispCapabilities _ vf => [.vf vf]
  | .lockInterface _ vf _ => [.vf vf]
  | .getDeviceInterfaceReport _ vf => [.vf vf]
  | .getDeviceInterfaceState _ vf => [.vf vf]
  | .startInterface _ vf => [.vf vf]
  | .stopInterface _ vf => [.vf vf]
  | .standbyStart _ => []
  | .standbyLost => []
  | .coldBoot _ _ => []
  | .pwrEnFall => []
  | .mainInputFault => []
  | .selfTestDone _ => []
  | .stackTrainingDone p _ => [.parcel p]
  | .memoryMuster => []
  | .estateReady => []
  | .cadenceEdge _ => []
  | .ptpMessage _ => []
  | .referenceTimeout _ => []
  | .missedBoundary => []
  | .epochBoundary => []
  | .slotFire => []
  | .deferLimit _ _ => []
  | .startStep => []
  | .loadPlane => []
  | .fetchSq _ => []
  | .writeCq => []
  | .harvest => []
  | .holiday => []
  | .reconcile => []
  | .nop => []
  | .correctionUpdate c => [.cuvee c]
  | .heldStartIssue c _ => [.cuvee c]
  | .deadlineMiss _ => []
  | .entryBoundary t => [.tile t]
  | .entryComplete t => [.tile t]
  | .planeLoadDone t => [.tile t]
  | .accumulatorSwap t => [.tile t]
  | .vectorTrigger t => [.tile t]
  | .transferIssue t => [.tile t]
  | .translationWalkDone _ _ => []
  | .trellisRead p _ _ => [.packet p.pkt]
  | .readData p _ => [.packet p]
  | .trellisWrite p _ => [.packet p]
  | .writeAddFp32 _ p => [.packet p.pkt]
  | .writeAddBf16 _ p => [.packet p.pkt]
  | .ack p => [.packet p.pkt]
  | .nack p => [.packet p.pkt]
  | .mcastWrite p => [.packet p.pkt]
  | .statePkt p => [.packet p.pkt]
  | .reductionHoldExpiry _ _ => []
  | .multicastResend t _ => [.tile t]
  | .barArrive _ b gen _ => [.barrier b gen]
  | .barRelease b gen => [.barrier b gen]
  | .flagSet c flag _ => [.cuvee c, .flag flag]
  | .repairWrite pc _ => [.pc pc]
  | .patrolScrub pc _ _ => [.pc pc]
  | .stackTemperatureRead p _ => [.parcel p]
  | .wayCleaningDone p _ => [.parcel p]
  | .precopyPassEnd c _ => [.cuvee c]
  | .quiesceStart sc => [.scope sc]
  | .cut sc => [.scope sc]
  | .quiesceLimit sc => [.scope sc]
  | .applyTick sc => [.scope sc]
  | .holidayComplete sc => [.scope sc]
  | .rebindMovesDone c => [.cuvee c]
  | .resetSquash c => [.cuvee c]
  | .hostReadAbandon c _ => [.cuvee c]
  | .resetComplete c => [.cuvee c]
  | .releaseComplete c => [.cuvee c]
  | .imageComplete c _ => [.cuvee c]
  | .restoreComplete c _ _ => [.cuvee c]
  | .clusterPowerUp cl => [.cluster cl]
  | .textSequence => []
  | .frame => []
  | .tensorJob => []
  | .controlCancel => []
  | .loadModel _ => []
  | .unloadModel => []
  | .place => []
  | .prefetch _ => []
  | .advise => []
  | .bottleLoadDone c _ _ => [.cuvee c]
  | .stepComplete c _ _ _ => [.cuvee c]
  | .stavesExhausted c _ => [.cuvee c]
  | .pageClose c => [.cuvee c]
  | .outputCopyDone c => [.cuvee c]
  | .switchDone c _ => [.cuvee c]
  | .preemptedResume c _ => [.cuvee c]
  | .caskOffer => []
  | .caskFetch => []
  | .caskFree => []
  | .portEnable a k _ => [.access a, .port k]
  | .signalLoss k => [.port k]
  | .trainingDone k _ => [.port k]
  | .laneFailure k _ => [.port k]
  | .flitReceive k f => [.port k, .flit f]
  | .key k m => [.port k, .key m]
  | .rekeyDue k => [.port k]
  | .request k m => [.port k, .request m]
  | .done k m => [.port k, .done m]
  | .time k m _ => [.port k, .time m]
  | .timeSend k => [.port k]
  | .barrier k m => [.port k, .groupBar m]
  | .linkHolidayMark k m => [.port k, .mark m]
  | .squash k m => [.port k, .squash m]
  | .flare k m => [.port k, .flare m]
  | .offer k m => [.port k, .cask m]
  | .accept k m => [.port k, .cask m]
  | .decline k m => [.port k, .cask m]
  | .caskRelease k m => [.port k, .cask m]
  | .caskQuery k m => [.port k, .cask m]
  | .answer k m => [.port k, .cask m]
  | .fetch k m => [.port k, .cask m]
  | .transferClose k _ => [.port k]
  | .transferTimeout k _ => [.port k]
  | .offerTimeout c _ => [.cuvee c]
  | .acceptTimer c _ => [.cuvee c]
  | .fetchTimeout c _ => [.cuvee c]
  | .powerSample _ _ _ => []
  | .dieSensorRead _ => []
  | .clockStep => []
  | .phiStep t _ _ => [.tile t]
  | .observationWindowEnd => []
  | .harvestRecordWrite => []
  | .meterRecordWrite => []
  | .sessionExpiry _ => []
  | .hangDeadline _ => []
  | .hangStall t => [.tile t]
  | .hangWatchdog c => [.cuvee c]
  | .sharedEngineFault e => [.engine e]
  | .replayDone e _ => [.engine e]
  | .replayLimit e => [.engine e]
  | .estateFatal _ => []
  | .parcelResetDone p _ _ => [.parcel p]
  | .signalDetect k => [.port k]
  | .pcieLinkUp _ => []
  | .mainInputInRange => []
  | .nextPageComplete c _ => [.cuvee c]
  | .poolReturn _ _ _ => []
  | .hostCompletion _ _ _ => []
  | .flashWriteDone _ => []
  | .plcaBeacon _ => []
  | .controlFlitSend k => [.port k]

/-- Every bounded operand of the command is inside its bounds. DESIGN CHOICE (log 11). -/
def Instr.wellFormed (i : Instr) : Bool := i.operands.all Operand.ok

end Sys2Proof
end

