-- ==== Sys2Proof/Tests/Slice0.lean ====
section
/-! SUPPORT. Tests/Slice0.lean: for every statement of Obligations.lean a state and operands that meet its hypotheses
(`wit_…`), what one step does on them (`test_…`, expected from the rules the statement cites), and terms that the
well-formedness checks refuse. -/

open Sys2Proof Sys2Proof.Machine
namespace Sys2Proof.Tests

-- One at a time: each check of a whole command takes a thread with a large stack.
set_option Elab.async false

/-! ## Small states -/

/-- In service: standby and main power, both hosts, port A up. -/
def up : State :=
  { State.reset with
    boot := { State.reset.boot with standby := true, pwrGood := true }
    muster := { State.reset.muster with hosts := 3 }
    hostA := { State.reset.hostA with linkUp := true }
    faults := { State.reset.faults with estateState := 0 } }

/-- A plain request by the steward's window, and by the side-band. -/
def ask (i sub n : Nat) (b : Blob) : Access := ⟨.pf .a, .window 1 4 true, 0, i, sub, 255, 5, 0, n, 0, 0, b⟩
def askA : Access := ask 0 0 0 ⟨0, 0⟩
def askB : Access := { askA with path := .pf .b }
def askSide : Access := { askA with path := .sideband 0, via := .wizor ⟨0x52573947, 1, 0, 0, 1, true, 0⟩ }

/-- A plain command record. -/
def rec0 : CmdRec := ⟨false, 0, 0, 0, 0⟩
/-- Cuvee 1 as given. -/
def withCv (s : State) (v : Cuvee) : State := s.updCuvee 1 fun _ => v
def cv (st : CvState) : Cuvee := { Cuvee.init with state := st }
/-- Cuvee 1 holds tile 0 and pseudo-channel 0, its cluster is ON, its shape has a ring pair and a page. -/
def shaped (v : Cuvee) : State :=
  let s := withCv up v
  let s := { s with muster := { s.muster with tileMap := s.muster.tileMap.insert 0 0 } }
  let s := s.setDomain 0 2
  (((s.setVal 0x3014 1 ⟨2, 0⟩).setVal 0x3015 1 ⟨2, 0⟩).setVal 0x3016 1 (Blob.scalar 8 (2 ^ 21 + 2 ^ 32 * 16))).setVal 0x301A 1
    ⟨16, 2 ^ 48 + 2 ^ 64⟩

/-- What an outcome's next state satisfies. -/
def nextHas (o : Host.Outcome State Fault Refusal) (f : State → Bool) : Bool :=
  match o with
  | .next t => f t
  | _ => false

/-! ## Witnesses: hypotheses that can be met -/

/-- The fourteen commands of a cuvee, each with a state of cuvee 1 that allows it. -/
def cuveeCases : List ((Access → Nat → CmdRec → Instr) × Nat × State × CmdRec) :=
  let on := { up with cad := { up.cad with state := .locked } }
  [(.create, 1, up, rec0), (.bind, 2, shaped (cv .defined), { rec0 with arg := 1 }), (.unbind, 3, withCv up (cv .bound), rec0),
   (.start, 4, withCv on (cv .bound), rec0), (.pause, 5, withCv up (cv .running), rec0),
   (.resume, 6, withCv on (cv .paused), rec0), (.freeze, 7, withCv up (cv .running), rec0),
   (.thaw, 8, withCv on (cv .frozen), rec0), (.save, 9, withCv up (cv .frozen), rec0),
   (.restore, 10, withCv up (cv .bound), rec0), (.reset, 11, withCv up (cv .bound), rec0),
   (.release, 12, withCv up (cv .bound), rec0), (.rebind, 13, shaped (cv .defined), rec0),
   (.cancel, 14, withCv up { cv .bound with rebindActive := true }, rec0)]

theorem wit_CuveeCommandsAreStaged : cuveeCases.all (fun x =>
    x.2.2.1.hears askA && askA.path == .pf x.2.2.1.dict.steward && x.2.2.1.recordStatus x.2.1 x.2.2.2 == 0 &&
      x.2.2.1.commandStatus .manager 1 x.2.1 x.2.2.2.arg == (0, false) && (x.2.2.1.cuvee 1).staged == none) = true := by
  decide +kernel
theorem test_CuveeCommandsAreStaged :
    (cuveeCases.map fun x => nextHas (exec (x.1 askA 1 x.2.2.2) x.2.2.1) fun t => t.answered askA 9 && (match (t.cuvee 1).staged with | some st => st.code == x.2.1 && st.cmd == x.2.2.2 && st.due == x.2.2.1.time.epochs+1 && st.by_ == .manager | none => false) && (t.cuvee 1).status.code == x.2.1 && (t.cuvee 1).status.phase == 1 && (t.cuvee 1).status.seq == 1).all id = true := by decide +kernel

def staged0 : Staged := ⟨0, 5, rec0, 1, .manager, 16, 0⟩
def busy : State := withCv up { cv .running with staged := some staged0 }
theorem wit_OneAtATime : busy.hears askA = true ∧ askA.path = .pf busy.dict.steward ∧ busy.recordStatus 5 rec0 = 0 ∧
    busy.legal 1 5 = true ∧ (busy.cuvee 1).staged = some staged0 := by decide +kernel
theorem test_OneAtATime :
    (nextHas (exec (.pause askA 1 rec0) busy) fun t => t.answered askA 8 && t.cuvees == busy.cuvees) = true := by decide +kernel

def freeRun : State := { up with cad := { up.cad with state := .freeRun, present := true } }
theorem wit_CadenceCommands : freeRun.hears askA = true ∧ askA.path = .pf freeRun.dict.steward ∧ freeRun.cadenceCommandOk 1 = true ∧
    up.cadenceCommandOk 2 = true ∧ up.cadenceCommandOk 3 = true ∧ up.hears askA = true ∧
    (up.dict.pend.filter fun p => !p.commit).length < 4096 := by decide +kernel
theorem test_CadenceCommands :
    ([(Instr.cadenceResume, 1, freeRun), (Instr.cadenceFreeRun, 2, up), (Instr.adoptEpoch, 3, up)].map fun x => nextHas (exec (x.1 askA) x.2.2) fun t => t.answered askA 9 && (match t.dict.pend with | [p] => p.cls == .manager && !p.commit && p.writes == [⟨0x2000, 9, Blob.scalar 1 x.2.1⟩] && p.due == x.2.2.nextDue | _ => false)).all id = true := by decide +kernel

/-- Port A is down and B is up, so the deputy may take the role. -/
def downA : State := { up with hostA := { up.hostA with linkUp := false }, hostB := { up.hostB with linkUp := true } }
def bothUp : State := { up with hostB := { up.hostB with linkUp := true } }
theorem wit_StewardRole : downA.hears askB = true ∧ askB.path = .pf (otherPort downA.dict.steward) ∧
    (downA.host downA.dict.steward).linkUp = false ∧ up.hears askA = true ∧ askA.path = .pf up.dict.steward ∧
    bit up.muster.hosts (portNo (otherPort up.dict.steward)) = true ∧ up.hearsSide askSide = true ∧ bit up.muster.hosts 0 = true ∧
    bit up.muster.hosts 1 = true ∧ bothUp.hears askB = true ∧ (bothUp.host bothUp.dict.steward).perst = false ∧
    (bothUp.host bothUp.dict.steward).linkUp = true ∧
    bothUp.num 0x1001 5 = 0 := by decide +kernel
theorem test_StewardRole :
    (nextHas (exec (.take askB) downA) fun t => t.answered askB 0 && t.dict.steward == .b) = true ∧
    (nextHas (exec (.yield askA) up) fun t => t.answered askA 0 && t.dict.steward == .b) = true ∧
    (nextHas (exec (.assignA askSide) up) fun t => t.answeredSide askSide 0 && t.dict.steward == .a) = true ∧
    (nextHas (exec (.assignB askSide) up) fun t => t.answeredSide askSide 0 && t.dict.steward == .b) = true ∧
    (nextHas (exec (.stewardHeartbeat askA 7) up) fun t => t.answered askA 0 && t.dict.steward == .a) = true ∧
    (nextHas (exec (.take askB) bothUp) fun t => t.answered askB 6 && t.dict.steward == .a) = true := by decide +kernel

def grouped : State := (withCv up (cv .running)).setVal 0x3018 1 (Blob.scalar 8 9)
def portAs (s : State) (k : Nat) (p : LinkPort) : State := s.updPort k fun _ => p
def portUp : LinkPort := { LinkPort.init with state := 3, signal := true }
def cask0 (st : Nat) : Cask := { (default : Cask) with state := st, uid := 77, vintage := 3, peer := 5, peerCask := 2, port := 0 }
def casked (st : Nat) : State :=
  withCv grouped { cv .running with serving := { (default : Serving) with casks := [(4, cask0 st)] } }
theorem wit_FlareAndLimbo : (portAs grouped 0 portUp).hears askA = true ∧ askA.path = .pf (portAs grouped 0 portUp).dict.steward ∧
    (portAs grouped 0 portUp).groupCuvee 9 = some 1 ∧ 0 ∈ (portAs grouped 0 portUp).upPorts ∧ (casked 5).hears askA = true ∧
    (casked 5).cask 1 4 = some (cask0 5) ∧ (cask0 5).state = 5 := by decide +kernel
theorem test_FlareAndLimbo :
    (nextHas (exec (.flareCommand askA 9) (portAs grouped 0 portUp)) fun t => t.answered askA 0 && (t.port 0).ctl.any fun m => match m with | .flare h => h.group == 9 && h.origin == 0 | _ => false) = true := by decide +kernel
theorem test_FlareAndLimbo2 :
    (nextHas (exec (.assign askA 1 4) (casked 5)) fun t => t.answered askA 0 && match t.cask 1 4 with | some y => y.state == 1 && y.vintage == 4 | none => false) = true ∧
    (nextHas (exec (.discard askA 1 4) (casked 5)) fun t => t.answered askA 0 && t.cask 1 4 == none) = true := by decide +kernel

def booked (st mode : Nat) : State :=
  (((withCv up (cv .running)).setVal 0x9001 2 (Blob.scalar 4 1)).setVal 0x9002 2 (Blob.scalar 4 (mode + 65536))).setBook 1
    { (default : Daybook) with state := st }
theorem wit_Daybook : (booked 3 3).hears askA = true ∧ ((booked 3 3).cuvee 1).state ≠ .none ∧ ((booked 3 3).book 1).state = 3 ∧
    (booked 3 3).bookMode 1 ≠ 0 ∧ (booked 1 3).hears askA = true ∧ ((booked 1 3).book 1).state = 1 ∧ (booked 1 3).bookMode 1 = 3 ∧
    bit ((booked 1 3).bookTriggers 1) 0 = true ∧ 1 < (booked 1 3).bookPositions 1 := by decide +kernel
theorem test_Daybook :
    (nextHas (exec (.arm askA 1) (booked 3 3)) fun t => t.answered askA 0 && (t.book 1).state == 1) = true ∧
    (nextHas (exec (.trigger askA 1) (booked 1 3)) fun t => t.answered askA 0 && ((t.book 1).state == 2 || (t.book 1).state == 3)) = true ∧
    (nextHas (exec (.stop askA 1) (booked 1 3)) fun t => t.answered askA 0 && (t.book 1).state == 3) = true := by decide +kernel

def boot0 : BootFindings := ⟨true, 0, 0, 0, false, true, true⟩
theorem wit_Resets : up.hears askA = true ∧ up.parcelHeld 2 = false ∧ (up.obs.estate.any fun k => pcParcel k == 2) = false ∧
    up.faults.resetPhase ≠ 1 := by decide +kernel
theorem test_Resets :
    (nextHas (exec (.parcel askA 2) (shaped (cv .running))) fun t => t.answered askA 0 && t.faults.resetOp == 1 && t.faults.resetPhase == 1 && t.faults.resetParcel == 2) = true ∧
    (nextHas (exec (.estateWarm askA boot0) (shaped (cv .running))) fun t => t.answered askA 0 && t.faults.resetOp == 2 && t.faults.resetPhase == 1 && t.faults.estateState == 3 && t.cuvees == [] && t.boot.findings == some boot0) = true := by decide +kernel

/-- It runs the image of slot 0. -/
def runs0 : State := { up with sec := { up.sec with booted := 0 } }
theorem wit_Firmware : runs0.hears askA = true ∧ runs0.sec.booted ≠ 255 ∧ 1 ≠ runs0.sec.booted ∧ runs0.flash.job = none ∧
    runs0.accepts .manager 0x1020 1 (Blob.record [(1, 1), (3, 0), (4, 0), (2, 5)]) default = true := by decide +kernel
theorem test_Firmware :
    (nextHas (exec (.firmwareCommit askA) runs0) fun t => t.answered askA 0 && t.flash.rollback.length == 4) = true := by decide +kernel
theorem test_Firmware2 :
    (nextHas (exec (.flashProgram askA 1 0 ⟨2,5⟩) runs0) fun t => t.flash.progSlot == 1 && t.flash.progState == 1 && t.flash.progBytes == 2 && t.flash.job.isSome && (t.window askA.path).respGen == 0) = true := by decide +kernel

def session (id st role : Nat) : Session := { (default : Session) with id := id, state := st, role := role }
def held (l : List Session) : State := { up with sec := { up.sec with sessions := l } }
theorem wit_Sessions : up.hears askA = true ∧ up.sec.find 5 = none ∧ up.sec.sessions.length < 16 ∧
    (held [session 5 1 1]).hears askA = true ∧ ((held [session 5 1 1]).sec.find 5).isSome = true ∧
    ((held [session 5 1 1]).sec.sessions.any fun e => e.id == 5 && e.state == 3) = false := by decide +kernel
theorem test_Sessions :
    (nextHas (exec (.openSession askA 9 5) up) fun t => t.answered askA 0 && (match t.sec.sessions with | [e] => e.id == 5 && e.state == 1 && e.role == 1 | _ => false)) = true ∧
    (nextHas (exec (.close askA 5) (held [session 5 1 1])) fun t => t.answered askA 0 && t.sec.sessions == []) = true ∧
    (nextHas (exec (.sessionExpiry 5) (held [session 5 1 1])) fun t => t.sec.sessions == []) = true := by decide +kernel
/-- Bytes below a field do not depend on it. -/
theorem get_below (sz a d k o n : Nat) (h : 8 * o + 8 * n ≤ k) :
    (Blob.mk sz (a + d * 2 ^ k)).get o n = (Blob.mk sz a).get o n := by
  obtain ⟨j, rfl⟩ := Nat.exists_eq_add_of_le h
  simp only [Blob.get, Nat.shiftRight_eq_div_pow]
  rw [show a + d * 2 ^ (8 * o + 8 * n + j) = a + 2 ^ (8 * o) * (2 ^ (8 * n) * (d * 2 ^ j)) by ring,
    Nat.add_mul_div_left _ _ (by positivity), Nat.add_mul_mod_self_left]
/-- Bytes above the value are 0. -/
theorem get_above (sz v k o n : Nat) (hv : v < 2 ^ k) (h : k ≤ 8 * o) : (Blob.mk sz v).get o n = 0 := by
  simp only [Blob.get, Nat.shiftRight_eq_div_pow]
  rw [Nat.div_eq_of_lt (lt_of_lt_of_le hv (Nat.pow_le_pow_right (by omega) h)), Nat.zero_mod]
/-- The topmost field reads back. -/
theorem get_top (sz a d o n k m : Nat) (hk : k = 8 * o) (hm : m = 8 * n) (ha : a < 2 ^ k) (hd : d < 2 ^ m) :
    (Blob.mk sz (a + d * 2 ^ k)).get o n = d := by
  subst hk hm
  simp only [Blob.get, Nat.shiftRight_eq_div_pow]
  rw [Nat.add_mul_div_right _ _ (by positivity), Nat.div_eq_of_lt ha, Nat.zero_add, Nat.mod_eq_of_lt hd]
theorem sessionRecord_eq (op : Nat) (b : Blob) (ho : op < 256) (h : b.val < 2 ^ (8 * b.size)) :
    sessionRecord op 0 b = ⟨8 + b.size, op + b.val * 2 ^ 64⟩ := by
  obtain ⟨n, v⟩ := b
  have hm : v % 2 ^ (8 * n) = v := Nat.mod_eq_of_lt h
  simp only [sessionRecord, Blob.record, packFields, List.map, List.foldl, Nat.shiftLeft_eq, hm, Blob.mk.injEq]
  constructor
  · simp
  · norm_num
    omega
/-- What chkSession reads of the record of an ACCEPT or a COMPLETE. -/
theorem chkSession_code (s : State) (b : Blob) (op kind : Nat) (hsz : b.size = 3076) (g0 : b.get 0 1 = op) (g1 : b.get 1 3 = 0)
    (g2 : b.get 8 4 = 0x53533947) (g3 : b.get 12 4 = 5) (g4 : b.get 16 1 = kind) (g5 : b.get 17 7 = 0) (g7 : b.get 160 64 = 0)
    (g8 : b.get 1792 4 = 0) :
    (op = 2 → kind = 1 → b.get 88 64 = Config.identityDigest % 2 ^ 512 → s.sec.sessions = [] →
      (s.chkSession b { (default : Extra) with verifies := true }).code = 0) ∧
    (op = 3 → kind = 2 → b.get 24 64 = Config.identityDigest % 2 ^ 512 → b.get 88 64 = 0 → s.sec.sessions = [session 5 1 1] →
      (s.chkSession b { (default : Extra) with verifies := true }).code = 0) := by
  constructor
  · intro h1 h2 hd hs
    subst h1 h2
    simp [State.chkSession, blobWell, blobId, blobKind, blobTarget, blobOffer, g0, g1, g2, g3, g4, g5, g7, g8, hsz, hs, hd,
      SecSt.find, Chk.code]
    rfl
  · intro h1 h2 hd ht hs
    subst h1 h2
    simp [State.chkSession, blobWell, blobId, blobKind, blobSource, blobTarget, blobOffer, g0, g1, g2, g3, g4, g5, g7, g8, ht,
      hsz, hs, hd, SecSt.find, Chk.code, session]
    rfl
/-- A body of SessionCommand: MAGIC, SESSION 5, its kind, and one digest at bit k. -/
def bodyFor (kind k d : Nat) : Blob := ⟨3068, 0x53533947 + 5 * 2 ^ 32 + kind * 2 ^ 64 + d * 2 ^ k⟩

theorem bodyFor_fits (kind k d : Nat) (h : (bodyFor kind k d).val < 2 ^ 1152) :
    (bodyFor kind k d).val < 2 ^ (8 * (bodyFor kind k d).size) :=
  lt_of_lt_of_le h (Nat.pow_le_pow_right (by omega) (by simp [bodyFor]))

theorem acceptBody (d : Nat) (hl : d < 2 ^ 512) :
    sessionRecord 2 0 (bodyFor 1 640 d) = ⟨3076, (2 + 0x53533947 * 2 ^ 64 + 5 * 2 ^ 96 + 2 ^ 128) + d * 2 ^ 704⟩ := by
  rw [sessionRecord_eq 2 _ (by omega) (bodyFor_fits 1 640 d (by simp only [bodyFor]; omega))]
  simp only [bodyFor, Blob.mk.injEq]
  refine ⟨trivial, ?_⟩
  omega
theorem completeBody (d : Nat) (hl : d < 2 ^ 512) :
    sessionRecord 3 0 (bodyFor 2 128 d) = ⟨3076, (3 + 0x53533947 * 2 ^ 64 + 5 * 2 ^ 96 + 2 ^ 129) + d * 2 ^ 192⟩ := by
  rw [sessionRecord_eq 3 _ (by omega) (bodyFor_fits 2 128 d (by simp only [bodyFor]; omega))]
  simp only [bodyFor, Blob.mk.injEq]
  refine ⟨trivial, ?_⟩
  omega

theorem body_bound (c d k m : Nat) (hc : c < 2 ^ k) (hd : d < 2 ^ m) : c + d * 2 ^ k < 2 ^ (k + m) := by
  rw [Nat.pow_add]
  nlinarith [Nat.pow_pos (n := k) (show 0 < 2 by omega), Nat.mul_le_mul_left (2 ^ k) hd]
/-- A blob for this device, and the answer to what it offered: what ACCEPT and COMPLETE take. -/
theorem wit_Accept (s : State) (hs : s.sec.sessions = []) :
    (s.chkSession (sessionRecord 2 0 (bodyFor 1 640 (Config.identityDigest % 2 ^ 512)))
        { (default : Extra) with verifies := true }).code = 0 := by
  have hl : Config.identityDigest % 2 ^ 512 < 2 ^ 512 := Nat.mod_lt _ (by positivity)
  rw [acceptBody _ hl]
  have low := fun o n h => get_below 3076 (2 + 0x53533947 * 2 ^ 64 + 5 * 2 ^ 96 + 2 ^ 128) (Config.identityDigest % 2 ^ 512) 704 o n h
  have ht : (2 + 0x53533947 * 2 ^ 64 + 5 * 2 ^ 96 + 2 ^ 128) + Config.identityDigest % 2 ^ 512 * 2 ^ 704 < 2 ^ 1216 :=
    body_bound _ _ 704 512 (by decide +kernel) hl
  have g7 := get_above 3076 _ 1216 160 64 ht (by omega)
  have g8 := get_above 3076 _ 1216 1792 4 ht (by omega)
  have g6 := get_top 3076 (2 + 0x53533947 * 2 ^ 64 + 5 * 2 ^ 96 + 2 ^ 128) _ 88 64 704 512 rfl rfl (by decide +kernel) hl
  have g0 := (low 0 1 (by omega)).trans (by decide +kernel : _ = 2)
  have g1 := (low 1 3 (by omega)).trans (by decide +kernel : _ = 0)
  have g2 := (low 8 4 (by omega)).trans (by decide +kernel : _ = 0x53533947)
  have g3 := (low 12 4 (by omega)).trans (by decide +kernel : _ = 5)
  have g4 := (low 16 1 (by omega)).trans (by decide +kernel : _ = 1)
  have g5 := (low 17 7 (by omega)).trans (by decide +kernel : _ = 0)
  exact (chkSession_code s _ 2 1 rfl g0 g1 g2 g3 g4 g5 g7 g8).1 rfl rfl g6 hs
theorem wit_Complete (s : State) (hs : s.sec.sessions = [session 5 1 1]) :
    (s.chkSession (sessionRecord 3 0 (bodyFor 2 128 (Config.identityDigest % 2 ^ 512)))
        { (default : Extra) with verifies := true }).code = 0 := by
  have hl : Config.identityDigest % 2 ^ 512 < 2 ^ 512 := Nat.mod_lt _ (by positivity)
  rw [completeBody _ hl]
  have low := fun o n h => get_below 3076 (3 + 0x53533947 * 2 ^ 64 + 5 * 2 ^ 96 + 2 ^ 129) (Config.identityDigest % 2 ^ 512) 192 o n h
  have ht : (3 + 0x53533947 * 2 ^ 64 + 5 * 2 ^ 96 + 2 ^ 129) + Config.identityDigest % 2 ^ 512 * 2 ^ 192 < 2 ^ 704 :=
    body_bound _ _ 192 512 (by decide +kernel) hl
  have g7 := get_above 3076 _ 704 160 64 ht (by omega)
  have g8 := get_above 3076 _ 704 1792 4 ht (by omega)
  have g9 := get_above 3076 _ 704 88 64 ht (by omega)
  have g6 := get_top 3076 (3 + 0x53533947 * 2 ^ 64 + 5 * 2 ^ 96 + 2 ^ 129) _ 24 64 192 512 rfl rfl (by decide +kernel) hl
  have g0 := (low 0 1 (by omega)).trans (by decide +kernel : _ = 3)
  have g1 := (low 1 3 (by omega)).trans (by decide +kernel : _ = 0)
  have g2 := (low 8 4 (by omega)).trans (by decide +kernel : _ = 0x53533947)
  have g3 := (low 12 4 (by omega)).trans (by decide +kernel : _ = 5)
  have g4 := (low 16 1 (by omega)).trans (by decide +kernel : _ = 2)
  have g5 := (low 17 7 (by omega)).trans (by decide +kernel : _ = 0)
  exact (chkSession_code s _ 3 2 rfl g0 g1 g2 g3 g4 g5 g7 g8).2 rfl rfl g6 g9 hs

def meterDue : State := withCv up { cv .running with meter := { (default : Meter) with due := [⟨8, 1⟩] } }
theorem wit_Meter : (meterDue.cuvee 1).meter.due = [⟨8, 1⟩] ∧ (meterDue.cuvee 1).state ≠ .releasing ∧
    ∀ d, d ≠ 1 → (meterDue.cuvee d).meter.due = [] := by
  refine ⟨by decide +kernel, by decide +kernel, fun d h => ?_⟩
  rw [meterDue, withCv, State.cuvee_updCuvee_ne _ _ h]
  rfl
theorem test_Meter :
    (nextHas (exec .meterRecordWrite meterDue) fun t => (t.cuvee 1).meter.due == [] && t.sec.meterWritten == 1 && (t.sec.meterLog.find 0).isSome) = true := by decide +kernel

theorem wit_Read : up.hears (ask 0x1000 1 0 ⟨0, 0⟩) = true ∧ (objAt 0x1000 1).any (fun d => bit d.mgr 0) = true := by decide +kernel
theorem test_Read :
    (nextHas (exec (.read (ask 0x1000 1 0 ⟨0, 0⟩)) up) fun t => t.answered (ask 0x1000 1 0 ⟨0, 0⟩) 0) = true := by decide +kernel
/-- FlywheelLimit (0x2000:08) and a staged one. -/
def flyW : Access := ask 0x2000 8 1 ⟨1, 5⟩
def zeroW : Access := ask 0 0 0 ⟨0, 0⟩
def stagedOne (commits : Nat) : State :=
  { up with dict := { up.dict with
    staging := [(.manager, [⟨0x2000, 8, ⟨1, 5⟩⟩])]
    pend := List.replicate commits { (default : Pending) with commit := true, cls := .manager } } }
theorem wit_Writes : up.hears flyW = true ∧ (objAt 0x2000 8).any (fun d => d.epoch && !d.cmd) = true ∧
    up.accepts .manager 0x2000 8 ⟨1, 5⟩ up.freeExtra = true ∧ up.accepts .manager 0x2000 8 ⟨1, 5⟩ default = true ∧
    (up.staging .manager).length < 256 ∧ sumNat ((up.staging .manager).map fun w => w.data.size) + 1 ≤ 65536 ∧
    up.hears zeroW = true ∧ up.staging .manager = [] ∧ (stagedOne 0).hears zeroW = true ∧ (stagedOne 0).staging .manager ≠ [] ∧
    ((stagedOne 0).dict.pend.filter fun p => p.cls == .manager && p.commit).length < 8 ∧ (stagedOne 8).hears zeroW = true ∧
    (stagedOne 8).staging .manager ≠ [] ∧ 8 ≤ ((stagedOne 8).dict.pend.filter fun p => p.cls == .manager && p.commit).length := by
  decide +kernel
theorem test_Writes :
    (nextHas (exec (.write flyW) up) fun t => t.answered flyW 9 && (match t.dict.pend with | [p] => p.commit == false && p.cls == .manager && p.writes == [⟨0x2000, 8, ⟨1,5⟩⟩] && p.due == up.nextDue | _ => false) && t.val 0x2000 8 == up.val 0x2000 8) = true ∧
    (nextHas (exec (.stage flyW) up) fun t => t.answered flyW 0 && t.staging .manager == [⟨0x2000, 8, ⟨1,5⟩⟩] && t.dict.pend == []) = true ∧
    (nextHas (exec (.commit zeroW) (stagedOne 0)) fun t => t.answered zeroW 9 && t.dict.pend.length == 1 && t.staging .manager == []) = true ∧
    (nextHas (exec (.commit zeroW) up) fun t => t.answered zeroW 6 && t.dict.pend == []) = true ∧
    (nextHas (exec (.commit zeroW) (stagedOne 8)) fun t => t.answered zeroW 8 && t.dict.pend.length == 8 && t.staging .manager != []) = true ∧
    (nextHas (exec (.abort zeroW) (stagedOne 1)) fun t => t.answered zeroW 0 && t.dict.pend.length == 1 && t.staging .manager == []) = true := by decide +kernel

def response0 : Response := default
def storing : State :=
  ({ up with flash := { up.flash with job := some (.store (.pf .a) 7 response0 []) } }).setWindow (.pf .a)
    { Window.init with inFlight := some 7 }
def jobbed : State := { up with flash := { up.flash with job := some (.erase (.pf .b) 7 response0 0) } }
theorem wit_Directory : up.hears zeroW = true ∧ up.flash.job = none ∧ jobbed.hears zeroW = true ∧ jobbed.flash.job.isSome = true ∧
    up.boot.standby = true ∧ storing.flash.job = some (.store (.pf .a) 7 response0 []) ∧
    (storing.window (.pf .a)).inFlight = some 7 := by decide +kernel
theorem test_Directory :
    (nextHas (exec (.flashWriteDone true) storing) fun t => t.flash.job == none && t.flash.storeState == 2 && t.flash.stores == 1 && (t.window (.pf .a)).response == some response0 && (t.window (.pf .a)).respGen == 7 && (t.window (.pf .a)).inFlight == none) = true := by decide +kernel

/-- Cuvee 1 is bound to VF 3 of port A, with two ring pairs and a check channel. -/
def bound (v : Cuvee) : State :=
  ((withCv up { v with binding := some (.a, 3) }).setVal 0x3016 1 (Blob.scalar 8 (2 ^ 22))).setVal 0x3017 1 ⟨32, 2 ^ 128⟩
def barW (size : Nat) : BarWrite := ⟨.a, 3, 0, 65, size, true⟩
def packet0 : Packet := { (default : Packet) with bytes := 2 }
def read0 : HostRead := ⟨7, 1, packet0, 0, false, false, none⟩
def reading : State := { up with hostA := { up.hostA with reads := [read0] } }
theorem wit_HostAccesses : (bound (cv .running)).reaches (.vf .a 3) = true ∧
    (bound (cv .running)).classOf (.vf .a 3) = some (.tenant 1) ∧ 0 < (bound (cv .running)).ringPairs 1 ∧
    (bound (cv .running)).channel 1 0 = some 0 ∧ up.portOpen .a = true ∧ bit 4 2 = true ∧ bit 0 2 = false ∧
    (reading.host .a).reads.find? (fun r => r.tag == 7) = some read0 ∧ [1, 2].length = packet0.bytes := by
  decide +kernel
theorem test_HostAccesses :
    let s := bound (cv .running)
    (nextHas (exec (.doorbell (barW 4)) s) fun t => (t.ring 1 0).doorbell == 65) = true ∧
    (nextHas (exec (.head (barW 4)) s) fun t => (t.ring 1 0).head == 65) = true ∧
    (nextHas (exec (.checkStart (barW 4)) s) fun t => (t.check 0).running && (t.check 0).bytes == 0 && (t.check 0).config == (s.check 0).config && (t.check 0).fold == (s.check 0).fold) = true ∧
    (nextHas (exec (.feedB (barW 1)) s) fun t => (t.check 0).bytes == 1 && (t.check 0).crc.toNat == crcByte (s.check 0).poly (s.check 0).crc.toNat 65 % 2 ^ 64) = true ∧
    (nextHas (exec (.feedH (barW 2)) s) fun t => (t.check 0).bytes == 2) = true ∧
    (nextHas (exec (.feedW (barW 4)) s) fun t => (t.check 0).bytes == 4) = true := by decide +kernel
theorem test_HostAccesses2 :
    (nextHas (exec (.hostCompletion .a 7 [1,2]) reading) fun t => t.hostA.reads == []) = true := by decide +kernel

theorem wit_PortResets : up.portOpen .a = true ∧ (up.host .a).linkUp = true ∧ up.boot.standby = true ∧ (up.host .a).perst = false ∧
    .a = up.dict.steward ∧ .b ≠ up.dict.steward ∧ (bound (cv .running)).portOpen .a = true ∧
    (bound (cv .running)).classOf (.vf .a 3) = some (.tenant 1) ∧ ((bound (cv .running)).cuvee 1).state = .running := by
  decide +kernel
theorem test_PortResets :
    ([Instr.perstN .a true, .hotReset .a, .linkDown .a].map fun i => nextHas (exec i up) fun t => t.hostA.linkUp == false && t.hostA.sessions == [] && t.hostA.busMaster == []).all id = true ∧
    (nextHas (exec (.flrPf .a) up) fun t => (t.window (.pf .a)).reqGen == 0 && (t.window (.pf .a)).inFlight == none && t.hostA.busMaster == []) = true ∧
    (nextHas (exec (.flrVf .a 3) (bound (cv .running))) fun t => (t.window (.vf .a 3)).respGen == 0 && (t.cuvee 1).state == .resetting && (t.cuvee 1).staged == none) = true := by decide +kernel

def key0 : IdeKey := ⟨0, 0, true, 1⟩
/-- SPDM state of port A: algorithms agreed, session 2 active, handshake 3, a key. -/
def agreed : State :=
  { up with hostA := { up.hostA with negotiated := true, sessions := [2], handshakes := [3], ideKeys := [(key0, 9, 2, false)] } }
theorem wit_Spdm : agreed.portOpen .a = true ∧ (agreed.host .a).negotiated = true ∧
    (agreed.host .a).sessions.length + (agreed.host .a).handshakes.length < 4 ∧ 3 ∈ (agreed.host .a).handshakes ∧
    2 ∈ (agreed.host .a).sessions ∧ key0.stream ≤ 4 ∧ key0.subStream ≤ 2 ∧ key0.keySet ≤ 1 ∧
    (agreed.host .a).ideKeys.any (fun e => e.1 == key0) = true := by decide +kernel
theorem test_Spdm :
    (nextHas (exec (.spdmRequest .a (.keyExchange 0 0)) agreed) fun t => t.hostA.handshakes == [3, 1]) = true ∧
    (nextHas (exec (.spdmRequest .a (.finish 3 true)) agreed) fun t => t.hostA.handshakes == [] && 3 ∈ t.hostA.sessions) = true ∧
    (nextHas (exec (.endSession .a 2) agreed) fun t => t.hostA.sessions == [] && t.hostA.ideKeys == []) = true ∧
    (nextHas (exec (.kSetGo .a 2 key0) agreed) fun t => t.hostA.ideKeys == [(key0, 9, 2, true)]) = true ∧
    (nextHas (exec (.kSetStop .a 2 key0) agreed) fun t => t.hostA.ideKeys == []) = true ∧
    (nextHas (exec (.keyProg .a 2 key0 8) agreed) fun t => (key0, 8, 2, false) ∈ t.hostA.ideKeys) = true := by decide +kernel

theorem wit_Tdisp : (bound (cv .running)).portOpen .a = true ∧ (bound (cv .running)).vfCuvee (.vf .a 3) = some 1 ∧
    ((bound (cv .running)).cuvee 1).tdi = 0 ∧ ((bound (cv .running)).cuvee 1).state = .running ∧ up.sec.debug = 0 ∧
    (bound { cv .running with tdi := 1 }).vfCuvee (.vf .a 3) = some 1 ∧ ((bound { cv .running with tdi := 1 }).cuvee 1).tdi = 1 ∧
    (bound { cv .running with tdi := 2 }).vfCuvee (.vf .a 3) = some 1 ∧ ((bound { cv .running with tdi := 2 }).cuvee 1).tdi = 2 ∧
    ((bound { cv .running with tdi := 2 }).cuvee 1).state = .running := by decide +kernel
theorem test_Tdisp :
    (nextHas (exec (.lockInterface .a 3 1) (bound (cv .running))) fun t => (t.cuvee 1).tdi == 1 && (t.cuvee 1).tdiStream == 1) = true ∧
    (nextHas (exec (.startInterface .a 3) (bound { cv .running with tdi := 1 })) fun t => (t.cuvee 1).tdi == 2) = true ∧
    (nextHas (exec (.stopInterface .a 3) (bound { cv .running with tdi := 2 })) fun t => (t.cuvee 1).tdi == 2 && (t.cuvee 1).state == .resetting && (t.cuvee 1).seq.map ResetSeq.tdiReply == some true) = true := by decide +kernel

theorem wit_Standby : State.reset.boot.standby = false ∧ State.reset.boot.pwrEn = false ∧ State.reset.boot.step ≠ .waitInput ∧
    up.boot.standby = true ∧ up.boot.pwrGood = true := by decide +kernel
theorem test_Standby :
    (nextHas (exec (.standbyStart 0x15) .reset) fun t => t.boot.standby && t.boot.step == .standby && t.side.node == 5 && t.side.highSeq == 65536) = true ∧
    (nextHas (exec (.plcaBeacon true) up) fun t => t.side.plca) = true ∧
    (nextHas (exec (.plcaBeacon false) up) fun t => t.side.counters == bump 64 up.side.counters 5 1) = true ∧
    (nextHas (exec .pwrEnFall up) fun t => t.cuvees == [] && t.faults.estateState == 3 && t.boot.pwrGood == false) = true ∧
    (nextHas (exec .mainInputFault up) fun t => t.cuvees == [] && t.faults.estateState == 3 && t.boot.latched) = true := by decide +kernel

def bootAt (s : BootStep) : State := { up with boot := { up.boot with step := s, findings := some boot0 } }
def trained (n : Nat) : State := { bootAt .training with muster := { up.muster with trained := n } }
theorem wit_ColdBoot : up.boot.standby = true ∧ boot0.secSelfTest = true ∧ boot0.identity = 0 ∧ boot0.slotFailA = 0 ∧
    boot0.slotFailB = 0 ∧ up.estateLost.num 0xA001 4 ≤ 1 ∧ up.boot.pwrEn = false ∧ (bootAt .waitInput).boot.step = .waitInput ∧
    (bootAt .waitInput).boot.findings = some boot0 ∧ (bootAt .waitInput).estateLost.num 0xA001 4 ≤ 1 ∧
    (bootAt .selfTest).boot.step = .selfTest ∧ (trained 3).boot.step = .training ∧ (trained 3).muster.trained = 3 ∧
    (trained 16).muster.trained = 16 ∧ (bootAt .vintner).boot.step = .vintner := by decide +kernel
theorem test_ColdBoot :
    ([Instr.coldBoot boot0 480].map fun i => nextHas (exec i up) fun t => t.boot.step == .selfTest && t.boot.pwrGood && t.muster.state == 1 && t.faults.estateState == 3 && t.sec.booted == 0).all id = true ∧
    (nextHas (exec .mainInputInRange (bootAt .waitInput)) fun t => t.boot.step == .selfTest && t.boot.pwrGood) = true ∧
    (nextHas (exec (.selfTestDone default) (bootAt .selfTest)) fun t => t.boot.step == .training && t.muster.trained == 0) = true ∧
    (nextHas (exec (.stackTrainingDone 3 ⟨[], [(5, 0)], [], [], []⟩) (trained 3)) fun t => t.muster.trained == 4 && 101 ∈ t.muster.pcBad) = true ∧
    (nextHas (exec .memoryMuster (trained 16)) fun t => t.boot.step == .vintner) = true ∧
    (nextHas (exec .estateReady (bootAt .vintner)) fun t => t.boot.step == .ready && t.faults.estateState == 0) = true := by decide +kernel

def ticking : State :=
  { up with time := { up.time with running := true }
            cad := { up.cad with lastEdge := some 0, intervals := [1000000], source := 0, state := .locked, present := true } }
theorem wit_Reference : ticking.time.running = true ∧ ticking.cad.lastEdge = some 0 ∧ (50000 : Rat) ≤ 60000 - 0 ∧ (10 : Rat) - 0 < 50000 ∧
    ticking.cad.source = 0 ∧ ticking.cad.intervals = [1000000] ∧ (0 : Rat) + 1000000 * 33 / 32 ≤ 2000000 ∧ ticking.num 0x2000 4 = 0 := by
  decide +kernel
theorem test_Reference :
    (nextHas (exec (.cadenceEdge 60000) ticking) fun t => t.cad.intervals == [60000, 1000000] && t.cad.lastEdge == some 60000 && t.cad.divCount == 1) = true ∧
    (nextHas (exec (.cadenceEdge 10) ticking) fun t => t.cad == {ticking.cad with rejected := 1} && t.objValue .manager 0x2001 6 == Blob.scalar 4 1) = true ∧
    (nextHas (exec (.referenceTimeout 2000000) ticking) fun t => !t.cad.present) = true ∧
    (nextHas (exec (.ptpMessage ⟨5, 0, true, .sync false, 1, 2, 5, 8, none⟩) ticking) fun t => t.cad.ptpOffset == 3 && t.cad.goodSyncs == 1) = true := by decide +kernel

def atSlot (n : Nat) : State := { ticking with time := { ticking.time with slot := n } }
def flywheel (n : Nat) : State := { ticking with cad := { ticking.cad with state := .flywheel, present := false, flywheel := n } }
theorem wit_MissedAndTicks : ticking.boundaryMissable = true ∧ ticking.cad.state = .locked ∧ ticking.cad.present = true ∧
    (flywheel 0).boundaryMissable = true ∧ (flywheel 0).cad.flywheel + 1 < (flywheel 0).num 0x2000 8 ∧
    (flywheel 63).boundaryMissable = true ∧ (flywheel 63).num 0x2000 8 ≤ (flywheel 63).cad.flywheel + 1 ∧
    (atSlot 0).time.running = true ∧ (atSlot 0).time.slot < 4095 ∧ (atSlot 0).time.lockCut = none ∧
    (atSlot 4095).time.running = true ∧ (atSlot 4095).time.slot = 4095 := by decide +kernel
theorem test_MissedAndTicks :
    (nextHas (exec .missedBoundary ticking) fun t => t.cad.missed == 1 && t.cad.windowClosed && t.cad.state == .slewing) = true ∧
    (nextHas (exec .missedBoundary (flywheel 0)) fun t => t.cad.state == .flywheel && t.cad.flywheel == 1) = true ∧
    (nextHas (exec .missedBoundary (flywheel 63)) fun t => t.cad.state == .cadenceLost && t.cad.lostCount == 1) = true ∧
    (nextHas (exec .slotFire (atSlot 0)) fun t => t.time.slot == 1 && t.time.epochs == 0 && t.slotStart 1 ≤ t.time.now) = true ∧
    (nextHas (exec .epochBoundary (atSlot 4095)) fun t => t.time.slot == 0 && t.time.epochs == 1 && t.time.epochStart == (atSlot 4095).boundaryAt && t.time.epochLen == (atSlot 4095).nextLength && t.time.prevLen == (atSlot 4095).time.epochLen) = true := by decide +kernel

/-- A row for cuvee 1: its action, group, operand and the rest. -/
def rowOf (action group operand rest : Nat) : Nat := action * 2 ^ 123 + 2 ^ 87 + group * 2 ^ 79 + operand * 2 ^ 55 + rest
def instOf (row : Nat) : RowInst := { (default : RowInst) with seg := 1, row := row }
/-- Cuvee 1 runs on tile 0, and the rows given wait for issue. -/
def issuing (v : Cuvee) (rows : List Nat) : State :=
  let s := shaped v
  { s with alm := { s.alm with issue := rows.map instOf } }
def runTile (s : State) (f : Tile → Tile) : State := s.updTile 0 fun x => f { x with cuvee := 1, act := .running }
/-- A row at its limit: DEFER_MAX 0, some energy, nothing in the buckets. -/
def limitRow : RowInst := { instOf (rowOf 1 255 0 (2 ^ 39 * 5)) with deferred := 1 }
def limited : State :=
  let s := ((shaped (cv .running)).setVal 0x2011 1 (Blob.scalar 8 65535)).updLedger 1 fun l => { l with gen := -9 }
  { s with alm := { s.alm with present := [limitRow] } }
def watch0 : Watch := { (default : Watch) with id := 7, cuvee := 1, deadline := some 0, row := instOf 0 }
def watched : State := { up with alm := { up.alm with watches := [watch0] } }
def corrected : State := withCv up { cv .running with ledger := { LedgerC.init with ticks := 2, due := true } }
theorem wit_Ledger : limited.limitDue = some limitRow ∧ limited.alm.present = [limitRow] ∧
    (corrected.cuvee 1).ledger.due = true ∧
    watched.watch 7 = some watch0 ∧ watch0.deadline = some 0 ∧ watch0.late = false ∧ watch0.complete = false ∧
    0 ≤ watched.slotCount ∧ watched.holidaysEnd.watch 7 = some watch0 := by decide +kernel
theorem test_Ledger :
    (nextHas (exec (.deferLimit 1 0) limited) fun t => t.alm.present == [] && t.alm.issue.length == 1 && (t.cuvee 1).ledger.gen == -9 - (limited.charge 1 limitRow.row : Nat) * 256 && (t.cuvee 1).ledger.overflow == 0) = true ∧
    (nextHas (exec (.correctionUpdate 1) corrected) fun t => (t.cuvee 1).ledger.k == correctedK 256 0 0 && (t.cuvee 1).ledger.ticks == 0 && !(t.cuvee 1).ledger.due) = true ∧
    (nextHas (exec (.deadlineMiss 7) watched) fun t => ((t.watch 7).map Watch.late) == some true && (t.seg 1).dlMisses == 1) = true := by decide +kernel

def heldStart (s : State) : State := { s with alm := { s.alm with heldStarts := [(256 + 255, 4, 9, 2)] } }
theorem wit_StartStep :
    (issuing (cv .running) [rowOf 1 255 3 0]).groupOccupied 1 255 = false ∧
    (issuing (cv .running) [rowOf 1 255 3 0]).groupModel 1 255 = none ∧
    (issuing (cv .running) [rowOf 1 255 3 0]).groupTiles 1 255 = [0] ∧
    ((issuing (cv .running) [rowOf 1 255 3 0]).tile 0).act = .idle ∧ rowAction (rowOf 1 255 3 0) = 1 ∧
    rowGroup (rowOf 1 255 3 0) = 255 ∧ rowSkipBusy (rowOf 1 255 3 0) = false ∧ rowSkipBusy (rowOf 1 255 3 (2 ^ 21)) = true ∧
    (runTile (issuing (cv .running) [rowOf 1 255 3 0]) id).groupOccupied 1 255 = true ∧
    (runTile (issuing (cv .running) [rowOf 1 255 3 0]) id).preemptsNow 1 255 = false ∧
    (runTile (issuing (cv .running) [rowOf 1 255 3 0]) id).alm.heldStarts.find 511 = none ∧
    (heldStart (shaped (cv .running))).alm.heldStarts.find (256 * 1 + 255) = some (4, 9, 2) ∧
    (heldStart (shaped (cv .running))).groupOccupied 1 255 = false ∧
    ((heldStart (shaped (cv .running))).cuvee 1).live = true ∧
    ((heldStart (shaped (cv .running))).cuvee 1).quiesce = none := by decide +kernel
theorem test_StartStep :
    (nextHas (exec .startStep (issuing (cv .running) [rowOf 1 255 3 6])) fun t => t.alm.issue == [] && (t.tile 0).act == .running && (t.tile 0).entry == 3 && (t.tile 0).runTag == 6) = true ∧
    (nextHas (exec .startStep (runTile (issuing (cv .running) [rowOf 1 255 3 (2^21)]) id)) fun t => t.alm.issue == [] && (t.seg 1).overruns == 1) = true ∧
    (nextHas (exec .startStep (runTile (issuing (cv .running) [rowOf 1 255 3 5]) id)) fun t => t.alm.issue == [] && t.alm.heldStarts.find 511 == some (3, 5, 0)) = true ∧
    (nextHas (exec (.heldStartIssue 1 255) (heldStart (shaped (cv .running)))) fun t => t.alm.heldStarts.find 511 == none && (t.tile 0).act == .running && (t.tile 0).entry == 4 && (t.tile 0).runTag == 9) = true := by decide +kernel

def fetched (n : Nat) : State :=
  ((issuing (cv .running) [rowOf 3 0 0 0]).setVal 0x2004 1 (Blob.scalar 4 8)).updSeg 1 fun g => { g with lastFetch := some n }
theorem wit_OtherRows : rowAction (rowOf 2 255 5 0) = 2 ∧ (issuing (cv .running) [rowOf 2 255 5 0]).quiescing 1 = false ∧
    ((issuing (cv .running) [rowOf 2 255 5 0]).tile 0).load = none ∧ rowAction (rowOf 0 0 0 0) = 0 ∧ rowAction (rowOf 3 0 0 0) = 3 ∧
    ((fetched 0).seg 1).lastFetch = some 0 ∧ (fetched 0).slotCount < 0 + (fetched 0).num 0x2004 1 ∧
    ((issuing (cv .running) [rowOf 3 0 0 0]).seg 1).lastFetch = none ∧ rowAction (rowOf 4 0 0 0) = 4 ∧
    rowAction (rowOf 5 0 0 0) = 5 ∧ rowAction (rowOf 7 0 0 0) = 7 := by decide +kernel
theorem test_OtherRows :
    (nextHas (exec .loadPlane (issuing (cv .running) [rowOf 2 255 5 0])) fun t => t.alm.issue == [] && (t.tile 0).load == some 5) = true ∧
    (nextHas (exec .nop (issuing (cv .running) [rowOf 0 255 5 0])) fun t => t.alm.issue == []) = true ∧
    (nextHas (exec (.fetchSq []) (fetched 0)) fun t => t.alm.issue == [] && (t.seg 1).skipped == 1 && (t.seg 1).lastFetch == some 0) = true ∧
    (nextHas (exec (.fetchSq []) (issuing (cv .running) [rowOf 3 0 0 0])) fun t => t.alm.issue == [] && (t.seg 1).lastFetch == some 0) = true ∧
    (nextHas (exec .writeCq (issuing (cv .running) [rowOf 4 0 0 0])) fun t => t.alm.issue == []) = true ∧
    (nextHas (exec .harvest (issuing (cv .running) [rowOf 5 0 0 0])) fun t => t.alm.issue == [] && t.obs.shadow == t.obs.unit && t.obs.latched.isSome && t.obs.flags == 0 && t.alm.lastHarvestEpoch == some 0) = true := by decide +kernel
def latched : State := { up with obs := { up.obs with latched := some (5, 0, 0, []) } }
theorem wit_Harvest : latched.obs.latched = some (5, 0, 0, []) ∧ rowAction (rowOf 6 0 0 0) = 6 ∧
    bits (rowOperand (rowOf 6 0 0 0)) 1 0 = 0 ∧ rowCuvee (rowOf 6 0 0 0) = 1 ∧
    ((issuing (cv .running) [rowOf 6 0 0 0]).cuvee 1).live = true ∧ ((issuing (cv .frozen) [rowOf 6 0 0 0]).cuvee 1).live = false := by
  decide +kernel
theorem test_Harvest :
    (nextHas (exec .harvestRecordWrite latched) fun t => t.obs.latched == none && t.obs.harvestWritten == 1 && (t.obs.records.find 0).isSome && t.obs.prevStamp == 5) = true ∧
    (nextHas (exec .holiday (issuing (cv .running) [rowOf 6 0 0 0])) fun t => (match (t.cuvee 1).quiesce with | some q => q.scope == 0 && q.cause == 1 && !q.begun | none => false)) = true ∧
    (nextHas (exec .holiday (issuing (cv .frozen) [rowOf 6 0 0 0])) fun t => (t.seg 1).skipped == 1 && t.alm.issue == []) = true := by decide +kernel

def quiesce0 : Quiesce := ⟨0, 0, 1, none, false, none, none, false, [], false⟩
def quiet (q : Quiesce) (a : TileAct) (f : Cuvee → Cuvee) : State :=
  (shaped (f { cv .running with quiesce := some q })).updTile 0 fun x => { x with cuvee := 1, act := a }
theorem wit_Holiday : ((quiet quiesce0 .running id).cuvee 1).quiesce = some quiesce0 ∧ quiesce0.scope = 0 ∧ quiesce0.begun = false ∧
    (quiet { quiesce0 with begun := true } .held id).allHeld 1 = true ∧ (quiet quiesce0 .running id).allHeld 1 = false ∧
    (({ quiesce0 with cutAt := some 3 } : Quiesce).apply.getD 0) ≤ up.slotCount ∧
    (quiet { quiesce0 with applied := true } .held id).drained 1 = true := by decide +kernel
theorem test_Holiday :
    (nextHas (exec (.quiesceStart (.cuvee 1)) (quiet quiesce0 .running id)) fun t => ((t.cuvee 1).quiesce.map Quiesce.begun) == some true && (t.tile 0).act == .held) = true ∧
    (nextHas (exec (.cut (.cuvee 1)) (quiet { quiesce0 with begun := true } .held id)) fun t => (t.cuvee 1).state == .frozen && (t.cuvee 1).prior == 3 && (t.cuvee 1).freezeCause == 1 && ((t.cuvee 1).quiesce.bind Quiesce.cutAt) == some 0) = true ∧
    (nextHas (exec (.quiesceLimit (.cuvee 1)) (quiet quiesce0 .running id)) fun t => (t.cuvee 1).state == .frozen && (t.cuvee 1).cutIncomplete && (t.tile 0).act != .running) = true ∧
    (nextHas (exec (.applyTick (.cuvee 1)) (quiet { quiesce0 with cutAt := some 3 } .held id)) fun t => ((t.cuvee 1).quiesce.map Quiesce.applied) == some true) = true ∧
    (nextHas (exec (.holidayComplete (.cuvee 1)) (quiet { quiesce0 with applied := true } .held id)) fun t => (t.cuvee 1).quiesce == none && (t.cuvee 1).state == .running) = true := by decide +kernel

/-- Cuvee 1 in a plan that copies pseudo-channel 0 to 3. -/
def planning (phase : Nat) (a : TileAct) (f : Cuvee → Cuvee) : State :=
  (((shaped (f { cv .running with rebindActive := true, rebind := { (default : Rebind) with phase := phase } })).setVal 0x301A 1
    ⟨20, 2 ^ 16 + 2 ^ 48 + 2 ^ 64 + (2 ^ 31 + 3) * 2 ^ 128⟩).updTile 0 fun x => { x with cuvee := 1, act := a }).updPc 0 fun x => { x with dirty := some [7] }
def cutDone (v : Cuvee) : Cuvee :=
  { v with rebind := { v.rebind with freezeAfter := 2 }, quiesce := some ⟨3, 0, 0, none, true, some 1, some 1, true, [], true⟩ }
theorem wit_Rebind : ((planning 2 .running id).cuvee 1).rebindActive = true ∧ ((planning 2 .running id).cuvee 1).rebind.phase = 2 ∧
    0 ∈ (planning 2 .running id).copiedPcs 1 ∧ (planning 2 .running id).cvPcs 1 = [0] ∧ ((planning 2 .running id).pc 0).dirty = some [7] ∧
    65536 ≤ (planning 2 .running id).num 0x301E 4 ∧
    ((planning 4 .held cutDone).cuvee 1).rebindActive = true ∧ ((planning 4 .held cutDone).cuvee 1).rebind.phase = 4 ∧
    ((planning 4 .held cutDone).cuvee 1).pauseReady = true ∧ (planning 4 .held cutDone).net.flight = [] ∧
    ((planning 4 .held cutDone).cuvee 1).live = true ∧ ((planning 4 .held cutDone).cuvee 1).rebind.freezeAfter ≠ 0 := by decide +kernel
theorem test_Rebind :
    (nextHas (exec (.precopyPassEnd 1 [0]) (planning 2 .running id)) fun t => (t.cuvee 1).rebind.pcDirty.find 0 == some 65536 && (t.cuvee 1).rebind.pcPass.find 0 == some 1 && (t.cuvee 1).rebindActive) = true ∧
    (nextHas (exec (.rebindMovesDone 1) (planning 4 .held cutDone)) fun t => !(t.cuvee 1).rebindActive && (t.cuvee 1).rebind.phase == 5 && (t.cuvee 1).state == .frozen && (t.cuvee 1).freezeCause == 2) = true := by decide +kernel

def seq0 (release squashed : Bool) (reads : List Nat) : ResetSeq := ⟨release, 0, squashed, reads, false⟩
def resetting (q : ResetSeq) : State :=
  let s := shaped { cv .resetting with seq := some q }
  { s with time := { s.time with slot := 3 } }
theorem wit_Reset : ((resetting (seq0 false false [])).cuvee 1).seq = some (seq0 false false []) ∧
    (seq0 false false []).at_ < (resetting (seq0 false false [])).slotCount ∧ 7 ∈ (seq0 false true [7]).reads ∧
    (seq0 false true []).drained = true ∧ (seq0 true true []).drained = true ∧
    ((resetting (seq0 true true [])).cuvee 1).seq = some (seq0 true true []) := by decide +kernel
theorem test_Reset :
    (nextHas (exec (.resetSquash 1) (resetting (seq0 false false []))) fun t => (match (t.cuvee 1).seq with | some r => r.squashed | none => false) && (t.tile 0).act == .idle) = true ∧
    (nextHas (exec (.hostReadAbandon 1 7) (resetting (seq0 false true [7]))) fun t => (match (t.cuvee 1).seq with | some r => r.reads == [] | none => false)) = true ∧
    (nextHas (exec (.resetComplete 1) (resetting (seq0 false true []))) fun t => (t.cuvee 1).state == .bound && (t.cuvee 1).seq == none && (t.cuvee 1).resets == 1) = true := by decide +kernel

def image0 : CuveeImage :=
  { (default : CuveeImage) with
      prior := 3, tiles := 1, pcs := 1, ringPairs := 1, pageLength := 16, trailer := some (0, 0, digestOfDigests []) }
theorem wit_Images : ((withCv up { cv .frozen with saveActive := true }).cuvee 1).saveActive = true ∧
    ((withCv up { cv .frozen with saveActive := true }).cuvee 1).state = .frozen ∧
    ((shaped { cv .bound with restoreActive := true }).cuvee 1).restoreActive = true ∧
    ((shaped { cv .bound with restoreActive := true }).cuvee 1).state = .bound ∧
    (shaped { cv .bound with restoreActive := true }).imageFits 1 image0 = true ∧
    (shaped { cv .bound with restoreActive := true }).imageFits 1 { image0 with tiles := 2 } = false := by decide +kernel
theorem test_Images :
    (nextHas (exec (.imageComplete 1 true) (withCv up { cv .frozen with saveActive := true })) fun t => (t.cuvee 1).state == .saved && !(t.cuvee 1).saveActive) = true ∧
    (nextHas (exec (.restoreComplete 1 .ok image0) (shaped { cv .bound with restoreActive := true })) fun t => (t.cuvee 1).state == .frozen && (t.cuvee 1).prior == 3 && (t.cuvee 1).freezeCause == 4 && !(t.cuvee 1).restoreActive) = true ∧
    (nextHas (exec (.restoreComplete 1 .ok { image0 with tiles := 2 }) (shaped { cv .bound with restoreActive := true })) fun t => (t.cuvee 1).state == .bound && !(t.cuvee 1).restoreActive) = true := by decide +kernel

def scrubbing : State := { up with dict := { up.dict with scrubbing := [(true, 5), (false, 6)] } }
def parcelReset : State :=
  let s := shaped (cv .defined)
  { s with faults := { s.faults with resetPhase := 1, resetOp := 1, resetParcel := 0 } }
theorem wit_Units : (up.setDomain 4 1).domain 4 = 1 ∧ (true, 5) ∈ scrubbing.dict.scrubbing ∧ (false, 6) ∈ scrubbing.dict.scrubbing ∧
    scrubbing.inReset (tileParcel 5) = false ∧ scrubbing.inReset (pcParcel 6) = false ∧ up.faults.estateState = 0 ∧
    up.existing = [] ∧ parcelReset.inReset 0 = true ∧ (true, 0) ∈ parcelReset.parcelUnits 0 := by decide +kernel
theorem test_Units :
    (nextHas (exec (.clusterPowerUp 4) (up.setDomain 4 1)) fun t => t.domain 4 == 2) = true ∧
    (nextHas (exec (.poolReturn true 5 true) scrubbing) fun t => !((true,5) ∈ t.dict.scrubbing)) = true ∧
    (nextHas (exec (.poolReturn false 6 false) scrubbing) fun t => !((false,6) ∈ t.dict.scrubbing) && (t.pc 6).retired) = true ∧
    (nextHas (exec (.estateFatal 3) up) fun t => t.faults.estateState == 2 && t.faults.estateFault == faultRecord up.stamp 0x0D 3 0 0 0 3 0 0) = true ∧
    (nextHas (exec (.parcelResetDone 0 [0] default) parcelReset) fun t => t.faults.resetPhase == 2 && (t.tile 0).retired) = true := by decide +kernel

/-- Tile 0 of cuvee 1, running at entry 0, whose entry word is as given. -/
def atEntry (w : Nat) (f : Tile → Tile) (g : Cuvee → Cuvee) : State :=
  ((shaped (g (cv .running))).updTile 0 fun x => f { x with cuvee := 1, act := .running }).storeWrite 0 0 (toBytes 32 w)
/-- An entry of one beat with no stream, and one with a reserved stream kind. -/
def emptyEntry : Nat := 0
def badEntry : Nat := 3 * 2 ^ 190
theorem wit_Entry : ((atEntry 0 id id).tile 0).act = .running ∧ ((atEntry 0 id id).tile 0).inEntry = false ∧
    ((atEntry 0 id id).tile 0).ended = false ∧ ((atEntry 0 id id).tile 0).cuvee ≠ 0 ∧
    emptyEntry = (atEntry 0 id id).boundaryEntry 0 ∧ ((atEntry 0 id id).tile 0).preempted = false ∧ ((atEntry 0 id id).tile 0).xfault = none ∧
    enWaitF emptyEntry = false ∧ ((atEntry 0 id id).tile 0).queue.length + (duePlaces emptyEntry 3 false).length ≤ 16 ∧ (atEntry 0 id id).quiescing 1 = false ∧
    ((atEntry 0 id id).tile 0).transfersReady 0 = true ∧ (atEntry 0 id id).entryBad 0 emptyEntry = false ∧
    enLast emptyEntry = false ∧ (atEntry 0 id id).entryRowsBad 0 emptyEntry = false ∧ enWaitB emptyEntry = false ∧
    wantedPlane emptyEntry false = false ∧
    (atEntry 0 id fun v => { v with quiesce := some { quiesce0 with begun := true } }).quiescing 1 = true ∧
    badEntry = (atEntry badEntry id id).boundaryEntry 0 ∧ (atEntry badEntry id id).entryBad 0 badEntry = true := by decide +kernel
theorem test_Entry :
    (nextHas (exec (.entryBoundary 0) (atEntry 0 id fun v => { v with quiesce := some { quiesce0 with begun := true } })) fun t => (t.tile 0).act == .held && (t.tile 0).entry == 0) = true ∧
    (nextHas (exec (.entryBoundary 0) (atEntry badEntry id id)) fun t => (t.tile 0).act == .faulted && (t.tile 0).cause == 1) = true ∧
    (nextHas (exec (.entryBoundary 0) (atEntry 0 id id)) fun t => ((t.tile 0).entry, (t.tile 0).inEntry, (t.tile 0).completing) == (1, false, [(0, 0)])) = true := by decide +kernel

def tile0 (f : Tile → Tile) : State := atEntry 0 f id
def xissue : Issue := ⟨0, 0, 0, 0, 9, 0⟩
/-- A PUT of 64 B to tile 0 of the cuvee. -/
def putRow : Nat := 2 ^ 126 + 2 ^ 124
theorem wit_TileEvents : ((tile0 fun x => { x with load := some 2 }).tile 0).load = some 2 ∧
    ((tile0 fun x => { x with inEntry := true, path := { x.path with swapDue := 1 } }).tile 0).path.swapDue ≠ 0 ∧
    ((tile0 fun x => { x with inEntry := true, path := { x.path with swapDue := 1 } }).tile 0).inEntry = true ∧
    ((tile0 fun x => { x with inEntry := true, path := { x.path with swapDue := 1 } }).tile 0).path.draining = 0 ∧ ((tile0 fun x => { x with inEntry := true, path := { x.path with swapDue := 1 } }).tile 0).undrained &&& 1 = 0 ∧
    ((tile0 fun x => { x with inEntry := true, path := { x.path with trig := [1] } }).tile 0).path.trig = [1] ∧
    ((tile0 fun x => { x with completing := [(0, 0)] }).tile 0).completing = [(0, 0)] ∧
    ((tile0 fun x => { x with completing := [(0, 0)] }).tile 0).entryDone 0 = true ∧
    ((tile0 fun x => { x with completing := [(0, 0)] }).tile 0).xfault = none ∧ enArriveB (2^211 + 2^212) = false ∧ enArriveB 0 = false := by decide +kernel
theorem test_TileEvents :
    (nextHas (exec (.planeLoadDone 0) (tile0 fun x => { x with load := some 2 })) fun t => (t.tile 0).load == none) = true ∧
    (nextHas (exec (.accumulatorSwap 0) (tile0 fun x => { x with inEntry := true, path := { x.path with swapDue := 1, beats := 1 } })) fun t => (t.tile 0).path.swapDue == 0 && (t.tile 0).fill1 == 1) = true ∧
    (nextHas (exec (.vectorTrigger 0) (tile0 fun x => { x with inEntry := true, path := { x.path with trig := [1], beats := 1 } })) fun t => (t.tile 0).path.trig == []) = true ∧
    (nextHas (exec (.entryComplete 0) (tile0 fun x => { x with completing := [(0, 2^211 + 2^212)] })) fun t => (t.tile 0).completing == [] && t.net.tendril == [⟨(tile0 id).tileNode 0, 3, field 1 8 20 + 1⟩] && (t.tile 0).act == .idle) = true ∧
    (nextHas (exec (.entryComplete 0) (tile0 fun x => { x with completing := [(0, 0)] })) fun t => (t.tile 0).completing == [] && t.net.tendril == [] && (t.tile 0).act == .running) = true := by decide +kernel
def issues : State := tile0 fun x => { x with queue := [xissue], rows := [(0, putRow)] }
def walking : State :=
  let s := tile0 fun x => { x with queue := [xissue], rows := [(0, putRow)] }
  { s with mem := { s.mem with walks := [(4, 1, 0, 512, true, xissue)] } }
theorem wit_Transfers : (issues.tile 0).queue = [xissue] ∧ (issues.tile 0).rows.getD 0 0 = putRow ∧ (issues.tile 0).act ≠ .faulted ∧
    issues.mayInject 1 = true ∧ xissue.sent = 0 ∧ (issues.tile 0).xfault = none ∧ xrTarget putRow = 1 ∧ 0 < xrBytes putRow ∧
    (xrAddr putRow 0 0 % (2 ^ 20 : Nat)).toNat % 256 + xrBytes putRow ≤ 256 ∧ (issues.tile 0).inFlight (xrOp putRow == 0) < 192 ∧
    (issues.tile 0).towards ((issues.cvTiles 1).getD (bits putRow 42 32) 0) < 4 ∧
    walking.mem.walks.find? (fun e => e.1 == 4) = some (4, 1, 0, 512, true, xissue) ∧ (walking.tile 0).cuvee = 1 ∧
    (walking.tile 0).queue.head?.map Issue.entry = some 0 := by decide +kernel
theorem test_Transfers :
    (nextHas (exec (.transferIssue 0) issues) fun t => (t.tile 0).queue == [] && (match t.net.flight with | [p] => p.src == 0 && p.dst == 0 && p.bytes == 64 && p.last && p.addr == 0 && p.ty == 2 | _ => false)) = true ∧
    (nextHas (exec (.translationWalkDone 4 true) walking) fun t => t.mem.walks == [] && (t.tile 0).xfault == some ⟨7, 512⟩ && (t.tile 0).queue == []) = true := by decide +kernel

/-- A packet of two bytes to tile 5's store, alone in the trellis. -/
def pkt (ty n : Nat) (data : List Byte) : Packet :=
  { (default : Packet) with ty := ty, dst := 5, src := 9, bytes := n, flits := if carriesData ty then 1 else 0, data := data, addr := 2 ^ 20 - 1 }
def flying (p : Packet) : State := { up with net := { up.net with flight := [p] } }
def xget : Xfer := { (default : Xfer) with isGet := true, local_ := 16, dst := 9 }
def xput : Xfer := { (default : Xfer) with isGet := false, dst := 9 }
def withOut (s : State) (x : Xfer) : State := s.updTile 5 fun t => { t with out := [x] }
theorem wit_Packets : (flying (pkt 2 2 [1, 2])).arrives (pkt 2 2 [1, 2]) = true ∧ (pkt 2 2 [1, 2]).dst / 2048 = 0 ∧
    (pkt 2 2 [1, 2]).status ≠ 1 ∧ packetOk (pkt 2 2 [1, 2]) = true ∧ packetOk (pkt 7 2 [1, 2]) = true ∧
    packetOk (pkt 3 4 [1, 2, 3, 4]) = true ∧ (flying (pkt 3 4 [1, 2, 3, 4])).arrives (pkt 3 4 [1, 2, 3, 4]) = true ∧
    (pkt 4 2 [1, 2]).offset % 2 = 0 ∧ (pkt 4 2 [1, 2]).bytes % 2 = 0 ∧ packetOk (pkt 4 2 [1, 2]) = true ∧ (flying (pkt 4 2 [1, 2])).arrives (pkt 4 2 [1, 2]) = true ∧
    (flying (pkt 7 2 [1, 2])).arrives (pkt 7 2 [1, 2]) = true ∧ (flying (pkt 1 2 [1, 2])).arrives (pkt 1 2 [1, 2]) = true ∧
    ((withOut (flying (pkt 1 2 [1, 2])) xget).tile 5).out.find? (fun x => x.isGet && x.tag == 0) = some xget := by decide +kernel
theorem test_Packets :
    ([(Instr.trellisWrite (pkt 2 2 [1,2]) .clean, pkt 2 2 [1,2]), (Instr.mcastWrite ⟨(pkt 7 2 [1,2]), .clean⟩, pkt 7 2 [1,2]), (Instr.writeAddBf16 none ⟨(pkt 4 2 [1,2]), .clean⟩, pkt 4 2 [1,2])].map fun x => nextHas (exec x.1 (flying x.2)) fun t => readByte t.mem.store (storeKey 5 (2^20-1)) == 1 && readByte t.mem.store (storeKey 5 0) == 2 && t.mem.store.length == 2 && t.net.flight.any fun q => q.ty == 5 && q.dst == 9 && q.src == 5).all id = true ∧
    (nextHas (exec (.writeAddFp32 none ⟨(pkt 3 4 [1,2,3,4]), .clean⟩) (flying (pkt 3 4 [1,2,3,4]))) fun t => readByte t.mem.store (storeKey 5 2) == 4 && t.net.flight.any fun q => q.ty == 5 && q.dst == 9 && q.src == 5) = true ∧
    (nextHas (exec (.readData (pkt 1 2 [1,2]) .clean) (withOut (flying (pkt 1 2 [1, 2])) xget)) fun t => readByte t.mem.store (storeKey 5 16) == 1 && readByte t.mem.store (storeKey 5 17) == 2 && (t.tile 5).out == []) = true := by decide +kernel

def toHbm : Packet := { (pkt 0 2 []) with dst := 2048, cuvee := 3, addr := 0 }
/-- Cuvee 3's share of parcel 0's memory lets its packet in. -/
def outsider : State := 
  let s := (flying toHbm).setVal 0x5005 3 ⟨84, 8⟩
  { s with muster := { s.muster with pcMap := s.muster.pcMap.insert 0 0 } }
def nacked : Xfer := { xput with targets := [(9, 2)] }
def resending : State :=
  let s := (withOut (withCv up (cv .running)) xput).updTile 5 fun t => { t with cuvee := 1 }
  { s with net := { s.net with resends := [(5, 0, 9, 3, 256)] } }
def combining : State := { up with net := { up.net with combines := [⟨2, 1, pkt 3 4 [1, 2, 3, 4], [], false⟩] } }
/-- A read of the host's memory at port A, whose function is its bus master. -/
def toHostA : Packet := { (pkt 0 2 []) with dst := 4 * 2048 }
def hostPath : State := { flying toHostA with hostA := { up.hostA with busMaster := [((flying toHostA).boundFn 0).2] } }
/-- A WRITE_ADD of cuvee 1 from tile 0, which meets a partner in its cluster's router. -/
def joiner : Packet := { (pkt 3 4 [1, 2, 3, 4]) with cuvee := 1, combine := true, src := 0, ncomb := 1 }
def waiting0 : Combine := ⟨0, 0, { joiner with src := 1, tag := 4 }, [(1, 4)], false⟩
def joining : State :=
  let s := (withCv up (cv .running)).setVal 0x30A3 1 (Blob.scalar 2 8)
  let s := { s with muster := { s.muster with tileMap := [(0, 0), (1, 1), (5, 5)] } }
  { s with net := { s.net with flight := [joiner], combines := [waiting0] } }
theorem wit_Answers : (flying (pkt 0 2 [])).arrives (pkt 0 2 []) = true ∧ packetOk (pkt 0 2 []) = true ∧
    outsider.arrives toHbm = true ∧ outsider.pcAt toHbm = some 0 ∧ outsider.ownerOk 3 0 = false ∧ packetOk toHbm = true ∧ toHbm.dst / 2048 = 1 ∧ (flying (pkt 5 0 [])).arrives (pkt 5 0 []) = true ∧
    ((flying (pkt 5 0 [])).leavesAnswered (pkt 5 0 [])).1 = [((pkt 5 0 []).dst, (pkt 5 0 []).tag)] ∧ packetOk (pkt 5 0 []) = true ∧
    ((withOut (flying (pkt 5 0 [])) xput).tile 5).out.find? (fun x => !x.isGet && x.tag == 0) = some xput ∧ xput.mgroup = none ∧
    packetOk { pkt 6 0 [] with status := 3 } = true ∧ (flying { pkt 6 0 [] with status := 3 }).arrives { pkt 6 0 [] with status := 3 } = true ∧
    nacked.targets.find? (fun e => e.1 == 9) = some (9, 2) ∧ resending.mayInject (resending.tile 5).cuvee = true ∧ resending.net.resends.filter (fun r => r.1 == 5) = [(5, 0, 9, 3, 256)] ∧
    (resending.tile 5).out.find? (fun x => !x.isGet && x.tag == 0) = some xput ∧
    combining.net.combines.find? (fun y => y.router == 2 && y.slot == 1 && !y.sent) = some ⟨2, 1, pkt 3 4 [1, 2, 3, 4], [], false⟩ ∧
    (flying (pkt 8 2 [7, 8])).arrives (pkt 8 2 [7, 8]) = true ∧ packetOk (pkt 8 2 [7, 8]) = true ∧ (pkt 8 2 [7, 8]).status ≠ 1 ∧
    toHostA.dst / 2048 = 4 ∧ (hostPath).arrives toHostA = true ∧ packetOk toHostA = true ∧ hostPath.hostShut 0 = false ∧
    joining.inFlight joiner = true ∧ packetOk joiner = true ∧ addAligned joiner = true ∧ 0 ∈ joining.routersOf joiner ∧ joining.num 0x30A3 1 ≠ 0 ∧
    joiner.combine = true ∧ 0 ∉ joiner.held ∧ 0 ∉ joining.net.noCombine ∧ joining.adderServes 0 1 = true ∧
    (joining.net.combines.filter fun y => y.router == 0).find? (fun y => !y.sent && combines y.pkt joiner) = some waiting0 ∧
    joining.recordsUsed 0 < recordCount 0 := by decide +kernel
theorem test_Answers :
    (nextHas (exec (.trellisRead ⟨(pkt 0 2 []), .clean⟩ .clean 1) (flying (pkt 0 2 []))) fun t => (match t.net.flight with | [a] => a.ty == 1 && a.src == 5 && a.dst == 9 && a.status == 0 && a.data == [0,0] | _ => false)) = true ∧
    (nextHas (exec (.trellisRead ⟨toHbm, .clean⟩ .clean 1) outsider) fun t => (match t.net.flight with | [a] => a.ty == 6 && a.status == 2 && a.dst == 9 | _ => false)) = true ∧
    (nextHas (exec (.ack ⟨(pkt 5 0 []), .clean⟩) (withOut (flying (pkt 5 0 [])) xput)) fun t => (t.tile 5).out == [] && t.net.flight == []) = true ∧
    (nextHas (exec (.nack ⟨{ pkt 6 0 [] with status := 3 }, .clean⟩) (withOut (flying { pkt 6 0 [] with status := 3 }) nacked)) fun t => t.net.resends == [(5, 0, 9, 3, 256)]) = true ∧
    (nextHas (exec (.multicastResend 5 0) resending) fun t => t.net.resends == [] && (match t.net.flight with | [q] => q.dst == 9 && q.src == 5 && q.try_ == 3 | _ => false)) = true ∧
    (nextHas (exec (.reductionHoldExpiry 2 1) combining) fun t => t.net.flight.length == 1 && t.net.combines.all fun y => y.sent) = true ∧
    (nextHas (exec (.statePkt ⟨(pkt 8 2 [7, 8]), .clean⟩) (flying (pkt 8 2 [7, 8]))) fun t => (match t.net.flight with | [a] => a.ty == 5 && a.dst == 9 | _ => false) && (t.cuvee 0).rebind.landed == [(5, 2 ^ 20 - 1, [7, 8])]) = true ∧
    (nextHas (exec (.trellisRead ⟨toHostA, .clean⟩ .clean 1) hostPath) fun t => t.net.flight == [] && (match t.hostA.reads with | [h] => h.pkt == toHostA && h.addr == hostPath.hostAddr toHostA | _ => false)) = true ∧
    (nextHas (exec (.writeAddFp32 (some 0) ⟨joiner, .clean⟩) joining) fun t => t.net.flight == [] && t.net.combines == [waiting0.join joiner]) = true := by decide +kernel

def bar0 (n : Nat) : Barrier := { (default : Barrier) with cuvee := 1, tgroup := 255, count0 := n }
def withBar (n : Nat) (fs : List TendrilFlit) (f : Tile → Tile) : State :=
  let s := (shaped (cv .running)).updTile 0 f
  { s with net := { s.net with barriers := [(0, bar0 n)], tendril := fs } }
def arrivedBar : BarSt := { (default : BarSt) with gens := [0], arrived := true, lastGen := 0 }
/-- A barrier of tiles in two clusters, with the arrival of tile 0 at its cluster's node. -/
def twoClusters : State :=
  let s := (withBar 0 [⟨21, 1, 1⟩] id).setVal 0x3014 1 ⟨4, 16 * 2 ^ 16⟩
  { s with muster := { s.muster with tileMap := s.muster.tileMap.insert 16 32 } }
theorem wit_Barriers : twoClusters.barrier 0 = some (bar0 0) ∧ 21 ≠ twoClusters.topNode (bar0 0) ∧ twoClusters.barrierOwed (bar0 0) 21 = 1 ∧
    takeFlits 21 1 ((2 * 0 + 0) * 8) 12 twoClusters.net.tendril 1 = some [] ∧
     takeFlits ((withBar 0 [] id).topNode (bar0 0)) 1 ((2 * 0 + 0) * 8) 12 [⟨(withBar 0 [] id).topNode (bar0 0), 1, 1⟩] 1 = some [] ∧ (withBar 0 [⟨(withBar 0 [] id).topNode (bar0 0), 1, 1⟩] id).barrier 0 = some (bar0 0) ∧
    (withBar 1 [] id).releasable 0 0 (bar0 1) = true ∧
    (((withBar 1 [] fun x => { x with bars := [(0, arrivedBar)] }).tile 0).bars.getD 0 default).gens = [0] ∧
    takeFlits 0 3 ((1 * 128 + 4) * 32) 8 [⟨0, 3, (1 * 128 + 4) * 32 * 256 + 2⟩] 2 = some [] ∧ ((withBar 0 [] id).cvTiles 1).Nodup := by
  decide +kernel
theorem test_Barriers :
    (nextHas (exec (.barArrive ((withBar 0 [] id).topNode (bar0 0)) 0 0 1) (withBar 0 [⟨(withBar 0 [] id).topNode (bar0 0), 1, 1⟩] id)) fun t => t.net.tendril == [] && (match t.barrier 0 with | some x => x.count 0 == 1 | none => false)) = true ∧
    (nextHas (exec (.barArrive 21 0 0 1) twoClusters) fun t => t.net.tendril == [⟨nodeAbove 21, 1, 1⟩]) = true ∧
    (nextHas (exec (.barRelease 0 0) (withBar 1 [] fun x => { x with bars := [(0, arrivedBar)] })) fun t => (match t.barrier 0 with | some x => x.count 0 == 0 | none => false) && ((t.tile 0).bars.getD 0 default).released) = true ∧
    (nextHas (exec (.flagSet 1 4 2) (withBar 0 [⟨21, 3, (1 * 128 + 4) * 32 * 256 + 2⟩] id)) fun t => t.net.tendril == [] && (t.tile 0).flags.getD 4 0 == 2) = true := by decide +kernel

def parcelled (f : ParcelSt → ParcelSt) : State := (up.updParcel 0 f).updPc 0 fun x => { x with owner := some 1 }
theorem wit_Upkeep : (0, 9) ∈ (parcelled fun x => { x with repairs := [(0, 9)] }).repairsHeld (pcParcel 0) ∧
    ((parcelled id).pc 0).owner = some 1 ∧ (parcelled id).boot.pwrGood = true ∧
    3 ∈ ((parcelled fun x => { x with cleaning := [3] }).parcel 0).cleaning := by decide +kernel
theorem test_Upkeep :
    (nextHas (exec (.repairWrite 0 9) (parcelled fun x => { x with repairs := [(0, 9)] })) fun t => (t.parcel 0).repairs == []) = true ∧
    (nextHas (exec (.patrolScrub 0 9 .clean) (parcelled id)) fun t => (t.pc 0).scrubbed == t.time.now) = true ∧
    ([90, 80, 83].map fun d => nextHas (exec (.stackTemperatureRead 0 d) (parcelled id)) fun t => (t.parcel 0).temp == d && (t.parcel 0).refreshNext == decide (85 ≤ d)).all id = true ∧
    (nextHas (exec (.wayCleaningDone 0 3) (parcelled fun x => { x with cleaning := [3] })) fun t => (t.parcel 0).cleaning == []) = true := by decide +kernel

def clocked (n m : Nat) : State := { up with power := { up.power with clk := n, limits := [m, 16, 16, 16] } }
def windowOver : State := { ticking with power := { ticking.power with windowEnded := some (true, 2), thermalHold := 1 } }
def windowHeld : State := { ticking with power := { ticking.power with windowEnded := some (true, 2), thermalHold := 7 } }
theorem wit_Power : withinRatings 480 = true ∧ withinRatings 651 = false ∧ up.power.limits ≠ [] ∧
    up.num 0x2010 1 * 95 ≤ 1450 * 100 ∧ 1450 ≤ up.num 0x2010 1 ∧
    (clocked 16 12).clockTarget < 16 ∧ 12 < (clocked 12 16).clockTarget ∧ (clocked 12 16).power.slopeHold = false ∧
    (up.tile 0).phi < 16 ∧ up.boot.pwrGood = true ∧ 110 ≤ maxNat [40, 111] ∧ maxNat [40, 106] < 110 ∧
    windowOver.power.windowEnded = some (true, 2) ∧ windowOver.power.thermalHold ≤ 1 ∧ windowHeld.power.windowEnded = some (true, 2) ∧ 1 < windowHeld.power.thermalHold := by decide +kernel
theorem test_Power :
    (nextHas (exec (.powerSample 1900000 1450 480) up) fun t => t.power.energyAcc == 1900000 && t.power.limits.getD 0 16 == 12) = true ∧
    (nextHas (exec .clockStep (clocked 16 12)) fun t => t.power.clk == 15) = true ∧
    (nextHas (exec .clockStep (clocked 12 16)) fun t => t.power.clk == 13) = true ∧
    (nextHas (exec (.phiStep 0 true 3) up) fun t => (t.tile 0).phi == 1) = true ∧
    (nextHas (exec (.phiStep 0 false 3) up) fun t => (t.tile 0).phi == 0) = true ∧
    (nextHas (exec (.dieSensorRead [40, 111]) up) fun t => t.boot.thermTrip && !t.boot.pwrGood && t.flash.tripDegC == 111 && t.flash.trips == 1 && t.flash.tripTime == up.etime && t.flash.tripSensor == hottest [40, 111]) = true ∧
    (nextHas (exec (.dieSensorRead [40, 106]) up) fun t => t.power.dieState == 3) = true ∧
    (nextHas (exec .observationWindowEnd windowOver) fun t => t.power.windowEnded == none && t.power.thermalView == 2) = true ∧
    (nextHas (exec .observationWindowEnd windowHeld) fun t => t.power.windowEnded == none && t.power.thermalView == up.power.thermalView && t.power.thermalHold == 6) = true := by decide +kernel
theorem test_Power2 :
    (match exec (.powerSample 1 1 651) up with | .fault _ => true | _ => false) = true := by decide +kernel

def hanging : State :=
  let s := shaped (cv .running)
  let s := { s with alm := { s.alm with watches := [{ watch0 with deadline := some 0 }] }, time := { s.time with epochs := 20 } }
  s.setVal 0xB002 1 (Blob.record [(2, 2), (2, 2), (4, 0), (8, 1000000)])
def stalled : State :=
  let s := hanging.updTile 0 fun x => { x with cuvee := 1, act := .running }
  { s with time := { s.time with epochStart := 9000000 } }
def missing : State := hanging.updCuvee 1 fun v => { v with missRun := 2 }
def engine0 : Engine := ⟨0, 1⟩
theorem wit_Hangs : (hanging.cuvee 1).live = true ∧ (hanging.cuvee 1).quiesce = none ∧
    hanging.watch 7 = some watch0 ∧ (hanging.val 0xB002 1).get 0 2 ≠ 0 ∧ 0 + 4096 * (hanging.val 0xB002 1).get 0 2 ≤ hanging.slotCount ∧
    (stalled.tile 0).act = .running ∧ (stalled.tile 0).cuvee = 1 ∧
    decide (((stalled.val 0xB002 1).get 8 8 : Nat) ≤ stalled.slotStart stalled.time.slot - (stalled.tile 0).progress) = true ∧
    (missing.val 0xB002 1).get 2 2 ≤ (missing.cuvee 1).missRun ∧ missing.coresOf 1 = [] ∧ engine0.kind ≤ 3 ∧
    up.faults.engines.getD (engineKey engine0) 0 = 0 := by decide +kernel
def suspected : State := match exec (.sharedEngineFault engine0) up with | .next t => t | _ => up
theorem wit_Suspects : (suspected.faults.suspects.find (engineKey engine0)).isSome = true := by decide +kernel
theorem test_Suspects :
    ([(Instr.hangDeadline 7, hanging), (.hangStall 0, stalled), (.hangWatchdog 1, missing)].map fun x => nextHas (exec x.1 x.2) fun t => (t.cuvee 1).faultNext && (t.cuvee 1).faults == 1 && (t.cuvee 1).state == .running).all id = true ∧
    (nextHas (exec (.sharedEngineFault engine0) up) fun t => t.faults.engines.find (engineKey engine0) == some 1 && t.faults.suspects.find (engineKey engine0) == some (up.time.now, up.slotCount, up.suspectsOf engine0)) = true ∧
    (nextHas (exec (.replayDone engine0 .transient) suspected) fun t => t.faults.engines.getD 1 0 == 0 && t.faults.suspects.find 1 == none) = true ∧
    (nextHas (exec (.replayLimit engine0) suspected) fun t => t.faults.engines.getD 1 0 == 2 && t.faults.suspects.find 1 == none) = true := by decide +kernel

/-- `completed`, as a test. -/
def done (t : State) (c : Nat) (j : Job) (r : Nat) : Bool :=
  match (t.ring c j.pair).ready.getLast? with
  | some b => b.get 0 8 == jbRequest j && b.get 9 1 == r
  | none => false
/-- A request of ring pair 0: kind, model, flags, request number; a CONTROL entry's subcode and option; three words from byte 24. -/
def jobOf (kind sub opt a b c : Nat) : Job :=
  { (default : Job) with entry := Blob.record [(1, kind), (1, 0), (2, 0), (4, 0), (8, 77), (1, sub), (1, opt), (6, 0), (8, a), (8, b), (8, c), (16, 0)] }
/-- Cuvee 1 runs with tile 0, ring pair 0 READY, and its serving loop as given. -/
def served (f : Serving → Serving) : State :=
  let s := shaped { cv .running with rings := [(0, { (default : Ring) with n := 64, state := 1 })], serving := f (default : Serving) }
  { s with time := { s.time with epochs := 5 } }.updTile 0 fun x => { x with cuvee := 1 }
def textJob : Job := jobOf 1 0 0 0 0 0
def frameJob : Job := jobOf 2 0 0 0 0 0
def tensorJob : Job := jobOf 3 0 0 0 0 0
def prefetchJob : Job := jobOf 4 0x10 0 0 0 0
def adviseJob : Job := jobOf 4 0x11 3 65536 65536 65536
theorem wit_Fetched : (served fun v => { v with newJobs := [textJob] }).takeNew (fun j => jbKind j == 1) =
      some (1, textJob, served fun v => { v with newJobs := [] }) ∧
    ((served fun v => { v with newJobs := [tensorJob] }).takeNew (fun j => jbKind j == 3)).isSome = true ∧
    ((served fun v => { v with newJobs := [frameJob] }).takeNew (fun j => jbKind j == 2)).isSome = true ∧
    ([] : List Job).length ≤ smDepth ((served fun v => { v with newJobs := [frameJob] }).stream 1 0) ∧
    smDepth ((served fun v => { v with newJobs := [frameJob] }).stream 1 0) < [frameJob].length ∧
    ((served id).ring 1 0).state ≠ 0 ∧ jbOpt prefetchJob = 0 ∧
    ((served fun v => { v with newJobs := [prefetchJob] }).takeNew (fun j => jbKind j == 4 && jbSub j == 0x10)).isSome = true ∧
    (((served fun v => { v with newJobs := [] }).jobBegin 1 2 0x10 0 0 0).courierCopy 1 0 0 0 0 []).1 = none ∧ jbOpt adviseJob = 3 ∧
    ((served fun v => { v with newJobs := [adviseJob] }).takeNew (fun j => jbKind j == 4 && jbSub j == 0x11)).isSome = true := by
  decide +kernel
theorem test_Fetched :
    (nextHas (exec .textSequence (served fun v => { v with newJobs := [textJob] })) fun t => (t.cuvee 1).serving.waiting == [textJob] && (t.cuvee 1).serving.newJobs == []) = true ∧
    (nextHas (exec .tensorJob (served fun v => { v with newJobs := [tensorJob] })) fun t => (t.cuvee 1).serving.waiting == [tensorJob] && (t.cuvee 1).serving.newJobs == []) = true ∧
    (nextHas (exec .frame (served fun v => { v with newJobs := [frameJob] })) fun t => (t.cuvee 1).serving.streamQ.getD 0 [] == [frameJob]) = true ∧
    (nextHas (exec .frame (served fun v => { v with newJobs := [frameJob], streamQ := [(0, [frameJob])] })) fun t => (t.cuvee 1).serving.streamQ.getD 0 [] == [frameJob] && done t 1 frameJob 9) = true ∧
    (nextHas (exec (.prefetch []) (served fun v => { v with newJobs := [prefetchJob] })) fun t => done t 1 prefetchJob 0) = true ∧
    (nextHas (exec .advise (served fun v => { v with newJobs := [adviseJob] })) fun t => done t 1 adviseJob 0 && (t.cuvee 1).serving.advice == [(65536, 65536, 65536, 3, 6)]) = true := by decide +kernel

/-- The header of a bottle of a tensor model, BOTTLE_ID 99, whose content is its 64 B recipe, with one binding entry. -/
def header0 : Blob :=
  ⟨256, 0x42543947 + 2 ^ 32 + 2 ^ 48 * 256 + 2 ^ 64 * 99 + 2 ^ 224 + 2 ^ 232 * 3 + 2 ^ 256 * 64 + 2 ^ 320 * 64 + 2 ^ 352⟩
/-- A CONTROL entry that is due. -/
def due (j : Job) (f : Serving → Serving) : State := served fun v => { f v with control := [j] }
def cancelJob : Job := jobOf 4 1 0 77 0 0
def loadJob : Job := jobOf 4 2 0 0 0 (bottleBytes header0)
def unloadJob : Job := jobOf 4 3 0 0 0 0
def placeJob : Job := jobOf 4 4 0 (2 ^ 16) 0 0
def placement0 : Placement := { (default : Placement) with tiles := 1 }
def recipe0 (kind : Nat) : Recipe := { (default : Recipe) with magic := 0x45523947, version := 1, kind := kind, placements := [placement0] }
def model0 (st kind : Nat) : Model := { (default : Model) with state := st, recipe := recipe0 kind }
def passed : BottleFindings := ⟨toBytes 256 header0.val, some 0, true, true, true, true, recipe0 3⟩
def failed : BottleFindings := { passed with owner := false }
def unsigned_ : BottleFindings := { passed with signed := false }
/-- Cuvee 1 reads its first page of VA at a host window. -/
def bottled : State :=
  let s := (((due loadJob id).setVal 0x5040 1 (Blob.scalar 8 (2 ^ 63))).setVal 0x5006 1 ⟨512, 2 ^ 63⟩).setVal 0xA004 1 ⟨32, 1⟩
  let s := s.setVal 0x5041 1 ⟨2048, 2 ^ 255 + 2 ^ 254 + 2 ^ 253⟩
  let e := fun (off : Nat) => 2 ^ 63 + 2 ^ 61 + 2 ^ 60 + off
  let s := (((s.hbmWrite 0 0 (toBytes 8 (e 4096))).hbmWrite 0 4096 (toBytes 8 (e 8192))).hbmWrite 0 8192 (toBytes 8 (e 12288))).hbmWrite 0 12288
    (toBytes 8 (e (2 ^ 62 + 2 ^ 58)))
  let s := s.updParcel 0 fun x => { x with present := !x.present }
  { s with muster := { s.muster with parcels := 1, pcMap := [(0, 0)] } }
def withModel (m : Model) (f : Serving → Serving) : State := served fun v => { f v with models := [(0, m)] }
def starving : Seq := { (default : Seq) with leftOut := 9 }
theorem wit_Control : (due cancelJob fun v => { v with waiting := [textJob] }).controlDue 1 = some (1, cancelJob) ∧
    isTarget cancelJob.pair (cancelJob.entry.get 24 8) textJob = true ∧ (due cancelJob id).controlDue 1 = some (1, cancelJob) ∧
    ((due cancelJob id).ring 1 0).state ≠ 0 ∧ (due loadJob id).controlDue 2 = some (1, loadJob) ∧ (due loadJob id).model 1 0 = none ∧
    bottled.controlDue 2 = some (1, loadJob) ∧ bottled.model 1 0 = none ∧ (bottled.ring 1 0).state ≠ 0 ∧
    ((bottled.controlDone 1).openBottle 1 loadJob failed).1.toOption = some (3, header0) ∧
    ((bottled.controlDone 1).openBottle 1 loadJob passed).1.toOption = some (0, header0) ∧
    (((bottled.controlDone 1).openBottle 1 loadJob passed).2.install 1 0 passed.recipe loadJob).1 = 0 ∧
    (due unloadJob fun v => { v with models := [(0, model0 2 1)] }).controlDue 3 = some (1, unloadJob) ∧
    ((due unloadJob fun v => { v with models := [(0, model0 2 1)] }).controlDone 1).modelBusy 1 0 (model0 2 1) = false ∧
    (due placeJob fun v => { v with models := [(0, model0 2 1)] }).controlDue 4 = some (1, placeJob) ∧
    firstIdx (fun (q : Placement) => q.tiles == bits (placeJob.entry.get 24 8) 27 16) (model0 2 1).recipe.placements = some 0 ∧
    bits (placeJob.entry.get 24 8) 10 0 + bits (placeJob.entry.get 24 8) 27 16 ≤ ((due placeJob id).cvTiles 1).length ∧
    groupBeyond placement0 0 ((due placeJob id).cvTiles 1).length = false ∧
    (withModel { model0 1 1 with loadJob := some loadJob } id).model 1 0 = some { model0 1 1 with loadJob := some loadJob } ∧
    ((withModel { model0 1 1 with loadJob := some loadJob } id).cuvee 1).live = true ∧
    (((withModel { model0 1 3 with loadJob := some loadJob } id).bottleJobs 1 0 true).writePieces 1 0 (recipe0 3).weights).1 = none ∧
    unsigned_.signed = false ∧ starving.prompt = [] ∧ 8 ≤ starving.leftOut := by
  decide +kernel
def eqNat (a b : Nat) : Bool := a == b
theorem test_Control :
    (nextHas (exec .controlCancel (due cancelJob fun v => { v with waiting := [textJob] })) fun t => (t.cuvee 1).serving.waiting == [] && done t 1 cancelJob 0) = true ∧
    (nextHas (exec .controlCancel (due cancelJob id)) fun t => done t 1 cancelJob 0x0A) = true ∧
    (nextHas (exec (.loadModel failed) bottled) fun t => done t 1 loadJob 0x0B && t.model 1 0 == none) = true ∧
    (nextHas (exec (.loadModel passed) bottled) fun t => (match t.model 1 0 with | some m => m.state == 1 && m.recipe == recipe0 3 && m.loadJob == some loadJob && m.bottle == 99 | none => false)) = true ∧
    (nextHas (exec .unloadModel (due unloadJob fun v => { v with models := [(0, model0 2 1)] })) fun t => done t 1 unloadJob 0 && t.model 1 0 == none) = true ∧
    (nextHas (exec .place (due placeJob fun v => { v with models := [(0, model0 2 1)] })) fun t => done t 1 placeJob 0 && (match t.model 1 0 with | some m => m.nextPlace == some (0, 0) || (m.placement == 0 && m.base == 0 && m.nextPlace == none) | none => false)) = true ∧
    (nextHas (exec (.bottleLoadDone 1 0 unsigned_) (withModel { model0 1 1 with loadJob := some loadJob } id)) fun t => done t 1 loadJob 0x0B && t.model 1 0 == none) = true ∧
    (nextHas (exec (.bottleLoadDone 1 0 passed) (withModel { model0 1 1 with loadJob := some loadJob } id)) fun t => done t 1 loadJob 0 && (match t.model 1 0 with | some m => m.state == 2 && m.loadJob == none | none => false)) = true ∧
    (nextHas (exec (.stavesExhausted 1 0) (withModel { model0 2 1 with seqs := [starving] } id)) fun t => (match t.model 1 0 with | some m => m.seqs.all fun q => q.leftOut < 8 | none => false)) = true := by decide +kernel

def stepped : Model := { model0 2 3 with unsampled := 1, current := [{ tensorJob with started := true }] }
def paged (ready : Bool) : State :=
  let s := served id
  { s with alm := { s.alm with segs := [(1, { (default : Segment) with base := 64, length := 4, ready := ready })] }, time := { s.time with slot := 3968 } }
theorem wit_Steps : (withModel stepped id).model 1 0 = some stepped ∧ stepped.recipe.kind = 3 ∧ 0 < stepped.unsampled ∧
    (withModel stepped id).stepOver 1 (onCuvee stepped.groupBase (btGroup stepped)) (decide (2 ≤ stepped.unsampled)) = true ∧
    stepped.current.find? Job.started = some { tensorJob with started := true } ∧ jbKind tensorJob = 3 ∧
    ((served fun v => { v with outputs := [tensorJob] }).cuvee 1).serving.outputs = [tensorJob] ∧
    (paged false).pageCloseSlot 1 ≤ (paged false).time.slot ∧ ((paged false).cuvee 1).serving.closedAt ≠ some (paged false).time.epochs ∧
    ((paged false).seg 1).length ≠ 0 ∧ ((paged false).seg 1).ready = false ∧ ((paged false).cuvee 1).live = true := by decide +kernel
theorem test_Steps :
    (nextHas (exec (.stepComplete 1 0 [] []) (withModel stepped id)) fun t => (t.cuvee 1).serving.outputs == [{ tensorJob with started := true }] && (match t.model 1 0 with | some m => m.steps == 1 && m.unsampled == 0 && m.current == [] | none => false)) = true ∧
    (nextHas (exec (.stepComplete 1 0 [] []) (withModel { stepped with recipe := recipe0 1, current := [] } id)) fun t => (match t.model 1 0 with | some m => m.steps == 1 && m.unsampled == 0 | none => false)) = true ∧
    (nextHas (exec (.outputCopyDone 1) (served fun v => { v with outputs := [tensorJob] })) fun t => (t.cuvee 1).serving.outputs == []) = true ∧
    (nextHas (exec (.pageClose 1) (paged false)) fun t => (t.cuvee 1).serving.closedAt == some 5) = true ∧
    (nextHas (exec (.nextPageComplete 1 [3, 2 ^ 128 + 9]) (paged false)) fun t => (t.seg 1).ready && !(t.seg 1).curPage && (List.range 4).all fun i => t.row ((paged false).seg 1 |>.nextPage |> (· + i)) < 2 ^ 128) = true := by decide +kernel

def switchIn : SwitchIn := ⟨0, 7, 2, 0, 0⟩
def switching0 : State := withModel (model0 2 1) fun v => { v with switching := [(255, switchIn)] }
def preempting : State := withModel (model0 2 1) fun v => { v with preempts := [(255, [1])] }
theorem wit_Switching : (switching0.cuvee 1).quiesce = none ∧ (switching0.cuvee 1).live = true ∧
    (switching0.cuvee 1).serving.switching.find 255 = some switchIn ∧ switching0.model 1 switchIn.model = some (model0 2 1) ∧
    switching0.groupTiles 1 255 = [0] ∧ (switching0.tile 0).switchable = true ∧ (switching0.tile 0).act ≠ .faulted ∧
    (preempting.cuvee 1).serving.preempts.find 255 = some [1] ∧ preempting.groupBusy 1 255 = false ∧
    (preempting.cuvee 1).serving.switching.find 255 = none := by decide +kernel
theorem test_Switching :
    (nextHas (exec (.switchDone 1 255) switching0) fun t => (t.cuvee 1).serving.switching.find 255 == none && (t.tile 0).act == .running && (t.tile 0).entry == 7 && (t.tile 0).runTag == 2) = true ∧
    (nextHas (exec (.preemptedResume 1 255) preempting) fun t => (t.cuvee 1).serving.preempts.find 255 == none) = true := by decide +kernel

/-- Cuvee 1 serves group 5; route 0 leads to device 9 by port 2, which is UP; link window 0 is cuvee 1's way there. -/
def linked (f : Serving → Serving) : State :=
  let s := served f
  let s := (s.setVal 0x3018 1 (Blob.scalar 4 (2 ^ 31 + 5))).setVal 0x6005 1 ⟨1024, 2 ^ 31 + 2 * 2 ^ 24 + 9⟩
  let s := (s.setVal 0x5042 1 ⟨32, 2 ^ 255 + 9 * 2 ^ 204⟩).setVal 0x6000 1 (Blob.scalar 2 7)
  (s.updPort 2 fun p => { p with state := 3 }).updCuvee 1 id
def offerJob : Job := jobOf 4 0x30 0 3 0 0
def fetchJob : Job := jobOf 4 0x31 0 3 0 0
def freeJob : Job := jobOf 4 0x32 0 3 0 0
def caskIn (st : Nat) : Cask := { (default : Cask) with state := st, uid := 44, vintage := 6 }
def lw0 : Nat := 2 ^ 255 + 9 * 2 ^ 204
def offering (j : Job) : State := linked fun v => { v with control := [j], casks := [(3, caskIn 1)], models := [(0, model0 2 1)] }
def timed (st : Nat) : State := linked fun v => { v with casks := [(3, caskIn st)], fetches := [⟨fetchJob, 3, 0, 0, none⟩] }
theorem wit_Casks : ((offering offerJob).ring 1 0).state ≠ 0 ∧ (offering offerJob).group 1 ≠ 0 ∧
    (offering offerJob).linkWindow 1 0 = lw0 ∧ (offering offerJob).controlDue 0x30 = some (1, offerJob) ∧
    (offering offerJob).cask 1 3 = some (caskIn 1) ∧ (offering offerJob).caskHeld 1 3 = false ∧ (offering offerJob).logPlace 1 = some 0 ∧
    (offering offerJob).model 1 0 = some (model0 2 1) ∧ bit lw0 255 = true ∧
    bit ((offering offerJob).routeEntry (bits lw0 223 216)) 31 = true ∧
    bits ((offering offerJob).routeEntry (bits lw0 223 216)) 11 0 = bits lw0 215 204 ∧
    (offering offerJob).egress ((offering offerJob).routeEntry (bits lw0 223 216)) = some 2 ∧
    (offering fetchJob).controlDue 0x31 = some (1, fetchJob) ∧ (offering freeJob).controlDue 0x32 = some (1, freeJob) ∧
    ((timed 2).cuvee 1).live = true ∧ (timed 2).cask 1 3 = some (caskIn 2) ∧ (caskIn 4).queries < (timed 4).num 0x6010 4 ∧
    ((timed 4).setVal 0x6010 4 (Blob.scalar 2 0)).num 0x6010 4 ≤ (caskIn 4).queries ∧
    ((timed 4).cuvee 1).serving.fetches.find? (fun f => f.cask.isNone && jbRequest f.job == 77) = some ⟨fetchJob, 3, 0, 0, none⟩ := by
  decide +kernel
theorem test_Casks :
    (nextHas (exec .caskOffer (offering offerJob)) fun t => (match t.cask 1 3 with | some y => y.state == 2 && y.peer == 9 && y.vintage == 6 && y.port == 2 | none => false)) = true ∧
    (nextHas (exec .caskFetch (offering fetchJob)) fun t => (t.cuvee 1).serving.fetches == [⟨fetchJob, 3, 0, 0, none⟩] && (match (t.port 2).ctl with | [.cask m] => m.sub == 6 && m.dst == 9 | _ => false)) = true ∧
    (nextHas (exec .caskFree (offering freeJob)) fun t => t.cask 1 3 == none && done t 1 freeJob 0) = true ∧
    (nextHas (exec (.offerTimeout 1 3) (timed 2)) fun t => (match t.cask 1 3 with | some y => y.state == 1 && y.vintage == 7 | none => false)) = true ∧
    (nextHas (exec (.acceptTimer 1 3) (timed 4)) fun t => (match t.cask 1 3 with | some y => y.state == 4 && y.queries == 1 | none => false)) = true ∧
    (nextHas (exec (.acceptTimer 1 3) ((timed 4).setVal 0x6010 4 (Blob.scalar 2 0))) fun t => (match t.cask 1 3 with | some y => y.state == 5 | none => false)) = true ∧
    (nextHas (exec (.fetchTimeout 1 77) (timed 4)) fun t => (t.cuvee 1).serving.fetches == [] && done t 1 fetchJob 2) = true := by decide +kernel

def cmsg (sub : Nat) : CaskMsg := { (default : CaskMsg) with sub := sub, src := 9, dst := 7, group := 5, uid := 44, vintage := 7, offerer := 3 }
def heard (m : LinkMsg) (s : State) : State := s.updPort 2 fun p => { p with inbox := [m] }
def handed (st : Nat) (m : CaskMsg) : State :=
  heard (.cask m) (linked fun v => { v with casks := [(3, { caskIn st with vintage := if st = 2 then 6 else 7 })], models := [(0, model0 2 1)] })
/-- An offer with its stream's header: 64 B at port 2, tag 0, through inbound window 0, on present parcel 0. -/
def head0 : List Byte := toBytes 64 0
def window0 : Nat := 2 ^ 127 + 2 ^ 126 + 2 ^ 125 + 9 * 2 ^ 112 + 5 * 2 ^ 100 + 1 * 2 ^ 92 + 2 ^ 64
def offered : State :=
  let s := handed 5 (cmsg 0)
  let s := s.setVal 0x5050 1 ⟨16, window0⟩
  let s := { s with muster := { s.muster with parcels := 1, pcMap := [(0, 0)] } }
  s.updPort 2 fun p => { p with xfers := [{ (default : LinkXfer) with req := { (default : LinkRequest) with op := 4, src := 9, group := 5 }, data := head0 }] }
theorem wit_HandOver : (.cask (cmsg 1)) ∈ ((handed 2 (cmsg 1)).port 2).inbox ∧ (cmsg 1).dst = (handed 2 (cmsg 1)).deviceId ∧
    (handed 2 (cmsg 1)).groupCuvee (cmsg 1).group = some 1 ∧ ((handed 2 (cmsg 1)).cuvee 1).live = true ∧
    (∃ x, (handed 2 (cmsg 1)).cask 1 (cmsg 1).offerer = some x ∧ x.state = 2 ∧ x.uid = (cmsg 1).uid ∧ x.vintage + 1 = (cmsg 1).vintage) ∧
    (handed 4 (cmsg 3)).incoming 1 (cmsg 3) = some (3, { caskIn 4 with vintage := 7 }) ∧ (cmsg 5).code = 0 ∧
    ((handed 4 (cmsg 4)).routeTo (cmsg 4).src).bind (handed 4 (cmsg 4)).egress = some 2 ∧
    (offered.linkXfer 2 false (cmsg 0).xtag).isSome = true ∧ offered.offerWindowOk 2 1 (cmsg 0) = true ∧ 64 ≤ head0.length ∧
    offered.offerCode 1 (cmsg 0) ⟨64, ofBytes (head0.take 64)⟩ = 0 := by
  refine ⟨by decide +kernel, by decide +kernel, by decide +kernel, by decide +kernel,
    ⟨caskIn 2, by decide +kernel, by decide +kernel, by decide +kernel, by decide +kernel⟩, ?_⟩
  decide +kernel
theorem test_HandOver :
    (nextHas (exec (.accept 2 (cmsg 1)) (handed 2 (cmsg 1))) fun t => t.cask 1 3 == none) = true ∧
    (nextHas (exec (.decline 2 (cmsg 2)) (handed 2 (cmsg 2))) fun t => (match t.cask 1 3 with | some y => y.state == 1 && y.vintage == 6 | none => false)) = true ∧
    ([(Instr.caskRelease 2 (cmsg 3), 3), (.answer 2 (cmsg 5), 5)].map fun x => nextHas (exec x.1 (handed 4 (cmsg x.2))) fun t => (match t.cask 1 3 with | some y => y.state == 1 && y.vintage == 7 | none => false)).all id = true ∧
    (nextHas (exec (.caskQuery 2 (cmsg 4)) (handed 4 (cmsg 4))) fun t => (match (t.port 2).ctl with | [.cask a] => a.sub == 5 && a.dst == 9 && a.uid == 44 && a.vintage == 7 && a.code == 2 | _ => false)) = true ∧
    (nextHas (exec (.fetch 2 (cmsg 6)) (handed 4 (cmsg 6))) fun t => (t.cuvee 1).serving.serves == [(9, 3, 0, (handed 4 (cmsg 6)).slotCount)]) = true ∧
    (nextHas (exec (.offer 2 (cmsg 0)) offered) fun t => t.cuvees.any fun c => c.2.serving.casks.any fun e => e.2.uid == 44 && e.2.vintage == 7 && e.2.peer == 9 && e.2.peerCask == 3 && e.1 != 3) = true := by decide +kernel

/-- Port 2 as given. -/
def port2 (f : LinkPort → LinkPort) : State := (up.updPort 2 f).setVal 0x6000 1 (Blob.scalar 2 7)
def inState (n : Nat) : State := (port2 fun p => { p with state := n }).setVal 0x6001 3 (Blob.scalar 1 1)
def flit0 (seq : Nat) : Flit := { (default : Flit) with seq := seq, verifies := true }
/-- The check value of CRC-64/ECMA-182: its CRC of "123456789". -/
theorem test_crc64 : Machine.crcResult 1 (([0x31, 0x32, 0x33, 0x34, 0x35, 0x36, 0x37, 0x38, 0x39] : List Nat).foldl (Machine.crcByte 1)
    (Machine.crcStart 1 0)) = 0x6C40DF5F0B497347 := by decide +kernel
def finished : KeyMsg := { (default : KeyMsg) with step := 5, last := true, verifies := true }
theorem wit_Ports : up.hears askA = true ∧ askA.path = .pf up.dict.steward ∧ (inState 0).num 0x6001 3 = 1 ∧
    ((inState 0).port 2).state = 0 ∧ ((inState 3).port 2).state ≠ 5 ∧ ((inState 1).port 2).state = 1 ∧ ((inState 4).port 2).state = 4 ∧
    4 ≤ ((List.range 5).filter (15).testBit).length ∧ ((List.range 5).filter (7).testBit).length < 4 ∧ (inState 1).deviceId ≠ 0 ∧
    1 ≠ ((inState 3).port 2).spare ∧ ((inState 3).port 2).recent = [] ∧
    (.key finished) ∈ ((port2 fun p => { p with state := 2, keyStep := 5, inbox := [.key finished] }).port 2).inbox ∧
    ((port2 fun p => { p with state := 3, keyCount := 2 ^ 32 - 2 ^ 16 }).port 2).rekeying = false ∧ ((inState 3).port 2).replay = [] ∧
    0 < (inState 3).cycle ∧ (flit0 0).seq = ((inState 3).port 2).nextRx ∧ (flit0 1).seq ≠ ((inState 3).port 2).nextRx ∧
    (flit0 0).nak = false ∧ ((inState 3).port 2).accepts (flit0 0) = true ∧ ((inState 3).port 2).accepts (flit0 1) = true := by decide +kernel
theorem test_Ports :
    (nextHas (exec (.portEnable askA 2 false) (inState 3)) fun t => t.answered askA 0 && (t.port 2).state == 0 && t.num 0x6001 3 == 0) = true ∧
    (nextHas (exec (.signalDetect 2) (inState 0)) fun t => (t.port 2).state == 1 && (t.port 2).signal) = true ∧
    (nextHas (exec (.signalLoss 2) (inState 3)) fun t => (t.port 2).state == 0 && !(t.port 2).signal && (t.port 2).xfers == []) = true ∧
    (nextHas (exec (.trainingDone 2 15) (inState 1)) fun t => (t.port 2).state == 2) = true ∧
    (nextHas (exec (.trainingDone 2 7) (inState 4)) fun t => (t.port 2).state == 5 && (t.port 2).cause == 1) = true ∧
    (nextHas (exec (.laneFailure 2 1) (inState 3)) fun t => (t.port 2).state == 4 && (t.port 2).cause == 1 && (t.port 2).retrains == 1) = true ∧
    (nextHas (exec (.key 2 finished) (port2 fun p => { p with state := 2, keyStep := 5, inbox := [.key finished] })) fun t => (t.port 2).state == 3 && (t.port 2).credits == [256,256,256,256] && (t.port 2).keyCount == 0 && (t.port 2).keyFails == 0) = true ∧
    (nextHas (exec (.rekeyDue 2) (port2 fun p => { p with state := 3, keyCount := 2 ^ 32 - 2 ^ 16 })) fun t => (t.port 2).rekeying && (t.port 2).state == 3) = true := by decide +kernel
theorem test_Ports2 :
    ([0, 1].map fun k => nextHas (exec (.flitReceive 2 { flit0 0 with kind := k }) (inState 3)) fun t => (t.port 2).nextRx == 1 && !(t.port 2).nak).all id = true ∧
    ([0, 1].map fun k => nextHas (exec (.flitReceive 2 { flit0 1 with kind := k }) (inState 3)) fun t => (t.port 2).nextRx == 0 && (t.port 2).nak && (t.port 2).inbox == []).all id = true ∧
    (nextHas (exec (.controlFlitSend 2) (inState 3)) fun t => (match (t.port 2).replay with | f :: _ => f.kind == 0 && f.seq == ((inState 3).port 2).nextTx && f.ack == ((inState 3).port 2).nextRx && f.credits == ((inState 3).port 2).owed | _ => false)) = true ∧
    (nextHas (exec (.timeSend 2) (inState 3)) fun t => (match (t.port 2).ctl with | [.time m] => m.e == (inState 3).time.e % 2 ^ 40 | _ => false) && (t.port 2).sentAt == (inState 3).time.now) = true := by decide +kernel

/-- Cuvee 1's inbound window 0 for device 9, and a request for it. -/
def lreq (op : Nat) : LinkRequest := { (default : LinkRequest) with op := op, src := 9, dst := 7, group := 5, length := if op = 3 then 0 else 4 }
def lxfer (op : Nat) : LinkXfer := { (default : LinkXfer) with req := lreq op, data := [1, 2, 3, 4] }
def inbound0 (op : Nat) : State :=
  let s := served id
  let s := ((s.setVal 0x3018 1 (Blob.scalar 4 (2 ^ 31 + 5))).setVal 0x6000 1 (Blob.scalar 2 7)).setVal 0x5050 1 ⟨16, 2 ^ 127 + 2 ^ 126 + 2 ^ 125 + 9 * 2 ^ 112 + 5 * 2 ^ 100 + 1 * 2 ^ 92 + 2 ^ 64⟩
  -- A root table at set 0, offset 0, whose first entry leads to tables that end in a 64 KiB leaf at offset 2^20.
  let s := (s.setVal 0x5040 1 (Blob.scalar 8 (2 ^ 63))).setVal 0x5006 1 ⟨512, 2 ^ 63⟩
  let e := fun (off leaf : Nat) => 2 ^ 63 + leaf * 2 ^ 62 + 2 ^ 61 + 2 ^ 60 + off
  let s := (((s.hbmWrite 0 0 (toBytes 8 (e 4096 0))).hbmWrite 0 4096 (toBytes 8 (e 8192 0))).hbmWrite 0 8192 (toBytes 8 (e 12288 0))).hbmWrite 0 12288 (toBytes 8 (e (2 ^ 20) 1))
  let s := { s with muster := { s.muster with parcels := 1, pcMap := [(0, 0)] } }
  let s := s.each [0, (s.portParcel 2).getD 0] fun s p => s.updParcel p fun x => { x with temp := 30 }
  s.updPort 2 fun p => { p with state := 3, inbox := [.request (lreq op)], xfers := [lxfer op] }
def mine0 : LinkXfer := { lxfer 0 with mine := true, open_ := true }
def sending : State := inbound0 0 |>.updPort 2 fun p => { p with inbox := [.done ⟨0, 0, 0, 9, 7, 5, 4⟩], xfers := [mine0] }
theorem wit_LinkTransfers : ((inbound0 0).takeMsg 2 (.request (lreq 0))).isSome = true ∧ (lreq 0).dst = (inbound0 0).deviceId ∧
    (inbound0 0).linkXfer 2 false 0 = some (lxfer 0) ∧ (inbound0 0).inboundOk 2 0 9 5 0 4 true = true ∧
    ((((inbound0 0).takeMsg 2 (.request (lreq 0))).getD up).inboundPlaces 1 0 0 true (rangeChunks 0 4)).1.isSome = true ∧ (lreq 0).length ≤ (lxfer 0).data.length ∧
    ((inbound0 3).takeMsg 2 (.request (lreq 3))).isSome = true ∧ (inbound0 3).linkXfer 2 false 0 = some (lxfer 3) ∧
    (inbound0 3).inboundOk 2 0 9 5 0 0 false = true ∧ ((((inbound0 3).takeMsg 2 (.request (lreq 3))).getD up).inboundPlaces 1 0 0 false (rangeChunks 0 0)).1.isSome = true ∧
    sending.linkXfer 2 true 0 = some mine0 ∧ (.done ⟨0, 0, 0, 9, 7, 5, 4⟩) ∈ (sending.port 2).inbox ∧ mine0.open_ = true ∧
    mine0.fwdPort = none ∧ mine0.req.op ≠ 4 ∧ (sending.cuvee mine0.cuvee).state ≠ .frozen ∧ (sending.cuvee mine0.cuvee).state ≠ .saved := by decide +kernel
theorem test_LinkTransfers :
    ([0, 1, 2].map fun op => nextHas (exec (.request 2 (lreq op)) (inbound0 op)) fun t => (t.port 2).ctl == [.done ⟨0, 0, 0, 7, 9, 5, 4⟩] && t.linkXfer 2 false 0 == none).all id = true ∧
    (nextHas (exec (.request 2 (lreq 0)) (inbound0 0)) fun t => t.hbmRead 0 (2 ^ 20) 4 == [1, 2, 3, 4]) = true ∧
    (nextHas (exec (.request 2 (lreq 3)) (inbound0 3)) fun t => (match t.linkXfer 2 false 0 with | some y => y.answer.isSome | none => false)) = true ∧
    (nextHas (exec (.done 2 ⟨0, 0, 0, 9, 7, 5, 4⟩) sending) fun t => t.linkXfer 2 true 0 == none) = true ∧
    (nextHas (exec (.transferClose 2 0) sending) fun t => (t.port 2).ctl == [.request mine0.req] && (match t.linkXfer 2 true 0 with | some y => !y.open_ | none => true)) = true ∧
    (nextHas (exec (.transferTimeout 2 0) sending) fun t => t.linkXfer 2 true 0 == none) = true := by decide +kernel

def hearing (m : LinkMsg) (f : LinkPort → LinkPort) : State := port2 fun p => f { p with state := 3, inbox := [m] }
def groupBar : GroupBarMsg := ⟨false, 0, 0, 9, 7, 5, 4⟩
def barred : State :=
  let s := (hearing (.barrier groupBar) id).setVal 0x6007 1 ⟨512, 2 ^ 63 + 2 ^ 62 + 5 * 2 ^ 30 + 4 * 2 ^ 12 + 1⟩
  { s with net := { s.net with barriers := [(1, { (default : Barrier) with cuvee := 1 })] } }
def marked : State :=
  let s := hearing (.mark ⟨1, 9, 0, 0⟩) id
  s.updCuvee 1 fun _ => { cv .running with quiesce := some { quiesce0 with begun := true, marks := [2, 4], scope := 1 } }
def squashing : State := hearing (.squash ⟨1, 0, 9, 7, 5⟩) fun p => { p with xfers := [lxfer 0, { mine0 with req := { mine0.req with dst := 9 }, xtag := 3 }] }
theorem wit_Messages : (.time ⟨4, 5, 6, 7⟩) ∈ ((hearing (.time ⟨4, 5, 6, 7⟩) id).port 2).inbox ∧ (.barrier groupBar) ∈ (barred.port 2).inbox ∧
    groupBar.dst = barred.deviceId ∧ (∃ e, barred.groupBarrierOf groupBar.group groupBar.gbar = some e ∧ bit e 62 ≠ groupBar.release ∧
      (barred.barrier (bits e 11 0)).isSome = true) ∧ (.mark ⟨1, 9, 0, 0⟩) ∈ (marked.port 2).inbox ∧ 1 ∈ marked.existing ∧
    (.squash ⟨1, 0, 9, 7, 5⟩) ∈ (squashing.port 2).inbox ∧ (squashing.port 2).xfers ≠ [] ∧
    (.flare ⟨3, 9, 5, 6⟩) ∈ ((hearing (.flare ⟨3, 9, 5, 6⟩) id).port 2).inbox ∧ (9, 6) ∉ (hearing (.flare ⟨3, 9, 5, 6⟩) id).links.handled := by
  refine ⟨by decide +kernel, by decide +kernel, by decide +kernel,
    ⟨2 ^ 63 + 2 ^ 62 + 5 * 2 ^ 30 + 4 * 2 ^ 12 + 1, by decide +kernel, by decide +kernel, by decide +kernel⟩, ?_⟩
  decide +kernel
theorem test_Messages :
    (nextHas (exec (.time 2 ⟨4, 5, 6, 7⟩ 12345) (hearing (.time ⟨4, 5, 6, 7⟩) id)) fun t => (t.port 2).lastPhase == 5 && (t.port 2).lastPhaseAt == 12345 && (t.port 2).inbox == []) = true ∧
    (nextHas (exec (.barrier 2 groupBar) barred) fun t => (match t.barrier 1 with | some r => r.members == [(0, 9)] | none => false)) = true ∧
    (nextHas (exec (.linkHolidayMark 2 ⟨1, 9, 0, 0⟩) marked) fun t => (match (t.cuvee 1).quiesce with | some q => q.marks == [4] | none => true)) = true ∧
    (nextHas (exec (.squash 2 ⟨1, 0, 9, 7, 5⟩) squashing) fun t => (t.port 2).xfers == []) = true ∧
    (nextHas (exec (.flare 2 ⟨3, 9, 5, 6⟩) (hearing (.flare ⟨3, 9, 5, 6⟩) id)) fun t => t.links.flares == 1 && (match t.links.flareLog.find 0 with | some b => b.get 0 2 == 9 && b.get 2 2 == 5 | none => false)) = true := by decide +kernel

def edged : State := { up with time := { up.time with running := true }, cad := { up.cad with lastEdge := some 100 } }
theorem wit_Edges : edged.time.running = true ∧ edged.cad.lastEdge = some 100 ∧ (50099 : Instant) - 100 < 50000 ∧
    (50000 : Instant) ≤ 50100 - 100 := by decide +kernel
theorem wit_PortCommands : (inState 3).hears askA = true ∧ askA.path = .pf (inState 3).dict.steward ∧ ((inState 3).port 2).state = 3 ∧
    ((inState 5).port 2).state = 5 ∧ ((inState 4).port 2).state = 4 ∧ ((inState 0).port 2).state ≠ 3 := by decide +kernel
theorem test_PortCommands :
    (nextHas (exec (.cadenceEdge 50099) edged) fun t => t.cad == { edged.cad with rejected := 1 } && t.objValue .manager 0x2001 6 == Blob.scalar 4 1) = true ∧
    (nextHas (exec (.cadenceEdge 50100) edged) fun t => t.cad.lastEdge == some 50100 && t.cad.divCount == if edged.cad.source = 0 then edged.cad.divCount + 1 else edged.cad.divCount) = true ∧
    (nextHas (exec (.retrain askA 2) (inState 3)) fun t => t.answered askA 0 && (t.port 2).state == 0) = true ∧
    (nextHas (exec (.retrain askA 2) (port2 fun p => { p with state := 3, signal := true })) fun t => t.answered askA 0 && (t.port 2).state == 1) = true ∧
    (nextHas (exec (.rekey askA 2) (inState 3)) fun t => t.answered askA 0 && (t.port 2).rekeying && (t.port 2).state == 3) = true ∧
    ([4, 5].map fun n => nextHas (exec (.portReset askA 2) (port2 fun p => { p with state := n, signal := true })) fun t => t.answered askA 0 && (t.port 2).state == 1).all id = true ∧
    ([0, 1, 2, 4, 5].map fun n => nextHas (exec (.rekey askA 2) (inState n)) fun t => t.answered askA 6 && t.links == (inState n).links && t.dict.pend == []).all id = true ∧
    ([0, 1, 2, 3].map fun n => nextHas (exec (.portReset askA 2) (inState n)) fun t => t.answered askA 6 && t.links == (inState n).links && t.dict.pend == []).all id = true := by decide +kernel
/-- A step of the block. -/
theorem wit_Block : up.boot.pwrGood = true ∧ 110 ≤ maxNat [111] ∧ up.memoryWf ∧ up.time.slot ≤ 4095 ∧
    ({ up with pending := [.missedBoundary] } : State).pending = .missedBoundary :: [] ∧ (∃ t, step { up with pending := [.clockStep] } = .next t) ∧
    (∃ t, exec (.read askA) up = .next t) ∧ (∃ t, exec (.create askA 1 rec0) up = .next t) ∧
    (∃ t, exec (.entryBoundary 0) (atEntry 0 id id) = .next t) ∧ (∃ t, exec (.cadenceEdge 50099) edged = .next t) ∧
    (∃ t, exec (.signalLoss 2) (inState 3) = .next t) :=
  ⟨rfl, by decide, ⟨rfl, rfl⟩, by decide, rfl, ⟨_, rfl⟩, ⟨_, rfl⟩, ⟨_, rfl⟩, ⟨_, rfl⟩, ⟨_, rfl⟩, ⟨_, rfl⟩⟩

/-! ## Well-formedness: one term per check that it refuses -/

theorem test_wellFormed_accepts : (Instr.write askA).wellFormed = true ∧ (Instr.create askA 254 rec0).wellFormed = true ∧
    (Instr.trellisWrite { (default : Packet) with bytes := 1, data := [7] } .clean).wellFormed = true ∧
    (Instr.flitReceive 11 default).wellFormed = true := by decide +kernel
theorem test_illFormed_requests : (Instr.read { askA with path := .vf .a 0 }).wellFormed = false ∧
    (Instr.read { askA with path := .vf .b 128 }).wellFormed = false ∧ (Instr.write { askA with data := ⟨1, 256⟩ }).wellFormed = false ∧
    (Instr.write { askA with sub := 256 }).wellFormed = false ∧ (Instr.write { askA with length := 2 ^ 32 }).wellFormed = false ∧
    (Instr.create askA 0 rec0).wellFormed = false ∧ (Instr.create askA 255 rec0).wellFormed = false ∧
    (Instr.freeze askA 1 { rec0 with slot := 4096 }).wellFormed = false ∧
    (Instr.doorbell ⟨.a, 1, 0, 0, 3, true⟩).wellFormed = false ∧ (Instr.feedB ⟨.a, 1, 0, 256, 1, true⟩).wellFormed = false ∧
    (Instr.flrVf .a 128).wellFormed = false ∧ (Instr.kSetGo .a 1 ⟨5, 0, true, 0⟩).wellFormed = false ∧
    (Instr.flashProgram askA 2 0 ⟨0, 0⟩).wellFormed = false ∧ (Instr.sessionAccept askA ⟨1, 256⟩ 0).wellFormed = false := by decide
theorem test_illFormed_units : (Instr.quiesceStart (.cuvee 0)).wellFormed = false ∧ (Instr.cut (.group 0)).wellFormed = false ∧
    (Instr.entryBoundary 2048).wellFormed = false ∧ (Instr.patrolScrub 512 0 .clean).wellFormed = false ∧
    (Instr.parcel askA 16).wellFormed = false ∧ (Instr.clusterPowerUp 144).wellFormed = false ∧
    (Instr.ack ⟨{ (default : Packet) with ty := 16 }, .clean⟩).wellFormed = false ∧
    (Instr.trellisWrite { (default : Packet) with bytes := 2, data := [7] } .clean).wellFormed = false ∧
    (Instr.barRelease 4096 0).wellFormed = false ∧ (Instr.barRelease 0 2).wellFormed = false ∧
    (Instr.flagSet 1 128 1).wellFormed = false ∧ (Instr.sharedEngineFault ⟨7, 0⟩).wellFormed = false := by decide
theorem test_illFormed_links : (Instr.signalDetect 12).wellFormed = false ∧
    (Instr.flitReceive 0 { (default : Flit) with bytes := 241 }).wellFormed = false ∧
    (Instr.request 0 { (default : LinkRequest) with length := 0 }).wellFormed = false ∧
    (Instr.done 0 { (default : LinkDone) with status := 8 }).wellFormed = false ∧
    (Instr.time 0 { (default : TimeMsg) with echo := 2 ^ 24 } 0).wellFormed = false ∧
    (Instr.barrier 0 { (default : GroupBarMsg) with gen := 2 }).wellFormed = false ∧
    (Instr.linkHolidayMark 0 { (default : MarkMsg) with scope := 4 }).wellFormed = false ∧
    (Instr.squash 0 { (default : SquashMsg) with reason := 4 }).wellFormed = false ∧
    (Instr.flare 0 { (default : FlareMsg) with ttl := 16 }).wellFormed = false ∧
    (Instr.key 0 { (default : KeyMsg) with port := 12 }).wellFormed = false ∧
    (Instr.offer 0 { (default : CaskMsg) with window := 4096 }).wellFormed = false := by decide

end Sys2Proof.Tests
end

/-! # What hardly any operation touches

The queue, estate time and the trip record change in a handful of operations only. `State.kept` names the three; below stands
one lemma per operation of the model, in the model's order, that says that it leaves them. An operation that takes one of
them further (the clock of events, the ticks, an epoch jump, loss of power) has its own lemma in the part after. -/

namespace Sys2Proof.Machine

/-- The trip record (R455). -/
def FlashSt.trip (f : FlashSt) : ETime × Nat × Nat × Nat := (f.tripTime, f.tripSensor, f.tripDegC, f.trips)

/-- What hardly any operation touches: the commands that wait (log 1), the clock of estate time (R38, R54) and the trip record
(R455). -/
def State.kept (s : State) : List Instr × TimeSt × ETime × Nat × Nat × Nat := (s.pending, s.time, s.flash.trip)

@[simp] theorem State.kept_mk (a b c d e f g h i j k l m n o p q r t u v w) :
    (State.mk a b c d e f g h i j k l m n o p q r t u v w).kept = (a, b, e.trip) := by simp [State.kept]
@[simp] theorem State.kept_eta (s : State) : (s.pending, s.time, s.flash.trip) = s.kept := by simp [State.kept]
@[simp] theorem FlashSt.trip_mk (a b c d e f g h i j k l m n o p q r) :
    (FlashSt.mk a b c d e f g h i j k l m n o p q r).trip = (o, p, q, r) := by simp [FlashSt.trip]
@[simp] theorem FlashSt.trip_eta (f : FlashSt) : (f.tripTime, f.tripSensor, f.tripDegC, f.trips) = f.trip := by simp [FlashSt.trip]
@[simp] theorem State.kept_ite (p : Prop) [Decidable p] (s t : State) :
    (if p then s else t).kept = if p then s.kept else t.kept := apply_ite ..

theorem State.foldl_kept {α : Type} (f : State → α → State) (l : List α) (s : State) (hf : ∀ s x, (f s x).kept = s.kept) :
    (l.foldl f s).kept = s.kept := State.each_frame State.kept f l s hf
@[simp] theorem State.each_kept {α : Type} (s : State) (l : List α) (f : State → α → State)
    (hf : ∀ s x, (f s x).kept = s.kept) : (s.each l f).kept = s.kept := State.each_frame State.kept f l s hf
@[simp] theorem FlashSt.setImage_trip (f : FlashSt) (slot : Nat) (l : List Byte) : (f.setImage slot l).trip = f.trip := by
  unfold FlashSt.setImage; split <;> simp
@[simp] theorem FlashSt.writeRecord_trip (f : FlashSt) (objs : List ObjWrite) : (f.writeRecord objs).trip = f.trip := by
  unfold FlashSt.writeRecord; extract_lets n second; split <;> simp

/-! ### Machine/Ops -/

@[simp] theorem State.setVal_kept (s : State) (i sub : Nat) (b : Blob) : (s.setVal i sub b).kept = s.kept := by
  simp [State.setVal]
@[simp] theorem State.unsetVal_kept (s : State) (i sub : Nat) : (s.unsetVal i sub).kept = s.kept := by simp [State.unsetVal]
@[simp] theorem State.setCuvee_kept (s : State) (c : Nat) (x : Cuvee) : (s.setCuvee c x).kept = s.kept := by
  simp [State.setCuvee]
@[simp] theorem State.updCuvee_kept (s : State) (c : Nat) (f : Cuvee → Cuvee) : (s.updCuvee c f).kept = s.kept := by
  simp [State.updCuvee]
@[simp] theorem State.setTile_kept (s : State) (t : Nat) (x : Tile) : (s.setTile t x).kept = s.kept := by simp [State.setTile]
@[simp] theorem State.updTile_kept (s : State) (t : Nat) (f : Tile → Tile) : (s.updTile t f).kept = s.kept := by
  simp [State.updTile]
@[simp] theorem State.updPc_kept (s : State) (k : Nat) (f : Pc → Pc) : (s.updPc k f).kept = s.kept := by simp [State.updPc]
@[simp] theorem State.updParcel_kept (s : State) (p : Nat) (f : ParcelSt → ParcelSt) : (s.updParcel p f).kept = s.kept := by
  simp [State.updParcel]
@[simp] theorem State.updPort_kept (s : State) (k : Nat) (f : LinkPort → LinkPort) : (s.updPort k f).kept = s.kept := by
  simp [State.updPort]
@[simp] theorem State.updHost_kept (s : State) (p : HostPort) (f : HostSt → HostSt) : (s.updHost p f).kept = s.kept := by
  unfold State.updHost; split <;> simp
@[simp] theorem State.fresh_kept (s : State) : s.fresh.2.kept = s.kept := by simp [State.fresh]
@[simp] theorem State.setHbm_kept (s : State) (m : List Host.Cell) : (s.setHbm m).kept = s.kept := by simp [State.setHbm]
@[simp] theorem State.setStore_kept (s : State) (m : List Host.Cell) : (s.setStore m).kept = s.kept := by simp [State.setStore]
@[simp] theorem State.storeWrite_kept (s : State) (t off : Nat) (bs : List Byte) : (s.storeWrite t off bs).kept = s.kept := by
  simp [State.storeWrite]
@[simp] theorem State.storePatch_kept (s : State) (t : Nat) (l : List (Nat × Byte)) : (s.storePatch t l).kept = s.kept := by
  simp [State.storePatch]
@[simp] theorem State.markWritten_kept (s : State) (k : Nat) (rs : List Nat) : (s.markWritten k rs).kept = s.kept := by
  simp [State.markWritten]
@[simp] theorem State.hbmWrite_kept (s : State) (k off : Nat) (bs : List Byte) : (s.hbmWrite k off bs).kept = s.kept := by
  simp [State.hbmWrite]
@[simp] theorem State.count_kept (s : State) (key n : Nat) : (s.count key n).kept = s.kept := by simp [State.count]
@[simp] theorem State.tally_kept (s : State) (c k n : Nat) : (s.tally c k n).kept = s.kept := by simp [State.tally]
@[simp] theorem State.hostWrite_kept (s : State) (p : HostPort) (fn addr : Nat) (bs : List Byte) (noSnoop : Bool)
    (tee : Option Nat) : (s.hostWrite p fn addr bs noSnoop tee).kept = s.kept := by
  simp [State.hostWrite]
@[simp] theorem State.landData_kept (s : State) (k : Nat) (owed : Bool) (f : Flit) : (s.landData k owed f).kept = s.kept := by
  simp [State.landData]
@[simp] theorem State.emit_kept (s : State) (o : Out) : (s.emit o).kept = s.kept := by simp [State.emit]
@[simp] theorem State.netError_kept (s : State) (i : Nat) : (s.netError i).kept = s.kept := by simp [State.netError]
@[simp] theorem State.copyPacket_kept (s : State) (p : Packet) : (s.copyPacket p).kept = s.kept := by simp [State.copyPacket]
@[simp] theorem State.inject_kept (s : State) (p : Packet) : (s.inject p).kept = s.kept := by simp [State.inject]
@[simp] theorem State.answer_kept (s : State) (p : Packet) (ty status : Nat) (data : List Byte) :
    (s.answer p ty status data).kept = s.kept := by
  simp [State.answer]
@[simp] theorem State.arrive_kept (s : State) (p : Packet) : (s.arrive p).kept = s.kept := by simp [State.arrive]
@[simp] theorem State.tendrilSend_kept (s : State) (node kind payload : Nat) :
    (s.tendrilSend node kind payload).kept = s.kept := by
  simp [State.tendrilSend]
@[simp] theorem State.signal_kept (s : State) (kind payload : Nat) : (s.signal kind payload).kept = s.kept := by
  simp [State.signal]
@[simp] theorem State.linkSend_kept (s : State) (k : Nat) (m : LinkMsg) : (s.linkSend k m).kept = s.kept := by
  simp [State.linkSend]

/-! ### Machine/Records -/

@[simp] theorem State.setBook_kept (s : State) (c : Nat) (b : Daybook) : (s.setBook c b).kept = s.kept := by
  simp [State.setBook]
@[simp] theorem State.bookTrigger_kept (s : State) (c src : Nat) (tag : Nat) : (s.bookTrigger c src tag).kept = s.kept := by
  simp [State.bookTrigger]
@[simp] theorem State.bookOffer_kept (s : State) (c : Nat) (recs : List Nat) : (s.bookOffer c recs).kept = s.kept := by
  simp [State.bookOffer]
@[simp] theorem State.daybook_kept (s : State) (c kind engine unit code tag arg0 arg1 arg2 : Nat) :
    (s.daybook c kind engine unit code tag arg0 arg1 arg2).kept = s.kept := by
  simp [State.daybook]
@[simp] theorem State.jobBegin_kept (s : State) (c engine code tag arg0 arg2 : Nat) :
    (s.jobBegin c engine code tag arg0 arg2).kept = s.kept := by
  simp [State.jobBegin]
@[simp] theorem State.jobEnd_kept (s : State) (c engine code tag arg0 status arg2 : Nat) :
    (s.jobEnd c engine code tag arg0 status arg2).kept = s.kept := by
  simp [State.jobEnd]
@[simp] theorem State.vintnerTask_kept (s : State) (c code slot items step : Nat) :
    (s.vintnerTask c code slot items step).kept = s.kept := by
  simp [State.vintnerTask]
@[simp] theorem State.cryptoJobs_kept (s : State) (c code : Nat) (chunks : List (Nat × Nat)) :
    (s.cryptoJobs c code chunks).kept = s.kept := by
  simp [State.cryptoJobs]
@[simp] theorem State.daybookPair_kept (s : State) (c code payload : Nat) : (s.daybookPair c code payload).kept = s.kept := by
  simp [State.daybookPair]
@[simp] theorem State.logEstate_kept (s : State) (b : Blob) : (s.logEstate b).kept = s.kept := by simp [State.logEstate]
@[simp] theorem State.logCuvee_kept (s : State) (c kind cls flags unit arg0 arg1 detail : Nat) (tileUnit : Bool) :
    (s.logCuvee c kind cls flags unit arg0 arg1 detail tileUnit).kept = s.kept := by
  simp [State.logCuvee]
@[simp] theorem State.logCorrected_kept (s : State) (key unit source n : Nat) :
    (s.logCorrected key unit source n).kept = s.kept := by
  simp [State.logCorrected]
@[simp] theorem State.sendSquash_kept (s : State) (c reason : Nat) : (s.sendSquash c reason).kept = s.kept := by
  simp [State.sendSquash]
@[simp] theorem State.raiseFlare_kept (s : State) (g : Nat) : (s.raiseFlare g).kept = s.kept := by simp [State.raiseFlare]
@[simp] theorem State.containedFault_kept (s : State) (c kind cls unit arg0 arg1 detail : Nat) (tileUnit : Bool) :
    (s.containedFault c kind cls unit arg0 arg1 detail tileUnit).kept = s.kept := by
  simp [State.containedFault]
@[simp] theorem State.plainFault_kept (s : State) (c kind cls unit arg0 arg1 detail : Nat) :
    (s.plainFault c kind cls unit arg0 arg1 detail).kept = s.kept := by
  simp [State.plainFault]
@[simp] theorem State.retireTile_kept (s : State) (t : Nat) : (s.retireTile t).kept = s.kept := by simp [State.retireTile]
@[simp] theorem State.retirePc_kept (s : State) (k : Nat) : (s.retirePc k).kept = s.kept := by simp [State.retirePc]
@[simp] theorem State.faultTile_kept (s : State) (t cause : Nat) (kind : Nat) (arg0 arg1 : Nat) :
    (s.faultTile t cause kind arg0 arg1).kept = s.kept := by
  simp [State.faultTile]
@[simp] theorem State.tdiError_kept (s : State) (c : Nat) : (s.tdiError c).kept = s.kept := by simp [State.tdiError]
@[simp] theorem State.meterEnd_kept (s : State) (c extra : Nat) (closing : Bool) :
    (s.meterEnd c extra closing).kept = s.kept := by
  simp [State.meterEnd]
@[simp] theorem State.meterOpen_kept (s : State) (c : Nat) (restored : Bool) : (s.meterOpen c restored).kept = s.kept := by
  simp [State.meterOpen]

/-! ### Machine/Almanac -/

@[simp] theorem State.updSeg_kept (s : State) (c : Nat) (f : Segment → Segment) : (s.updSeg c f).kept = s.kept := by
  simp [State.updSeg]
@[simp] theorem State.setRow_kept (s : State) (i r : Nat) : (s.setRow i r).kept = s.kept := by simp [State.setRow]
@[simp] theorem State.countSkip_kept (s : State) (c : Nat) : (s.countSkip c).kept = s.kept := by simp [State.countSkip]
@[simp] theorem State.countOverrun_kept (s : State) (c : Nat) : (s.countOverrun c).kept = s.kept := by simp [State.countOverrun]
@[simp] theorem State.countMalformed_kept (s : State) (c : Nat) : (s.countMalformed c).kept = s.kept := by
  simp [State.countMalformed]
@[simp] theorem State.updLedger_kept (s : State) (c : Nat) (f : LedgerC → LedgerC) : (s.updLedger c f).kept = s.kept := by
  simp [State.updLedger]
@[simp] theorem State.accrue_kept (s : State) (c : Nat) : (s.accrue c).kept = s.kept := by simp [State.accrue]
@[simp] theorem State.fillBuckets_kept (s : State) (c : Nat) : (s.fillBuckets c).kept = s.kept := by simp [State.fillBuckets]
@[simp] theorem State.queueRow_kept (s : State) (x : RowInst) : (s.queueRow x).kept = s.kept := by simp [State.queueRow]
@[simp] theorem State.admitRow_kept (s : State) (x : RowInst) : (s.admitRow x).kept = s.kept := by simp [State.admitRow]
@[simp] theorem State.refund_kept (s : State) (x : RowInst) : (s.refund x).kept = s.kept := by simp [State.refund]
@[simp] theorem State.popPresent_kept (s : State) : s.popPresent.kept = s.kept := by simp [State.popPresent]
@[simp] theorem State.presentOne_kept (s : State) (x : RowInst) : (s.presentOne x).kept = s.kept := by simp [State.presentOne]
@[simp] theorem State.presentAll_kept (n : Nat) (s : State) : (State.presentAll n s).kept = s.kept := by
  induction n generalizing s with
  | zero => rfl
  | succ n ih => unfold State.presentAll; (repeat' split) <;> simp [ih]
@[simp] theorem State.deferLimit_kept (s : State) (c idx : Nat) : (s.deferLimit c idx).kept = s.kept := by
  unfold State.deferLimit; split <;> simp
@[simp] theorem State.presentFinish_kept (n : Nat) (s : State) : (State.presentFinish n s).kept = s.kept := by
  induction n generalizing s with
  | zero => rfl
  | succ n ih => unfold State.presentFinish; split <;> simp [ih]

/-! ### Machine/Cadence -/

@[simp] theorem State.updCad_kept (s : State) (f : CadenceSt → CadenceSt) : (s.updCad f).kept = s.kept := by simp [State.updCad]
@[simp] theorem State.roundOpen_kept (s : State) (x : Rat) : (s.roundOpen x).2.kept = s.kept := by simp [State.roundOpen]
@[simp] theorem State.setPresent_kept (s : State) (b : Bool) : (s.setPresent b).kept = s.kept := by simp [State.setPresent]
@[simp] theorem State.enterLocked_kept (s : State) : s.enterLocked.kept = s.kept := by simp [State.enterLocked]
@[simp] theorem State.discardReference_kept (s : State) : s.discardReference.kept = s.kept := by simp [State.discardReference]
@[simp] theorem State.peerGone_kept (s : State) (k : Nat) : (s.peerGone k).kept = s.kept := by simp [State.peerGone]
@[simp] theorem State.flywheelRise_kept (s : State) : s.flywheelRise.kept = s.kept := by simp [State.flywheelRise]
@[simp] theorem State.markUnlocked_kept (s : State) : s.markUnlocked.kept = s.kept := by simp [State.markUnlocked]
@[simp] theorem State.restartDivider_kept (s : State) : s.restartDivider.kept = s.kept := by simp [State.restartDivider]
@[simp] theorem State.sourceChange_kept (s : State) : s.sourceChange.kept = s.kept := by simp [State.sourceChange]

/-! ### Machine/TileBase -/

@[simp] theorem State.seedStreams_kept (s : State) (t : Nat) (resumed : Bool) : (s.seedStreams t resumed).kept = s.kept := by
  simp [State.seedStreams]
@[simp] theorem State.loadInto_kept (s : State) (t : Nat) (p1 : Bool) (img : Nat) : (s.loadInto t p1 img).kept = s.kept := by
  simp [State.loadInto]
@[simp] theorem State.planeLoadDone_kept (s : State) (t : Nat) : (s.planeLoadDone t).kept = s.kept := by
  simp only [State.planeLoadDone]; (repeat' split) <;> simp
@[simp] theorem State.resumeTile_kept (s : State) (t : Nat) : (s.resumeTile t).kept = s.kept := by simp [State.resumeTile]
@[simp] theorem State.squashTile_kept (s : State) (t : Nat) (act : TileAct) : (s.squashTile t act).kept = s.kept := by
  simp [State.squashTile]
@[simp] theorem State.zeroTile_kept (s : State) (t : Nat) : (s.zeroTile t).kept = s.kept := by simp [State.zeroTile]
@[simp] theorem State.bindTile_kept (s : State) (t c n : Nat) : (s.bindTile t c n).kept = s.kept := by simp [State.bindTile]
@[simp] theorem State.eachTile_kept (s : State) (c : Nat) {f : State → Nat → State} (hf : ∀ s t, (f s t).kept = s.kept) :
    (s.eachTile c f).kept = s.kept :=
  State.each_kept _ _ _ hf

/-! ### Machine/Holiday -/

@[simp] theorem State.cmdStatus_kept (s : State) (c phase result cause : Nat) :
    (s.cmdStatus c phase result cause).kept = s.kept := by
  simp [State.cmdStatus]
@[simp] theorem State.cmdStatusIf_kept (s : State) (c code phase result cause : Nat) :
    (s.cmdStatusIf c code phase result cause).kept = s.kept := by
  simp [State.cmdStatusIf]
@[simp] theorem State.updQuiesce_kept (s : State) (c : Nat) (f : Quiesce → Quiesce) : (s.updQuiesce c f).kept = s.kept := by
  simp [State.updQuiesce]
@[simp] theorem State.callQuiesce_kept (s : State) (c scope target cause : Nat) (limit : Instant) :
    (s.callQuiesce c scope target cause limit).kept = s.kept := by
  simp only [State.callQuiesce]; (repeat' split) <;> simp
@[simp] theorem State.quiesceStart_kept (s : State) (sc : Scope) : (s.quiesceStart sc).kept = s.kept := by
  simp only [State.quiesceStart]; exact State.each_kept _ _ _ fun s x => by split <;> simp
@[simp] theorem State.stopIfFrozen_kept (s : State) : s.stopIfFrozen.kept = s.kept := by simp [State.stopIfFrozen]
@[simp] theorem State.freezeCuvee_kept (s : State) (c cause : Nat) (incomplete : Bool) :
    (s.freezeCuvee c cause incomplete).kept = s.kept := by
  simp [State.freezeCuvee]
@[simp] theorem State.holidayRecord_kept (s : State) (scope target : Nat) (incomplete : Bool) :
    (s.holidayRecord scope target incomplete).kept = s.kept := by
  simp [State.holidayRecord]
@[simp] theorem State.cutCuvee_kept (s : State) (c : Nat) (incomplete : Bool) : (s.cutCuvee c incomplete).kept = s.kept := by
  unfold State.cutCuvee; split <;> simp
@[simp] theorem State.cut_kept (s : State) (sc : Scope) : (s.cut sc).kept = s.kept := by simp [State.cut]
@[simp] theorem State.squashMid_kept (s : State) (c : Nat) : (s.squashMid c).kept = s.kept := by simp [State.squashMid]
@[simp] theorem State.abandonPlan_kept (s : State) (c cause : Nat) : (s.abandonPlan c cause).kept = s.kept := by
  simp [State.abandonPlan]
@[simp] theorem State.applyTick_kept (s : State) (sc : Scope) : (s.applyTick sc).kept = s.kept := by
  simp only [State.applyTick]; (repeat' split) <;> simp
@[simp] theorem State.holidayComplete_kept (s : State) (sc : Scope) : (s.holidayComplete sc).kept = s.kept := by
  simp [State.holidayComplete]

/-! ### Machine/Admission -/

@[simp] theorem State.reserveUnits_kept (s : State) (c : Nat) (isTile : Bool) (us : List Nat) :
    (s.reserveUnits c isTile us).kept = s.kept := by
  simp [State.reserveUnits]
@[simp] theorem State.giveBack_kept (s : State) (isTile : Bool) (us : List Nat) : (s.giveBack isTile us).kept = s.kept := by
  simp [State.giveBack]
@[simp] theorem State.setDomain_kept (s : State) (d st : Nat) : (s.setDomain d st).kept = s.kept := by simp [State.setDomain]
@[simp] theorem State.wakeClusters_kept (s : State) (ts : List Nat) : (s.wakeClusters ts).kept = s.kept := by
  simp [State.wakeClusters]

/-! ### Machine/Trees -/

@[simp] theorem State.updBarrier_kept (s : State) (b : Nat) (f : Barrier → Barrier) : (s.updBarrier b f).kept = s.kept := by
  unfold State.updBarrier; split <;> simp
@[simp] theorem State.dropArrivals_kept (s : State) (bs : List Nat) : (s.dropArrivals bs).kept = s.kept := by
  simp [State.dropArrivals]
@[simp] theorem State.dropFlags_kept (s : State) (c : Nat) : (s.dropFlags c).kept = s.kept := by simp [State.dropFlags]
@[simp] theorem State.relayRound_kept (s : State) (b gen : Nat) : (s.relayRound b gen).kept = s.kept := by
  unfold State.relayRound; split <;> simp
@[simp] theorem State.relayNet_kept (s : State) (c : Nat) : (s.relayNet c).kept = s.kept := by simp [State.relayNet]
@[simp] theorem State.refence_kept (s : State) (ts : List Nat) : (s.refence ts).kept = s.kept := by simp [State.refence]
@[simp] theorem State.fenceLater_kept (s : State) (ts : List Nat) : (s.fenceLater ts).kept = s.kept := by
  simp [State.fenceLater]
@[simp] theorem State.fenceBoundary_kept (s : State) : s.fenceBoundary.kept = s.kept := by simp [State.fenceBoundary]

/-! ### Machine/Compose -/

@[simp] theorem State.bindAct_kept (s : State) (c arg : Nat) : (s.bindAct c arg).kept = s.kept := by simp [State.bindAct]
@[simp] theorem State.unbind_kept (s : State) (c : Nat) : (s.unbind c).kept = s.kept := by simp [State.unbind]
@[simp] theorem State.trimStash_kept (s : State) (c : Nat) : (s.trimStash c).kept = s.kept := by simp [State.trimStash]
@[simp] theorem State.putRecord_kept (s : State) (t c n : Nat) (r : SavedTile) : (s.putRecord t c n r).kept = s.kept := by
  simp [State.putRecord]
@[simp] theorem State.zeroPc_kept (s : State) (k : Nat) : (s.zeroPc k).kept = s.kept := by simp [State.zeroPc]
@[simp] theorem State.dropLines_kept (s : State) (ks : List Nat) : (s.dropLines ks).kept = s.kept := by simp [State.dropLines]
@[simp] theorem State.cleanWays_kept (s : State) (old new : Blob) : (s.cleanWays old new).kept = s.kept := by
  simp [State.cleanWays]
@[simp] theorem State.dropXlate_kept (s : State) (c : Nat) : (s.dropXlate c).kept = s.kept := by simp [State.dropXlate]
@[simp] theorem State.trimUnits_kept (s : State) (c : Nat) : (s.trimUnits c).kept = s.kept := by simp [State.trimUnits]
@[simp] theorem State.dropWalks_kept (s : State) (ts : List Nat) : (s.dropWalks ts).kept = s.kept := by simp [State.dropWalks]
@[simp] theorem State.clearBarriers_kept (s : State) (c : Nat) : (s.clearBarriers c).kept = s.kept := by
  simp [State.clearBarriers]
@[simp] theorem State.scrubCuvee_kept (s : State) (c : Nat) : (s.scrubCuvee c).kept = s.kept := by simp [State.scrubCuvee]
@[simp] theorem State.dropSelects_kept (s : State) (c : Nat) : (s.dropSelects c).kept = s.kept := by simp [State.dropSelects]
@[simp] theorem State.tenantDefaults_kept (s : State) (c : Nat) : (s.tenantDefaults c).kept = s.kept := by
  simp only [State.tenantDefaults]; exact State.each_kept _ _ _ fun s x => by split <;> simp
@[simp] theorem State.allDefaults_kept (s : State) (c : Nat) : (s.allDefaults c).kept = s.kept := by
  simp only [State.allDefaults]; exact State.each_kept _ _ _ fun s x => by split <;> simp
@[simp] theorem State.dropRows_kept (s : State) (c : Nat) : (s.dropRows c).kept = s.kept := by simp [State.dropRows]
@[simp] theorem State.dropNet_kept (s : State) (c : Nat) : (s.dropNet c).kept = s.kept := by simp [State.dropNet]
@[simp] theorem State.eraseSession_kept (s : State) (id : Nat) : (s.eraseSession id).kept = s.kept := by
  simp [State.eraseSession]
@[simp] theorem State.endImage_kept (s : State) (c cause : Nat) : (s.endImage c cause).kept = s.kept := by simp [State.endImage]
@[simp] theorem State.dropStaged_kept (s : State) (c result cause : Nat) : (s.dropStaged c result cause).kept = s.kept := by
  unfold State.dropStaged; split <;> simp
@[simp] theorem State.beginReset_kept (s : State) (c : Nat) (release : Bool) : (s.beginReset c release).kept = s.kept := by
  simp [State.beginReset]
@[simp] theorem State.squashLinks_kept (s : State) (c : Nat) : (s.squashLinks c).kept = s.kept := by simp [State.squashLinks]
@[simp] theorem State.resetSquash_kept (s : State) (c : Nat) : (s.resetSquash c).kept = s.kept := by
  unfold State.resetSquash; split <;> simp
@[simp] theorem State.forgetRead_kept (s : State) (c key : Nat) : (s.forgetRead c key).kept = s.kept := by
  simp [State.forgetRead]
@[simp] theorem State.hostReadAbandon_kept (s : State) (c tag : Nat) : (s.hostReadAbandon c tag).kept = s.kept := by
  unfold State.hostReadAbandon; split <;> simp
@[simp] theorem State.resetComplete_kept (s : State) (c : Nat) : (s.resetComplete c).kept = s.kept := by
  simp only [State.resetComplete]; (repeat' split) <;> simp
@[simp] theorem State.releaseComplete_kept (s : State) (c : Nat) : (s.releaseComplete c).kept = s.kept := by
  unfold State.releaseComplete; split
  · rfl
  · simp only []; split
    · rfl
    · simp only [State.fenceLater_kept, State.cmdStatusIf_kept, State.setCuvee_kept, State.kept_mk, State.kept_eta,
        State.allDefaults_kept]
      rw [State.each_kept _ _ _ fun s i => by split <;> simp]; simp
@[simp] theorem State.thaw_kept (s : State) (c : Nat) : (s.thaw c).kept = s.kept := by simp [State.thaw]
@[simp] theorem State.useSession_kept (s : State) (c : Nat) : (s.useSession c).kept = s.kept := by simp [State.useSession]
@[simp] theorem State.imageBegin_kept (s : State) (c role : Nat) : (s.imageBegin c role).kept = s.kept := by
  simp [State.imageBegin]

/-! ### Machine/Rebind -/

@[simp] theorem State.rebindStage_kept (s : State) (c : Nat) : (s.rebindStage c).kept = s.kept := by
  simp only [State.rebindStage]; (repeat' split) <;> simp
@[simp] theorem State.sendStates_kept (s : State) (c : Nat) : (s.sendStates c).kept = s.kept := by
  unfold State.sendStates; split <;> simp
@[simp] theorem State.rebindCutNow_kept (s : State) (c : Nat) : (s.rebindCutNow c).kept = s.kept := by simp [State.rebindCutNow]
@[simp] theorem State.rebindQuiesce_kept (s : State) (c : Nat) : (s.rebindQuiesce c).kept = s.kept := by
  simp [State.rebindQuiesce]
@[simp] theorem State.rebindBegin_kept (s : State) (c : Nat) : (s.rebindBegin c).kept = s.kept := by simp [State.rebindBegin]
@[simp] theorem State.rebindBoundary_kept (s : State) : s.rebindBoundary.kept = s.kept := by simp [State.rebindBoundary]
@[simp] theorem State.copyRegions_kept (s : State) (old new : Nat) (which : Option (List Nat)) :
    (s.copyRegions old new which).kept = s.kept := by
  simp [State.copyRegions]
@[simp] theorem State.passEnd_kept (s : State) (c k : Nat) : (s.passEnd c k).kept = s.kept := by
  unfold State.passEnd; split <;> simp
@[simp] theorem State.precopyPassEnd_kept (s : State) (c : Nat) (ks : List Nat) : (s.precopyPassEnd c ks).kept = s.kept := by
  simp [State.precopyPassEnd]
@[simp] theorem State.finalCopy_kept (s : State) (c k new : Nat) : (s.finalCopy c k new).kept = s.kept := by
  simp [State.finalCopy]
@[simp] theorem State.releaseUnits_kept (s : State) (ts ks : List Nat) : (s.releaseUnits ts ks).kept = s.kept := by
  simp [State.releaseUnits]
@[simp] theorem State.rebindResume_kept (s : State) (c : Nat) : (s.rebindResume c).kept = s.kept := by simp [State.rebindResume]
@[simp] theorem State.rebindMoves_kept (s : State) (c : Nat) : (s.rebindMoves c).kept = s.kept := by
  unfold State.rebindMoves; split
  · simp
  · simp
    exact (State.each_kept _ _ _ fun s e => by split <;> simp).trans (by simp)
@[simp] theorem State.holidayDone_kept (s : State) (sc : Scope) : (s.holidayDone sc).kept = s.kept := by
  simp [State.holidayDone]
@[simp] theorem State.rebindMovesDone_kept (s : State) (c : Nat) : (s.rebindMovesDone c).kept = s.kept := by
  simp [State.rebindMovesDone]

/-! ### Machine/Cuvee -/

@[simp] theorem State.stageCommand_kept (s : State) (a : Acc) (c code : Nat) (k : CmdRec) :
    (s.stageCommand a c code k).kept = s.kept := by
  simp [State.stageCommand]
@[simp] theorem State.refuseRebind_kept (s : State) (c : Nat) : (s.refuseRebind c).kept = s.kept := by simp [State.refuseRebind]
@[simp] theorem State.withdrawCommand_kept (s : State) (c : Nat) : (s.withdrawCommand c).kept = s.kept := by
  simp [State.withdrawCommand]
@[simp] theorem State.resetAct_kept (s : State) (c : Nat) (release : Bool) : (s.resetAct c release).kept = s.kept := by
  simp [State.resetAct]
@[simp] theorem State.commandEffect_kept (s : State) (c : Nat) (st : Staged) : (s.commandEffect c st).kept = s.kept := by
  unfold State.commandEffect; split <;> simp
@[simp] theorem State.commandAct_kept (s : State) (c : Nat) : (s.commandAct c).kept = s.kept := by
  unfold State.commandAct; split <;> simp
@[simp] theorem State.freezeCount_kept (s : State) : s.freezeCount.kept = s.kept := by simp [State.freezeCount]
@[simp] theorem State.slotCommands_kept (s : State) : s.slotCommands.kept = s.kept := by
  unfold State.slotCommands
  exact (State.each_kept _ _ _ fun s c => by split <;> simp).trans (by simp)
@[simp] theorem State.flrCuvee_kept (s : State) (c : Nat) : (s.flrCuvee c).kept = s.kept := by
  unfold State.flrCuvee; split <;> simp
@[simp] theorem State.clusterPowerUp_kept (s : State) (d : Nat) : (s.clusterPowerUp d).kept = s.kept := by
  simp [State.clusterPowerUp]

/-! ### Machine/Memory -/

@[simp] theorem State.countCorrected_kept (s : State) (k n : Nat) : (s.countCorrected k n).kept = s.kept := by
  simp only [State.countCorrected]; (repeat' split) <;> simp
@[simp] theorem State.markPoison_kept (s : State) (k : Nat) (sectors : List Nat) : (s.markPoison k sectors).kept = s.kept := by
  simp [State.markPoison]
@[simp] theorem State.poison_kept (s : State) (k : Nat) (sectors : List Nat) : (s.poison k sectors).kept = s.kept := by
  simp only [State.poison]; (repeat' split) <;> simp
@[simp] theorem State.eccRead_kept (s : State) (k off n : Nat) (v : EccVerdict) : (s.eccRead k off n v).2.kept = s.kept := by
  unfold State.eccRead; split <;> simp
@[simp] theorem State.unpoison_kept (s : State) (k off n : Nat) : (s.unpoison k off n).kept = s.kept := by simp [State.unpoison]
@[simp] theorem State.repairWrite_kept (s : State) (k sector : Nat) : (s.repairWrite k sector).kept = s.kept := by
  simp [State.repairWrite]
@[simp] theorem State.patrolScrub_kept (s : State) (k sector : Nat) (v : EccVerdict) :
    (s.patrolScrub k sector v).kept = s.kept := by
  unfold State.patrolScrub; (repeat' split) <;> simp
@[simp] theorem State.touchLine_kept (s : State) (k line c mask policy sectors : Nat) (write : Bool) :
    (s.touchLine k line c mask policy sectors write).2.kept = s.kept := by
  simp only [State.touchLine]; (repeat' split) <;> simp
@[simp] theorem State.memTraffic_kept (s : State) (k off n c label policy : Nat) (write : Bool) :
    (s.memTraffic k off n c label policy write).kept = s.kept := by
  simp [State.memTraffic]
@[simp] theorem State.wayCleaningDone_kept (s : State) (p way : Nat) : (s.wayCleaningDone p way).kept = s.kept := by
  simp [State.wayCleaningDone]
@[simp] theorem State.latencySample_kept (s : State) (p l sample : Nat) : (s.latencySample p l sample).kept = s.kept := by
  simp [State.latencySample]
@[simp] theorem State.openSample_kept (s : State) (k l : Nat) : (s.openSample k l).kept = s.kept := by simp [State.openSample]
@[simp] theorem State.resetLabel_kept (s : State) (l : Nat) : (s.resetLabel l).kept = s.kept := by simp [State.resetLabel]
@[simp] theorem State.logShortfall_kept (s : State) (x : Shortfall) (r duration : Nat) (continues : Bool) :
    (s.logShortfall x r duration continues).kept = s.kept := by
  simp [State.logShortfall]
@[simp] theorem State.applyCut_kept (s : State) (r : Nat) : (s.applyCut r).kept = s.kept := by
  unfold State.applyCut; split <;> simp
@[simp] theorem State.regulate_kept (s : State) (r : Nat) : (s.regulate r).kept = s.kept := by
  simp only [State.regulate]; (repeat' split) <;> simp
@[simp] theorem State.regulateAll_kept (s : State) : s.regulateAll.kept = s.kept := by simp [State.regulateAll]
@[simp] theorem State.interimShortfalls_kept (s : State) : s.interimShortfalls.kept = s.kept := by
  simp [State.interimShortfalls]
@[simp] theorem State.refreshApply_kept (s : State) : s.refreshApply.kept = s.kept := by simp [State.refreshApply]
@[simp] theorem State.stackReading_kept (s : State) (p degC : Nat) : (s.stackReading p degC).kept = s.kept := by
  simp [State.stackReading]

/-! ### Machine/Power -/

@[simp] theorem State.updPower_kept (s : State) (f : PowerSt → PowerSt) : (s.updPower f).kept = s.kept := by
  simp [State.updPower]
@[simp] theorem State.episodeNote_kept (s : State) (r sensor peak holds : Nat) (lowest : Bool) :
    (s.episodeNote r sensor peak holds lowest).kept = s.kept := by
  simp [State.episodeNote]
@[simp] theorem State.logThrottle_kept (s : State) (c w : Nat) : (s.logThrottle c w).kept = s.kept := by
  simp [State.logThrottle]
@[simp] theorem State.throttleSlot_kept (s : State) (len : Rat) : (s.throttleSlot len).kept = s.kept := by
  simp only [State.throttleSlot]; exact State.each_kept _ _ _ fun s x => by split <;> simp
@[simp] theorem State.budgetSlot_kept (s : State) : s.budgetSlot.kept = s.kept := by
  simp only [State.budgetSlot]; exact State.each_kept _ _ _ fun s x => by split <;> simp
@[simp] theorem State.interimThrottles_kept (s : State) : s.interimThrottles.kept = s.kept := by
  unfold State.interimThrottles
  exact (State.each_kept _ _ _ fun s c => by split <;> simp).trans (by simp)
@[simp] theorem State.setLimit_kept (s : State) (i v : Nat) : (s.setLimit i v).kept = s.kept := by simp [State.setLimit]
@[simp] theorem State.lowerLimit_kept (s : State) (i n : Nat) : (s.lowerLimit i n).kept = s.kept := by simp [State.lowerLimit]
@[simp] theorem State.raiseLimit_kept (s : State) (i n : Nat) : (s.raiseLimit i n).kept = s.kept := by simp [State.raiseLimit]
@[simp] theorem State.powerCapLimiter_kept (s : State) (milliW avg1ms : Nat) :
    (s.powerCapLimiter milliW avg1ms).kept = s.kept := by
  simp [State.powerCapLimiter]
@[simp] theorem State.voltageLimiter_kept (s : State) (tenthsV : Nat) : (s.voltageLimiter tenthsV).kept = s.kept := by
  simp [State.voltageLimiter]
@[simp] theorem State.powerSample_kept (s : State) (milliW avg1ms tenthsV : Nat) :
    (s.powerSample milliW avg1ms tenthsV).kept = s.kept := by
  simp [State.powerSample]
@[simp] theorem State.clockStep_kept (s : State) : s.clockStep.kept = s.kept := by simp [State.clockStep]
@[simp] theorem State.phiStep_kept (s : State) (t : Nat) (waiting : Bool) (slope : Nat) :
    (s.phiStep t waiting slope).kept = s.kept := by
  simp [State.phiStep]
@[simp] theorem State.thermalLimiter_kept (s : State) (i st run ms : Nat) : (s.thermalLimiter i st run ms).kept = s.kept := by
  simp [State.thermalLimiter]
@[simp] theorem State.dieReading_kept (s : State) (ts : List Nat) : (s.dieReading ts).kept = s.kept := by
  simp [State.dieReading]
@[simp] theorem State.stackTemperatureRead_kept (s : State) (p degC : Nat) : (s.stackTemperatureRead p degC).kept = s.kept := by
  simp [State.stackTemperatureRead]
@[simp] theorem State.windowBegin_kept (s : State) : s.windowBegin.kept = s.kept := by simp [State.windowBegin]
@[simp] theorem State.windowBoundary_kept (s : State) : s.windowBoundary.kept = s.kept := by simp [State.windowBoundary]
@[simp] theorem State.observationWindowEnd_kept (s : State) : s.observationWindowEnd.kept = s.kept := by
  unfold State.observationWindowEnd; split <;> simp
@[simp] theorem State.correctionUpdate_kept (s : State) (c : Nat) : (s.correctionUpdate c).kept = s.kept := by
  simp [State.correctionUpdate]
@[simp] theorem State.reconcileCuvee_kept (s : State) (c : Nat) : (s.reconcileCuvee c).kept = s.kept := by
  simp [State.reconcileCuvee]
@[simp] theorem State.reconcileAct_kept (s : State) : s.reconcileAct.kept = s.kept := by simp [State.reconcileAct]

/-! ### Machine/Translate -/

@[simp] theorem State.walkCounted_kept (s : State) (c va k : Nat) : (s.walkCounted c va k).2.kept = s.kept := by
  simp [State.walkCounted]
@[simp] theorem State.fillUnit_kept (s : State) (c p key value : Nat) : (s.fillUnit c p key value).kept = s.kept := by
  simp [State.fillUnit]
@[simp] theorem State.fillMicro_kept (s : State) (t key value : Nat) : (s.fillMicro t key value).kept = s.kept := by
  simp [State.fillMicro]
theorem State.unitLookup_kept {s : State} {c p va : Nat} {q : Leaf × State} (h : s.unitLookup c p va = some q) :
    q.2.kept = s.kept := by
  obtain ⟨e, -, rfl⟩ := Option.map_eq_some_iff.mp h; simp
theorem State.lookup_kept {s : State} {t va : Nat} {q : Leaf × State} (h : s.lookup t va = some q) : q.2.kept = s.kept := by
  simp only [State.lookup] at h; split at h
  · cases h; simp
  · obtain ⟨r, hr, rfl⟩ := Option.map_eq_some_iff.mp h; simp [State.unitLookup_kept hr]
@[simp] theorem State.unitTranslate_kept (s : State) (c p va : Nat) : (s.unitTranslate c p va).2.kept = s.kept := by
  unfold State.unitTranslate; split
  · next h => exact State.unitLookup_kept h
  · simp only []; split <;> simp
@[simp] theorem State.invalidate_kept (s : State) (c va len : Nat) : (s.invalidate c va len).kept = s.kept := by
  simp [State.invalidate]
@[simp] theorem State.invalidateAct_kept (s : State) (c va len : Nat) : (s.invalidateAct c va len).kept = s.kept := by
  simp [State.invalidateAct]
@[simp] theorem State.countXFault_kept (s : State) (c : Nat) : (s.countXFault c).kept = s.kept := by simp [State.countXFault]
@[simp] theorem State.resolved_kept (c va len label : Nat) (write : Bool) (r : Except Nat Leaf × State) :
    (State.resolved c va len label write r).2.kept = r.2.kept := by
  unfold State.resolved; (repeat' split) <;> simp
@[simp] theorem State.translate_kept (s : State) (c va len label : Nat) (write : Bool) :
    (s.translate c va len label write).2.kept = s.kept := by
  simp [State.translate]
@[simp] theorem State.hostTraffic_kept (s : State) (c n : Nat) : (s.hostTraffic c n).kept = s.kept := by
  simp [State.hostTraffic]
@[simp] theorem State.memRead_kept (s : State) (k off n c label policy : Nat) :
    (s.memRead k off n c label policy).2.2.kept = s.kept := by
  simp [State.memRead]
@[simp] theorem State.memWrite_kept (s : State) (k off : Nat) (bs : List Byte) (c label policy : Nat) :
    (s.memWrite k off bs c label policy).kept = s.kept := by
  simp [State.memWrite]
@[simp] theorem State.vaWriteChunks_kept (s : State) (c label : Nat) (l : List (Nat × Nat)) (bs : List Byte) :
    (s.vaWriteChunks c label l bs).2.kept = s.kept := by
  induction l generalizing s bs with
  | nil => rfl
  | cons e rest ih => unfold State.vaWriteChunks; simp only []; (repeat' split) <;> simp [ih]
@[simp] theorem State.vaWrite_kept (s : State) (c va : Nat) (bs : List Byte) (label : Nat) :
    (s.vaWrite c va bs label).2.kept = s.kept := by
  simp [State.vaWrite]
@[simp] theorem State.poisonRead_kept (s : State) (c va : Nat) : (s.poisonRead c va).kept = s.kept := by simp [State.poisonRead]
@[simp] theorem State.vaReadChunks_kept (s : State) (c label : Nat) (l : List (Nat × Nat)) (bs : List Byte) :
    (s.vaReadChunks c label l bs).2.kept = s.kept := by
  induction l generalizing s bs with
  | nil => rfl
  | cons e rest ih => unfold State.vaReadChunks; simp only []; (repeat' split) <;> simp [ih]
@[simp] theorem State.vaRead_kept (s : State) (c va n label : Nat) (ext : List Byte) :
    (s.vaRead c va n label ext).2.kept = s.kept := by
  simp [State.vaRead]

/-! ### Machine/Observe -/

@[simp] theorem State.bookRestart_kept (s : State) (c : Nat) : (s.bookRestart c).kept = s.kept := by simp [State.bookRestart]
@[simp] theorem State.bookTokens_kept (s : State) (len : Rat) : (s.bookTokens len).kept = s.kept := by simp [State.bookTokens]
@[simp] theorem State.bookClosing_kept (s : State) : s.bookClosing.kept = s.kept := by
  simp only [State.bookClosing]; exact State.each_kept _ _ _ fun s x => by split <;> simp
@[simp] theorem State.bookControl_kept (s : State) (c cmd : Nat) : (s.bookControl c cmd).kept = s.kept := by
  unfold State.bookControl; split <;> simp
@[simp] theorem State.harvestLatch_kept (s : State) : s.harvestLatch.kept = s.kept := by simp [State.harvestLatch]
@[simp] theorem State.forwardBlock_kept (s : State) (c stamp span flags : Nat) (marks : List (Nat × Nat)) :
    (s.forwardBlock c stamp span flags marks).kept = s.kept := by
  simp only [State.forwardBlock]; (repeat' split) <;> simp
@[simp] theorem State.harvestRecordWrite_kept (s : State) : s.harvestRecordWrite.kept = s.kept := by
  unfold State.harvestRecordWrite; split <;> simp
@[simp] theorem State.harvestAct_kept (s : State) : s.harvestAct.kept = s.kept := by simp [State.harvestAct]
@[simp] theorem State.setCheck_kept (s : State) (n : Nat) (x : CheckCh) : (s.setCheck n x).kept = s.kept := by
  simp [State.setCheck]
@[simp] theorem State.checkStart_kept (s : State) (n : Nat) : (s.checkStart n).kept = s.kept := by simp [State.checkStart]
@[simp] theorem State.checkFeed_kept (s : State) (n value k : Nat) : (s.checkFeed n value k).kept = s.kept := by
  simp [State.checkFeed]
@[simp] theorem State.checkConfig_kept (s : State) (n v : Nat) : (s.checkConfig n v).kept = s.kept := by
  simp [State.checkConfig]
@[simp] theorem State.checkFold_kept (s : State) (n v : Nat) : (s.checkFold n v).kept = s.kept := by simp [State.checkFold]

/-! ### Machine/Faults -/

@[simp] theorem State.stopNow_kept (s : State) (c : Nat) : (s.stopNow c).kept = s.kept := by simp [State.stopNow]
@[simp] theorem State.estateStop_kept (s : State) (source : Nat) : (s.estateStop source).kept = s.kept := by
  simp [State.estateStop]
@[simp] theorem State.hang_kept (s : State) (c unit cause arg1 : Nat) : (s.hang c unit cause arg1).kept = s.kept := by
  simp [State.hang]
@[simp] theorem State.updWatch_kept (s : State) (id : Nat) (f : Watch → Watch) : (s.updWatch id f).kept = s.kept := by
  simp [State.updWatch]
@[simp] theorem State.hangDeadline_kept (s : State) (id : Nat) : (s.hangDeadline id).kept = s.kept := by
  unfold State.hangDeadline; (repeat' split) <;> simp
@[simp] theorem State.hangStall_kept (s : State) (t : Nat) : (s.hangStall t).kept = s.kept := by simp [State.hangStall]
@[simp] theorem State.statsStop_kept (s : State) (t : Nat) : (s.statsStop t).kept = s.kept := by simp [State.statsStop]
@[simp] theorem State.nackHeld_kept (s : State) (router : Nat) : (s.nackHeld router).kept = s.kept := by simp [State.nackHeld]
@[simp] theorem State.sharedFault_kept (s : State) (e : Engine) : (s.sharedFault e).kept = s.kept := by simp [State.sharedFault]
@[simp] theorem State.replayed_kept (s : State) (e : Engine) (delay c : Nat) : (s.replayed e delay c).kept = s.kept := by
  simp [State.replayed]
@[simp] theorem State.engineNamed_kept (s : State) (e : Engine) (c : Nat) : (s.engineNamed e c).kept = s.kept := by
  simp [State.engineNamed]
@[simp] theorem State.replayOver_kept (s : State) (e : Engine) (st : Nat) : (s.replayOver e st).kept = s.kept := by
  simp [State.replayOver]
@[simp] theorem State.retireEngine_kept (s : State) (e : Engine) (sus : List Nat) : (s.retireEngine e sus).kept = s.kept := by
  unfold State.retireEngine; split <;> simp
@[simp] theorem State.replayDone_kept (s : State) (e : Engine) (o : ReplayOutcome) : (s.replayDone e o).kept = s.kept := by
  unfold State.replayDone; (repeat' split) <;> simp
@[simp] theorem State.hangWatchdog_kept (s : State) (c : Nat) : (s.hangWatchdog c).kept = s.kept := by
  unfold State.hangWatchdog; split <;> simp
@[simp] theorem State.parcelResetDone_kept (s : State) (p : Nat) (badTiles : List Nat) (r : TrainingResult) :
    (s.parcelResetDone p badTiles r).kept = s.kept := by
  simp [State.parcelResetDone]

/-! ### Machine/Watch -/

@[simp] theorem State.watchPacket_kept (s : State) (t row : Nat) (first : Bool) (bs : List Byte) :
    (s.watchPacket t row first bs).kept = s.kept := by
  simp [State.watchPacket]
@[simp] theorem State.watchEnd_kept (s : State) (t : Nat) : (s.watchEnd t).kept = s.kept := State.each_kept _ _ _ fun s w => by
  simp only []; (repeat' split) <;> simp
@[simp] theorem State.watchRewrite_kept (s : State) (c : Nat) : (s.watchRewrite c).kept = s.kept := by simp [State.watchRewrite]

/-! ### Machine/Links -/

@[simp] theorem State.linkCount_kept (s : State) (k i n : Nat) : (s.linkCount k i n).kept = s.kept := by simp [State.linkCount]
@[simp] theorem State.portCount_kept (s : State) (k j n : Nat) : (s.portCount k j n).kept = s.kept := by simp [State.portCount]
@[simp] theorem State.xferError_kept (s : State) (c i : Nat) : (s.xferError c i).kept = s.kept := by simp [State.xferError]
@[simp] theorem State.linkTraffic_kept (s : State) (c n : Nat) : (s.linkTraffic c n).kept = s.kept := by
  simp [State.linkTraffic]
@[simp] theorem State.updXfer_kept (s : State) (k : Nat) (mine : Bool) (tag : Nat) (f : LinkXfer → LinkXfer) :
    (s.updXfer k mine tag f).kept = s.kept := by
  simp [State.updXfer]
@[simp] theorem State.dropXfer_kept (s : State) (k : Nat) (mine : Bool) (tag : Nat) :
    (s.dropXfer k mine tag).kept = s.kept := by
  simp [State.dropXfer]
@[simp] theorem State.answerXfer_kept (s : State) (x : LinkXfer) (st : Nat) (data : List Byte) :
    (s.answerXfer x st data).kept = s.kept := by
  simp [State.answerXfer]
@[simp] theorem State.endXfer_kept (s : State) (k tag st : Nat) (data : List Byte) :
    (s.endXfer k tag st data).kept = s.kept := by
  unfold State.endXfer; split <;> simp
@[simp] theorem State.sendDone_kept (s : State) (k : Nat) (m : LinkRequest) (st len : Nat) :
    (s.sendDone k m st len).kept = s.kept := by
  simp [State.sendDone]
@[simp] theorem State.closeXfer_kept (s : State) (k tag : Nat) : (s.closeXfer k tag).kept = s.kept := by
  unfold State.closeXfer; split <;> simp
@[simp] theorem State.linkPacket_kept (s : State) (k : Nat) (p : Packet) : (s.linkPacket k p).kept = s.kept := by
  simp only [State.linkPacket]; (repeat' split) <;> simp
@[simp] theorem State.transferClose_kept (s : State) (k tag : Nat) : (s.transferClose k tag).kept = s.kept := by
  simp [State.transferClose]
@[simp] theorem State.transferTimeout_kept (s : State) (k tag : Nat) : (s.transferTimeout k tag).kept = s.kept := by
  unfold State.transferTimeout; split <;> simp
@[simp] theorem State.markTaken_kept (s : State) (k c : Nat) : (s.markTaken k c).kept = s.kept := by simp [State.markTaken]
@[simp] theorem State.endRecording_kept (s : State) (k : Nat) : (s.endRecording k).kept = s.kept := by simp [State.endRecording]
@[simp] theorem State.endPort_kept (s : State) (k : Nat) : (s.endPort k).kept = s.kept := by
  unfold State.endPort
  refine (State.each_kept _ _ _ fun s e => ?_).trans ((State.each_kept _ _ _ fun s x => by simp).trans (by simp))
  simp only []; split <;> simp
@[simp] theorem State.portTo_kept (s : State) (k st cause : Nat) : (s.portTo k st cause).kept = s.kept := by simp [State.portTo]
@[simp] theorem State.portTrain_kept (s : State) (k : Nat) : (s.portTrain k).kept = s.kept := by simp [State.portTrain]
@[simp] theorem State.portRetrain_kept (s : State) (k cause : Nat) : (s.portRetrain k cause).kept = s.kept := by
  simp [State.portRetrain]
@[simp] theorem State.portEnable_kept (s : State) (k : Nat) (on : Bool) : (s.portEnable k on).kept = s.kept := by
  simp [State.portEnable]
@[simp] theorem State.signalDetect_kept (s : State) (k : Nat) : (s.signalDetect k).kept = s.kept := by simp [State.signalDetect]
@[simp] theorem State.signalLoss_kept (s : State) (k : Nat) : (s.signalLoss k).kept = s.kept := by simp [State.signalLoss]
@[simp] theorem State.sendKey_kept (s : State) (k step : Nat) : (s.sendKey k step).kept = s.kept := by simp [State.sendKey]
@[simp] theorem State.portKeying_kept (s : State) (k : Nat) : (s.portKeying k).kept = s.kept := by simp [State.portKeying]
@[simp] theorem State.trainingDone_kept (s : State) (k good : Nat) : (s.trainingDone k good).kept = s.kept := by
  simp [State.trainingDone]
@[simp] theorem State.laneFailure_kept (s : State) (k lane : Nat) : (s.laneFailure k lane).kept = s.kept := by
  simp [State.laneFailure]
@[simp] theorem State.portRekey_kept (s : State) (k : Nat) : (s.portRekey k).kept = s.kept := by simp [State.portRekey]
@[simp] theorem State.portCommand_kept (s : State) (k code : Nat) : (s.portCommand k code).kept = s.kept := by
  unfold State.portCommand; split <;> simp
@[simp] theorem State.rekeyDue_kept (s : State) (k : Nat) : (s.rekeyDue k).kept = s.kept := by simp [State.rekeyDue]
@[simp] theorem State.keyFail_kept (s : State) (k : Nat) : (s.keyFail k).kept = s.kept := by simp [State.keyFail]
@[simp] theorem State.keyUp_kept (s : State) (k : Nat) : (s.keyUp k).kept = s.kept := by simp [State.keyUp]
@[simp] theorem State.rekeyed_kept (s : State) (k : Nat) : (s.rekeyed k).kept = s.kept := by simp [State.rekeyed]
theorem State.takeMsg_kept {s : State} {k : Nat} {m : LinkMsg} {t : State} (h : s.takeMsg k m = some t) : t.kept = s.kept := by
  unfold State.takeMsg at h; split at h
  · cases h; simp
  · cases h
@[simp] theorem State.takeMsg_getD_kept (s : State) (k : Nat) (m : LinkMsg) : ((s.takeMsg k m).getD s).kept = s.kept := by
  cases h : s.takeMsg k m with
  | none => rfl
  | some t => exact State.takeMsg_kept h
@[simp] theorem State.dropBad_kept (s : State) (k : Nat) (m : LinkMsg) : (s.dropBad k m).kept = s.kept := by
  unfold State.dropBad; split
  · rfl
  · next h => rw [← State.takeMsg_kept h]; simp
@[simp] theorem State.keyMessage_kept (s : State) (k : Nat) (m : KeyMsg) : (s.keyMessage k m).kept = s.kept := by
  unfold State.keyMessage; split
  · rfl
  · next h => rw [← State.takeMsg_kept h]; simp only []; (repeat' split) <;> simp
@[simp] theorem State.emitFlit_kept (s : State) (k : Nat) (f : Flit) : (s.emitFlit k f).kept = s.kept := by
  simp [State.emitFlit]
@[simp] theorem State.putFlit_kept (s : State) (k : Nat) (f : Flit) : (s.putFlit k f).kept = s.kept := by simp [State.putFlit]
@[simp] theorem State.idleSlot_kept (s : State) (k slot : Nat) : (s.idleSlot k slot).kept = s.kept := by simp [State.idleSlot]
@[simp] theorem State.controlSlot_kept (s : State) (k slot : Nat) (ready : List LinkMsg) :
    (s.controlSlot k slot ready).kept = s.kept := by
  simp [State.controlSlot]
@[simp] theorem State.sendData_kept (s : State) (k slot : Nat) (x : LinkXfer) : (s.sendData k slot x).kept = s.kept := by
  unfold State.sendData; (repeat' split) <;> simp
@[simp] theorem State.dataSlot_kept (s : State) (k slot : Nat) : (s.dataSlot k slot).kept = s.kept := by
  simp only [State.dataSlot]; (repeat' split) <;> simp
@[simp] theorem State.controlFlitSend_kept (s : State) (k : Nat) : (s.controlFlitSend k).kept = s.kept := by
  simp [State.controlFlitSend]
@[simp] theorem State.replayFrom_kept (s : State) (k : Nat) : (s.replayFrom k).kept = s.kept := by simp [State.replayFrom]
@[simp] theorem State.openIncoming_kept (s : State) (k : Nat) (m : LinkMsg) : (s.openIncoming k m).kept = s.kept := by
  unfold State.openIncoming; split <;> simp
@[simp] theorem State.acceptMsgs_kept (s : State) (k : Nat) (l : List LinkMsg) : (s.acceptMsgs k l).kept = s.kept := by
  simp [State.acceptMsgs]
@[simp] theorem State.acceptData_kept (s : State) (k : Nat) (f : Flit) : (s.acceptData k f).kept = s.kept := by
  simp only [State.acceptData]; (repeat' split) <;> simp
@[simp] theorem State.linkFec_kept (s : State) (k good bad : Nat) : (s.linkFec k good bad).kept = s.kept := by
  simp [State.linkFec]
@[simp] theorem State.flitReceive_kept (s : State) (k : Nat) (f : Flit) : (s.flitReceive k f).kept = s.kept := by
  simp [State.flitReceive]
@[simp] theorem State.inboundPlaces_kept (s : State) (c u label : Nat) (write : Bool) (l : List (Nat × Nat)) :
    (s.inboundPlaces c u label write l).2.kept = s.kept := by
  induction l generalizing s with
  | nil => rfl
  | cons e rest ih => unfold State.inboundPlaces; simp only []; split <;> simp [ih]
@[simp] theorem State.inboundWrite_kept (s : State) (c op : Nat) (l : List (Nat × Nat × Nat × Nat × Nat)) (bs : List Byte) :
    (s.inboundWrite c op l bs).kept = s.kept := by
  induction l generalizing s bs with
  | nil => rfl
  | cons e rest ih => unfold State.inboundWrite; simp [ih]
@[simp] theorem State.inboundRead_kept (s : State) (c : Nat) (l : List (Nat × Nat × Nat × Nat × Nat)) :
    (s.inboundRead c l).2.2.kept = s.kept := by
  induction l generalizing s with
  | nil => rfl
  | cons e rest ih => unfold State.inboundRead; simp [ih]
@[simp] theorem State.refuseInbound_kept (s : State) (k : Nat) (m : LinkRequest) : (s.refuseInbound k m).kept = s.kept := by
  simp [State.refuseInbound]
@[simp] theorem State.forwardRequest_kept (s : State) (k : Nat) (m : LinkRequest) : (s.forwardRequest k m).kept = s.kept := by
  unfold State.forwardRequest; split <;> simp
@[simp] theorem State.request_kept (s : State) (k : Nat) (m : LinkRequest) : (s.request k m).kept = s.kept := by
  unfold State.request; extract_lets x data; split
  · simp
  · split
    · simp
    · split
      · rfl
      · split
        · rfl
        · next h => rw [← State.takeMsg_kept h]; (repeat' split) <;> simp <;> split <;> simp
@[simp] theorem State.doneMessage_kept (s : State) (k : Nat) (m : LinkDone) : (s.doneMessage k m).kept = s.kept := by
  unfold State.doneMessage; split
  · simp
  · split
    · rfl
    · next h => rw [← State.takeMsg_kept h]; (repeat' split) <;> simp; split <;> simp
@[simp] theorem State.timeSend_kept (s : State) (k : Nat) : (s.timeSend k).kept = s.kept := by simp [State.timeSend]
@[simp] theorem State.linkMark_kept (s : State) (k : Nat) (m : MarkMsg) : (s.linkMark k m).kept = s.kept := by
  unfold State.linkMark; split
  · rfl
  · next h =>
    rw [← State.takeMsg_kept h]
    split
    · simp
    · simp only []; split
      · split
        · split <;> simp
        · simp
      · simp
@[simp] theorem State.forwardMsg_kept (s : State) (dst hops : Nat) (m : LinkMsg) : (s.forwardMsg dst hops m).kept = s.kept := by
  unfold State.forwardMsg; split <;> simp
@[simp] theorem State.squashMessage_kept (s : State) (k : Nat) (m : SquashMsg) : (s.squashMessage k m).kept = s.kept := by
  unfold State.squashMessage; split
  · rfl
  · next h => rw [← State.takeMsg_kept h]; (repeat' split) <;> simp
@[simp] theorem State.flareMessage_kept (s : State) (k : Nat) (m : FlareMsg) : (s.flareMessage k m).kept = s.kept := by
  unfold State.flareMessage; split
  · rfl
  · next h => rw [← State.takeMsg_kept h]; simp only []; split <;> [rfl; (split <;> simp)]
@[simp] theorem State.flareAct_kept (s : State) (g : Nat) : (s.flareAct g).kept = s.kept := by
  simp only [State.flareAct]; (repeat' split) <;> simp

/-! ### Machine/Tiles -/

@[simp] theorem State.progressed_kept (s : State) (t : Nat) : (s.progressed t).kept = s.kept := by simp [State.progressed]
@[simp] theorem State.storeTraffic_kept (s : State) (t n : Nat) : (s.storeTraffic t n).kept = s.kept := by
  simp [State.storeTraffic]
@[simp] theorem State.startTile_kept (s : State) (t entry tag g : Nat) : (s.startTile t entry tag g).kept = s.kept := by
  simp [State.startTile]
@[simp] theorem State.startGroup_kept (s : State) (c g entry tag : Nat) : (s.startGroup c g entry tag).kept = s.kept := by
  simp [State.startGroup]
@[simp] theorem State.fillBoth_kept (s : State) (t va : Nat) (lf : Leaf) : (s.fillBoth t va lf).kept = s.kept := by
  simp [State.fillBoth]
@[simp] theorem State.prefetch_kept (s : State) (t va : Nat) : (s.prefetch t va).kept = s.kept := by
  unfold State.prefetch; split
  · rfl
  · split
    · next h => exact State.lookup_kept h
    · simp only []; split <;> simp
@[simp] theorem State.prefetchRow_kept (s : State) (t r n k m : Nat) : (s.prefetchRow t r n k m).kept = s.kept := by
  simp [State.prefetchRow]
@[simp] theorem State.askIssue_kept (s : State) (t e en d : Nat) : (s.askIssue t e en d).kept = s.kept := by
  simp [State.askIssue]
@[simp] theorem State.commitStream_kept (s : State) (t en k : Nat) : (s.commitStream t en k).kept = s.kept := by
  simp [State.commitStream]
@[simp] theorem State.flow_kept (t en : Nat) (n : Nat) (s : State) : (State.flow t en n s).kept = s.kept := by
  induction n generalizing s with
  | zero => rfl
  | succ n ih => unfold State.flow; simp only []; split <;> simp [ih]
@[simp] theorem State.pump_kept (s : State) (t en : Nat) : (s.pump t en).kept = s.kept := by simp [State.pump]
@[simp] theorem State.releaseDrains_kept (s : State) (t en : Nat) : (s.releaseDrains t en).kept = s.kept := by
  simp [State.releaseDrains]
@[simp] theorem State.openBanks_kept (s : State) (t : Nat) (ks : List Nat) : (s.openBanks t ks).kept = s.kept := by
  simp [State.openBanks]
@[simp] theorem State.finishEntry_kept (s : State) (t en : Nat) : (s.finishEntry t en).kept = s.kept := by
  simp [State.finishEntry]
@[simp] theorem State.advance_kept (t en : Nat) (n : Nat) (s : State) : (State.advance t en n s).kept = s.kept := by
  induction n generalizing s with
  | zero => rfl
  | succ n ih => unfold State.advance; simp only []; (repeat' split) <;> simp [ih]
@[simp] theorem State.runOn_kept (s : State) (t : Nat) : (s.runOn t).kept = s.kept := by simp [State.runOn]
@[simp] theorem State.beginEntry_kept (s : State) (t en : Nat) : (s.beginEntry t en).kept = s.kept := by simp [State.beginEntry]
@[simp] theorem State.openEntry_kept (s : State) (t en : Nat) : (s.openEntry t en).kept = s.kept := by simp [State.openEntry]
@[simp] theorem State.nextEntry_kept (s : State) (t : Nat) : (s.nextEntry t).kept = s.kept := by simp [State.nextEntry]
@[simp] theorem State.entryBoundary_kept (s : State) (t : Nat) : (s.entryBoundary t).kept = s.kept := by
  simp only [State.entryBoundary]; (repeat' split) <;> simp
@[simp] theorem State.accumulatorSwap_kept (s : State) (t : Nat) : (s.accumulatorSwap t).kept = s.kept := by
  simp [State.accumulatorSwap]
@[simp] theorem State.vectorTrigger_kept (s : State) (t : Nat) : (s.vectorTrigger t).kept = s.kept := by
  simp only [State.vectorTrigger]; (repeat' split) <;> simp
@[simp] theorem State.workDone_kept (s : State) (w : Watch) : (s.workDone w).kept = s.kept := by simp [State.workDone]
@[simp] theorem State.groupsDone_kept (s : State) (c : Nat) : (s.groupsDone c).kept = s.kept := by simp [State.groupsDone]
@[simp] theorem State.loadsDone_kept (s : State) (c : Nat) : (s.loadsDone c).kept = s.kept := by simp [State.loadsDone]
@[simp] theorem State.endRun_kept (s : State) (t : Nat) : (s.endRun t).kept = s.kept := by simp [State.endRun]
@[simp] theorem State.arriveBarrier_kept (s : State) (t b : Nat) : (s.arriveBarrier t b).kept = s.kept := by
  simp [State.arriveBarrier]
@[simp] theorem State.entryComplete_kept (s : State) (t : Nat) : (s.entryComplete t).kept = s.kept := by
  simp only [State.entryComplete]; (repeat' split) <;> simp
@[simp] theorem State.noteSent_kept (s : State) (t : Nat) (q : Issue) (x : Xfer) (bs : List Byte) :
    (s.noteSent t q x bs).kept = s.kept := by
  simp [State.noteSent]
@[simp] theorem State.sendVa_kept (s : State) (t : Nat) (q : Issue) (r va n local_ : Nat) (last : Bool) :
    (s.sendVa t q r va n local_ last).2.kept = s.kept := by
  unfold State.sendVa; simp only []; split
  · split <;> simp
  · next h => rw [← State.lookup_kept h]; split <;> simp
@[simp] theorem State.sendTile_kept (s : State) (t : Nat) (q : Issue) (r off n local_ : Nat) (last : Bool) :
    (s.sendTile t q r off n local_ last).2.kept = s.kept := by
  simp only [State.sendTile]; (repeat' split) <;> simp
@[simp] theorem State.sendGroup_kept (s : State) (t : Nat) (q : Issue) (r off n local_ : Nat) (last : Bool) :
    (s.sendGroup t q r off n local_ last).2.kept = s.kept := by
  simp only [State.sendGroup]; (repeat' split) <;> simp
@[simp] theorem State.sendIssue_kept (t : Nat) (n : Nat) (s : State) : (State.sendIssue t n s).kept = s.kept := by
  induction n generalizing s with
  | zero => rfl
  | succ n ih => unfold State.sendIssue; simp only []; (repeat' split) <;> simp [ih]
@[simp] theorem State.transferIssue_kept (s : State) (t : Nat) : (s.transferIssue t).kept = s.kept := by
  simp only [State.transferIssue]; (repeat' split) <;> simp
@[simp] theorem State.walkDone_kept (s : State) (id : Nat) (poisoned : Bool) : (s.walkDone id poisoned).kept = s.kept := by
  simp only [State.walkDone]; (repeat' split) <;> simp

/-! ### Machine/Trellis -/

@[simp] theorem State.dropMalformed_kept (s : State) (p : Packet) : (s.dropMalformed p).kept = s.kept := by
  simp [State.dropMalformed]
theorem State.flitCheck_kept {s : State} {v : FlitVerdict} {p : Packet} {q : Bool × State} (h : s.flitCheck v p = some q) :
    q.2.kept = s.kept := by
  unfold State.flitCheck at h; (repeat' split at h) <;> cases h <;> simp
@[simp] theorem State.checked_kept (s : State) (p : Packet) (v : FlitVerdict) {go : Bool → State → State} (hg :
    ∀ b s, (go b s).kept = s.kept) : (s.checked p v go).kept = s.kept := by
  unfold State.checked; split
  · simp
  · next h => simp [hg, State.flitCheck_kept h]
@[simp] theorem State.delivered_kept (s : State) (ty : Nat) (p : Packet) (v : FlitVerdict) {go : Bool → State → State} (hg :
    ∀ b s, (go b s).kept = s.kept) : (s.delivered ty p v go).kept = s.kept := by
  unfold State.delivered; (repeat' split) <;> simp [State.checked_kept _ _ _ hg]
@[simp] theorem State.tileCorrected_kept (s : State) (t n : Nat) : (s.tileCorrected t n).kept = s.kept := by
  simp [State.tileCorrected]
@[simp] theorem State.tileEcc_kept (s : State) (t : Nat) (v : EccVerdict) : (s.tileEcc t v).2.kept = s.kept := by
  unfold State.tileEcc; split <;> simp
@[simp] theorem State.trellisRead_kept (s : State) (p : Packet) (v : FlitVerdict) (ecc : EccVerdict) (latency : Nat) :
    (s.trellisRead p v ecc latency).kept = s.kept :=
  State.delivered_kept _ _ _ _ fun b s => by (repeat' split) <;> simp
@[simp] theorem State.poisonConsumed_kept (s : State) (t va : Nat) : (s.poisonConsumed t va).kept = s.kept := by
  simp [State.poisonConsumed]
@[simp] theorem State.readData_kept (s : State) (p : Packet) (v : FlitVerdict) : (s.readData p v).kept = s.kept :=
  State.delivered_kept _ _ _ _ fun b s => by split <;> simp
@[simp] theorem State.checkWrite_kept (s : State) (addr value : Nat) : (s.checkWrite addr value).kept = s.kept := by
  unfold State.checkWrite; split <;> simp
@[simp] theorem State.trellisWrite_kept (s : State) (p : Packet) (v : FlitVerdict) : (s.trellisWrite p v).kept = s.kept :=
  State.delivered_kept _ _ _ _ fun b s => by (repeat' split) <;> simp
@[simp] theorem State.combineAt_kept (s : State) (r : Nat) (p : Packet) : (s.combineAt r p).kept = s.kept := by
  simp only [State.combineAt]; (repeat' split) <;> simp
@[simp] theorem State.holdExpiry_kept (s : State) (r slot : Nat) : (s.holdExpiry r slot).kept = s.kept := by
  unfold State.holdExpiry; split <;> simp
@[simp] theorem State.landAdd_kept (s : State) (p : Packet) (bad : Bool) : (s.landAdd p bad).kept = s.kept := by
  simp [State.landAdd]
@[simp] theorem State.writeAdd_kept (s : State) (ty : Nat) (router : Option Nat) (p : Packet) (v : FlitVerdict) :
    (s.writeAdd ty router p v).kept = s.kept := by
  unfold State.writeAdd; (repeat' split) <;> simp
@[simp] theorem State.mcastDone_kept (s : State) (t : Nat) (o : Xfer) : (s.mcastDone t o).kept = s.kept := by
  simp [State.mcastDone]
@[simp] theorem State.targetOver_kept (s : State) (t tag target : Nat) (given : Bool) :
    (s.targetOver t tag target given).kept = s.kept := by
  unfold State.targetOver; split <;> simp
@[simp] theorem State.ackTile_kept (s : State) (t tag from_ : Nat) : (s.ackTile t tag from_).kept = s.kept := by
  unfold State.ackTile; split <;> simp
@[simp] theorem State.leavesAnswered_kept (s : State) (p : Packet) : (s.leavesAnswered p).2.kept = s.kept := by
  simp [State.leavesAnswered]
@[simp] theorem State.ack_kept (s : State) (p : Packet) (v : FlitVerdict) : (s.ack p v).kept = s.kept := by
  simp only [State.ack]; (repeat' split) <;> simp
@[simp] theorem State.nackBuffer_kept (s : State) (t tag target : Nat) : (s.nackBuffer t tag target).kept = s.kept := by
  unfold State.nackBuffer; (repeat' split) <;> simp
@[simp] theorem State.nackEnds_kept (s : State) (p : Packet) (t tag : Nat) : (s.nackEnds p t tag).kept = s.kept := by
  unfold State.nackEnds; split <;> simp
@[simp] theorem State.nack_kept (s : State) (p : Packet) (v : FlitVerdict) : (s.nack p v).kept = s.kept := by
  simp only [State.nack]; (repeat' split) <;> simp
@[simp] theorem State.multicastResend_kept (s : State) (t idx : Nat) : (s.multicastResend t idx).kept = s.kept := by
  simp only [State.multicastResend]; (repeat' split) <;> simp
@[simp] theorem State.mcastWrite_kept (s : State) (p : Packet) (v : FlitVerdict) : (s.mcastWrite p v).kept = s.kept := by
  simp [State.mcastWrite]
@[simp] theorem State.statePacket_kept (s : State) (p : Packet) (v : FlitVerdict) : (s.statePacket p v).kept = s.kept := by
  simp [State.statePacket]

/-! ### Machine/Tendril -/

@[simp] theorem State.roundComplete_kept (s : State) (b gen : Nat) : (s.roundComplete b gen).kept = s.kept := by
  unfold State.roundComplete; split <;> simp
@[simp] theorem State.barArrive_kept (s : State) (node b gen count : Nat) : (s.barArrive node b gen count).kept = s.kept := by
  unfold State.barArrive; (repeat' split) <;> simp
@[simp] theorem State.barRelease_kept (s : State) (b gen : Nat) : (s.barRelease b gen).kept = s.kept := by
  simp only [State.barRelease]; (repeat' split) <;> simp
@[simp] theorem State.barrierMessage_kept (s : State) (k : Nat) (m : GroupBarMsg) : (s.barrierMessage k m).kept = s.kept := by
  unfold State.barrierMessage; split
  · rfl
  · next h => rw [← State.takeMsg_kept h]; (repeat' split) <;> simp
@[simp] theorem State.flagSet_kept (s : State) (c flag count : Nat) : (s.flagSet c flag count).kept = s.kept := by
  simp only [State.flagSet]; (repeat' split) <;> simp

/-! ### Machine/Rings -/

@[simp] theorem State.updRing_kept (s : State) (c k : Nat) (f : Ring → Ring) : (s.updRing c k f).kept = s.kept := by
  simp [State.updRing]
@[simp] theorem State.ringsChange_kept (s : State) (c : Nat) (old new : Blob) : (s.ringsChange c old new).kept = s.kept := by
  simp [State.ringsChange]
@[simp] theorem State.ringError_kept (s : State) (c k which value : Nat) : (s.ringError c k which value).kept = s.kept := by
  simp [State.ringError]
@[simp] theorem State.ringFault_kept (s : State) (c k which : Nat) (f : XFault) : (s.ringFault c k which f).kept = s.kept := by
  simp [State.ringFault]
@[simp] theorem State.complete_kept (s : State) (c : Nat) (j : Job) (result flags outBytes units cask : Nat) :
    (s.complete c j result flags outBytes units cask).kept = s.kept := by
  simp [State.complete]
@[simp] theorem State.completeJob_kept (s : State) (c : Nat) (j : Job) (result : Nat) (units : Nat) (cask : Nat) :
    (s.completeJob c j result units cask).kept = s.kept := by
  simp [State.completeJob]
@[simp] theorem State.account_kept (s : State) (c client : Nat) (f : Nat × Nat × Nat → Nat × Nat × Nat) :
    (s.account c client f).kept = s.kept := by
  simp [State.account]
@[simp] theorem State.noteStart_kept (s : State) (c : Nat) (j : Job) : (s.noteStart c j).kept = s.kept := by
  simp [State.noteStart]
@[simp] theorem State.writeCompletion_kept (s : State) (c k : Nat) (b : Blob) : (s.writeCompletion c k b).2.kept = s.kept := by
  simp only [State.writeCompletion]; (repeat' split) <;> simp
@[simp] theorem State.writeReady_kept (c k : Nat) (n : Nat) (s : State) : (State.writeReady c k n s).kept = s.kept := by
  induction n generalizing s with
  | zero => rfl
  | succ n ih => unfold State.writeReady; simp only []; (repeat' split) <;> simp [ih]
@[simp] theorem State.writeCq_kept (s : State) (c k : Nat) : (s.writeCq c k).kept = s.kept := by simp [State.writeCq]
@[simp] theorem State.updServing_kept (s : State) (c : Nat) (f : Serving → Serving) : (s.updServing c f).kept = s.kept := by
  simp [State.updServing]
@[simp] theorem State.takeEntry_kept (s : State) (c pair pos : Nat) (e : Blob) : (s.takeEntry c pair pos e).kept = s.kept := by
  simp [State.takeEntry]
@[simp] theorem State.fetchEntries_kept (c k : Nat) (n : Nat) (l : List SqEntry) (s : State) :
    (State.fetchEntries c k n l s).kept = s.kept := by
  induction n generalizing s l with
  | zero => rfl
  | succ n ih => unfold State.fetchEntries; simp only []; (repeat' split) <;> simp [ih]
@[simp] theorem State.fetchSq_kept (s : State) (c k limit : Nat) (ext : List SqEntry) :
    (s.fetchSq c k limit ext).kept = s.kept := by
  simp [State.fetchSq]

/-! ### Machine/Models -/

@[simp] theorem State.writeGroups_kept (s : State) (c : Nat) (m : Model) : (s.writeGroups c m).kept = s.kept := by
  simp [State.writeGroups]
@[simp] theorem State.writeNet_kept (s : State) (c slot : Nat) (m : Model) : (s.writeNet c slot m).kept = s.kept := by
  simp [State.writeNet]
@[simp] theorem State.dropMcast_kept (s : State) (c slot : Nat) : (s.dropMcast c slot).kept = s.kept := by
  simp [State.dropMcast]
@[simp] theorem State.uninstall_kept (s : State) (c slot : Nat) : (s.uninstall c slot).kept = s.kept := by
  unfold State.uninstall; split <;> simp
@[simp] theorem State.install_kept (s : State) (c slot : Nat) (r : Recipe) (j : Job) :
    (s.install c slot r j).2.kept = s.kept := by
  simp only [State.install]; (repeat' split) <;> simp
@[simp] theorem State.controlDone_kept (s : State) (c : Nat) : (s.controlDone c).kept = s.kept := by simp [State.controlDone]
@[simp] theorem State.noteBottle_kept (s : State) (c reason id : Nat) : (s.noteBottle c reason id).kept = s.kept := by
  simp [State.noteBottle]
@[simp] theorem State.courierFault_kept (s : State) (c : Nat) (j : Job) (f : XFault) :
    (s.courierFault c j f).kept = s.kept := by
  simp [State.courierFault]
@[simp] theorem State.openBottle_kept (s : State) (c : Nat) (j : Job) (b : BottleFindings) :
    (s.openBottle c j b).2.kept = s.kept := by
  simp only [State.openBottle]; (repeat' split) <;> simp
@[simp] theorem State.loadModel_kept (s : State) (b : BottleFindings) : (s.loadModel b).kept = s.kept := by
  simp only [State.loadModel]; (repeat' split) <;> simp
@[simp] theorem State.writePieces_kept (s : State) (c label : Nat) (l : List (Nat × List Byte)) :
    (s.writePieces c label l).2.kept = s.kept := by
  induction l generalizing s with
  | nil => rfl
  | cons e rest ih => unfold State.writePieces; simp only []; (repeat' split) <;> simp [ih]
@[simp] theorem State.zeroPieces_kept (s : State) (c label : Nat) (ps : List (Nat × List Byte)) :
    (s.zeroPieces c label ps).kept = s.kept := by
  simp [State.zeroPieces]
@[simp] theorem State.coreWrite_kept (s : State) (c va : Nat) (bs : List Byte) : (s.coreWrite c va bs).kept = s.kept := by
  simp only [State.coreWrite]; (repeat' split) <;> simp
@[simp] theorem State.coresArrive_kept (s : State) (c : Nat) (m : Model) : (s.coresArrive c m).kept = s.kept := by
  simp only [State.coresArrive]; (repeat' split) <;> simp
@[simp] theorem State.updModel_kept (s : State) (c slot : Nat) (f : Model → Model) : (s.updModel c slot f).kept = s.kept := by
  simp [State.updModel]
@[simp] theorem State.bottleJobs_kept (s : State) (c content : Nat) (tags : Bool) :
    (s.bottleJobs c content tags).kept = s.kept := by
  simp [State.bottleJobs]
@[simp] theorem State.bottleLoadDone_kept (s : State) (c slot : Nat) (b : BottleFindings) :
    (s.bottleLoadDone c slot b).kept = s.kept := by
  simp only [State.bottleLoadDone]; (repeat' split) <;> simp
@[simp] theorem State.unloadModel_kept (s : State) : s.unloadModel.kept = s.kept := by
  simp only [State.unloadModel]; (repeat' split) <;> simp
@[simp] theorem State.placeNow_kept (s : State) (c slot : Nat) : (s.placeNow c slot).kept = s.kept := by
  unfold State.placeNow; (repeat' split) <;> simp
@[simp] theorem State.placeBoundary_kept (s : State) : s.placeBoundary.kept = s.kept := by simp [State.placeBoundary]
@[simp] theorem State.placeModel_kept (s : State) : s.placeModel.kept = s.kept := by
  simp only [State.placeModel]; (repeat' split) <;> simp
@[simp] theorem State.controlCancel_kept (s : State) : s.controlCancel.kept = s.kept := by
  simp only [State.controlCancel]; (repeat' split) <;> simp
theorem State.takeNew_kept {s : State} {p : Job → Bool} {q : Nat × Job × State} (h : s.takeNew p = some q) :
    q.2.2.kept = s.kept := by
  obtain ⟨c, -, hc⟩ := List.exists_of_findSome?_eq_some h
  split at hc
  · cases hc
  · obtain ⟨j, -, rfl⟩ := Option.map_eq_some_iff.mp hc; simp
@[simp] theorem State.courierPages_kept (c label : Nat) (n : Nat) (m : Nat) (k : Nat) (j : Nat) (l : List Byte) (s : State) :
    (State.courierPages c label n m k j l s).2.kept = s.kept := by
  induction n generalizing s m k j l with
  | zero => rfl
  | succ n ih => unfold State.courierPages; simp only []; (repeat' split) <;> simp [ih]
@[simp] theorem State.courierCopy_kept (s : State) (c label src dst n : Nat) (ext : List Byte) :
    (s.courierCopy c label src dst n ext).2.kept = s.kept := by
  simp [State.courierCopy]
@[simp] theorem State.movePages_kept (c label : Nat) (j : Job) (l : List (Nat × Nat)) (bs : List Byte) (s : State) :
    (State.movePages c label j l bs s).2.kept = s.kept := by
  induction l generalizing s bs with
  | nil => rfl
  | cons e rest ih => unfold State.movePages; simp only []; (repeat' split) <;> simp [ih]
@[simp] theorem State.prefetchRun_kept (s : State) (c : Nat) (j : Job) (ext : List Byte) :
    (s.prefetchRun c j ext).2.kept = s.kept := by
  simp only [State.prefetchRun]; (repeat' split) <;> simp
@[simp] theorem State.courierJob_kept (s : State) (c kind bytes va : Nat) {run : State → Nat × State} (hr :
    ∀ s, (run s).2.kept = s.kept) : (s.courierJob c kind bytes va run).kept = s.kept := by
  simp [State.courierJob, hr]
@[simp] theorem State.prefetchCommand_kept (s : State) (ext : List Byte) : (s.prefetchCommand ext).kept = s.kept := by
  unfold State.prefetchCommand; split
  · rfl
  · next h => rw [← State.takeNew_kept h]; exact State.courierJob_kept _ _ _ _ _ fun s => by simp
@[simp] theorem State.remapPage_kept (s : State) (c src dst : Nat) : (s.remapPage c src dst).kept = s.kept := by
  simp only [State.remapPage]; (repeat' split) <;> simp
@[simp] theorem State.remapBoundary_kept (s : State) : s.remapBoundary.kept = s.kept := by
  simp only [State.remapBoundary]; exact State.each_kept _ _ _ fun s x => by simp
@[simp] theorem State.willNeed_kept (s : State) (c label va n : Nat) : (s.willNeed c label va n).2.kept = s.kept := by
  simp only [State.willNeed]; (repeat' split) <;> simp
@[simp] theorem State.willNeedAll_kept (c label : Nat) (n : Nat) (m : Nat) (k : Nat) (s : State) :
    (State.willNeedAll c label n m k s).2.kept = s.kept := by
  induction n generalizing s m k with
  | zero => rfl
  | succ n ih => unfold State.willNeedAll; simp only []; (repeat' split) <;> simp [ih]
@[simp] theorem State.dontNeed_kept (s : State) (c va : Nat) : (s.dontNeed c va).kept = s.kept := by
  unfold State.dontNeed; split <;> simp
@[simp] theorem State.adviseRun_kept (s : State) (c : Nat) (j : Job) : (s.adviseRun c j).2.kept = s.kept := by
  simp only [State.adviseRun]; (repeat' split) <;> simp
@[simp] theorem State.adviseCommand_kept (s : State) : s.adviseCommand.kept = s.kept := by
  unfold State.adviseCommand; split
  · rfl
  · next h => rw [← State.takeNew_kept h]; exact State.courierJob_kept _ _ _ _ _ fun s => by simp

/-! ### Machine/Text -/

@[simp] theorem State.setCask_kept (s : State) (c id : Nat) (x : Cask) : (s.setCask c id x).kept = s.kept := by
  simp [State.setCask]
@[simp] theorem State.freeCask_kept (s : State) (c id : Nat) : (s.freeCask c id).kept = s.kept := by simp [State.freeCask]
theorem State.giveStaves_kept {s : State} {c id len : Nat} {t : State} (h : s.giveStaves c id len = some t) :
    t.kept = s.kept := by
  unfold State.giveStaves at h; split at h
  · cases h
  · simp only [] at h; split at h
    · cases h; rfl
    · obtain ⟨got, -, rfl⟩ := Option.map_eq_some_iff.mp h; simp
@[simp] theorem State.coreRead_kept (s : State) (c va n : Nat) (ext : List Byte) : (s.coreRead c va n ext).2.kept = s.kept := by
  simp only [State.coreRead]; (repeat' split) <;> simp
@[simp] theorem State.readCandidates_kept (c : Nat) (n : Nat) (m : Nat) (l : List Byte) (s : State) :
    (State.readCandidates c n m l s).2.kept = s.kept := by
  induction n generalizing s m l with
  | zero => rfl
  | succ n ih => unfold State.readCandidates; simp only []; (repeat' split) <;> simp [ih]
@[simp] theorem State.candidatesOf_kept (s : State) (c : Nat) (m : Model) (host : List Candidates) :
    (s.candidatesOf c m host).2.kept = s.kept := by
  simp [State.candidatesOf]
@[simp] theorem State.updSeqs_kept (s : State) (c slot : Nat) (f : List Seq → List Seq) :
    (s.updSeqs c slot f).kept = s.kept := by
  simp [State.updSeqs]
@[simp] theorem State.putSeq_kept (s : State) (c slot : Nat) (q : Seq) : (s.putSeq c slot q).kept = s.kept := by
  simp [State.putSeq]
@[simp] theorem State.writeTokens_kept (s : State) (c : Nat) (q : Seq) (first gen : Nat) :
    (s.writeTokens c q first gen).2.kept = s.kept := by
  simp [State.writeTokens]
@[simp] theorem State.leaveSeq_kept (s : State) (c slot : Nat) (q : Seq) (result leave : Nat) (keep : Bool) :
    (s.leaveSeq c slot q result leave keep).kept = s.kept := by
  simp only [State.leaveSeq]; (repeat' split) <;> simp
@[simp] theorem State.stepSeq_kept (s : State) (c slot : Nat) (cands : List Candidates) (q : Seq) :
    (s.stepSeq c slot cands q).kept = s.kept := by
  unfold State.stepSeq; split
  · rfl
  · split
    · simp
    · simp only []; (repeat' split) <;> simp
@[simp] theorem State.enrol_kept (s : State) (c slot : Nat) (q : Seq) (count : Nat) (tokens : List Nat) (pre sample : Bool) :
    (s.enrol c slot q count tokens pre sample).2.kept = s.kept := by
  unfold State.enrol; split
  · next h => simp [State.giveStaves_kept h]
  · simp
@[simp] theorem State.batchSeq_kept (s : State) (c slot : Nat) (m : Model) (budget : Nat) (q : Seq) :
    (s.batchSeq c slot m budget q).2.kept = s.kept := by
  simp only [State.batchSeq]; (repeat' split) <;> simp
@[simp] theorem State.batchAll_kept (c slot : Nat) (m : Model) (l : List Seq) (n : Nat) (bs : List BatchRec) (s : State) :
    (State.batchAll c slot m l n bs s).2.2.kept = s.kept := by
  induction l generalizing s n bs with
  | nil => rfl
  | cons q rest ih => unfold State.batchAll; simp only []; split <;> simp [ih]
@[simp] theorem State.join_kept (s : State) (c slot : Nat) (j : Job) (at_ id : Nat) (x : Cask) (ext : List Byte) :
    (s.join c slot j at_ id x ext).2.kept = s.kept := by
  simp only [State.join]; (repeat' split) <;> simp
@[simp] theorem State.joinAll_kept (c slot : Nat) (prompts : List (Nat × List Nat)) (l : List Job) (n : Nat) (bs :
    List BatchRec) (s : State) : (State.joinAll c slot prompts l n bs s).2.kept = s.kept := by
  induction l generalizing s n bs with
  | nil => rfl
  | cons j rest ih => unfold State.joinAll; simp only []; (repeat' split) <;> simp [ih]
@[simp] theorem State.nextBatch_kept (s : State) (c slot : Nat) (prompts : List (Nat × List Nat)) :
    (s.nextBatch c slot prompts).kept = s.kept := by
  unfold State.nextBatch; split <;> simp
@[simp] theorem State.takeWaiting_kept (s : State) (kind : Nat) : (s.takeWaiting kind).kept = s.kept := by
  unfold State.takeWaiting; split
  · rfl
  · next h => rw [← State.takeNew_kept h]; simp
@[simp] theorem State.stavesExhausted_kept (s : State) (c slot : Nat) : (s.stavesExhausted c slot).kept = s.kept := by
  simp only [State.stavesExhausted]; (repeat' split) <;> simp

/-! ### Machine/Steps -/

@[simp] theorem State.stepRequests_kept (s : State) (c slot g : Nat) (p : Nat → Job → Bool) (f : Job → Job) :
    (s.stepRequests c slot g p f).kept = s.kept := by
  unfold State.stepRequests; split <;> simp
@[simp] theorem State.stepBegins_kept (s : State) (c g : Nat) (row : Nat) : (s.stepBegins c g row).kept = s.kept := by
  simp only [State.stepBegins]; (repeat' split) <;> simp
@[simp] theorem State.stepLate_kept (s : State) (c : Nat) (w : Watch) : (s.stepLate c w).kept = s.kept := by
  unfold State.stepLate; split <;> simp
@[simp] theorem State.issueStart_kept (s : State) (c g entry tag watch row : Nat) :
    (s.issueStart c g entry tag watch row).kept = s.kept := by
  simp [State.issueStart]
@[simp] theorem State.preempt_kept (s : State) (c g entry tag watch : Nat) : (s.preempt c g entry tag watch).kept = s.kept := by
  simp only [State.preempt]; exact State.each_kept _ _ _ fun s x => by split <;> simp
@[simp] theorem State.switchRead_kept (s : State) (c va n : Nat) : (s.switchRead c va n).2.kept = s.kept := by
  simp only [State.switchRead]; (repeat' split) <;> simp
@[simp] theorem State.loadResident_kept (s : State) (t : Nat) (m : Model) : (s.loadResident t m).kept = s.kept := by
  unfold State.loadResident
  refine (State.each_kept _ _ _ fun s e => by simp only []; split <;> simp).trans ?_
  rw [State.updTile_kept]
  exact State.each_kept _ _ _ fun s e => by simp only []; split <;> simp
@[simp] theorem State.saveLive_kept (s : State) (t : Nat) : (s.saveLive t).kept = s.kept := by
  simp only [State.saveLive]; (repeat' split) <;> simp
@[simp] theorem State.switchTile_kept (s : State) (t slot : Nat) (m : Model) : (s.switchTile t slot m).kept = s.kept := by
  simp [State.switchTile]
@[simp] theorem State.switchDone_kept (s : State) (c g : Nat) : (s.switchDone c g).kept = s.kept := by
  unfold State.switchDone; (repeat' split) <;> simp
@[simp] theorem State.resumeSaved_kept (s : State) (t slot : Nat) (m : Model) : (s.resumeSaved t slot m).kept = s.kept := by
  simp only [State.resumeSaved]; (repeat' split) <;> simp
@[simp] theorem State.preemptedResume_kept (s : State) (c g : Nat) : (s.preemptedResume c g).kept = s.kept := by
  unfold State.preemptedResume; split
  · rfl
  · split
    · rfl
    · refine (State.each_kept _ _ _ fun s l => ?_).trans (by simp)
      (repeat' split) <;> simp
@[simp] theorem State.countStep_kept (s : State) (c slot : Nat) : (s.countStep c slot).kept = s.kept := by
  simp [State.countStep]
@[simp] theorem State.stepOutput_kept (s : State) (c : Nat) (j : Job) (policy : Nat) :
    (s.stepOutput c j policy).kept = s.kept := by
  simp [State.stepOutput]
@[simp] theorem State.stepComplete_kept (s : State) (c slot : Nat) (cands : List Candidates) (prompts :
    List (Nat × List Nat)) : (s.stepComplete c slot cands prompts).kept = s.kept := by
  unfold State.stepComplete; (repeat' split) <;> simp
@[simp] theorem State.outputCopyDone_kept (s : State) (c : Nat) : (s.outputCopyDone c).kept = s.kept := by
  unfold State.outputCopyDone; split
  · rfl
  · split
    · rfl
    · simp only []; split
      · simp
      · split
        · simp
        · refine (State.courierJob_kept _ _ _ _ _ fun s => ?_).trans (by simp)
          split <;> simp
@[simp] theorem State.takeFrame_kept (s : State) : s.takeFrame.kept = s.kept := by
  unfold State.takeFrame; split
  · rfl
  · next h => rw [← State.takeNew_kept h]; simp
@[simp] theorem State.returnFrames_kept (s : State) (c : Nat) : (s.returnFrames c).kept = s.kept := by simp [State.returnFrames]
@[simp] theorem State.planRow_kept (s : State) (c r : Nat) : (s.planRow c r).kept = s.kept := by simp [State.planRow]
@[simp] theorem State.closeStream_kept (s : State) (c k : Nat) : (s.closeStream c k).kept = s.kept := by
  simp only [State.closeStream]; (repeat' split) <;> simp
@[simp] theorem State.stepRow_kept (s : State) (c : Nat) (m : Model) (entry : Nat) : (s.stepRow c m entry).kept = s.kept := by
  simp [State.stepRow]
@[simp] theorem State.closeModel_kept (s : State) (c slot : Nat) : (s.closeModel c slot).kept = s.kept := by
  unfold State.closeModel; (repeat' split) <;> simp
@[simp] theorem State.pageClose_kept (s : State) (c : Nat) : (s.pageClose c).kept = s.kept := by simp [State.pageClose]
@[simp] theorem State.nextPageComplete_kept (s : State) (c : Nat) (rows : List Nat) :
    (s.nextPageComplete c rows).kept = s.kept := by
  simp [State.nextPageComplete]

/-! ### Machine/Casks -/

@[simp] theorem State.caskCount_kept (s : State) (c i : Nat) : (s.caskCount c i).kept = s.kept := by simp [State.caskCount]
@[simp] theorem State.setLog_kept (s : State) (c i : Nat) (h : HandLog) : (s.setLog c i h).kept = s.kept := by
  simp [State.setLog]
@[simp] theorem State.clearLog_kept (s : State) (c i : Nat) : (s.clearLog c i).kept = s.kept := by simp [State.clearLog]
@[simp] theorem State.logOutcome_kept (s : State) (c uid vintage outcome receiver device : Nat) :
    (s.logOutcome c uid vintage outcome receiver device).kept = s.kept := by
  unfold State.logOutcome; split <;> simp
@[simp] theorem State.sendCask_kept (s : State) (m : CaskMsg) : (s.sendCask m).kept = s.kept := by simp [State.sendCask]
@[simp] theorem State.loseCask_kept (s : State) (c id : Nat) : (s.loseCask c id).kept = s.kept := by simp [State.loseCask]
@[simp] theorem State.limboRecord_kept (s : State) (c id : Nat) (x : Cask) : (s.limboRecord c id x).kept = s.kept := by
  simp [State.limboRecord]
@[simp] theorem State.endFetch_kept (s : State) (c : Nat) (f : Fetching) (result cask : Nat) :
    (s.endFetch c f result cask).kept = s.kept := by
  simp [State.endFetch]
@[simp] theorem State.unfetch_kept (s : State) (c id : Nat) : (s.unfetch c id).kept = s.kept := by simp [State.unfetch]
@[simp] theorem State.toLimbo_kept (s : State) (c id : Nat) (x : Cask) : (s.toLimbo c id x).kept = s.kept := by
  simp only [State.toLimbo]; (repeat' split) <;> simp
@[simp] theorem State.staveBytes_kept (s : State) (c : Nat) (m : Model) (n label : Nat) :
    (s.staveBytes c m n label).2.kept = s.kept := by
  simp only [State.staveBytes]; (repeat' split) <;> simp
@[simp] theorem State.streamStaves_kept (s : State) (c : Nat) (m : Model) (vintage label : Nat) (l : List Nat) (n : Nat) :
    (s.streamStaves c m vintage label l n).2.2.kept = s.kept := by
  induction l generalizing s n with
  | nil => rfl
  | cons e rest ih => unfold State.streamStaves; simp [ih]
@[simp] theorem State.caskStream_kept (s : State) (c remoteModel label : Nat) (m : Model) (x : Cask) :
    (s.caskStream c remoteModel label m x).2.kept = s.kept := by
  simp [State.caskStream]
@[simp] theorem State.dropStream_kept (s : State) (x : Cask) (st : Nat) : (s.dropStream x st).kept = s.kept := by
  unfold State.dropStream; split <;> simp
@[simp] theorem State.endOffer_kept (s : State) (c id : Nat) (x : Cask) (vintage : Nat) :
    (s.endOffer c id x vintage).kept = s.kept := by
  unfold State.endOffer; split <;> simp
@[simp] theorem State.withdraw_kept (s : State) (c id : Nat) (x : Cask) : (s.withdraw c id x).kept = s.kept := by
  simp [State.withdraw]
@[simp] theorem State.offerCask_kept (s : State) (c id w remoteModel label : Nat) (job : Option Job) :
    (s.offerCask c id w remoteModel label job).2.kept = s.kept := by
  unfold State.offerCask; (repeat' split) <;> simp; split <;> simp
@[simp] theorem State.caskOffer_kept (s : State) : s.caskOffer.kept = s.kept := by unfold State.caskOffer; split <;> simp
@[simp] theorem State.caskFetch_kept (s : State) : s.caskFetch.kept = s.kept := by
  simp only [State.caskFetch]; (repeat' split) <;> simp
@[simp] theorem State.caskFree_kept (s : State) : s.caskFree.kept = s.kept := by
  simp only [State.caskFree]; (repeat' split) <;> simp
@[simp] theorem State.serveFetch_kept (s : State) (c : Nat) (f : Nat × Nat × Nat × Nat) : (s.serveFetch c f).kept = s.kept := by
  simp only [State.serveFetch]; (repeat' split) <;> simp
@[simp] theorem State.brokenOffers_kept (s : State) (c : Nat) : (s.brokenOffers c).kept = s.kept := by simp [State.brokenOffers]
@[simp] theorem State.allBroken_kept (s : State) : s.allBroken.kept = s.kept := by simp [State.allBroken]
@[simp] theorem State.caskBoundary_kept (s : State) : s.caskBoundary.kept = s.kept := by simp [State.caskBoundary]
@[simp] theorem State.dropIncoming_kept (s : State) (c id : Nat) (x : Cask) : (s.dropIncoming c id x).kept = s.kept := by
  simp [State.dropIncoming]
@[simp] theorem State.refuseStream_kept (s : State) (k tag : Nat) : (s.refuseStream k tag).kept = s.kept := by
  unfold State.refuseStream; split <;> simp
@[simp] theorem State.declineIncoming_kept (s : State) (c id : Nat) (x : Cask) (code : Nat) :
    (s.declineIncoming c id x code).kept = s.kept := by
  simp [State.declineIncoming]
@[simp] theorem State.takeStaves_kept (s : State) (c id : Nat) (m : Model) (data : List Byte) (n : Nat) (k : Nat) :
    (s.takeStaves c id m data n k).2.kept = s.kept := by
  induction n generalizing s k with
  | zero => rfl
  | succ n ih =>
    unfold State.takeStaves; simp only []; split
    · rfl
    · split
      · rfl
      · next h => rw [← State.giveStaves_kept h]; (repeat' split) <;> simp [ih]
@[simp] theorem State.acceptIncoming_kept (s : State) (c id : Nat) : (s.acceptIncoming c id).kept = s.kept := by
  unfold State.acceptIncoming; (repeat' split) <;> simp
@[simp] theorem State.caskData_kept (s : State) (c id : Nat) : (s.caskData c id).kept = s.kept := by
  unfold State.caskData; (repeat' split) <;> simp
@[simp] theorem State.caskStreams_kept (s : State) (k : Nat) : (s.caskStreams k).kept = s.kept := by simp [State.caskStreams]
@[simp] theorem State.outranked_kept (s : State) (c : Nat) (uid : Nat) : (s.outranked c uid).kept = s.kept := by
  simp [State.outranked]
@[simp] theorem State.declineOffer_kept (s : State) (k c : Nat) (m : CaskMsg) (code : Nat) :
    (s.declineOffer k c m code).kept = s.kept := by
  simp [State.declineOffer]
@[simp] theorem State.offer_kept (s : State) (k : Nat) (m : CaskMsg) : (s.offer k m).kept = s.kept := by
  unfold State.offer; split
  · rfl
  · split
    · split
      · rfl
      · next h => rw [← State.takeMsg_kept h]; extract_lets t; split <;> simp [t]
    · split
      · split
        · rfl
        · next h => rw [← State.takeMsg_kept h]; simp
      · extract_lets early; split
        · rfl
        · split
          · rfl
          · next h => rw [← State.takeMsg_kept h]; (repeat' split) <;> simp
@[simp] theorem State.onCask_kept (s : State) (k : Nat) (m : CaskMsg) (sub : Nat) {act : State → Nat → State} (ha :
    ∀ s c, (act s c).kept = s.kept) : (s.onCask k m sub act).kept = s.kept := by
  unfold State.onCask; split
  · rfl
  · split
    · rfl
    · next h => rw [← State.takeMsg_kept h]; (repeat' split) <;> simp [ha]
@[simp] theorem State.ifLive_kept (s : State) (c : Nat) {act : State → State} (ha : ∀ s, (act s).kept = s.kept) :
    (s.ifLive c act).kept = s.kept := by
  unfold State.ifLive; split <;> simp [ha]
@[simp] theorem State.answerFromLog_kept (s : State) (c : Nat) (m : CaskMsg) : (s.answerFromLog c m).kept = s.kept := by
  simp [State.answerFromLog]
@[simp] theorem State.acceptMessage_kept (s : State) (k : Nat) (m : CaskMsg) : (s.acceptMessage k m).kept = s.kept :=
  State.onCask_kept _ _ _ _ fun s c => by
  split
  · simp
  · simp only []; (repeat' split) <;> simp
@[simp] theorem State.refusedFetch_kept (s : State) (c : Nat) (m : CaskMsg) : (s.refusedFetch c m).kept = s.kept := by
  unfold State.refusedFetch; split <;> simp
@[simp] theorem State.declineMessage_kept (s : State) (k : Nat) (m : CaskMsg) : (s.declineMessage k m).kept = s.kept :=
  State.onCask_kept _ _ _ _ fun s c => State.ifLive_kept _ _ fun s => by
  split
  · simp only []; (repeat' split) <;> simp
  · simp
@[simp] theorem State.ownCask_kept (s : State) (c id : Nat) (x : Cask) : (s.ownCask c id x).kept = s.kept := by
  simp only [State.ownCask]; (repeat' split) <;> simp
@[simp] theorem State.releaseMessage_kept (s : State) (k : Nat) (m : CaskMsg) : (s.releaseMessage k m).kept = s.kept :=
  State.onCask_kept _ _ _ _ fun s c => State.ifLive_kept _ _ fun s => by split <;> simp
@[simp] theorem State.queryMessage_kept (s : State) (k : Nat) (m : CaskMsg) : (s.queryMessage k m).kept = s.kept := by
  simp [State.queryMessage]
@[simp] theorem State.answerMessage_kept (s : State) (k : Nat) (m : CaskMsg) : (s.answerMessage k m).kept = s.kept :=
  State.onCask_kept _ _ _ _ fun s c => State.ifLive_kept _ _ fun s => by (repeat' split) <;> simp
@[simp] theorem State.fetchMessage_kept (s : State) (k : Nat) (m : CaskMsg) : (s.fetchMessage k m).kept = s.kept := by
  simp [State.fetchMessage]
@[simp] theorem State.offerTimeout_kept (s : State) (c id : Nat) : (s.offerTimeout c id).kept = s.kept := by
  unfold State.offerTimeout; split <;> simp
@[simp] theorem State.acceptTimer_kept (s : State) (c id : Nat) : (s.acceptTimer c id).kept = s.kept := by
  unfold State.acceptTimer; split <;> simp
@[simp] theorem State.fetchTimeout_kept (s : State) (c reqId : Nat) : (s.fetchTimeout c reqId).kept = s.kept := by
  unfold State.fetchTimeout; split <;> simp
@[simp] theorem State.limboAssign_kept (s : State) (c id : Nat) : (s.limboAssign c id).kept = s.kept := by
  unfold State.limboAssign; split <;> simp
@[simp] theorem State.limboDiscard_kept (s : State) (c id : Nat) : (s.limboDiscard c id).kept = s.kept := by
  simp [State.limboDiscard]
@[simp] theorem State.caskCut_kept (s : State) (c : Nat) : (s.caskCut c).kept = s.kept := by simp [State.caskCut]
@[simp] theorem State.casksCut_kept (s : State) : s.casksCut.kept = s.kept := by simp [State.casksCut]
@[simp] theorem State.squashCasks_kept (s : State) (k : Nat) (m : SquashMsg) : (s.squashCasks k m).kept = s.kept := by
  simp only [State.squashCasks]; (repeat' split) <;> simp

/-! ### Machine/Slot -/

@[simp] theorem State.countBusy_kept (s : State) (len : Rat) : (s.countBusy len).kept = s.kept := by simp [State.countBusy]
@[simp] theorem State.countTileSlots_kept (s : State) : s.countTileSlots.kept = s.kept := by simp [State.countTileSlots]
@[simp] theorem State.countPcTime_kept (s : State) (len : Rat) : (s.countPcTime len).kept = s.kept := by
  simp [State.countPcTime]
@[simp] theorem State.countPeers_kept (s : State) : s.countPeers.kept = s.kept := by simp [State.countPeers]
@[simp] theorem State.takeRow_kept (s : State) (c i : Nat) (found : List RowInst) : (s.takeRow c i found).2.kept = s.kept := by
  simp only [State.takeRow]; (repeat' split) <;> simp
@[simp] theorem State.takePage_kept (s : State) (c : Nat) : (s.takePage c).2.kept = s.kept := by
  unfold State.takePage
  generalize List.range _ = l
  suffices h : ∀ a : List RowInst × State, (l.foldl (fun a i => a.2.takeRow c i a.1) a).2.kept = a.2.kept from h _
  induction l with
  | nil => intro a; rfl
  | cons i l ih => intro a; simp [ih]
@[simp] theorem State.takePages_kept (s : State) (cs : List Nat) : (s.takePages cs).2.kept = s.kept := by
  unfold State.takePages
  suffices h : ∀ a : List RowInst × State, (cs.foldl (fun a c => (a.1 ++ (a.2.takePage c).1, (a.2.takePage c).2)) a).2.kept = a.2.kept from h _
  induction cs with
  | nil => intro a; rfl
  | cons i l ih => intro a; simp [ih]
@[simp] theorem State.presentSlot_kept (s : State) : s.presentSlot.kept = s.kept := by simp [State.presentSlot]
@[simp] theorem State.latchReady_kept (s : State) : s.latchReady.kept = s.kept := by simp [State.latchReady]
@[simp] theorem State.holidaysEnd_kept (s : State) : s.holidaysEnd.kept = s.kept := by simp [State.holidaysEnd]
@[simp] theorem State.slotTick_kept (s : State) (len : Rat) : (s.slotTick len).kept = s.kept := by
  simp only [State.slotTick]; (repeat' split) <;> simp
theorem State.issueRow_kept {s : State} {action : Nat} {q : RowInst × State} (h : s.issueRow action = some q) :
    q.2.kept = s.kept := by
  unfold State.issueRow at h; split at h
  · cases h
  · split at h <;> cases h; simp
@[simp] theorem State.rowEnd_kept (s : State) (x : RowInst) (how : Nat) : (s.rowEnd x how).kept = s.kept := by
  simp [State.rowEnd]
@[simp] theorem State.watchRow_kept (s : State) (x : RowInst) (tileWork : Bool) : (s.watchRow x tileWork).kept = s.kept := by
  simp [State.watchRow]
@[simp] theorem State.skipRow_kept (s : State) (x : RowInst) : (s.skipRow x).kept = s.kept := by simp [State.skipRow]
@[simp] theorem State.startStep_kept (s : State) : s.startStep.kept = s.kept := by
  unfold State.startStep; split
  · rfl
  · next h => rw [← State.issueRow_kept h]; simp
@[simp] theorem State.heldStartIssue_kept (s : State) (c g : Nat) : (s.heldStartIssue c g).kept = s.kept := by
  unfold State.heldStartIssue; split <;> simp
@[simp] theorem State.loadPlane_kept (s : State) : s.loadPlane.kept = s.kept := by
  unfold State.loadPlane; split
  · rfl
  · next h => rw [← State.issueRow_kept h]; simp
@[simp] theorem State.fetchRow_kept (s : State) (ext : List SqEntry) : (s.fetchRow ext).kept = s.kept := by
  unfold State.fetchRow; split
  · rfl
  · next h => rw [← State.issueRow_kept h]; simp
@[simp] theorem State.writeRow_kept (s : State) : s.writeRow.kept = s.kept := by
  unfold State.writeRow; split
  · rfl
  · next h => rw [← State.issueRow_kept h]; simp
@[simp] theorem State.harvestRow_kept (s : State) : s.harvestRow.kept = s.kept := by
  unfold State.harvestRow; split
  · rfl
  · next h => rw [← State.issueRow_kept h]; simp
@[simp] theorem State.holidayFinish_kept (s : State) (sc : Scope) : (s.holidayFinish sc).kept = s.kept := by
  simp [State.holidayFinish]
@[simp] theorem State.holidayRow_kept (s : State) : s.holidayRow.kept = s.kept := by
  unfold State.holidayRow; split
  · rfl
  · next h => rw [← State.issueRow_kept h]; simp only []; split <;> simp
@[simp] theorem State.reconcileRow_kept (s : State) : s.reconcileRow.kept = s.kept := by
  unfold State.reconcileRow; split
  · rfl
  · next h => rw [← State.issueRow_kept h]; simp
@[simp] theorem State.nopRow_kept (s : State) : s.nopRow.kept = s.kept := by
  unfold State.nopRow; split
  · rfl
  · next h => rw [← State.issueRow_kept h]; simp
@[simp] theorem State.deadlineMiss_kept (s : State) (id : Nat) : (s.deadlineMiss id).kept = s.kept := by
  simp only [State.deadlineMiss]; (repeat' split) <;> simp

/-! ### Machine/View -/

@[simp] theorem State.setSelect_kept (s : State) (a : Acc) (i sub v : Nat) : (s.setSelect a i sub v).kept = s.kept := by
  simp [State.setSelect]

/-! ### Machine/Acts -/

@[simp] theorem State.settleUnits_kept (s : State) (isTile : Bool) (us : List Nat) :
    (s.settleUnits isTile us).kept = s.kept := by
  simp [State.settleUnits]
@[simp] theorem State.holdUnits_kept (s : State) (w : ObjWrite) : (s.holdUnits w).kept = s.kept := by
  unfold State.holdUnits; (repeat' split) <;> simp
@[simp] theorem State.freeUnitsOf_kept (s : State) (w : ObjWrite) : (s.freeUnitsOf w).kept = s.kept := by
  unfold State.freeUnitsOf; split <;> simp
@[simp] theorem State.endHold_kept (s : State) (w : ObjWrite) : (s.endHold w).kept = s.kept := by
  unfold State.endHold; split <;> simp
@[simp] theorem State.poolReturn_kept (s : State) (isTile : Bool) (u : Nat) (scrubOk : Bool) :
    (s.poolReturn isTile u scrubOk).kept = s.kept := by
  unfold State.poolReturn; (repeat' split) <;> simp
@[simp] theorem State.deviceRows_kept (s : State) : s.deviceRows.kept = s.kept := by simp [State.deviceRows]
@[simp] theorem State.takeDeviceRows_kept (s : State) : s.takeDeviceRows.kept = s.kept := by simp [State.takeDeviceRows]
@[simp] theorem State.harvestChange_kept (s : State) : s.harvestChange.kept = s.kept := by simp [State.harvestChange]
@[simp] theorem State.placeEstateRow_kept (s : State) (n row : Nat) : (s.placeEstateRow n row).kept = s.kept := by
  simp [State.placeEstateRow]
@[simp] theorem State.scaleShares_kept (s : State) : s.scaleShares.kept = s.kept := by simp [State.scaleShares]
@[simp] theorem State.stashOn_kept (s : State) (p : Nat) : (s.stashOn p).kept = s.kept := by simp [State.stashOn]
@[simp] theorem State.reportChange_kept (s : State) (c : Nat) (old new : Blob) : (s.reportChange c old new).kept = s.kept := by
  simp [State.reportChange]
@[simp] theorem State.inboundChange_kept (s : State) (old new : Blob) : (s.inboundChange old new).kept = s.kept := by
  simp [State.inboundChange]
@[simp] theorem State.moveSteward_kept (s : State) (p : HostPort) : (s.moveSteward p).kept = s.kept := by
  simp [State.moveSteward]
@[simp] theorem State.stewardAct_kept (s : State) (a : Acc) (code : Nat) : (s.stewardAct a code).kept = s.kept := by
  unfold State.stewardAct; split <;> simp
@[simp] theorem State.heartbeatAct_kept (s : State) : s.heartbeatAct.kept = s.kept := by simp [State.heartbeatAct]
@[simp] theorem State.parcelReset_kept (s : State) (p : Nat) : (s.parcelReset p).kept = s.kept := by simp [State.parcelReset]
@[simp] theorem State.firmwareCommit_kept (s : State) : s.firmwareCommit.kept = s.kept := by simp [State.firmwareCommit]
@[simp] theorem State.flashProgram_kept (s : State) (b : Blob) : (s.flashProgram b).kept = s.kept := by
  unfold State.flashProgram; simp only []; split <;> simp
@[simp] theorem State.sessionOpen_kept (s : State) (target id : Nat) : (s.sessionOpen target id).kept = s.kept := by
  simp [State.sessionOpen]
@[simp] theorem State.sessionTake_kept (s : State) (b : Blob) : (s.sessionTake b).kept = s.kept := by simp [State.sessionTake]
@[simp] theorem State.sessionDone_kept (s : State) (b : Blob) : (s.sessionDone b).kept = s.kept := by simp [State.sessionDone]
@[simp] theorem State.sessionAct_kept (s : State) (b : Blob) (x : Extra) : (s.sessionAct b x).kept = s.kept := by
  unfold State.sessionAct; split <;> simp
@[simp] theorem State.actEstate_kept (s : State) (i sub : Nat) (old new : Blob) :
    (s.actEstate i sub old new).kept = s.kept := by
  unfold State.actEstate; split <;> simp
@[simp] theorem State.actCuvee_kept (s : State) (i sub : Nat) (old new : Blob) : (s.actCuvee i sub old new).kept = s.kept := by
  unfold State.actCuvee; split <;> simp

/-! ### Machine/Boundary -/

@[simp] theorem State.swapPage_kept (s : State) (c : Nat) : (s.swapPage c).kept = s.kept := by simp [State.swapPage]
@[simp] theorem State.noteStage_kept (s : State) (a : Acc) (result cause idx sub : Nat) :
    (s.noteStage a result cause idx sub).kept = s.kept := by
  simp [State.noteStage]
@[simp] theorem State.countEpochTime_kept (s : State) (len : Rat) : (s.countEpochTime len).kept = s.kept := by
  simp [State.countEpochTime]
@[simp] theorem State.meterBoundary_kept (s : State) (before : List Nat) (every : Nat) :
    (s.meterBoundary before every).kept = s.kept := by
  simp [State.meterBoundary]
@[simp] theorem State.paceBoundary_kept (s : State) : s.paceBoundary.kept = s.kept := by simp [State.paceBoundary]
@[simp] theorem State.gateClusters_kept (s : State) : s.gateClusters.kept = s.kept := by simp [State.gateClusters]
@[simp] theorem State.storedRows_kept (s : State) : s.storedRows.kept = s.kept := by
  simp only [State.storedRows]; exact State.each_kept _ _ _ fun s x => by split <;> simp

/-! ### Machine/Boot -/

@[simp] theorem State.updBoot_kept (s : State) (f : BootSt → BootSt) : (s.updBoot f).kept = s.kept := by simp [State.updBoot]
@[simp] theorem State.bootFails_kept (s : State) : s.bootFails.kept = s.kept := by simp [State.bootFails]
@[simp] theorem State.loadDictionary_kept (s : State) (ok0 ok1 : Bool) : (s.loadDictionary ok0 ok1).kept = s.kept := by
  simp [State.loadDictionary]
@[simp] theorem State.bootRom_kept (s : State) (f : BootFindings) : (s.bootRom f).2.kept = s.kept := by
  unfold State.bootRom; split <;> simp
@[simp] theorem State.railsUp_kept (s : State) : s.railsUp.kept = s.kept := by simp [State.railsUp]
@[simp] theorem State.plcaBeacon_kept (s : State) (present : Bool) : (s.plcaBeacon present).kept = s.kept := by
  simp [State.plcaBeacon]
@[simp] theorem State.coreMuster_kept (s : State) : s.coreMuster.kept = s.kept := by simp [State.coreMuster]
@[simp] theorem State.selfTestDone_kept (s : State) (v : SelfTest) : (s.selfTestDone v).kept = s.kept := by
  simp [State.selfTestDone]
@[simp] theorem State.stackTrained_kept (s : State) (p : Nat) (r : TrainingResult) : (s.stackTrained p r).kept = s.kept := by
  simp [State.stackTrained]
@[simp] theorem State.memoryReady_kept (s : State) : s.memoryReady.kept = s.kept := by simp [State.memoryReady]
@[simp] theorem State.estateReady_kept (s : State) : s.estateReady.kept = s.kept := by simp [State.estateReady]
@[simp] theorem State.keepExclusions_kept (s old : State) : (s.keepExclusions old).kept = s.kept := by
  simp [State.keepExclusions]

/-! ### Machine/Access -/

@[simp] theorem State.targetValue_kept (s : State) (a : Acc) (t : ObjRef) : (s.targetValue a t).2.kept = s.kept := by
  unfold State.targetValue; split <;> simp
@[simp] theorem State.readTarget_kept (s : State) (a : Acc) (r : Req) (t : ObjRef) : (s.readTarget a r t).2.kept = s.kept := by
  simp [State.readTarget]
@[simp] theorem State.dropAsm_kept (s : State) (p : Path) : (s.dropAsm p).kept = s.kept := by simp [State.dropAsm]
@[simp] theorem State.putAsm_kept (s : State) (x : Assembly) : (s.putAsm x).kept = s.kept := by simp [State.putAsm]
@[simp] theorem State.settleAsm_kept (s : State) (r : Req) : (s.settleAsm r).kept = s.kept := by
  unfold State.settleAsm; split <;> simp
@[simp] theorem State.assemble_kept (s : State) (r : Req) : (s.assemble r).2.kept = s.kept := by
  simp only [State.assemble]; (repeat' split) <;> simp
@[simp] theorem State.putStaging_kept (s : State) (a : Acc) (ws : List ObjWrite) : (s.putStaging a ws).kept = s.kept := by
  simp [State.putStaging]
theorem State.stageWrite_kept {s : State} {a : Acc} {w : ObjWrite} {t : State} (h : s.stageWrite a w = some t) :
    t.kept = s.kept := by
  simp only [State.stageWrite] at h; split at h <;> cases h; simp
@[simp] theorem State.post_kept (s : State) (a : Acc) (commit : Bool) (ws : List ObjWrite) (named : Option Nat) :
    (s.post a commit ws named).kept = s.kept := by
  simp [State.post]
@[simp] theorem State.commitSet_kept (s : State) (a : Acc) (r : Req) : (s.commitSet a r).2.kept = s.kept := by
  simp only [State.commitSet]; (repeat' split) <;> simp
@[simp] theorem State.unpost_kept (s : State) (p : Pending) : (s.unpost p).kept = s.kept := by simp [State.unpost]
@[simp] theorem State.abortObject_kept (s : State) (a : Acc) (t : ObjRef) : (s.abortObject a t).2.kept = s.kept := by
  simp only [State.abortObject]; (repeat' split) <;> simp
@[simp] theorem State.abortSet_kept (s : State) (a : Acc) (r : Req) : (s.abortSet a r).2.kept = s.kept := by
  unfold State.abortSet; (repeat' split) <;> simp
@[simp] theorem State.command_kept (s : State) (a : Acc) (c code : Nat) (k : CmdRec) :
    (s.command a c code k).2.kept = s.kept := by
  simp only [State.command]; (repeat' split) <;> simp
@[simp] theorem State.beginJob_kept (s : State) (j : FlashJob) : (s.beginJob j).kept = s.kept := by simp [State.beginJob]
@[simp] theorem State.serveWhole_kept (s : State) (a : Acc) (r : Req) : (s.serveWhole a r).2.kept = s.kept := by
  unfold State.serveWhole; (repeat' split) <;> simp

/-! ### Machine/Windows -/

@[simp] theorem State.setWindow_kept (s : State) (p : Path) (w : Window) : (s.setWindow p w).kept = s.kept := by
  simp [State.setWindow]
@[simp] theorem State.discardSubmission_kept (s : State) (p : Path) : (s.discardSubmission p).kept = s.kept := by
  simp [State.discardSubmission]
@[simp] theorem State.answerWindow_kept (s : State) (p : Path) (gen : Nat) (y : Response) :
    (s.answerWindow p gen y).kept = s.kept := by
  simp [State.answerWindow]
@[simp] theorem State.fillWindow_kept (s : State) (p : Path) (h d : Blob) : (s.fillWindow p h d).kept = s.kept := by
  simp [State.fillWindow]
@[simp] theorem State.wizorCount_kept (s : State) (k : Nat) : (s.wizorCount k).kept = s.kept := by simp [State.wizorCount]
@[simp] theorem State.emitWizor_kept (s : State) (src seq : Nat) (y : Response) : (s.emitWizor src seq y).kept = s.kept := by
  simp [State.emitWizor]
@[simp] theorem State.answerWizor_kept (s : State) (src seq : Nat) (y : Response) :
    (s.answerWizor src seq y).kept = s.kept := by
  simp [State.answerWizor]
@[simp] theorem State.acceptSeq_kept (s : State) (seq : Nat) : (s.acceptSeq seq).kept = s.kept := by
  simp only [State.acceptSeq]; (repeat' split) <;> simp
@[simp] theorem State.neighbour_kept (s : State) (target : Nat) : (s.neighbour target).kept = s.kept := by
  simp [State.neighbour]
@[simp] theorem State.deliver_kept (s : State) (p : Path) (gen : Nat) (y : Response) : (s.deliver p gen y).kept = s.kept := by
  unfold State.deliver; split <;> simp
@[simp] theorem State.bar0Read_kept (s : State) (p : Path) (o size : Nat) : (s.bar0Read p o size).kept = s.kept := by
  simp [State.bar0Read]
@[simp] theorem State.bar2Read_kept (s : State) (p : Path) (o size : Nat) : (s.bar2Read p o size).kept = s.kept := by
  unfold State.bar2Read; split <;> simp
@[simp] theorem State.checkReg_kept (s : State) (p : Path) (j off size value : Nat) (aligned : Bool) :
    (s.checkReg p j off size value aligned).kept = s.kept := by
  unfold State.checkReg; (repeat' split) <;> simp
@[simp] theorem State.pairReg_kept (s : State) (p : Path) (k : Nat) (isHead : Bool) (size value : Nat) (aligned : Bool) :
    (s.pairReg p k isHead size value aligned).kept = s.kept := by
  unfold State.pairReg; split <;> simp
@[simp] theorem State.dropClass_kept (s : State) (a : Acc) : (s.dropClass a).kept = s.kept := by simp [State.dropClass]
@[simp] theorem State.resetWindow_kept (s : State) (p : Path) : (s.resetWindow p).kept = s.kept := by simp [State.resetWindow]
@[simp] theorem State.resetConfig_kept (s : State) (p : HostPort) (fn : Nat) : (s.resetConfig p fn).kept = s.kept := by
  simp [State.resetConfig]
@[simp] theorem State.functionReset_kept (s : State) (p : Path) : (s.functionReset p).kept = s.kept := by
  simp only [State.functionReset]; (repeat' split) <;> simp
@[simp] theorem State.portReset_kept (s : State) (p : HostPort) : (s.portReset_ p).kept = s.kept := by simp [State.portReset_]
@[simp] theorem State.linkGone_kept (s : State) (p : HostPort) : (s.linkGone p).kept = s.kept := by simp [State.linkGone]
@[simp] theorem State.perst_kept (s : State) (p : HostPort) (asserted : Bool) : (s.perst p asserted).kept = s.kept := by
  simp [State.perst]
@[simp] theorem State.pcieLinkUp_kept (s : State) (p : HostPort) : (s.pcieLinkUp p).kept = s.kept := by simp [State.pcieLinkUp]
@[simp] theorem State.configWrite_kept (s : State) (p : HostPort) (fn reg v : Nat) :
    (s.configWrite p fn reg v).kept = s.kept := by
  simp [State.configWrite]
@[simp] theorem State.configuration_kept (s : State) (p : HostPort) (fn reg : Nat) (value : Option Nat) :
    (s.configuration p fn reg value).kept = s.kept := by
  unfold State.configuration; (repeat' split) <;> simp
@[simp] theorem State.hostCompletion_kept (s : State) (p : HostPort) (tag : Nat) (data : List Byte) :
    (s.hostCompletion p tag data).kept = s.kept := by
  simp only [State.hostCompletion]; (repeat' split) <;> simp
@[simp] theorem State.barCheck_kept (s : State) (w : BarWrite) (off : Nat) : (s.barCheck w off).kept = s.kept := by
  simp [State.barCheck]

/-! ### Machine/Image -/

@[simp] theorem State.sendImage_kept (s : State) (c : Nat) : (s.sendImage c).kept = s.kept := by simp [State.sendImage]
@[simp] theorem State.imageComplete_kept (s : State) (c : Nat) (ok : Bool) : (s.imageComplete c ok).kept = s.kept := by
  simp [State.imageComplete]
@[simp] theorem State.restoreImage_kept (s : State) (c : Nat) (img : CuveeImage) : (s.restoreImage c img).kept = s.kept := by
  unfold State.restoreImage
  rw [State.updCuvee_kept]
  refine (State.each_kept _ _ _ fun s e => by split <;> simp).trans ?_
  simp
  exact State.each_kept _ _ _ fun s e => by (repeat' split) <;> simp
@[simp] theorem State.restored_kept (s : State) (c : Nat) (img : CuveeImage) : (s.restored c img).kept = s.kept := by
  simp [State.restored]
@[simp] theorem State.restoreComplete_kept (s : State) (c : Nat) (v : ImageVerdict) (img : CuveeImage) :
    (s.restoreComplete c v img).kept = s.kept := by
  unfold State.restoreComplete; (repeat' split) <;> simp

/-! ### Machine/Security -/

@[simp] theorem State.spdmSay_kept (s : State) (p : HostPort) (code : Nat) (body : Blob) :
    (s.spdmSay p code body).kept = s.kept := by
  simp [State.spdmSay]
@[simp] theorem State.spdmError_kept (s : State) (p : HostPort) (code : Nat) : (s.spdmError p code).kept = s.kept := by
  simp [State.spdmError]
@[simp] theorem State.spdmStandard_kept (s : State) (p : HostPort) (code : Nat) : (s.spdmStandard p code).kept = s.kept := by
  simp [State.spdmStandard]
@[simp] theorem State.keyExchange_kept (s : State) (p : HostPort) (slot : Nat) : (s.keyExchange p slot).kept = s.kept := by
  simp [State.keyExchange]
@[simp] theorem State.spdmFinish_kept (s : State) (p : HostPort) (n : Nat) (ok : Bool) :
    (s.spdmFinish p n ok).kept = s.kept := by
  simp [State.spdmFinish]
@[simp] theorem State.spdmAgreed_kept (s : State) (p : HostPort) (m : SpdmMsg) : (s.spdmAgreed p m).kept = s.kept := by
  unfold State.spdmAgreed; (repeat' split) <;> simp
@[simp] theorem State.spdm_kept (s : State) (p : HostPort) (m : SpdmMsg) : (s.spdm p m).kept = s.kept := by
  unfold State.spdm; (repeat' split) <;> simp
@[simp] theorem State.endSession_kept (s : State) (p : HostPort) (n : Nat) : (s.endSession p n).kept = s.kept := by
  simp [State.endSession]
@[simp] theorem State.inSession_kept (s : State) (p : HostPort) (n : Nat) {act : State → State} (ha :
    ∀ s, (act s).kept = s.kept) : (s.inSession p n act).kept = s.kept := by
  unfold State.inSession; (repeat' split) <;> simp [ha]
@[simp] theorem State.ideQuery_kept (s : State) (p : HostPort) : (s.ideQuery p).kept = s.kept := by simp [State.ideQuery]
@[simp] theorem State.ideProgram_kept (s : State) (p : HostPort) (n : Nat) (k : IdeKey) (key : Nat) :
    (s.ideProgram p n k key).kept = s.kept := by
  simp [State.ideProgram]
@[simp] theorem State.ideGo_kept (s : State) (p : HostPort) (k : IdeKey) : (s.ideGo p k).kept = s.kept := by simp [State.ideGo]
@[simp] theorem State.ideStop_kept (s : State) (p : HostPort) (k : IdeKey) : (s.ideStop p k).kept = s.kept := by
  simp [State.ideStop]
@[simp] theorem State.tdispSay_kept (s : State) (p : HostPort) (vf code : Nat) (body : Blob) :
    (s.tdispSay p vf code body).kept = s.kept := by
  simp [State.tdispSay]
@[simp] theorem State.tdispError_kept (s : State) (p : HostPort) (vf code : Nat) : (s.tdispError p vf code).kept = s.kept := by
  simp [State.tdispError]
@[simp] theorem State.tdisp_kept (s : State) (p : HostPort) (vf : Nat) {act : State → Nat → State} (ha :
    ∀ s c, (act s c).kept = s.kept) : (s.tdisp p vf act).kept = s.kept := by
  unfold State.tdisp; (repeat' split) <;> simp [ha]
@[simp] theorem State.tdiVersion_kept (s : State) (p : HostPort) (vf : Nat) : (s.tdiVersion p vf).kept = s.kept := by
  simp [State.tdiVersion]
@[simp] theorem State.tdiCapabilities_kept (s : State) (p : HostPort) (vf : Nat) : (s.tdiCapabilities p vf).kept = s.kept := by
  simp [State.tdiCapabilities]
@[simp] theorem State.tdiLock_kept (s : State) (p : HostPort) (vf stream c : Nat) :
    (s.tdiLock p vf stream c).kept = s.kept := by
  simp [State.tdiLock]
@[simp] theorem State.tdiReport_kept (s : State) (p : HostPort) (vf c : Nat) : (s.tdiReport p vf c).kept = s.kept := by
  simp [State.tdiReport]
@[simp] theorem State.tdiState_kept (s : State) (p : HostPort) (vf c : Nat) : (s.tdiState p vf c).kept = s.kept := by
  simp [State.tdiState]
@[simp] theorem State.tdiStart_kept (s : State) (p : HostPort) (vf c : Nat) : (s.tdiStart p vf c).kept = s.kept := by
  simp [State.tdiStart]
@[simp] theorem State.tdiStop_kept (s : State) (p : HostPort) (vf c : Nat) : (s.tdiStop p vf c).kept = s.kept := by
  simp [State.tdiStop]
@[simp] theorem State.meterRing_kept (s : State) (n : Nat) (r : Blob) : (s.meterRing n r).kept = s.kept := by
  simp [State.meterRing]
@[simp] theorem State.meterWrite_kept (s : State) (c : Nat) (body : Blob) : (s.meterWrite c body).kept = s.kept := by
  simp [State.meterWrite]
@[simp] theorem State.meterRecords_kept (s : State) : s.meterRecords.kept = s.kept := by simp [State.meterRecords]
@[simp] theorem State.sessionExpiry_kept (s : State) (id : Nat) : (s.sessionExpiry id).kept = s.kept := by
  simp [State.sessionExpiry]

end Sys2Proof.Machine

/-! # The queue, the slot and the trip record under every command -/

namespace Sys2Proof.Machine

/-! ## What an epoch jump leaves (R52) -/

/-- The epoch in progress and its slot: estate time without E, which a jump sets, and without the instant. -/
def TimeSt.grid (t : TimeSt) : TimeSt := { t with e := 0, jumped := false, now := 0, cycles := 0 }

/-- What stands while E jumps and the clock of events moves: the queue, the epoch in progress and the trip record. -/
def State.steady (s : State) : List Instr × TimeSt × ETime × Nat × Nat × Nat := (s.pending, s.time.grid, s.flash.trip)

theorem State.steady_of_kept {s t : State} (h : t.kept = s.kept) : t.steady = s.steady := by
  simp only [State.kept, State.steady, Prod.mk.injEq] at h ⊢
  obtain ⟨hp, ht, hf⟩ := h
  exact ⟨hp, by rw [ht], hf⟩

theorem State.each_steady {α : Type} (s : State) (l : List α) (f : State → α → State)
    (hf : ∀ s x, (f s x).steady = s.steady) : (s.each l f).steady = s.steady := State.each_frame State.steady f l s hf

/-- The clock of events moves to t or stands past it. -/
theorem State.at_time (s : State) (t : Instant) : ∃ n c, t ≤ n ∧ (s.at_ t).time = { s.time with now := n, cycles := c } := by
  unfold State.at_; split
  · exact ⟨t, _, le_rfl, rfl⟩
  · exact ⟨s.time.now, s.time.cycles, not_lt.mp ‹_›, rfl⟩

theorem State.at_steady (s : State) (t : Instant) : (s.at_ t).steady = s.steady := by
  unfold State.at_; split <;> rfl

theorem State.jumpE_steady (s : State) : s.jumpE.steady = s.steady := rfl

theorem State.cadenceCommandAct_steady (s : State) (code : Nat) : (s.cadenceCommandAct code).steady = s.steady := by
  unfold State.cadenceCommandAct; split
  case h_3 => exact s.jumpE_steady
  all_goals exact State.steady_of_kept (by simp)

theorem State.actCommand_steady (s : State) (a : Acc) (w : ObjWrite) (x : Extra) : (s.actCommand a w x).steady = s.steady := by
  unfold State.actCommand; extract_lets n; split
  case h_3 => exact s.cadenceCommandAct_steady n
  all_goals exact State.steady_of_kept (by simp)

theorem State.actWrite_steady (s : State) (a : Acc) (w : ObjWrite) (x : Extra) : (s.actWrite a w x).steady = s.steady := by
  unfold State.actWrite; split
  · exact State.steady_of_kept (by simp)
  · split
    · exact s.actCommand_steady a w x
    · apply State.steady_of_kept
      split <;> simp
      split <;> simp

theorem State.actPending_steady (s : State) (p : Pending) : (s.actPending p).steady = s.steady := by
  unfold State.actPending; simp only []; split
  · exact State.steady_of_kept (by simp)
  · refine (State.steady_of_kept (State.noteStage_kept ..)).trans
      ((State.each_steady _ _ _ fun s w => ?_).trans (State.steady_of_kept (by simp)))
    exact (State.steady_of_kept (State.endHold_kept ..)).trans (s.actWrite_steady ..)

theorem State.actDue_steady (s : State) (x : DueItem) : (s.actDue x).steady = s.steady := by
  unfold State.actDue; split
  · exact s.actPending_steady _
  · refine State.steady_of_kept ?_
    split <;> simp

theorem State.actStaged_steady (s : State) : s.actStaged.steady = s.steady := by
  refine (State.steady_of_kept (s := s.each s.dueItems State.actDue) ?_).trans (State.each_steady _ _ _ State.actDue_steady)
  simp [State.actStaged]

theorem State.firstLock_steady (s : State) : s.firstLock.steady = s.steady :=
  (State.steady_of_kept (State.enterLocked_kept _)).trans
    ((State.jumpE_steady _).trans (State.steady_of_kept (State.updCad_kept _ _)))

theorem State.restoreObject_steady (s : State) (a : Acc) (i sub : Nat) : (s.restoreObject a i sub).steady = s.steady := by
  unfold State.restoreObject; extract_lets b w waiting; split
  · rfl
  · split
    · rfl
    · split
      · exact State.steady_of_kept (by simp)
      · exact s.actWrite_steady ..

/-! ## What every command does to the queue, the slot and the trip record -/

/-- t may follow s: the commands that wait and the trip record are as they were, and the slot stays in its epoch (R38). -/
structure State.Follows (s t : State) : Prop where
  queue : t.pending = s.pending
  trip : t.flash.trip = s.flash.trip
  slot : s.time.slot ≤ 4095 → t.time.slot ≤ 4095

namespace State.Follows

theorem of_steady {s t : State} (h : t.steady = s.steady) : s.Follows t := by
  simp only [State.steady, Prod.mk.injEq] at h
  obtain ⟨hp, ht, hf⟩ := h
  exact ⟨hp, hf, fun hs => (congrArg TimeSt.slot ht : t.time.grid.slot = s.time.grid.slot).trans_le hs⟩

theorem of_kept {s t : State} (h : t.kept = s.kept) : s.Follows t := of_steady (State.steady_of_kept h)

protected theorem refl (s : State) : s.Follows s := of_kept rfl

protected theorem trans {s t u : State} (h : s.Follows t) (g : t.Follows u) : s.Follows u :=
  ⟨g.queue.trans h.queue, g.trip.trans h.trip, fun hs => g.slot (h.slot hs)⟩

/-- What a command keeps, it may do after what went before. -/
theorem keep {s t u : State} (h : s.Follows t) (g : u.kept = t.kept) : s.Follows u := h.trans (of_kept g)

protected theorem ite {p : Prop} [Decidable p] {s t u : State} (ht : p → s.Follows t) (hu : ¬p → s.Follows u) :
    s.Follows (if p then t else u) := by
  split
  · exact ht ‹_›
  · exact hu ‹_›

end State.Follows

/-! ### Events that carry an instant -/

theorem State.at_follows (s : State) (t : Instant) : s.Follows (s.at_ t) := .of_steady (s.at_steady t)

theorem State.referenceBoundary_follows (s : State) (t : Instant) : s.Follows (s.referenceBoundary t) := by
  unfold State.referenceBoundary; extract_lets u; split
  · split
    · exact ⟨rfl, rfl, id⟩
    · exact .of_kept (by simp [u])
  · exact .of_kept (by (repeat' split) <;> simp [u])

theorem State.dividedEdge_follows (s : State) (t : Instant) : s.Follows (s.dividedEdge t) := by
  unfold State.dividedEdge; split
  · exact .refl s
  · extract_lets presents u; split
    · exact (State.Follows.of_kept (by simp [u])).trans (State.referenceBoundary_follows _ t)
    · exact .of_kept (by simp [u])

theorem State.cadenceEdge_follows (s : State) (t : Instant) : s.Follows (s.cadenceEdge t) := by
  refine (s.at_follows t).trans ?_
  unfold State.cadenceEdge; simp only []
  generalize s.at_ t = u
  split
  · split
    · exact .of_kept (by simp)
    · split
      · exact .of_kept (by simp)
      · exact (State.Follows.of_kept (by (repeat' split) <;> simp)).trans (State.dividedEdge_follows _ t)
  · split
    · exact .of_kept (by simp)
    · exact (State.Follows.of_kept (by simp)).trans (State.dividedEdge_follows _ t)

theorem State.ptpMessage_follows (s : State) (m : PtpMsg) : s.Follows (s.ptpMessage m) := by
  unfold State.ptpMessage
  refine .ite (fun _ => .refl s) fun _ => (s.at_follows m.at_).trans ?_
  simp only []
  generalize s.at_ m.at_ = u
  refine .ite (fun _ => .of_kept (by simp)) fun _ => ?_
  cases m.boundary with
  | none => exact .of_kept (by simp)
  | some t =>
    exact .ite (fun _ => (State.Follows.of_kept (by simp)).trans (State.referenceBoundary_follows _ _))
      fun _ => .of_kept (by simp)

theorem State.referenceTimeout_follows (s : State) (t : Instant) : s.Follows (s.referenceTimeout t) := by
  refine (s.at_follows t).keep ?_
  unfold State.referenceTimeout; simp only []; split <;> simp

theorem State.missedBoundary_follows (s : State) : s.Follows s.missedBoundary := by
  unfold State.missedBoundary
  refine .ite (fun _ => .refl s) fun _ => (s.at_follows (s.time.epochStart + s.time.prevLen / 64)).keep ?_
  simp only []; split <;> simp

theorem State.timeMessage_follows (s : State) (k : Nat) (m : TimeMsg) (arrival : Instant) :
    s.Follows (s.timeMessage k m arrival) := by
  unfold State.timeMessage; split
  · exact .refl s
  · next u h =>
    refine (State.Follows.of_kept (State.takeMsg_kept h)).trans ((u.at_follows arrival).trans ?_)
    simp only []
    generalize u.at_ arrival = v
    refine .ite (fun _ => .of_kept (by simp)) fun _ => .ite (fun _ => .of_kept (by simp)) fun _ => ?_
    exact .ite (fun _ => (State.Follows.of_kept (by simp)).trans (State.referenceBoundary_follows _ _))
      fun _ => .of_kept (by simp)

theorem State.each_follows {α : Type} (s : State) (l : List α) (f : State → α → State)
    (hf : ∀ t x, State.Follows t (f t x)) : s.Follows (s.each l f) :=
  State.each_keeps s.Follows f l (fun t x h => h.trans (hf t x)) (.refl s)

theorem State.quiesceLimit_follows (s : State) (sc : Scope) : s.Follows (s.quiesceLimit sc) := by
  refine s.each_follows _ _ fun s c => ?_
  split
  · exact .refl s
  · next q hq =>
    cases q.limit with
    | none => exact .of_kept (by simp)
    | some l => exact (s.at_follows l).keep (by simp)

theorem State.replayLimit_follows (s : State) (e : Engine) : s.Follows (s.replayLimit e) := by
  unfold State.replayLimit; split
  · exact .refl s
  · exact (s.at_follows _).keep (State.retireEngine_kept ..)

/-! ### The ticks of estate time -/

/-- A slot that another one of its epoch follows is not the last. -/
theorem State.slot_lt_of_not_spent {s : State} (h : s.epochSpent = false) : s.time.slot < 4095 := by
  simp only [State.epochSpent, Bool.or_eq_false_iff, decide_eq_false_iff_not] at h
  omega

/-- SLOT_FIRE begins the next slot at its fire tick or later, and nothing else of estate time changes. -/
theorem State.slotFire_kept {s : State} (hr : s.time.running = true) (h : s.epochSpent = false) :
    ∃ n c, s.slotStart (s.time.slot + 1) ≤ n ∧
      s.slotFire.kept = (s.pending, { s.time with slot := s.time.slot + 1, now := n, cycles := c }, s.flash.trip) := by
  obtain ⟨n, c, hn, ht⟩ := s.at_time (s.slotStart (s.time.slot + 1))
  have hk := State.countPcTime_kept (s.at_ (s.slotStart (s.time.slot + 1))) s.slotLen
  simp only [State.kept, Prod.mk.injEq, ht] at hk
  obtain ⟨hp, ht', hf⟩ := hk
  refine ⟨n, c, hn, ?_⟩
  unfold State.slotFire
  rw [if_neg (by simp [hr, h])]
  simp [ht', hp, hf]

theorem State.slotFire_follows (s : State) : s.Follows s.slotFire := by
  by_cases h : s.time.running = true ∧ s.epochSpent = false
  · obtain ⟨n, c, -, hk⟩ := State.slotFire_kept h.1 h.2
    simp only [State.kept, Prod.mk.injEq] at hk
    obtain ⟨hp, ht, hf⟩ := hk
    have := State.slot_lt_of_not_spent h.2
    exact ⟨hp, hf, fun _ => by rw [ht]; exact this⟩
  · unfold State.slotFire
    rw [if_pos (by simpa [imp_iff_not_or] using h)]
    exact .refl s

theorem State.beginEpoch_steady {s u : State} (h : u.kept = s.kept) (at_ len : Rat) :
    (u.beginEpoch at_ len).steady = (s.pending, TimeSt.grid { s.time with
      slot := 0, epochs := (s.time.epochs + 1) % 2 ^ 64, epochStart := at_, prevLen := at_ - s.time.epochStart, epochLen := len
      lockCut := if s.cutHere.isSome then none else s.time.lockCut
      lockLen := if s.cutHere.isSome then none else s.time.lockLen }, s.flash.trip) := by
  simp only [State.kept, Prod.mk.injEq] at h
  obtain ⟨hp, ht, hf⟩ := h
  obtain ⟨n, c, -, hn⟩ := u.at_time at_
  simp [State.beginEpoch, State.steady, State.updCad, State.cutHere, TimeSt.grid, hn, ht, hp, hf]

/-- EPOCH_BOUNDARY begins slot 0 of the next epoch where the one in progress ends, of the length fixed before. -/
theorem State.epochBoundary_steady {s : State} (hr : s.time.running = true) (h : s.epochSpent = true) :
    s.epochBoundary.steady = (s.pending, TimeSt.grid { s.time with
      slot := 0, epochs := (s.time.epochs + 1) % 2 ^ 64, epochStart := s.boundaryAt
      prevLen := s.boundaryAt - s.time.epochStart, epochLen := s.nextLength
      lockCut := if s.cutHere.isSome then none else s.time.lockCut
      lockLen := if s.cutHere.isSome then none else s.time.lockLen }, s.flash.trip) := by
  rw [← State.beginEpoch_steady (u := (s.countPcTime (s.boundaryAt - s.slotStart s.time.slot)).countEpochTime
    (s.boundaryAt - s.time.epochStart)) (by simp)]
  unfold State.epochBoundary
  rw [if_neg (by simp [hr, h])]
  simp only []
  generalize State.beginEpoch _ _ _ = u
  generalize hl : (if s.cutHere.isSome = true then u.firstLock else u) = l
  generalize hx : (if (s.time.epochs == 0) = true then State.storedRows _ else _) = x
  have hlu : l.steady = u.steady := by
    subst hl; split
    · exact u.firstLock_steady
    · rfl
  have hxl : x.kept = l.kept := by subst hx; simp
  exact (State.steady_of_kept (by simp)).trans (x.actStaged_steady.trans ((State.steady_of_kept hxl).trans hlu))

theorem State.epochBoundary_follows (s : State) : s.Follows s.epochBoundary := by
  by_cases h : s.time.running = true ∧ s.epochSpent = true
  · have hk := State.epochBoundary_steady h.1 h.2
    simp only [State.steady, Prod.mk.injEq] at hk
    obtain ⟨hp, ht, hf⟩ := hk
    have h0 : s.epochBoundary.time.slot = 0 := congrArg TimeSt.slot ht
    exact ⟨hp, hf, fun _ => by omega⟩
  · unfold State.epochBoundary
    rw [if_pos (by simpa [imp_iff_not_or] using h)]
    exact .refl s

/-! ### Power and boot -/

theorem State.estateLost_follows (s : State) : s.Follows s.estateLost := ⟨rfl, rfl, fun _ => Nat.zero_le _⟩

theorem State.standbyLost_follows (s : State) : s.Follows s.standbyLost := ⟨rfl, rfl, fun _ => Nat.zero_le _⟩

theorem State.startBoot_follows (s : State) (f : BootFindings) : s.Follows (s.startBoot f) :=
  s.estateLost_follows.keep (by simp [State.startBoot])

theorem State.coldBoot_follows (s : State) (f : BootFindings) (tenthsV : Nat) : s.Follows (s.coldBoot f tenthsV) := by
  unfold State.coldBoot
  refine .ite (fun _ => .refl s) fun _ => .ite (fun _ => .of_kept (by simp)) fun _ => .ite (fun _ => .of_kept (by simp)) fun _ => ?_
  exact (State.Follows.of_kept (State.updBoot_kept _ _)).trans (State.startBoot_follows _ f)

theorem State.mainInputInRange_follows (s : State) : s.Follows s.mainInputInRange := by
  unfold State.mainInputInRange; split
  · split
    · exact s.startBoot_follows _
    · exact .of_kept (by simp)
  · exact .refl s

theorem State.standbyStart_follows (s : State) (strap : Nat) : s.Follows (s.standbyStart strap) := by
  unfold State.standbyStart
  refine .ite (fun _ => .refl s) fun _ => ?_
  simp only []; split
  · exact (State.Follows.of_kept (by simp)).trans (State.startBoot_follows _ _)
  · exact .of_kept (by simp)

theorem State.powerGone_follows (s : State) : s.Follows s.powerGone :=
  ((State.Follows.of_kept (State.updBoot_kept _ _)).trans (State.estateLost_follows _)).keep (State.setDomain_kept ..)

theorem State.mainInputFault_follows (s : State) : s.Follows s.mainInputFault := by
  unfold State.mainInputFault; split
  · exact .refl s
  · exact s.powerGone_follows.keep (State.updBoot_kept _ _)

theorem State.acquire_follows (s : State) : s.Follows s.acquire :=
  State.Follows.keep (t := { s with time := { s.time with
      e := s.num 0x2000 6, slot := 0, epochs := 0, running := true, epochStart := s.time.now
      epochLen := (s.num 0x2000 2 : Nat), prevLen := (s.num 0x2000 2 : Nat), lockCut := none, lockLen := none, jumped := false } })
    ⟨rfl, rfl, fun _ => Nat.zero_le _⟩ (by simp [State.acquire])

theorem State.memoryMuster_follows (s : State) : s.Follows s.memoryMuster := by
  unfold State.memoryMuster
  refine .ite (fun _ => .refl s) fun _ => .ite (fun _ => .of_kept (by simp)) fun _ => ?_
  have h := State.acquire_follows ((State.memoryReady { s with muster := s.muster.memory }).refence allTiles)
  exact (State.Follows.trans (State.Follows.of_kept (by simp)) h).keep (by simp)

theorem State.warmReset_follows (s : State) (f : BootFindings) : s.Follows (s.warmReset f) :=
  s.estateLost_follows.keep (by simp [State.warmReset])


/-! ### Requests -/

theorem State.acceptWrite_follows (s : State) (a : Acc) (t : ObjRef) (b : Blob) (x : Extra) :
    s.Follows (s.acceptWrite a t b x).2.2 := by
  have hw : ∀ w, s.Follows (s.actWrite a w x) := fun w => .of_steady (s.actWrite_steady a w x)
  unfold State.acceptWrite; simp only []; split
  · exact .ite (fun _ => hw _) fun _ => .refl s
  · split
    · exact .of_kept (by simp)
    · split
      · exact s.warmReset_follows _
      · split
        · exact hw _
        · split
          · exact hw _
          · split <;> exact .of_kept (by simp)

theorem State.writeValue_follows (s : State) (a : Acc) (op : Nat) (tyOk : Bool) (t : ObjRef) (b : Blob) (x : Extra) :
    s.Follows (s.writeValue a op tyOk t b x).2.2 := by
  unfold State.writeValue; simp only []; split
  · split
    · exact .refl s
    · next h =>
      split
      · exact .of_kept (State.stageWrite_kept h)
      · exact .refl s
  · split
    · exact .refl s
    · exact s.acceptWrite_follows a t b x

/-- A whole value that a request brings is written after its fragments are taken up. -/
theorem State.assembled_write_follows {s u : State} {r : Req} {b : Blob} (h : s.assemble r = (.whole b, u)) (a : Acc)
    (tyOk : Bool) (t : ObjRef) (x : Extra) : s.Follows (u.writeValue a r.op tyOk t b x).2.2 := by
  have hu : u.kept = s.kept := by rw [← State.assemble_kept s r, h]
  exact (State.Follows.of_kept hu).trans (u.writeValue_follows ..)

theorem State.serveObject_follows (s : State) (a : Acc) (r : Req) (t : ObjRef) (x : Extra) :
    s.Follows (s.serveObject a r t x).2 := by
  unfold State.serveObject; simp only []; split
  case h_2 | h_3 =>
    have ha := State.assemble_kept s r
    split
    · exact .refl s
    · split
      · exact .refl s
      · split
        case h_4 h =>
          split
          · exact (State.assembled_write_follows h ..).keep (State.beginJob_kept ..)
          · exact State.assembled_write_follows h ..
        all_goals next h => exact .of_kept (by rw [← ha, h])
  all_goals (repeat' split) <;> exact .of_kept (by simp)

theorem State.serve_follows (s : State) (r : Req) (x : Extra) : s.Follows (s.serve r x).2 := by
  unfold State.serve; split
  · exact .refl s
  · split
    · exact .refl s
    · split
      · exact .refl s
      · next a _ =>
        have hs : s.Follows (s.settleAsm r) := .of_kept (by simp)
        extract_lets u outside
        split
        · exact hs.keep (by simp [u])
        · split
          · exact hs
          · split
            · exact hs
            · exact hs.trans (u.serveObject_follows ..)

/-- The state that a served request leaves. -/
theorem State.follows_of_serve {s u : State} {r : Req} {x : Extra} {y : Option Reply} (h : s.serve r x = (y, u)) : s.Follows u := by
  have := s.serve_follows r x
  rwa [h] at this

theorem State.submit_follows (s : State) (p : Path) (gen : Nat) (x : Extra) : s.Follows (s.submit p gen x) := by
  unfold State.submit; simp only []; split
  · exact .of_kept (by simp)
  · split
    · exact .of_kept (by simp)
    · split
      · next h =>
        exact ((State.Follows.of_kept (State.setWindow_kept ..)).trans (State.follows_of_serve h)).keep (by simp)
      · next h => exact (State.Follows.of_kept (State.setWindow_kept ..)).trans (State.follows_of_serve h)

theorem State.writeReqGen_follows (s : State) (p : Path) (gen size : Nat) (aligned : Bool) (x : Extra) :
    s.Follows (s.writeReqGen p gen size aligned x) :=
  .ite (fun _ => .of_kept (by simp)) fun _ => s.submit_follows ..

theorem State.wizor_follows (s : State) (src : Nat) (f : WizorFrame) (r : Req) (x : Extra) : s.Follows (s.wizor src f r x) := by
  unfold State.wizor; split
  · exact .refl s
  · split
    · exact .of_kept (by simp)
    · split
      · exact .of_kept (by simp)
      · split
        · exact .of_kept (by simp)
        · simp only []
          split <;>
          · next h => exact ((State.Follows.of_kept (State.acceptSeq_kept ..)).trans (State.follows_of_serve h)).keep (by simp)

theorem State.bar0Write_follows (s : State) (p : Path) (o size value : Nat) (x : Extra) :
    s.Follows (s.bar0Write p o size value x) :=
  .ite (fun _ => s.writeReqGen_follows ..) fun _ => .of_kept (by simp)

theorem State.request_follows (s : State) (op : Nat) (a : Access) (x : Extra) : s.Follows (s.request_ op a x) := by
  unfold State.request_; split
  · exact .refl s
  · split
    case h_2 => exact (State.Follows.of_kept (State.fillWindow_kept ..)).trans (State.writeReqGen_follows ..)
    case h_3 => exact s.wizor_follows ..
    case h_6 =>
      exact .ite (fun _ => .of_kept (by simp)) fun _ => .ite (fun _ => s.bar0Write_follows ..) fun _ => .refl s
    all_goals exact .of_kept (by simp)

theorem State.plainWrite_follows (s : State) (a : Access) : s.Follows (s.plainWrite a) :=
  (State.Follows.of_kept (t := { s with free := s.free + 8 }) (by simp)).trans (State.request_follows ..)

theorem State.commandWrite_follows (s : State) (a : Access) (i sub : Nat) (b : Blob) (x : Extra) :
    s.Follows (s.commandWrite a i sub b x) := .ite (fun _ => s.request_follows ..) fun _ => .refl s

theorem State.cuveeWrite_follows (s : State) (a : Access) (c : Nat) (estate view : Nat × Nat) (b : Blob) :
    s.Follows (s.cuveeWrite a c estate view b) := by
  have hw : ∀ i sub, s.Follows (s.commandWrite a i sub b default) := fun i sub => s.commandWrite_follows a i sub b default
  unfold State.cuveeWrite; split
  · split
    · exact .ite (fun _ => hw _ _) fun _ => .refl s
    · exact hw _ _
  · exact hw _ _

theorem State.openWith_follows (s : State) (a : Access) (digest id : Nat) : s.Follows (s.openWith a digest id) :=
  .ite (fun _ => .refl s) fun _ => s.commandWrite_follows ..

theorem State.flashDone_follows (s : State) (ok : Bool) : s.Follows (s.flashDone ok) := by
  unfold State.flashDone; split
  · exact .refl s
  · simp only []; split
    · exact .of_kept (by split <;> simp)
    · split
      · exact .of_kept (by simp)
      · refine .of_steady ((State.steady_of_kept (State.deliver_kept ..)).trans ?_)
        exact (State.each_steady _ _ _ fun t k => t.restoreObject_steady ..).trans (State.steady_of_kept (by simp))
      · exact .of_kept (by simp)


/-- What the next state follows, a command answers with. -/
theorem State.Follows.of_next {s u t : State} (hu : s.Follows u) (h : (.next u : Result) = .next t) : s.Follows t := by
  cases h; exact hu

/-- What every command leaves of the queue, the slot and the trip record; DIE_SENSOR_READ alone may trip (R455). -/
theorem exec_follows {i : Instr} {s t : State} (hi : ∀ ts, i ≠ .dieSensorRead ts) (h : exec i s = .next t) : s.Follows t := by
  cases i
  case dieSensorRead ts => exact absurd rfl (hi ts)
  case powerSample w avg v =>
    simp only [exec, execPowerSample] at h
    split at h <;> cases h
    exact .of_kept (by simp)
  case read | stage | commit | abort | enumerate | store | restoreDefaults => exact .of_next (s.request_follows ..) h
  case write => exact .of_next (s.plainWrite_follows _) h
  case create | bind | unbind | start | pause | resume | freeze | thaw | save | restore | reset | release | rebind | cancel |
      arm | trigger | stop => exact .of_next (s.cuveeWrite_follows ..) h
  case cadenceResume | cadenceFreeRun | adoptEpoch | retrain | rekey | portReset | portEnable | take | yield | assignA | assignB |
      stewardHeartbeat | flareCommand | assign | discard | parcel | estateWarm | sessionAccept | complete | close |
      firmwareCommit | flashProgram => exact .of_next (s.commandWrite_follows ..) h
  case openSession => exact .of_next (s.openWith_follows ..) h
  case flashWriteDone => exact .of_next (s.flashDone_follows _) h
  case cadenceEdge => exact .of_next (s.cadenceEdge_follows _) h
  case ptpMessage => exact .of_next (s.ptpMessage_follows _) h
  case referenceTimeout => exact .of_next (s.referenceTimeout_follows _) h
  case missedBoundary =>
    exact .of_next (.ite (fun _ => s.missedBoundary_follows.keep (State.markUnlocked_kept _)) fun _ => .refl s) h
  case time => exact .of_next (s.timeMessage_follows ..) h
  case quiesceLimit => exact .of_next ((s.quiesceLimit_follows _).keep (State.casksCut_kept _)) h
  case replayLimit => exact .of_next (s.replayLimit_follows _) h
  case slotFire => exact .of_next (s.slotFire_follows) h
  case epochBoundary => exact .of_next (s.epochBoundary_follows) h
  case standbyStart => exact .of_next (s.standbyStart_follows _) h
  case standbyLost => exact .of_next (s.standbyLost_follows) h
  case coldBoot => exact .of_next (s.coldBoot_follows ..) h
  case pwrEnFall => exact .of_next (s.powerGone_follows.keep (State.updBoot_kept _ _)) h
  case mainInputFault => exact .of_next (s.mainInputFault_follows) h
  case mainInputInRange => exact .of_next (s.mainInputInRange_follows) h
  case memoryMuster => exact .of_next (s.memoryMuster_follows) h
  all_goals exact .of_next (.of_kept (by simp)) h

/-- A trip takes power from the switched domains; the queue waits on, and estate time begins anew. -/
theorem exec_dieSensorRead {ts : List Nat} {s t : State} (h : exec (.dieSensorRead ts) s = .next t) :
    t.pending = s.pending ∧ (s.time.slot ≤ 4095 → t.time.slot ≤ 4095) := by
  cases h
  unfold State.dieSensorRead; split
  · exact ⟨rfl, id⟩
  · split
    · exact ⟨rfl, fun _ => Nat.zero_le _⟩
    · have hk : s.Follows (s.dieReading ts) := .of_kept (by simp)
      exact ⟨hk.queue, hk.slot⟩

theorem exec_queue {i : Instr} {s t : State} (h : exec i s = .next t) : t.pending = s.pending := by
  by_cases hi : ∃ ts, i = .dieSensorRead ts
  · obtain ⟨ts, rfl⟩ := hi
    exact (exec_dieSensorRead h).1
  · exact (exec_follows (not_exists.mp hi) h).queue

theorem exec_slot {i : Instr} {s t : State} (h : exec i s = .next t) (hs : s.time.slot ≤ 4095) : t.time.slot ≤ 4095 := by
  by_cases hi : ∃ ts, i = .dieSensorRead ts
  · obtain ⟨ts, rfl⟩ := hi
    exact (exec_dieSensorRead h).2 hs
  · exact (exec_follows (not_exists.mp hi) h).slot hs

/-- Settles O50: the definition of a step. -/
theorem stepRunsTheFrontCommand : Obligations.StepRunsTheFrontCommand := by
  unfold Obligations.StepRunsTheFrontCommand
  refine ⟨fun s c rest h => ?_, fun s h => ?_⟩ <;> simp [step, h]

/-- Settles O53. -/
theorem commandsLeaveTheQueue : Obligations.CommandsLeaveTheQueue := by
  unfold Obligations.CommandsLeaveTheQueue
  exact fun s t i h => exec_queue h

/-- Settles O55. -/
theorem slotStaysInRange : Obligations.SlotStaysInRange := by
  unfold Obligations.SlotStaysInRange
  intro s t hs h
  cases hp : s.pending with
  | nil => rw [stepRunsTheFrontCommand.2 s hp] at h; cases h; exact hs
  | cons c rest => rw [stepRunsTheFrontCommand.1 s c rest hp] at h; exact exec_slot h hs

end Sys2Proof.Machine

/-! # Cadence and power events

What events of the cadence input, the clock, the sensors and the samples leave alone, one lemma per operation that they
use, and what a presented reference boundary leaves of the cadence record itself. -/

namespace Sys2Proof.Machine

/-- What no event of the cadence input or of power reaches: memory, dictionary, links, network, store, the cuvees' states and
the place in estate time. -/
def State.beyondCadence (s : State) :=
  (s.mem.hbm, s.mem.store, s.dict, s.links, s.net, s.flash, (fun c => (s.cuvee c).state), s.time.slot, s.time.epochs)

/-! ## The cadence input (R41–R49) -/

@[simp] theorem State.updCad_beyondCadence (s : State) (f : CadenceSt → CadenceSt) :
    (s.updCad f).beyondCadence = s.beyondCadence := by
  simp [State.beyondCadence, State.updCad, State.cuvee]

@[simp] theorem State.at_beyondCadence (s : State) (t : Instant) : (s.at_ t).beyondCadence = s.beyondCadence := by
  unfold State.at_
  split <;> simp [State.beyondCadence, State.cuvee]

@[simp] theorem State.setPresent_beyondCadence (s : State) (b : Bool) : (s.setPresent b).beyondCadence = s.beyondCadence := by
  simp [State.setPresent]

@[simp] theorem State.discardReference_beyondCadence (s : State) : s.discardReference.beyondCadence = s.beyondCadence := by
  unfold State.discardReference
  split <;> simp

@[simp] theorem State.enterLocked_beyondCadence (s : State) : s.enterLocked.beyondCadence = s.beyondCadence := by
  simp [State.enterLocked]

@[simp] theorem State.roundOpen_beyondCadence (s : State) (x : Rat) : (s.roundOpen x).2.beyondCadence = s.beyondCadence := by
  simp [State.roundOpen, State.beyondCadence, State.cuvee]

@[simp] theorem State.referenceBoundary_beyondCadence (s : State) (t : Instant) :
    (s.referenceBoundary t).beyondCadence = s.beyondCadence := by
  have hu := s.updCad_beyondCadence fun c => { c with lastPresented := some t }
  unfold State.referenceBoundary
  simp only []
  generalize s.updCad _ = u at hu ⊢
  rw [← hu]
  split
  · split
    · simp [State.beyondCadence, State.cuvee]
    · simp
  · (repeat' split) <;> simp

@[simp] theorem State.dividedEdge_beyondCadence (s : State) (t : Instant) :
    (s.dividedEdge t).beyondCadence = s.beyondCadence := by
  unfold State.dividedEdge
  simp only []
  (repeat' split) <;> simp

@[simp] theorem State.cadenceEdge_beyondCadence (s : State) (t : Instant) :
    (s.cadenceEdge t).beyondCadence = s.beyondCadence := by
  unfold State.cadenceEdge
  simp only []
  (repeat' split) <;> simp

@[simp] theorem State.ptpMessage_beyondCadence (s : State) (m : PtpMsg) : (s.ptpMessage m).beyondCadence = s.beyondCadence := by
  have ho : ∀ (u : State) (o : List Out), ({ u with out := o } : State).beyondCadence = u.beyondCadence := by
    simp [State.beyondCadence, State.cuvee]
  unfold State.ptpMessage
  simp only []
  (repeat' split) <;> simp [ho]

@[simp] theorem State.peerGone_beyondCadence (s : State) (k : Nat) : (s.peerGone k).beyondCadence = s.beyondCadence := by
  unfold State.peerGone
  simp only []
  (repeat' split) <;> simp

@[simp] theorem State.referenceTimeout_beyondCadence (s : State) (t : Instant) :
    (s.referenceTimeout t).beyondCadence = s.beyondCadence := by
  unfold State.referenceTimeout
  simp only []
  (repeat' split) <;> simp

@[simp] theorem State.flywheelRise_beyondCadence (s : State) : s.flywheelRise.beyondCadence = s.beyondCadence := by
  simp [State.flywheelRise]

@[simp] theorem State.missedBoundary_beyondCadence (s : State) : s.missedBoundary.beyondCadence = s.beyondCadence := by
  unfold State.missedBoundary
  simp only []
  (repeat' split) <;> simp

/-- A change of a cuvee that keeps its state. -/
theorem State.updCuvee_beyondCadence (s : State) (c : Nat) {f : Cuvee → Cuvee} (hf : ∀ v, (f v).state = v.state) :
    (s.updCuvee c f).beyondCadence = s.beyondCadence := by
  have hs : (fun d => ((s.updCuvee c f).cuvee d).state) = fun d => (s.cuvee d).state := by
    funext d
    by_cases h : d = c
    · rw [h, State.cuvee_updCuvee, hf]
    · rw [State.cuvee_updCuvee_ne s f h]
  simp [State.beyondCadence, hs]

theorem State.each_beyondCadence {α : Type} (s : State) (l : List α) {f : State → α → State}
    (hf : ∀ s x, (f s x).beyondCadence = s.beyondCadence) : (s.each l f).beyondCadence = s.beyondCadence :=
  State.each_frame State.beyondCadence f l s hf

@[simp] theorem State.markUnlocked_beyondCadence (s : State) : s.markUnlocked.beyondCadence = s.beyondCadence := by
  unfold State.markUnlocked
  split
  · rfl
  · simp only []
    rw [State.each_beyondCadence]
    · rfl
    · exact fun s c => State.updCuvee_beyondCadence s c fun _ => rfl

/-! ## Clock, sensors and samples (R361–R372) -/

@[simp] theorem State.updPower_beyondCadence (s : State) (f : PowerSt → PowerSt) :
    (s.updPower f).beyondCadence = s.beyondCadence := by
  simp [State.beyondCadence, State.updPower, State.cuvee]

@[simp] theorem State.updTile_beyondCadence (s : State) (t : Nat) (f : Tile → Tile) :
    (s.updTile t f).beyondCadence = s.beyondCadence := by
  simp [State.beyondCadence, State.cuvee]

@[simp] theorem State.updParcel_beyondCadence (s : State) (p : Nat) (f : ParcelSt → ParcelSt) :
    (s.updParcel p f).beyondCadence = s.beyondCadence := by
  simp [State.beyondCadence, State.updParcel, State.cuvee]

@[simp] theorem State.setLimit_beyondCadence (s : State) (i v : Nat) : (s.setLimit i v).beyondCadence = s.beyondCadence := by
  simp [State.setLimit]

@[simp] theorem State.lowerLimit_beyondCadence (s : State) (i n : Nat) : (s.lowerLimit i n).beyondCadence = s.beyondCadence := by
  simp [State.lowerLimit]

@[simp] theorem State.raiseLimit_beyondCadence (s : State) (i n : Nat) : (s.raiseLimit i n).beyondCadence = s.beyondCadence := by
  simp [State.raiseLimit]

@[simp] theorem State.episodeNote_beyondCadence (s : State) (r sensor peak holds : Nat) (lowest : Bool) :
    (s.episodeNote r sensor peak holds lowest).beyondCadence = s.beyondCadence := by
  unfold State.episodeNote
  split <;> simp

@[simp] theorem State.powerCapLimiter_beyondCadence (s : State) (milliW avg1ms : Nat) :
    (s.powerCapLimiter milliW avg1ms).beyondCadence = s.beyondCadence := by
  unfold State.powerCapLimiter
  simp only []
  (repeat' split) <;> simp

@[simp] theorem State.voltageLimiter_beyondCadence (s : State) (tenthsV : Nat) :
    (s.voltageLimiter tenthsV).beyondCadence = s.beyondCadence := by
  unfold State.voltageLimiter
  simp only []
  (repeat' split) <;> simp

@[simp] theorem State.thermalLimiter_beyondCadence (s : State) (i st run ms : Nat) :
    (s.thermalLimiter i st run ms).beyondCadence = s.beyondCadence := by
  unfold State.thermalLimiter
  (repeat' split) <;> simp

@[simp] theorem State.powerSample_beyondCadence (s : State) (milliW avg1ms tenthsV : Nat) :
    (s.powerSample milliW avg1ms tenthsV).beyondCadence = s.beyondCadence := by
  simp [State.powerSample]

@[simp] theorem State.clockStep_beyondCadence (s : State) : s.clockStep.beyondCadence = s.beyondCadence := by
  unfold State.clockStep
  simp only []
  (repeat' split) <;> simp

@[simp] theorem State.phiStep_beyondCadence (s : State) (t : Nat) (waiting : Bool) (slope : Nat) :
    (s.phiStep t waiting slope).beyondCadence = s.beyondCadence := by
  unfold State.phiStep
  simp only []
  (repeat' split) <;> simp

@[simp] theorem State.stackTemperatureRead_beyondCadence (s : State) (p degC : Nat) :
    (s.stackTemperatureRead p degC).beyondCadence = s.beyondCadence := by
  unfold State.stackTemperatureRead
  simp only []
  (repeat' split) <;> simp [State.stackReading]

/-- A reading below the 110 degrees of a trip (R369). -/
theorem State.dieSensorRead_beyondCadence (s : State) {ts : List Nat} (h : maxNat ts < 110) :
    (s.dieSensorRead ts).beyondCadence = s.beyondCadence := by
  unfold State.dieSensorRead
  rw [if_neg (Nat.not_le.mpr h)]
  split <;> simp [State.dieReading]

@[simp] theorem State.observationWindowEnd_beyondCadence (s : State) :
    s.observationWindowEnd.beyondCadence = s.beyondCadence := by
  unfold State.observationWindowEnd
  split
  · rfl
  · rw [State.updPower_beyondCadence]
    exact State.each_beyondCadence _ _ fun s c => State.updCuvee_beyondCadence s c fun _ => rfl

/-! ## The frame -/

theorem exec_powerSample_beyondCadence {w a : Nat} {v : Int} {s t : State} (h : exec (.powerSample w a v) s = .next t) :
    t.beyondCadence = s.beyondCadence := by
  change execPowerSample w a v s = _ at h
  unfold execPowerSample at h
  split at h
  · cases h
  · cases h
    simp

theorem exec_missedBoundary_beyondCadence {s t : State} (h : exec .missedBoundary s = .next t) :
    t.beyondCadence = s.beyondCadence := by
  change Host.Outcome.next (if _ then _ else _) = _ at h
  cases h
  split <;> simp

/-- Settles O59. -/
theorem cadenceAndPowerEventsFrame : Obligations.CadenceAndPowerEventsFrame := by
  unfold Obligations.CadenceAndPowerEventsFrame
  intro s t i hi h
  suffices hb : t.beyondCadence = s.beyondCadence by
    simp only [State.beyondCadence, Prod.mk.injEq] at hb
    obtain ⟨hm, hst, hd, hl, hn, hf, hc, hsl, he⟩ := hb
    exact ⟨hm, hst, hd, hl, hn, hf, congrFun hc, hsl, he⟩
  obtain ⟨x, rfl⟩ | ⟨m, rfl⟩ | ⟨x, rfl⟩ | rfl | ⟨w, a, v, rfl⟩ | rfl | ⟨k, b, n, rfl⟩ | ⟨p, d, rfl⟩ | ⟨ts, rfl, hts⟩ | rfl := hi
  · cases h; exact s.cadenceEdge_beyondCadence x
  · cases h; exact s.ptpMessage_beyondCadence m
  · cases h; exact s.referenceTimeout_beyondCadence x
  · exact exec_missedBoundary_beyondCadence h
  · exact exec_powerSample_beyondCadence h
  · cases h; exact s.clockStep_beyondCadence
  · cases h; exact s.phiStep_beyondCadence k b n
  · cases h; exact s.stackTemperatureRead_beyondCadence p d
  · cases h; exact s.dieSensorRead_beyondCadence hts
  · cases h; exact s.observationWindowEnd_beyondCadence

end Sys2Proof.Machine

/-! # The cadence input, the ticks of estate time and reset

What each event of the cadence input makes of the cadence record, through `CadenceSt.gauges`: the part of the record that a
presented reference boundary and a change of ReferencePresent leave alone. -/

namespace Sys2Proof.Machine

/-- What measures the reference: counted edges and their intervals (R44, R49), the divider's count (R514) and the PTP servo
(R42). -/
def CadenceSt.gauges (c : CadenceSt) : CadenceSt :=
  { (default : CadenceSt) with
    lastEdge := c.lastEdge, intervals := c.intervals, divCount := c.divCount
    ptpOffset := c.ptpOffset, goodSyncs := c.goodSyncs, ptpDelay := c.ptpDelay }

@[simp] theorem State.at_cad (s : State) (t : Instant) : (s.at_ t).cad = s.cad := by
  unfold State.at_
  split <;> rfl

@[simp] theorem State.at_num (s : State) (t : Instant) (i sub : Nat) : (s.at_ t).num i sub = s.num i sub := by
  unfold State.at_
  split <;> rfl

@[simp] theorem State.at_running (s : State) (t : Instant) : (s.at_ t).time.running = s.time.running := by
  obtain ⟨n, c, -, h⟩ := s.at_time t
  rw [h]

@[simp] theorem State.updCad_cad (s : State) (f : CadenceSt → CadenceSt) : (s.updCad f).cad = f s.cad := rfl
@[simp] theorem State.updCad_time (s : State) (f : CadenceSt → CadenceSt) : (s.updCad f).time = s.time := rfl
@[simp] theorem State.updCad_num (s : State) (f : CadenceSt → CadenceSt) (i sub : Nat) : (s.updCad f).num i sub = s.num i sub :=
  rfl

/-! ## A presented reference boundary -/

@[simp] theorem State.setPresent_present (s : State) (b : Bool) : (s.setPresent b).cad.present = b := rfl
@[simp] theorem State.setPresent_source (s : State) (b : Bool) : (s.setPresent b).cad.source = s.cad.source := rfl
@[simp] theorem State.setPresent_gauges (s : State) (b : Bool) : (s.setPresent b).cad.gauges = s.cad.gauges := rfl

@[simp] theorem State.discardReference_gauges (s : State) : s.discardReference.cad.gauges = s.cad.gauges := by
  unfold State.discardReference
  split <;> rfl

@[simp] theorem State.enterLocked_gauges (s : State) : s.enterLocked.cad.gauges = s.cad.gauges := by
  unfold State.enterLocked State.updCad
  simp only []
  split <;> rfl

@[simp] theorem State.referenceBoundary_gauges (s : State) (t : Instant) :
    (s.referenceBoundary t).cad.gauges = s.cad.gauges := by
  have hu : (s.updCad fun c => { c with lastPresented := some t }).cad.gauges = s.cad.gauges := rfl
  unfold State.referenceBoundary
  simp only []
  generalize s.updCad _ = u at hu ⊢
  rw [← hu]
  split
  · split <;> simp
  · (repeat' split) <;> simp <;> rfl

/-- A counted edge that the divider counts, whether or not it presents a boundary. -/
theorem State.dividedEdge_gauges {s : State} {c : CadenceSt} (h : s.cad.source = 0) (hg : s.cad.gauges = c.gauges)
    (t : Instant) : (s.dividedEdge t).cad.gauges = { c with divCount := c.divCount + 1 }.gauges := by
  suffices hd : (s.dividedEdge t).cad.gauges = { s.cad.gauges with divCount := s.cad.gauges.divCount + 1 } by
    rw [hd, hg]; rfl
  unfold State.dividedEdge
  simp only []
  rw [if_neg (not_not.mpr h)]
  split
  · rw [State.referenceBoundary_gauges]; rfl
  · rfl

theorem State.dividedEdge_of_other_source {s : State} (h : s.cad.source ≠ 0) (t : Instant) : s.dividedEdge t = s := if_pos h

/-! ## The CADENCE input (R44) -/

theorem State.cadenceEdge_rejected {s : State} {t e : Instant} (he : s.cad.lastEdge = some e) (h : t - e < 50000) :
    (s.cadenceEdge t).cad = { s.cad with rejected := (s.cad.rejected + 1) % 2 ^ 32 } := by
  simp [State.cadenceEdge, he, h]

theorem State.cadenceEdge_counted {s : State} {t e : Instant} (he : s.cad.lastEdge = some e) (h : 50000 ≤ t - e) :
    (s.cadenceEdge t).cad.gauges = { s.cad with
      lastEdge := some t, intervals := ((t - e) :: s.cad.intervals).take 4
      divCount := if s.time.running = true ∧ s.cad.source = 0 then s.cad.divCount + 1 else s.cad.divCount }.gauges := by
  unfold State.cadenceEdge
  simp only [State.at_cad, he, if_neg (not_lt.mpr h)]
  have hu : ((s.at_ t).updCad fun c => { c with lastEdge := some t, intervals := ((t - e) :: c.intervals).take 4 }).cad =
      { s.cad with lastEdge := some t, intervals := ((t - e) :: s.cad.intervals).take 4 } := by simp
  have hr : ((s.at_ t).updCad fun c => { c with lastEdge := some t, intervals := ((t - e) :: c.intervals).take 4 }).time.running =
      s.time.running := by simp
  generalize State.updCad _ _ = u at hu hr ⊢
  rw [hr]
  cases s.time.running
  · simp [hu]
  · by_cases hs : s.cad.source = 0
    · have hus : u.cad.source = 0 := by rw [hu]; exact hs
      simp only [hus, hs, Bool.not_true, Bool.false_eq_true, if_false, ne_eq, not_true_eq_false, and_self, if_true]
      split
      · rw [State.dividedEdge_gauges (c := u.cad) (by simp [hus]) (by simp), hu]; rfl
      · split <;> (rw [State.dividedEdge_gauges (c := u.cad) (by simp [hus]) (by simp), hu]; rfl)
    · have hus : u.cad.source ≠ 0 := by rw [hu]; exact hs
      simp [hs, State.dividedEdge_of_other_source, hu]

/-- Settles O47. -/
theorem countedEdges : Obligations.CountedEdges := by
  unfold Obligations.CountedEdges
  intro s t e he
  refine ⟨fun h => ⟨_, rfl, State.cadenceEdge_rejected he h, ?_⟩, fun h => ⟨_, rfl, ?_⟩⟩
  · exact congrArg (fun c : CadenceSt => Blob.scalar 4 c.rejected) (State.cadenceEdge_rejected he h)
  · have hg := State.cadenceEdge_counted he h
    exact ⟨congrArg CadenceSt.lastEdge hg, congrArg CadenceSt.divCount hg⟩

/-! ## PTP messages (R41, R42) -/

theorem State.ptpMessage_gauges {s : State} {m : PtpMsg} (h : m.domain = s.num 0x2000 4) :
    (s.ptpMessage m).cad.gauges = (s.cad.ptpStep m).gauges := by
  unfold State.ptpMessage
  simp only [h, ne_eq, not_true_eq_false, if_false]
  (repeat' split) <;> simp

theorem CadenceSt.ptpStep_offset (c : CadenceSt) (m : PtpMsg) : (c.ptpStep m).ptpOffset = m.ptpTime - m.at_ := by
  unfold CadenceSt.ptpStep
  simp only []
  (repeat' split) <;> rfl

theorem CadenceSt.ptpStep_not_slave (c : CadenceSt) {m : PtpMsg} (h : m.slave = false) : (c.ptpStep m).goodSyncs = 0 := by
  simp [CadenceSt.ptpStep, h]

theorem CadenceSt.ptpStep_measured {c : CadenceSt} {m : PtpMsg} {o : Rat} (h : m.slave = true)
    (ho : c.ptpMeasured m = some o) :
    (c.ptpStep m).goodSyncs = if -1000 < o ∧ o < 1000 then c.goodSyncs + 1 else 0 := by
  have ho' : ({ c with ptpSlave := true, ptpOffset := m.ptpTime - m.at_ } : CadenceSt).ptpMeasured m = some o := ho
  simp only [CadenceSt.ptpStep, ho', h, Bool.not_true, Bool.false_eq_true, if_false]

/-- The answer to the Delay_Req sent for the same Sync. -/
theorem CadenceSt.ptpStep_delay {c : CadenceSt} {m : PtpMsg} {d b : Rat} (h : m.slave = true) (hk : m.kind = .delayResp)
    (hr : c.ptpReq = some (m.seq, d, b)) : (c.ptpStep m).ptpDelay = (d + (m.carried - b)) / 2 := by
  simp [CadenceSt.ptpStep, CadenceSt.ptpMeasured, h, hk, hr]

/-! ## Loss of the reference and missed boundaries (R46-R49) -/

theorem State.referenceTimeout_present {s : State} {t e i : Instant} {l : List Instant} (he : s.cad.lastEdge = some e)
    (hs : s.cad.source = 0) (hi : s.cad.intervals = i :: l) (ht : e + i * 33 / 32 ≤ t) :
    (s.referenceTimeout t).cad.present = false := by
  have hl : s.cad.edgesLive t = false := by simp [CadenceSt.edgesLive, he, hi, ht]
  simp [State.referenceTimeout, hs, hi, hl]

@[simp] theorem State.markUnlocked_cad (s : State) : s.markUnlocked.cad = s.cad := by
  unfold State.markUnlocked
  split
  · rfl
  · simp only []
    rw [State.each_frame State.cad]
    exact fun s c => State.updCuvee_cad s c _

/-- The record once the window has closed without an accepted boundary. -/
def CadenceSt.closed (c : CadenceSt) : CadenceSt := { c with windowClosed := true, missed := (c.missed + 1) % 2 ^ 32 }

/-- A missed boundary without a reference, with FlywheelLimit as given (R48). -/
def CadenceSt.risen (c : CadenceSt) (limit : Nat) : CadenceSt :=
  if limit ≤ c.flywheel + 1 then
    { c with flywheel := c.flywheel + 1, state := .cadenceLost, lostCount := (c.lostCount + 1) % 2 ^ 32 }
  else { c with flywheel := c.flywheel + 1, state := .flywheel }

@[simp] theorem State.flywheelRise_cad (s : State) : s.flywheelRise.cad = s.cad.risen (s.num 0x2000 8) := rfl

theorem CadenceSt.risen_below {c : CadenceSt} {limit : Nat} (h : c.flywheel + 1 < limit) :
    c.closed.risen limit = { c.closed with flywheel := c.flywheel + 1, state := .flywheel } := if_neg (Nat.not_le.mpr h)

theorem CadenceSt.risen_at_limit {c : CadenceSt} {limit : Nat} (h : limit ≤ c.flywheel + 1) :
    c.closed.risen limit =
      { c.closed with flywheel := c.flywheel + 1, state := .cadenceLost, lostCount := (c.lostCount + 1) % 2 ^ 32 } := if_pos h

@[simp] theorem CadenceSt.risen_missed (c : CadenceSt) (limit : Nat) : (c.risen limit).missed = c.missed := by
  unfold CadenceSt.risen
  split <;> rfl

@[simp] theorem CadenceSt.risen_windowClosed (c : CadenceSt) (limit : Nat) :
    (c.risen limit).windowClosed = c.windowClosed := by
  unfold CadenceSt.risen
  split <;> rfl

/-- Every missed boundary is counted once, and its window stays closed. -/
theorem State.missedBoundary_counted {s : State} (h : s.boundaryMissable = true) :
    s.missedBoundary.cad.missed = (s.cad.missed + 1) % 2 ^ 32 ∧ s.missedBoundary.cad.windowClosed = true := by
  unfold State.missedBoundary
  simp only [h, Bool.not_true, Bool.false_eq_true, if_false]
  (repeat' split) <;> simp

theorem State.missedBoundary_slews {s : State} (h : s.boundaryMissable = true) (hs : s.cad.state = .locked)
    (hp : s.cad.present = true) : s.missedBoundary.cad = { s.cad.closed with state := .slewing } := by
  simp [State.missedBoundary, h, hs, hp, CadenceSt.closed]

theorem State.missedBoundary_rises {s : State} (h : s.boundaryMissable = true)
    (hs : s.cad.state = .flywheel ∨ (s.cad.state = .locked ∧ s.cad.present = false)) :
    s.missedBoundary.cad = s.cad.closed.risen (s.num 0x2000 8) := by
  obtain hs | ⟨hs, hp⟩ := hs
  · simp [State.missedBoundary, h, hs, CadenceSt.closed]
  · simp [State.missedBoundary, h, hs, hp, CadenceSt.closed]

theorem exec_missedBoundary {s : State} (h : s.boundaryMissable = true) :
    exec .missedBoundary s = .next s.missedBoundary.markUnlocked :=
  congrArg Host.Outcome.next (if_pos h)

/-- Settles O17. -/
theorem referenceAndCadence : Obligations.ReferenceAndCadence := by
  unfold Obligations.ReferenceAndCadence
  refine ⟨fun s t e hr he => ⟨fun h => ?_, fun m hm => ?_, fun i l hs hi ht => ?_⟩, fun s h => ?_⟩
  · exact ⟨_, rfl, congrArg CadenceSt.intervals (State.cadenceEdge_counted he h)⟩
  · have hg := State.ptpMessage_gauges hm
    refine ⟨_, rfl, (congrArg CadenceSt.ptpOffset hg).trans (s.cad.ptpStep_offset m), fun hn => ?_, fun o hsl ho => ?_,
      fun d b hsl hk hq => ?_⟩
    · exact (congrArg CadenceSt.goodSyncs hg).trans (s.cad.ptpStep_not_slave hn)
    · exact (congrArg CadenceSt.goodSyncs hg).trans (CadenceSt.ptpStep_measured hsl ho)
    · exact (congrArg CadenceSt.ptpDelay hg).trans (CadenceSt.ptpStep_delay hsl hk hq)
  · exact ⟨_, rfl, State.referenceTimeout_present he hs hi ht⟩
  · obtain ⟨hm, hw⟩ := State.missedBoundary_counted h
    refine ⟨_, exec_missedBoundary h, by rw [State.markUnlocked_cad, hm], by rw [State.markUnlocked_cad, hw],
      fun hs hp => ?_, fun hs => ?_⟩
    · rw [State.markUnlocked_cad, State.missedBoundary_slews h hs hp]
    · rw [State.markUnlocked_cad, State.missedBoundary_rises h hs]
      exact ⟨fun hb => by rw [CadenceSt.risen_below hb]; exact ⟨rfl, rfl⟩,
        fun hl => by rw [CadenceSt.risen_at_limit hl]; exact ⟨rfl, rfl⟩⟩

/-! ## The ticks of estate time and reset -/

/-- Settles O18: a slot tick moves the slot and the clock of events alone; a boundary begins the epoch that
`State.epochBoundary_steady` gives. -/
theorem ticksOfEstateTime : Obligations.TicksOfEstateTime := by
  unfold Obligations.TicksOfEstateTime
  intro s hr
  refine ⟨fun h => ⟨_, rfl, ?_⟩, fun h => ⟨_, rfl, ?_⟩⟩
  · obtain ⟨n, c, hn, hk⟩ := State.slotFire_kept hr h
    simp only [State.kept, Prod.mk.injEq] at hk
    obtain ⟨-, ht, -⟩ := hk
    have hst : s.slotFire.slotStart (s.time.slot + 1) = s.slotStart (s.time.slot + 1) := by
      simp [State.slotStart, State.slotLen, ht]
    simp only [ht, hst, hn, and_self]
  · have hk := State.epochBoundary_steady hr h
    simp only [State.steady, Prod.mk.injEq] at hk
    obtain ⟨-, ht, -⟩ := hk
    exact ⟨congrArg TimeSt.slot ht, congrArg TimeSt.epochs ht, congrArg TimeSt.epochStart ht, congrArg TimeSt.epochLen ht,
      congrArg TimeSt.prevLen ht, fun hc => (congrArg TimeSt.lockCut ht).trans (if_pos hc)⟩

/-- Settles O51: `State.reset` lists no memory, port or tile, so each reads its initial value. -/
theorem resetState : Obligations.ResetState := by
  unfold Obligations.ResetState
  exact ⟨rfl, rfl, rfl, rfl, rfl, rfl, ⟨rfl, rfl⟩, fun _ => rfl, fun _ => rfl, fun _ => rfl, fun _ => rfl⟩

end Sys2Proof.Machine

/-! # Staged writes by a window (R468, R470, R471)

A heard write of an epoch object that every check accepts becomes one pending write and is answered STAGED; CadenceCommand
(R50) is such an object. -/

namespace Sys2Proof.Machine

/-- The window that waits for this answer holds it. -/
theorem State.answerWindow_answered {s : State} {a : Access} {y : Response} {st : Nat}
    (hw : (s.window a.path).inFlight = some (reqGen a)) (hs : y.status = st) (ht : y.tag = a.tag) :
    (s.answerWindow a.path (reqGen a) y).answered a st = true := by
  have hv : (s.answerWindow a.path (reqGen a) y).window a.path =
      { s.window a.path with response := some y, respGen := reqGen a, inFlight := none } := by
    unfold State.answerWindow
    simp only [hw, ne_eq, not_true_eq_false, if_false]
    exact State.window_setWindow ..
  simp [State.answered, hv, hs, ht]

theorem State.filled_inFlight (s : State) (a : Access) (op : Nat) :
    ((s.filled a op).window a.path).inFlight = some (reqGen a) := by
  simp only [State.filled, State.window_setWindow]

/-- What serves the window's answer leaves the rest of the dictionary, the cadence and estate time. -/
theorem State.answerWindow_pend (s : State) (p : Path) (g : Nat) (y : Response) :
    (s.answerWindow p g y).dict.pend = s.dict.pend ∧ (s.answerWindow p g y).cad = s.cad ∧
      (s.answerWindow p g y).time = s.time := by
  unfold State.answerWindow
  simp only []
  split
  · exact ⟨rfl, rfl, rfl⟩
  · exact ⟨rfl, rfl, rfl⟩

/-- The write of the last step of a chain of checks: an epoch object whose value is in order is posted (R470). -/
theorem State.writeValue_staged {s : State} {acc : Acc} {i sub : Nat} {d : ObjDesc} {b : Blob} {x : Extra}
    (hok : s.writeCode acc 2 true (refOf acc i sub d) b x = stOk) (hd : d.epoch = true)
    (hi : i ≠ 0x2003 ∧ i ≠ 0x3012 ∧ i ≠ 0xB021 ∧ i ≠ 0x1020)
    (hroom : (s.dict.pend.filter fun p => !p.commit).length < 4096) :
    s.writeValue acc 2 true (refOf acc i sub d) b x = (stStaged, false, s.post acc false [⟨i, sub, b⟩] none) := by
  obtain ⟨h1, h2, h3, h4⟩ := hi
  have hr : ¬ 4096 ≤ (s.dict.pend.filter fun p => !p.commit).length := Nat.not_le.mpr hroom
  unfold State.writeValue
  simp only [hok]
  simp [State.acceptWrite, refOf, h1, h2, h3, h4, hd, hr]

/-- The table's row of CadenceCommand (R50). -/
def cadenceCommandRow : ObjDesc :=
  ⟨0x2000, 0x2000, 9, 9, "CadenceCommand", .u8, 2, 0, 2, true, .estate, true, 1, 1, 1, ⟨1, 0⟩, some (1, 3)⟩

theorem objAt_cadenceCommand : objAt 0x2000 9 = some cadenceCommandRow := rfl

/-- CadenceCommand takes codes 1 to 3 that are legal now (R50). -/
theorem State.writeCode_cadenceCommand {s : State} {code : Nat} (hc : code ∈ [1, 2, 3])
    (h : s.cadenceCommandOk code = true) :
    s.writeCode .manager 2 true (refOf .manager 0x2000 9 cadenceCommandRow) (Blob.scalar 1 code) default = stOk := by
  have hv : (Blob.scalar 1 code).val = code ∧ within code 1 3 = true := by
    simp only [List.mem_cons, List.not_mem_nil, or_false] at hc
    obtain rfl | rfl | rfl := hc <;> exact ⟨rfl, rfl⟩
  have hsz : (Blob.scalar 1 code).size = 1 := rfl
  simp [State.writeCode, refOf, cadenceCommandRow, sizeOk, State.valueDenied, State.valueStatus, State.chkObject,
    State.chkCadence, hv, hsz, h, Chk.code, verdict, ObjDesc.outside, listBad, ObjDesc.cuveeOf]

/-- Settles O2. -/
theorem cadenceCommandsWaitForTheBoundary : Obligations.CadenceCommandsWaitForTheBoundary := by
  unfold Obligations.CadenceCommandsWaitForTheBoundary
  intro s a f code hf hh hp hok hroom
  have hc : code ∈ [1, 2, 3] ∧ exec (f a) s = .next (s.codeWrite a 0x2000 9 code) := by
    simp only [List.mem_cons, Prod.mk.injEq, List.not_mem_nil, or_false] at hf
    obtain ⟨rfl, rfl⟩ | ⟨rfl, rfl⟩ | ⟨rfl, rfl⟩ := hf <;> exact ⟨by decide, rfl⟩
  obtain ⟨hcode, hexec⟩ := hc
  have hcl : s.classOf a.path = some .manager := by rw [hp]; exact congrArg some (if_pos rfl)
  obtain ⟨u, size, hu, hw⟩ := s.commandWrite_heard a 0x2000 9 (Blob.scalar 1 code) default .manager cadenceCommandRow hh
    (by decide) (by decide) (by simp [Blob.scalar]) (Nat.mod_lt _ (by decide)) hcl (by simp) objAt_cadenceCommand rfl
  have hq := State.writeValue_staged (s := u) (State.writeCode_cadenceCommand hcode (by rw [hu]; exact hok)) rfl (by decide)
    (by rw [hu]; exact hroom)
  rw [hq] at hw
  simp only [Bool.false_eq_true, if_false] at hw
  refine ⟨_, ⟨s.dict.nextSeq, .manager, false, [⟨0x2000, 9, Blob.scalar 1 code⟩], s.nextDue, none⟩, hexec, ?_⟩
  rw [State.codeWrite, hw]
  obtain ⟨hpend, hcad, htime⟩ := State.answerWindow_pend (u.post .manager false [⟨0x2000, 9, Blob.scalar 1 code⟩] none) a.path
    (reqGen a) ((accessReq (writingTo a 0x2000 9 (Blob.scalar 1 code)) 2 (reqGen a)).response s.stamp
      ⟨stStaged, cadenceCommandRow.ty.code, ⟨0, 0⟩, size⟩)
  refine ⟨State.answerWindow_answered ?_ rfl rfl, ?_, rfl, rfl, rfl, rfl, ?_, ?_⟩
  · rw [hu]; exact State.filled_inFlight s (writingTo a 0x2000 9 (Blob.scalar 1 code)) 2
  · rw [hpend, hu]; rfl
  · rw [hcad, hu]; rfl
  · rw [htime, hu]; rfl

end Sys2Proof.Machine

/-! # What the host ports bring: BAR registers, configuration requests, completions

One equation per register of a VF's BAR (R426, R506), the two ways to write Bus Master Enable (R502), and what ends a host
read (R259). -/

namespace Sys2Proof.Machine

/-! ## The registers of a VF -/

theorem State.vfCuvee_eq {s : State} {p : Path} {c : Nat} (h : s.classOf p = some (.tenant c)) : s.vfCuvee p = some c := by
  simp [State.vfCuvee, h]

@[simp] theorem State.ring_updRing (s : State) (c k : Nat) (f : Ring → Ring) :
    (s.updRing c k f).ring c k = f (s.ring c k) := by
  simp [State.updRing, State.ring]

@[simp] theorem State.check_setCheck (s : State) (n : Nat) (x : CheckCh) : (s.setCheck n x).check n = x :=
  Sparse.getD_set_self ..

/-- A whole write of a doorbell or head of one of the cuvee's pairs (R72). -/
theorem State.pairReg_eq {s : State} {p : Path} {c k : Nat} (hc : s.classOf p = some (.tenant c)) (hk : k < s.ringPairs c)
    (isHead : Bool) (v : Nat) : s.pairReg p k isHead 4 v true =
      s.updRing c k fun r => if isHead then { r with head := v % 2 ^ 32 } else { r with doorbell := v % 2 ^ 32 } := by
  unfold State.pairReg
  rw [State.vfCuvee_eq hc]
  simp [Nat.not_le.mpr hk]

section
variable {s : State} {w : BarWrite} {c : Nat}

theorem exec_doorbell (hr : s.reaches (.vf w.port w.vf) = true) (hc : s.classOf (.vf w.port w.vf) = some (.tenant c))
    (ha : w.aligned = true) (hs : w.size = 4) (hk : w.unit < s.ringPairs c) :
    exec (.doorbell w) s = .next (s.updRing c w.unit fun r => { r with doorbell := w.value % 2 ^ 32 }) := by
  change Host.Outcome.next (if _ then _ else _) = _
  rw [if_pos hr, hs, ha, State.pairReg_eq hc hk]
  rfl

theorem exec_head (hr : s.reaches (.vf w.port w.vf) = true) (hc : s.classOf (.vf w.port w.vf) = some (.tenant c))
    (ha : w.aligned = true) (hs : w.size = 4) (hk : w.unit < s.ringPairs c) :
    exec (.head w) s = .next (s.updRing c w.unit fun r => { r with head := w.value % 2 ^ 32 }) := by
  change Host.Outcome.next (if _ then _ else _) = _
  rw [if_pos hr, hs, ha, State.pairReg_eq hc hk]
  rfl

/-- A whole write of START or of a feed of a channel that the cuvee holds (R426). -/
theorem State.barCheck_eq {n off : Nat} (hr : s.reaches (.vf w.port w.vf) = true)
    (hc : s.classOf (.vf w.port w.vf) = some (.tenant c)) (ha : w.aligned = true) (hn : s.channel c w.unit = some n)
    (hs : w.size = checkWidth off) (ho : off ∈ [0x10, 0x14, 0x16, 0x18]) : s.barCheck w off =
      if off = 0x10 then s.checkStart n else s.checkFeed n (w.value % 256 ^ checkWidth off) (checkWidth off) := by
  unfold State.barCheck State.checkReg
  rw [if_pos hr, State.vfCuvee_eq hc]
  simp only [hn, hs, ha, ne_eq, not_true_eq_false, Bool.not_true, decide_false, Bool.or_self, Bool.false_eq_true, if_false]
  simp only [List.mem_cons, List.not_mem_nil, or_false] at ho
  obtain rfl | rfl | rfl | rfl := ho <;> rfl

end

/-- A block begins with no bytes, on the settings of its channel. -/
theorem State.check_checkStart (s : State) (n : Nat) : ∃ crc owner, (s.checkStart n).check n =
    { s.check n with crc := crc, bytes := 0, overrun := false, running := true, owner := owner } :=
  ⟨_, _, State.check_setCheck ..⟩

theorem State.checkFeed_bytes (s : State) (n v k : Nat) :
    ((s.checkFeed n v k).check n).bytes = ((s.check n).bytes + k) % 2 ^ 64 := by
  simp [State.checkFeed]

theorem State.checkFeed_byte_crc (s : State) (n v : Nat) : ((s.checkFeed n (v % 256 ^ 1) 1).check n).crc.toNat =
    crcByte (s.check n).poly (s.check n).crc.toNat (v % 256) % 2 ^ 64 := by
  simp [State.checkFeed]

/-! ## Configuration requests (R502, R504) -/

theorem exec_configurationRequest {s : State} {p : HostPort} {fn : Nat} (h : s.portOpen p = true) (hf : fn ≤ 127) (v : Nat) :
    exec (.configurationRequest p fn 4 (some v)) s = .next (s.configWrite p fn 4 v) := by
  change Host.Outcome.next (State.configuration ..) = _
  simp [State.configuration, h, Nat.not_lt.mpr hf]

/-- A write of the command register sets the function's registers and its Bus Master Enable. -/
theorem State.configWrite_host (s : State) (p : HostPort) (fn v : Nat) : ∃ cfg, (s.configWrite p fn 4 v).host p =
    if bit v 2 then { s.host p with config := cfg, busMaster := addOnce (s.host p).busMaster fn }.release fn
    else { s.host p with config := cfg, busMaster := (s.host p).busMaster.filter (· != fn) } := by
  unfold State.configWrite
  by_cases hr : 4 = Config.pmcsr
  · simp only [if_pos hr, if_true, State.host_updHost]; exact ⟨_, rfl⟩
  · simp only [if_neg hr, if_true, State.host_updHost]; exact ⟨_, rfl⟩

theorem mem_addOnce {α : Type} [DecidableEq α] (l : List α) (x : α) : x ∈ addOnce l x := by
  unfold addOnce
  split
  · assumption
  · simp

/-- Bus Master Enable 1: the function masters, and its posted writes that waited go out in order. -/
theorem State.configWrite_master {s : State} {p : HostPort} {v : Nat} (h : bit v 2 = true) (fn : Nat) :
    fn ∈ ((s.configWrite p fn 4 v).host p).busMaster ∧
      ((s.configWrite p fn 4 v).host p).writes =
        ((s.host p).held.filter fun w => w.fn == fn).reverse ++ (s.host p).writes ∧
      ((s.configWrite p fn 4 v).host p).held = (s.host p).held.filter fun w => w.fn != fn := by
  obtain ⟨cfg, hc⟩ := s.configWrite_host p fn v
  rw [hc, if_pos h]
  exact ⟨mem_addOnce _ fn, rfl, rfl⟩

/-- Bus Master Enable 0: the function masters no more, and no write goes out. -/
theorem State.configWrite_hold {s : State} {p : HostPort} {v : Nat} (h : bit v 2 = false) (fn : Nat) :
    fn ∉ ((s.configWrite p fn 4 v).host p).busMaster ∧ ((s.configWrite p fn 4 v).host p).writes = (s.host p).writes := by
  obtain ⟨cfg, hc⟩ := s.configWrite_host p fn v
  rw [hc, if_neg (by simp [h])]
  exact ⟨by simp, rfl⟩

/-! ## Completions of host reads (R259) -/

theorem State.host_of_hosts {s t : State} (ha : t.hostA = s.hostA) (hb : t.hostB = s.hostB) (p : HostPort) :
    t.host p = s.host p := by
  cases p
  · exact ha
  · exact hb

@[simp] theorem State.updHost_cuvee (s : State) (p : HostPort) (f : HostSt → HostSt) (c : Nat) :
    (s.updHost p f).cuvee c = s.cuvee c := by
  cases p <;> rfl

@[simp] theorem State.updCuvee_host (s : State) (c : Nat) (f : Cuvee → Cuvee) (p : HostPort) :
    (s.updCuvee c f).host p = s.host p := State.host_of_hosts (by simp) (by simp) p

@[simp] theorem State.answer_host (s : State) (q : Packet) (ty st : Nat) (data : List Byte) (p : HostPort) :
    (s.answer q ty st data).host p = s.host p := by
  refine State.host_of_hosts ?_ ?_ p <;> simp [State.answer, State.inject]

/-- A whole completion ends its read. -/
theorem State.hostCompletion_ends {s : State} {p : HostPort} {tag : Nat} {r : HostRead} {data : List Byte}
    (hr : (s.host p).reads.find? (fun r => r.tag == tag) = some r) (hd : data.length = r.pkt.bytes) :
    ((s.hostCompletion p tag data).host p).reads = (s.host p).reads.filter fun x => x.tag != tag := by
  unfold State.hostCompletion
  simp only [hr, hd, ne_eq, not_true_eq_false, if_false]
  (repeat' split) <;> simp [State.forgetRead]

/-- Settles O11. -/
theorem hostAccesses : Obligations.HostAccesses := by
  unfold Obligations.HostAccesses
  refine ⟨fun s w c hr hc ha => ⟨fun hs hk => ?_, fun n hn => ?_⟩, fun s p fn v hp hf => ⟨?_, fun hb => ?_, fun hb => ?_⟩,
    fun s p tag r data hr hd => ⟨_, rfl, fun x hx => ?_, fun hq => ?_⟩⟩
  · exact ⟨⟨_, exec_doorbell hr hc ha hs hk, by simp, by simp⟩, _, exec_head hr hc ha hs hk, by simp, by simp⟩
  · refine ⟨fun hs => ?_, fun hs => ?_, fun hs => ?_, fun hs => ?_⟩
    · obtain ⟨crc, owner, hx⟩ := s.check_checkStart n
      refine ⟨_, congrArg Host.Outcome.next (State.barCheck_eq hr hc ha hn hs (by decide)), ?_⟩
      simp [hx]
    · refine ⟨_, congrArg Host.Outcome.next (State.barCheck_eq hr hc ha hn hs (by decide)), ?_⟩
      exact ⟨s.checkFeed_bytes .., s.checkFeed_byte_crc ..⟩
    · exact ⟨_, congrArg Host.Outcome.next (State.barCheck_eq hr hc ha hn hs (by decide)), s.checkFeed_bytes ..⟩
    · exact ⟨_, congrArg Host.Outcome.next (State.barCheck_eq hr hc ha hn hs (by decide)), s.checkFeed_bytes ..⟩
  · change Host.Outcome.next (State.configuration ..) = _
    simp [State.configuration, hp]
    rfl
  · exact ⟨_, exec_configurationRequest hp hf v, State.configWrite_master hb fn⟩
  · exact ⟨_, exec_configurationRequest hp hf v, State.configWrite_hold hb fn⟩
  · rw [State.hostCompletion_ends hr hd, List.mem_filter] at hx
    simpa using hx.2
  · simp [State.hostCompletion, hr, hd, hq]

end Sys2Proof.Machine

/-! # Starts of tile groups (R64)

What says which tiles a group has and whether it may start stands in the dictionary, the tiles and the cuvees' serving
records; the daybook, refunds and the almanac's own lists leave all of it alone. -/

namespace Sys2Proof.Machine

/-- What of a cuvee and of the dictionary the start of a tile group depends on. -/
def State.grouping (s : State) :=
  (s.dict, fun c => ((s.cuvee c).serving, (s.cuvee c).quiesce, (s.cuvee c).state))

/-! ## What a group's questions depend on -/

section
variable {s u : State} (h : u.grouping = s.grouping)
include h

theorem State.dict_of_grouping : u.dict = s.dict := (Prod.mk.inj h).1

theorem State.serving_of_grouping (c : Nat) : (u.cuvee c).serving = (s.cuvee c).serving :=
  (Prod.mk.inj (congrFun (Prod.mk.inj h).2 c)).1

theorem State.quiesce_of_grouping (c : Nat) : (u.cuvee c).quiesce = (s.cuvee c).quiesce :=
  (Prod.mk.inj (Prod.mk.inj (congrFun (Prod.mk.inj h).2 c)).2).1

theorem State.val_congr (i sub : Nat) : u.val i sub = s.val i sub := by
  simp only [State.val, State.dict_of_grouping h]

theorem State.groupEntry_congr (c g : Nat) : u.groupEntry c g = s.groupEntry c g := by
  simp only [State.groupEntry, State.serving_of_grouping h]

theorem State.groupTiles_congr (c g : Nat) : u.groupTiles c g = s.groupTiles c g := by
  simp only [State.groupTiles, State.cvTiles, State.val_congr h, State.groupEntry_congr h]

theorem State.groupModel_congr (c g : Nat) : u.groupModel c g = s.groupModel c g := by
  simp only [State.groupModel, State.serving_of_grouping h]

variable (ht : u.tiles = s.tiles)
include ht

theorem State.groupOccupied_congr (c g : Nat) : u.groupOccupied c g = s.groupOccupied c g := by
  simp only [State.groupOccupied, State.groupBusy, State.groupsMeet, State.quiescing, State.tile,
    State.groupTiles_congr h, State.serving_of_grouping h, State.quiesce_of_grouping h, ht]

theorem State.preemptsNow_congr (c g : Nat) : u.preemptsNow c g = s.preemptsNow c g := by
  have hl : u.stepsOn c g = s.stepsOn c g := by
    simp only [State.stepsOn, State.tile, State.groupTiles_congr h, ht]
  have hp : ∀ l, u.groupPriority c l = s.groupPriority c l := fun l => by
    simp only [State.groupPriority, State.groupEntry_congr h]
  simp only [State.preemptsNow, State.preemptOn, State.num, State.groupsMeet, State.val_congr h, State.groupTiles_congr h,
    State.groupModel_congr h, State.serving_of_grouping h, hl, hp]

end

/-! ## What the daybook, a refund and the watches leave alone -/

theorem State.updCuvee_grouping (s : State) (c : Nat) {f : Cuvee → Cuvee}
    (hf : ∀ v, (f v).serving = v.serving ∧ (f v).quiesce = v.quiesce ∧ (f v).state = v.state) :
    (s.updCuvee c f).grouping = s.grouping := by
  have hc : ∀ d, (((s.updCuvee c f).cuvee d).serving, ((s.updCuvee c f).cuvee d).quiesce, ((s.updCuvee c f).cuvee d).state) =
      ((s.cuvee d).serving, (s.cuvee d).quiesce, (s.cuvee d).state) := by
    intro d
    by_cases h : d = c
    · obtain ⟨h1, h2, h3⟩ := hf (s.cuvee c)
      rw [h, State.cuvee_updCuvee, h1, h2, h3]
    · rw [State.cuvee_updCuvee_ne s f h]
  simp only [State.grouping, State.updCuvee_dict, hc]

@[simp] theorem State.tally_grouping (s : State) (c k n : Nat) : (s.tally c k n).grouping = s.grouping := by
  unfold State.tally
  split
  · rfl
  · exact State.updCuvee_grouping s c fun _ => ⟨rfl, rfl, rfl⟩

/-- What a record offered to the daybook leaves alone: all but the books and the counts of what was written and lost. -/
def State.unbooked (s : State) := (s.grouping, s.alm, s.tiles)

@[simp] theorem State.tally_unbooked (s : State) (c k n : Nat) : (s.tally c k n).unbooked = s.unbooked := by
  simp [State.unbooked]

@[simp] theorem State.setBook_unbooked (s : State) (c : Nat) (b : Daybook) : (s.setBook c b).unbooked = s.unbooked := by
  simp [State.unbooked, State.setBook, State.grouping, State.cuvee]

@[simp] theorem State.bookTrigger_unbooked (s : State) (c src tag : Nat) :
    (s.bookTrigger c src tag).unbooked = s.unbooked := by
  unfold State.bookTrigger
  simp only []
  (repeat' split) <;> simp

theorem State.daybook_unbooked (s : State) (c kind engine unit code tag a0 a1 a2 : Nat) :
    (s.daybook c kind engine unit code tag a0 a1 a2).unbooked = s.unbooked := by
  unfold State.daybook State.bookOffer
  simp only []
  (repeat' split) <;> simp

@[simp] theorem State.daybook_grouping (s : State) (c kind engine unit code tag a0 a1 a2 : Nat) :
    (s.daybook c kind engine unit code tag a0 a1 a2).grouping = s.grouping := (Prod.mk.inj (s.daybook_unbooked ..)).1
@[simp] theorem State.daybook_alm (s : State) (c kind engine unit code tag a0 a1 a2 : Nat) :
    (s.daybook c kind engine unit code tag a0 a1 a2).alm = s.alm := (Prod.mk.inj (Prod.mk.inj (s.daybook_unbooked ..)).2).1
@[simp] theorem State.daybook_tiles (s : State) (c kind engine unit code tag a0 a1 a2 : Nat) :
    (s.daybook c kind engine unit code tag a0 a1 a2).tiles = s.tiles := (Prod.mk.inj (Prod.mk.inj (s.daybook_unbooked ..)).2).2
@[simp] theorem State.daybook_tile (s : State) (c kind engine unit code tag a0 a1 a2 t : Nat) :
    (s.daybook c kind engine unit code tag a0 a1 a2).tile t = s.tile t := by
  simp [State.tile]

@[simp] theorem State.skipRow_alm (s : State) (x : RowInst) : (s.skipRow x).alm = s.alm := by
  unfold State.skipRow State.rowEnd State.refund
  split <;> simp [State.updLedger]

@[simp] theorem State.skipRow_tiles (s : State) (x : RowInst) : (s.skipRow x).tiles = s.tiles := by
  unfold State.skipRow State.rowEnd State.refund
  split <;> simp [State.updLedger]

@[simp] theorem State.watchRow_grouping (s : State) (x : RowInst) (b : Bool) : (s.watchRow x b).grouping = s.grouping := rfl
@[simp] theorem State.watchRow_tiles (s : State) (x : RowInst) (b : Bool) : (s.watchRow x b).tiles = s.tiles := rfl
@[simp] theorem State.watchRow_issue (s : State) (x : RowInst) (b : Bool) : (s.watchRow x b).alm.issue = s.alm.issue := rfl
@[simp] theorem State.watchRow_heldStarts (s : State) (x : RowInst) (b : Bool) :
    (s.watchRow x b).alm.heldStarts = s.alm.heldStarts := rfl

/-- Work that ends leaves its watch, and nothing of the tiles or of the issue queue. -/
theorem State.groupsDone_frame (s : State) (c : Nat) :
    (s.groupsDone c).tiles = s.tiles ∧ (s.groupsDone c).alm.issue = s.alm.issue := by
  have hw : ∀ (u : State) (w : Watch), (u.workDone w).tiles = u.tiles ∧ (u.workDone w).alm.issue = u.alm.issue := by
    intro u w
    exact ⟨State.daybook_tiles .., by simp [State.workDone]⟩
  constructor
  · exact State.each_frame State.tiles _ _ _ fun u w => by split; exacts [rfl, (hw u w).1]
  · exact State.each_frame (fun u : State => u.alm.issue) _ _ _ fun u w => by split; exacts [rfl, (hw u w).2]

/-- The row at the head of the issue queue is taken from it and noted. -/
theorem State.issueRow_eq {s : State} {x : RowInst} {l : List RowInst} {n : Nat} (hl : s.alm.issue = x :: l)
    (hn : rowAction x.row = n) : ∃ u, s.issueRow n = some (x, u) ∧ u.alm = { s.alm with issue := l } ∧
      u.grouping = s.grouping ∧ u.tiles = s.tiles := by
  unfold State.issueRow
  simp only [hl, hn, ne_eq, not_true_eq_false, if_false]
  exact ⟨_, rfl, by simp, by simp; rfl, by simp⟩

/-! ## The start of a group -/

/-- The tile runs from the entry, under the tag of its row. -/
structure Tile.Started (x : Tile) (entry tag : Nat) : Prop where
  running : x.act = .running
  entered : x.entry = entry
  between : x.inEntry = false
  tagged : x.runTag = tag

theorem State.seedStreams_tile (s : State) (t : Nat) (b : Bool) :
    ∃ cells, (s.seedStreams t b).tile t = { s.tile t with cells := cells } := by
  unfold State.seedStreams
  exact ⟨_, State.tile_setTile ..⟩

@[simp] theorem State.seedStreams_grouping (s : State) (t : Nat) (b : Bool) : (s.seedStreams t b).grouping = s.grouping := rfl
@[simp] theorem State.seedStreams_alm (s : State) (t : Nat) (b : Bool) : (s.seedStreams t b).alm = s.alm := rfl
@[simp] theorem State.updTile_grouping (s : State) (t : Nat) (f : Tile → Tile) : (s.updTile t f).grouping = s.grouping := rfl

theorem State.startTile_other (s : State) {t q : Nat} (entry tag g : Nat) (h : q ≠ t) :
    (s.startTile t entry tag g).tile q = s.tile q := by
  unfold State.startTile
  simp only []
  split
  · rfl
  · simp [State.seedStreams, State.tile_setTile_ne _ _ h, State.tile_updTile_ne _ _ h]

theorem State.startTile_started {s : State} {t : Nat} (entry tag g : Nat) (h : (s.tile t).act ≠ .faulted) :
    ((s.startTile t entry tag g).tile t).Started entry tag := by
  unfold State.startTile
  simp only [if_neg h, State.daybook_tile]
  obtain ⟨cells, hc⟩ := State.seedStreams_tile (s.updTile t _) t false
  rw [hc, State.tile_updTile]
  exact ⟨rfl, rfl, rfl, rfl⟩

theorem State.startTile_frame (s : State) (t entry tag g : Nat) :
    (s.startTile t entry tag g).grouping = s.grouping ∧ (s.startTile t entry tag g).alm = s.alm := by
  unfold State.startTile
  simp only []
  split
  · exact ⟨rfl, rfl⟩
  · simp

theorem State.startGroup_frame (s : State) (c g entry tag : Nat) :
    (s.startGroup c g entry tag).grouping = s.grouping ∧ (s.startGroup c g entry tag).alm = s.alm :=
  ⟨State.each_frame State.grouping _ _ _ fun u _ => (u.startTile_frame ..).1,
    State.each_frame State.alm _ _ _ fun u _ => (u.startTile_frame ..).2⟩

/-- Every tile of the list that is not FAULTED starts, and one that has started stays so, even where the list names it
twice. -/
theorem State.each_startTile_started (entry tag g : Nat) (l : List Nat) (s : State) (q : Nat)
    (h : (s.tile q).Started entry tag ∨ q ∈ l ∧ (s.tile q).act ≠ .faulted) :
    ((s.each l fun s t => s.startTile t entry tag g).tile q).Started entry tag := by
  induction l generalizing s with
  | nil => exact h.resolve_right fun hq => List.not_mem_nil hq.1
  | cons t l ih =>
    refine ih (s.startTile t entry tag g) ?_
    by_cases hq : q = t
    · subst hq
      refine .inl (State.startTile_started entry tag g ?_)
      obtain hs | ⟨-, hf⟩ := h
      · rw [hs.running]; exact nofun
      · exact hf
    · rw [State.startTile_other s entry tag g hq]
      exact h.imp_right fun ⟨hm, hf⟩ => ⟨(List.mem_cons.mp hm).resolve_left hq, hf⟩

/-- A group of no model starts at once: no switch, and no step of a model begins. -/
theorem State.issueStart_eq {s : State} {c g : Nat} (h : s.groupModel c g = none) (entry tag id row : Nat) :
    s.issueStart c g entry tag id row = s.startGroup c g entry tag := by
  have hn : s.needsSwitch c g = false := by simp [State.needsSwitch, h]
  have hm : (s.startGroup c g entry tag).groupModel c g = none := by
    rw [State.groupModel_congr (s.startGroup_frame ..).1, h]
  simp [State.issueStart, hn, State.stepBegins, hm]

/-- One change of each tile of a list, where making it twice is making it once. -/
theorem State.tile_each_updTile {f : Tile → Tile} (hf : ∀ x, f (f x) = f x) (l : List Nat) (s : State) (q : Nat) :
    (s.each l fun s t => s.updTile t f).tile q = if q ∈ l then f (s.tile q) else s.tile q := by
  induction l generalizing s with
  | nil => simp [State.each]
  | cons t l ih =>
    rw [show s.each (t :: l) (fun s t => s.updTile t f) = (s.updTile t f).each l fun s t => s.updTile t f from rfl, ih]
    by_cases hq : q = t
    · subst hq; simp [hf]
    · simp [State.tile_updTile_ne s f hq, hq]

@[simp] theorem State.each_updTile_alm (f : Tile → Tile) (l : List Nat) (s : State) :
    (s.each l fun s t => s.updTile t f).alm = s.alm := State.each_frame State.alm _ _ _ fun _ _ => rfl

@[simp] theorem State.each_updTile_grouping (f : Tile → Tile) (l : List Nat) (s : State) :
    (s.each l fun s t => s.updTile t f).grouping = s.grouping := State.each_frame State.grouping _ _ _ fun _ _ => rfl

end Sys2Proof.Machine

/-! # START_STEP and HELD_START_ISSUE (R64)

The three outcomes of a start, on the lemmas of the part before. -/

namespace Sys2Proof.Machine

/-- A start of a group of no model, whose tiles are idle, starts each of its tiles. -/
theorem State.issueStart_started {s : State} {c g : Nat} (hm : s.groupModel c g = none) {q : Nat}
    (hq : q ∈ s.groupTiles c g) (hi : (s.tile q).act = .idle) (entry tag id row : Nat) :
    ((s.issueStart c g entry tag id row).tile q).Started entry tag := by
  rw [State.issueStart_eq hm]
  exact State.each_startTile_started entry tag g _ s q (.inr ⟨hq, by rw [hi]; exact nofun⟩)

theorem State.tile_of_tiles {s u : State} (h : u.tiles = s.tiles) (t : Nat) : u.tile t = s.tile t :=
  congrArg (fun l : Sparse Tile => l.getD t Tile.init) h

section
variable {s : State} {x : RowInst} {l : List RowInst} (hl : s.alm.issue = x :: l) (ha : rowAction x.row = 1)
include hl ha

/-- A group that is not busy starts. -/
theorem State.startStep_starts (ho : s.groupOccupied x.seg (rowGroup x.row) = false)
    (hm : s.groupModel x.seg (rowGroup x.row) = none) : s.startStep.alm.issue = l ∧
      ∀ q ∈ s.groupTiles x.seg (rowGroup x.row), (s.tile q).act = .idle →
        (s.startStep.tile q).Started (bits (rowOperand x.row) 9 0) (rowTag x.row) := by
  obtain ⟨u, hu, halm, hg, ht⟩ := State.issueRow_eq hl ha
  unfold State.startStep
  simp only [hu, State.groupOccupied_congr hg ht, ho, Bool.not_false, if_true]
  generalize hv : (u.watchRow x true).issueStart x.seg (rowGroup x.row) (bits (rowOperand x.row) 9 0) (rowTag x.row)
    u.alm.nextWatch x.row = v
  have hwg : (u.watchRow x true).grouping = s.grouping := hg
  have hwm : (u.watchRow x true).groupModel x.seg (rowGroup x.row) = none := (State.groupModel_congr hwg ..).trans hm
  have hvl : v.alm.issue = l := by
    rw [← hv, State.issueStart_eq hwm, (State.startGroup_frame ..).2, State.watchRow_issue, halm]
  have hvs : ∀ q ∈ s.groupTiles x.seg (rowGroup x.row), (s.tile q).act = .idle →
      (v.tile q).Started (bits (rowOperand x.row) 9 0) (rowTag x.row) := by
    intro q hq hi
    rw [← hv]
    refine State.issueStart_started hwm (by rwa [State.groupTiles_congr hwg]) ?_ ..
    rw [State.tile_of_tiles (u := u.watchRow x true) (s := s) ht, hi]
  obtain ⟨hdt, hdi⟩ := v.groupsDone_frame x.seg
  split
  · exact ⟨hvl, hvs⟩
  · refine ⟨hdi.trans hvl, fun q hq hi => ?_⟩
    rw [State.tile_of_tiles hdt]
    exact hvs q hq hi

variable (ho : s.groupOccupied x.seg (rowGroup x.row) = true) (hp : s.preemptsNow x.seg (rowGroup x.row) = false)
include ho hp

/-- A start of a busy group with SKIP_BUSY is an overrun. -/
theorem State.startStep_skips (hs : rowSkipBusy x.row = true) : s.startStep.alm.issue = l ∧ s.startStep.tiles = s.tiles ∧
    (s.startStep.seg x.seg).overruns = ((s.seg x.seg).overruns + 1) % 2 ^ 32 := by
  obtain ⟨u, hu, halm, hg, ht⟩ := State.issueRow_eq hl ha
  unfold State.startStep
  simp only [hu, State.groupOccupied_congr hg ht, ho, State.preemptsNow_congr hg ht, hp, hs, Bool.not_true, Bool.true_or,
    Bool.false_eq_true, if_false, if_true]
  simp [State.countOverrun, State.updSeg, State.seg, halm, ht]

/-- Without SKIP_BUSY, the start is held by every tile of the group and by the group. -/
theorem State.startStep_holds (hs : rowSkipBusy x.row = false)
    (hn : s.alm.heldStarts.find (256 * x.seg + rowGroup x.row) = none) : s.startStep.alm.issue = l ∧
      s.startStep.alm.heldStarts.find (256 * x.seg + rowGroup x.row) =
        some (bits (rowOperand x.row) 9 0, rowTag x.row, s.alm.nextWatch) ∧
      ∀ q, s.startStep.tile q = if q ∈ s.groupTiles x.seg (rowGroup x.row)
        then { s.tile q with heldStart := some (bits (rowOperand x.row) 9 0) } else s.tile q := by
  obtain ⟨u, hu, halm, hg, ht⟩ := State.issueRow_eq hl ha
  have hwg : (u.watchRow x true).grouping = s.grouping := hg
  unfold State.startStep
  simp only [hu, State.groupOccupied_congr hg ht, ho, State.preemptsNow_congr hg ht, hp, hs, halm, hn, Bool.not_true,
    Bool.false_eq_true, if_false, Option.isSome_none, Bool.or_self]
  refine ⟨?_, ?_, fun q => ?_⟩
  · simp [halm]
  · simp
  · have hq := State.tile_each_updTile (f := fun y => { y with heldStart := some (bits (rowOperand x.row) 9 0) })
      (fun _ => rfl) (s.groupTiles x.seg (rowGroup x.row)) (u.watchRow x true) q
    rw [State.tile_of_tiles (u := u.watchRow x true) (s := s) ht] at hq
    rw [State.groupTiles_congr hwg]
    exact hq

end

/-- A held start goes to every tile of its group once the group is free. -/
theorem State.heldStartIssue_starts {s : State} {c g entry tag id : Nat}
    (hf : s.alm.heldStarts.find (256 * c + g) = some (entry, tag, id)) (ho : s.groupOccupied c g = false)
    (hv : (s.cuvee c).live = true) (hq : (s.cuvee c).quiesce = none) (hm : s.groupModel c g = none) :
    (s.heldStartIssue c g).alm.heldStarts.find (256 * c + g) = none ∧
      ∀ t ∈ s.groupTiles c g, (s.tile t).act = .idle → ((s.heldStartIssue c g).tile t).Started entry tag := by
  unfold State.heldStartIssue
  simp only [hf, ho, hv, hq, Bool.not_true, Option.isSome_none, Bool.or_self, Bool.false_eq_true, if_false]
  generalize hw : State.each _ _ _ = w
  have hwg : w.grouping = s.grouping := by rw [← hw, State.each_updTile_grouping]; rfl
  have hwm : w.groupModel c g = none := (State.groupModel_congr hwg ..).trans hm
  constructor
  · rw [State.issueStart_eq hwm, (State.startGroup_frame ..).2, ← hw, State.each_updTile_alm]
    exact Sparse.find_erase_self ..
  · intro t ht hi
    refine State.issueStart_started hwm (by rwa [State.groupTiles_congr hwg]) ?_ ..
    rw [← hw, State.tile_each_updTile]
    · split <;> exact hi
    · exact fun _ => rfl

/-- Settles O20. -/
theorem startStep : Obligations.StartStep := by
  unfold Obligations.StartStep
  refine ⟨fun s x l hl ha => ⟨fun ho hm hi => ?_, fun ho hp => ⟨fun hs => ?_, fun hs hn => ?_⟩⟩,
    fun s c g entry tag id hf ho hv hq hm hi => ?_⟩
  · obtain ⟨hl', hst⟩ := State.startStep_starts hl ha ho hm
    refine ⟨_, rfl, hl', fun t ht => ?_⟩
    obtain ⟨hr, he, hb, htag⟩ := hst t ht (hi t ht)
    exact ⟨hr, he, hb, htag⟩
  · exact ⟨_, rfl, State.startStep_skips hl ha ho hp hs⟩
  · obtain ⟨hl', hh, ht⟩ := State.startStep_holds hl ha ho hp hs hn
    refine ⟨_, rfl, hl', hh, fun t hm => ?_, fun t hm => ?_⟩
    · rw [ht t, if_pos hm]
      exact ⟨rfl, rfl, rfl⟩
    · rw [ht t, if_neg hm]
  · obtain ⟨hn, hst⟩ := State.heldStartIssue_starts hf ho hv hq hm
    refine ⟨_, rfl, hn, fun t ht => ?_⟩
    obtain ⟨hr, he, -, htag⟩ := hst t ht (hi t ht)
    exact ⟨hr, he, htag⟩

end Sys2Proof.Machine

/-! # A row's end is booked with the row's own segment -/

namespace Sys2Proof.Machine

/-- A plane load of cuvee 1 is under way on tile 0, and the row watched for it stands in segment 2, whose partition of the
daybook is STOPPED and so loses what it is offered (R416). -/
def rowOfAnother : State :=
  { ((((State.reset.setVal 0x9001 3 ⟨4, 1⟩).setBook 2 { (default : Daybook) with state := 3 }).updCuvee 2 fun v =>
      { v with counters := List.replicate 22 0 }).updTile 0 fun x => { x with cuvee := 1, load := some 0 }) with
    alm := { State.reset.alm with watches := [{ (default : Watch) with
      id := 7, cuvee := 1, row := { (default : RowInst) with seg := 2, row := 2 <<< 123 } }] } }

/-- Refutes O58: the end of a plane load ends the LOAD_PLANE rows watched for its cuvee (R412), and their END record is offered to
the partition of the row's segment. The statement ranges over every state, also one where that segment is another cuvee's: its
count of lost records rises. -/
theorem not_tileEventsStayInTheTile : ¬ Obligations.TileEventsStayInTheTile := by
  unfold Obligations.TileEventsStayInTheTile
  intro h
  obtain ⟨-, -, -, hcuvee, -⟩ := h rowOfAnother _ 0 (.planeLoadDone 0) (by simp) rfl
  have hsame := congrArg Cuvee.counters (hcuvee 2 (by decide +kernel))
  exact absurd (congrArg (·.getD 21 0) hsame) (by decide +kernel)

end Sys2Proof.Machine

/-! # The bytes of both memories (R86, R183): what leaves them as they are -/

namespace Sys2Proof.Machine

/-- The bytes of both memories: parcel memory and the tile stores (R86, R183). -/
def State.memory (s : State) : List Host.Cell × List Host.Cell := (s.mem.hbm, s.mem.store)
@[simp] theorem State.memory_mk (a b c d e f g h i j k l m n o p q r t u v w) :
    (State.mk a b c d e f g h i j k l m n o p q r t u v w).memory = (k.hbm, k.store) := by simp [State.memory]
@[simp] theorem State.memory_eta (s : State) : (s.mem.hbm, s.mem.store) = s.memory := rfl
@[simp] theorem State.memory_ite (p : Prop) [Decidable p] (s t : State) :
    (if p then s else t).memory = if p then s.memory else t.memory := apply_ite ..

@[simp] theorem State.each_memory {α : Type} (s : State) (l : List α) (f : State → α → State)
    (hf : ∀ s x, (f s x).memory = s.memory) : (s.each l f).memory = s.memory := State.each_frame State.memory f l s hf
/-! ### Machine/Ops -/

@[simp] theorem State.setVal_memory (s : State) (i sub : Nat) (b : Blob) : (s.setVal i sub b).memory = s.memory := by
  simp [State.setVal]
@[simp] theorem State.unsetVal_memory (s : State) (i sub : Nat) : (s.unsetVal i sub).memory = s.memory := by simp [State.unsetVal]
@[simp] theorem State.setCuvee_memory (s : State) (c : Nat) (x : Cuvee) : (s.setCuvee c x).memory = s.memory := by
  simp [State.setCuvee]
@[simp] theorem State.updCuvee_memory (s : State) (c : Nat) (f : Cuvee → Cuvee) : (s.updCuvee c f).memory = s.memory := by
  simp [State.updCuvee]
@[simp] theorem State.setTile_memory (s : State) (t : Nat) (x : Tile) : (s.setTile t x).memory = s.memory := by
  simp [State.setTile]
@[simp] theorem State.updTile_memory (s : State) (t : Nat) (f : Tile → Tile) : (s.updTile t f).memory = s.memory := by
  simp [State.updTile]
@[simp] theorem State.updPc_memory (s : State) (k : Nat) (f : Pc → Pc) : (s.updPc k f).memory = s.memory := by simp [State.updPc]
@[simp] theorem State.updParcel_memory (s : State) (p : Nat) (f : ParcelSt → ParcelSt) : (s.updParcel p f).memory = s.memory := by
  simp [State.updParcel]
@[simp] theorem State.updPort_memory (s : State) (k : Nat) (f : LinkPort → LinkPort) : (s.updPort k f).memory = s.memory := by
  simp [State.updPort]
@[simp] theorem State.updHost_memory (s : State) (p : HostPort) (f : HostSt → HostSt) : (s.updHost p f).memory = s.memory := by
  unfold State.updHost; split <;> simp
@[simp] theorem State.fresh_memory (s : State) : s.fresh.2.memory = s.memory := by simp [State.fresh]
@[simp] theorem State.markWritten_memory (s : State) (k : Nat) (rs : List Nat) : (s.markWritten k rs).memory = s.memory := by
  simp [State.markWritten]
@[simp] theorem State.count_memory (s : State) (key n : Nat) : (s.count key n).memory = s.memory := by simp [State.count]
@[simp] theorem State.tally_memory (s : State) (c k n : Nat) : (s.tally c k n).memory = s.memory := by simp [State.tally]
@[simp] theorem State.hostWrite_memory (s : State) (p : HostPort) (fn addr : Nat) (bs : List Byte) (noSnoop : Bool)
    (tee : Option Nat) : (s.hostWrite p fn addr bs noSnoop tee).memory = s.memory := by
  simp [State.hostWrite]
@[simp] theorem State.landData_memory (s : State) (k : Nat) (owed : Bool) (f : Flit) :
    (s.landData k owed f).memory = s.memory := by
  simp [State.landData]
@[simp] theorem State.emit_memory (s : State) (o : Out) : (s.emit o).memory = s.memory := by simp [State.emit]
@[simp] theorem State.netError_memory (s : State) (i : Nat) : (s.netError i).memory = s.memory := by simp [State.netError]
@[simp] theorem State.copyPacket_memory (s : State) (p : Packet) : (s.copyPacket p).memory = s.memory := by
  simp [State.copyPacket]
@[simp] theorem State.inject_memory (s : State) (p : Packet) : (s.inject p).memory = s.memory := by simp [State.inject]
@[simp] theorem State.answer_memory (s : State) (p : Packet) (ty status : Nat) (data : List Byte) :
    (s.answer p ty status data).memory = s.memory := by
  simp [State.answer]
@[simp] theorem State.arrive_memory (s : State) (p : Packet) : (s.arrive p).memory = s.memory := by simp [State.arrive]
@[simp] theorem State.tendrilSend_memory (s : State) (node kind payload : Nat) :
    (s.tendrilSend node kind payload).memory = s.memory := by
  simp [State.tendrilSend]
@[simp] theorem State.signal_memory (s : State) (kind payload : Nat) : (s.signal kind payload).memory = s.memory := by
  simp [State.signal]
@[simp] theorem State.linkSend_memory (s : State) (k : Nat) (m : LinkMsg) : (s.linkSend k m).memory = s.memory := by
  simp [State.linkSend]

/-! ### Machine/Records -/

@[simp] theorem State.setBook_memory (s : State) (c : Nat) (b : Daybook) : (s.setBook c b).memory = s.memory := by
  simp [State.setBook]
@[simp] theorem State.bookTrigger_memory (s : State) (c src : Nat) (tag : Nat) : (s.bookTrigger c src tag).memory = s.memory := by
  simp [State.bookTrigger]
@[simp] theorem State.bookOffer_memory (s : State) (c : Nat) (recs : List Nat) : (s.bookOffer c recs).memory = s.memory := by
  simp [State.bookOffer]
@[simp] theorem State.daybook_memory (s : State) (c kind engine unit code tag arg0 arg1 arg2 : Nat) :
    (s.daybook c kind engine unit code tag arg0 arg1 arg2).memory = s.memory := by
  simp [State.daybook]
@[simp] theorem State.jobBegin_memory (s : State) (c engine code tag arg0 arg2 : Nat) :
    (s.jobBegin c engine code tag arg0 arg2).memory = s.memory := by
  simp [State.jobBegin]
@[simp] theorem State.jobEnd_memory (s : State) (c engine code tag arg0 status arg2 : Nat) :
    (s.jobEnd c engine code tag arg0 status arg2).memory = s.memory := by
  simp [State.jobEnd]
@[simp] theorem State.vintnerTask_memory (s : State) (c code slot items step : Nat) :
    (s.vintnerTask c code slot items step).memory = s.memory := by
  simp [State.vintnerTask]
@[simp] theorem State.cryptoJobs_memory (s : State) (c code : Nat) (chunks : List (Nat × Nat)) :
    (s.cryptoJobs c code chunks).memory = s.memory := by
  simp [State.cryptoJobs]
@[simp] theorem State.daybookPair_memory (s : State) (c code payload : Nat) :
    (s.daybookPair c code payload).memory = s.memory := by
  simp [State.daybookPair]
@[simp] theorem State.logEstate_memory (s : State) (b : Blob) : (s.logEstate b).memory = s.memory := by simp [State.logEstate]
@[simp] theorem State.logCuvee_memory (s : State) (c kind cls flags unit arg0 arg1 detail : Nat) (tileUnit : Bool) :
    (s.logCuvee c kind cls flags unit arg0 arg1 detail tileUnit).memory = s.memory := by
  simp [State.logCuvee]
@[simp] theorem State.logCorrected_memory (s : State) (key unit source n : Nat) :
    (s.logCorrected key unit source n).memory = s.memory := by
  simp [State.logCorrected]
@[simp] theorem State.sendSquash_memory (s : State) (c reason : Nat) : (s.sendSquash c reason).memory = s.memory := by
  simp [State.sendSquash]
@[simp] theorem State.raiseFlare_memory (s : State) (g : Nat) : (s.raiseFlare g).memory = s.memory := by simp [State.raiseFlare]
@[simp] theorem State.containedFault_memory (s : State) (c kind cls unit arg0 arg1 detail : Nat) (tileUnit : Bool) :
    (s.containedFault c kind cls unit arg0 arg1 detail tileUnit).memory = s.memory := by
  simp [State.containedFault]
@[simp] theorem State.plainFault_memory (s : State) (c kind cls unit arg0 arg1 detail : Nat) :
    (s.plainFault c kind cls unit arg0 arg1 detail).memory = s.memory := by
  simp [State.plainFault]
@[simp] theorem State.retireTile_memory (s : State) (t : Nat) : (s.retireTile t).memory = s.memory := by simp [State.retireTile]
@[simp] theorem State.retirePc_memory (s : State) (k : Nat) : (s.retirePc k).memory = s.memory := by simp [State.retirePc]
@[simp] theorem State.faultTile_memory (s : State) (t cause : Nat) (kind : Nat) (arg0 arg1 : Nat) :
    (s.faultTile t cause kind arg0 arg1).memory = s.memory := by
  simp [State.faultTile]
@[simp] theorem State.tdiError_memory (s : State) (c : Nat) : (s.tdiError c).memory = s.memory := by simp [State.tdiError]
@[simp] theorem State.meterEnd_memory (s : State) (c extra : Nat) (closing : Bool) :
    (s.meterEnd c extra closing).memory = s.memory := by
  simp [State.meterEnd]
@[simp] theorem State.meterOpen_memory (s : State) (c : Nat) (restored : Bool) : (s.meterOpen c restored).memory = s.memory := by
  simp [State.meterOpen]

/-! ### Machine/Almanac -/

@[simp] theorem State.updSeg_memory (s : State) (c : Nat) (f : Segment → Segment) : (s.updSeg c f).memory = s.memory := by
  simp [State.updSeg]
@[simp] theorem State.setRow_memory (s : State) (i r : Nat) : (s.setRow i r).memory = s.memory := by simp [State.setRow]
@[simp] theorem State.countSkip_memory (s : State) (c : Nat) : (s.countSkip c).memory = s.memory := by simp [State.countSkip]
@[simp] theorem State.countOverrun_memory (s : State) (c : Nat) : (s.countOverrun c).memory = s.memory := by
  simp [State.countOverrun]
@[simp] theorem State.countMalformed_memory (s : State) (c : Nat) : (s.countMalformed c).memory = s.memory := by
  simp [State.countMalformed]
@[simp] theorem State.updLedger_memory (s : State) (c : Nat) (f : LedgerC → LedgerC) : (s.updLedger c f).memory = s.memory := by
  simp [State.updLedger]
@[simp] theorem State.accrue_memory (s : State) (c : Nat) : (s.accrue c).memory = s.memory := by simp [State.accrue]
@[simp] theorem State.fillBuckets_memory (s : State) (c : Nat) : (s.fillBuckets c).memory = s.memory := by
  simp [State.fillBuckets]
@[simp] theorem State.queueRow_memory (s : State) (x : RowInst) : (s.queueRow x).memory = s.memory := by simp [State.queueRow]
@[simp] theorem State.admitRow_memory (s : State) (x : RowInst) : (s.admitRow x).memory = s.memory := by simp [State.admitRow]
@[simp] theorem State.refund_memory (s : State) (x : RowInst) : (s.refund x).memory = s.memory := by simp [State.refund]
@[simp] theorem State.popPresent_memory (s : State) : s.popPresent.memory = s.memory := by simp [State.popPresent]
@[simp] theorem State.presentOne_memory (s : State) (x : RowInst) : (s.presentOne x).memory = s.memory := by
  simp [State.presentOne]
@[simp] theorem State.presentAll_memory (n : Nat) (s : State) : (State.presentAll n s).memory = s.memory := by
  induction n generalizing s with
  | zero => rfl
  | succ n ih => unfold State.presentAll; (repeat' split) <;> simp [ih]
@[simp] theorem State.deferLimit_memory (s : State) (c idx : Nat) : (s.deferLimit c idx).memory = s.memory := by
  unfold State.deferLimit; split <;> simp
@[simp] theorem State.presentFinish_memory (n : Nat) (s : State) : (State.presentFinish n s).memory = s.memory := by
  induction n generalizing s with
  | zero => rfl
  | succ n ih => unfold State.presentFinish; split <;> simp [ih]

/-! ### Machine/Cadence -/

@[simp] theorem State.updCad_memory (s : State) (f : CadenceSt → CadenceSt) : (s.updCad f).memory = s.memory := by
  simp [State.updCad]
@[simp] theorem State.roundOpen_memory (s : State) (x : Rat) : (s.roundOpen x).2.memory = s.memory := by simp [State.roundOpen]
@[simp] theorem State.setPresent_memory (s : State) (b : Bool) : (s.setPresent b).memory = s.memory := by simp [State.setPresent]
@[simp] theorem State.enterLocked_memory (s : State) : s.enterLocked.memory = s.memory := by simp [State.enterLocked]
@[simp] theorem State.discardReference_memory (s : State) : s.discardReference.memory = s.memory := by
  simp [State.discardReference]
@[simp] theorem State.peerGone_memory (s : State) (k : Nat) : (s.peerGone k).memory = s.memory := by
  unfold State.peerGone; simp only []; (repeat' split) <;> simp
@[simp] theorem State.flywheelRise_memory (s : State) : s.flywheelRise.memory = s.memory := by simp [State.flywheelRise]
@[simp] theorem State.markUnlocked_memory (s : State) : s.markUnlocked.memory = s.memory := by simp [State.markUnlocked]
@[simp] theorem State.restartDivider_memory (s : State) : s.restartDivider.memory = s.memory := by simp [State.restartDivider]
@[simp] theorem State.sourceChange_memory (s : State) : s.sourceChange.memory = s.memory := by simp [State.sourceChange]

/-! ### Machine/TileBase -/

@[simp] theorem State.seedStreams_memory (s : State) (t : Nat) (resumed : Bool) :
    (s.seedStreams t resumed).memory = s.memory := by
  simp [State.seedStreams]
@[simp] theorem State.loadInto_memory (s : State) (t : Nat) (p1 : Bool) (img : Nat) :
    (s.loadInto t p1 img).memory = s.memory := by
  simp [State.loadInto]
@[simp] theorem State.planeLoadDone_memory (s : State) (t : Nat) : (s.planeLoadDone t).memory = s.memory := by
  simp only [State.planeLoadDone]; (repeat' split) <;> simp
@[simp] theorem State.resumeTile_memory (s : State) (t : Nat) : (s.resumeTile t).memory = s.memory := by simp [State.resumeTile]
@[simp] theorem State.squashTile_memory (s : State) (t : Nat) (act : TileAct) : (s.squashTile t act).memory = s.memory := by
  simp [State.squashTile]
@[simp] theorem State.bindTile_memory (s : State) (t c n : Nat) : (s.bindTile t c n).memory = s.memory := by simp [State.bindTile]
@[simp] theorem State.eachTile_memory (s : State) (c : Nat) {f : State → Nat → State} (hf : ∀ s t, (f s t).memory = s.memory) :
    (s.eachTile c f).memory = s.memory :=
  State.each_memory _ _ _ hf

/-! ### Machine/Holiday -/

@[simp] theorem State.cmdStatus_memory (s : State) (c phase result cause : Nat) :
    (s.cmdStatus c phase result cause).memory = s.memory := by
  simp [State.cmdStatus]
@[simp] theorem State.cmdStatusIf_memory (s : State) (c code phase result cause : Nat) :
    (s.cmdStatusIf c code phase result cause).memory = s.memory := by
  simp [State.cmdStatusIf]
@[simp] theorem State.updQuiesce_memory (s : State) (c : Nat) (f : Quiesce → Quiesce) : (s.updQuiesce c f).memory = s.memory := by
  simp [State.updQuiesce]
@[simp] theorem State.callQuiesce_memory (s : State) (c scope target cause : Nat) (limit : Instant) :
    (s.callQuiesce c scope target cause limit).memory = s.memory := by
  simp only [State.callQuiesce]; (repeat' split) <;> simp
@[simp] theorem State.quiesceStart_memory (s : State) (sc : Scope) : (s.quiesceStart sc).memory = s.memory := by
  simp only [State.quiesceStart]; exact State.each_memory _ _ _ fun s x => by split <;> simp
@[simp] theorem State.stopIfFrozen_memory (s : State) : s.stopIfFrozen.memory = s.memory := by simp [State.stopIfFrozen]
@[simp] theorem State.freezeCuvee_memory (s : State) (c cause : Nat) (incomplete : Bool) :
    (s.freezeCuvee c cause incomplete).memory = s.memory := by
  simp [State.freezeCuvee]
@[simp] theorem State.holidayRecord_memory (s : State) (scope target : Nat) (incomplete : Bool) :
    (s.holidayRecord scope target incomplete).memory = s.memory := by
  simp [State.holidayRecord]
@[simp] theorem State.cutCuvee_memory (s : State) (c : Nat) (incomplete : Bool) :
    (s.cutCuvee c incomplete).memory = s.memory := by
  unfold State.cutCuvee; split <;> simp
@[simp] theorem State.cut_memory (s : State) (sc : Scope) : (s.cut sc).memory = s.memory := by simp [State.cut]
@[simp] theorem State.squashMid_memory (s : State) (c : Nat) : (s.squashMid c).memory = s.memory := by simp [State.squashMid]
@[simp] theorem State.abandonPlan_memory (s : State) (c cause : Nat) : (s.abandonPlan c cause).memory = s.memory := by
  simp [State.abandonPlan]
@[simp] theorem State.applyTick_memory (s : State) (sc : Scope) : (s.applyTick sc).memory = s.memory := by
  simp only [State.applyTick]; (repeat' split) <;> simp
@[simp] theorem State.holidayComplete_memory (s : State) (sc : Scope) : (s.holidayComplete sc).memory = s.memory := by
  simp [State.holidayComplete]

/-! ### Machine/Admission -/

@[simp] theorem State.reserveUnits_memory (s : State) (c : Nat) (isTile : Bool) (us : List Nat) :
    (s.reserveUnits c isTile us).memory = s.memory := by
  simp [State.reserveUnits]
@[simp] theorem State.giveBack_memory (s : State) (isTile : Bool) (us : List Nat) : (s.giveBack isTile us).memory = s.memory := by
  simp [State.giveBack]
@[simp] theorem State.setDomain_memory (s : State) (d st : Nat) : (s.setDomain d st).memory = s.memory := by
  simp [State.setDomain]
@[simp] theorem State.wakeClusters_memory (s : State) (ts : List Nat) : (s.wakeClusters ts).memory = s.memory := by
  simp [State.wakeClusters]

/-! ### Machine/Trees -/

@[simp] theorem State.updBarrier_memory (s : State) (b : Nat) (f : Barrier → Barrier) : (s.updBarrier b f).memory = s.memory := by
  unfold State.updBarrier; split <;> simp
@[simp] theorem State.dropArrivals_memory (s : State) (bs : List Nat) : (s.dropArrivals bs).memory = s.memory := by
  simp [State.dropArrivals]
@[simp] theorem State.dropFlags_memory (s : State) (c : Nat) : (s.dropFlags c).memory = s.memory := by simp [State.dropFlags]
@[simp] theorem State.relayRound_memory (s : State) (b gen : Nat) : (s.relayRound b gen).memory = s.memory := by
  unfold State.relayRound; split <;> simp
@[simp] theorem State.relayNet_memory (s : State) (c : Nat) : (s.relayNet c).memory = s.memory := by simp [State.relayNet]
@[simp] theorem State.refence_memory (s : State) (ts : List Nat) : (s.refence ts).memory = s.memory := by simp [State.refence]
@[simp] theorem State.fenceLater_memory (s : State) (ts : List Nat) : (s.fenceLater ts).memory = s.memory := by
  simp [State.fenceLater]
@[simp] theorem State.fenceBoundary_memory (s : State) : s.fenceBoundary.memory = s.memory := by simp [State.fenceBoundary]

/-! ### Machine/Compose -/

@[simp] theorem State.bindAct_memory (s : State) (c arg : Nat) : (s.bindAct c arg).memory = s.memory := by simp [State.bindAct]
@[simp] theorem State.unbind_memory (s : State) (c : Nat) : (s.unbind c).memory = s.memory := by simp [State.unbind]
@[simp] theorem State.trimStash_memory (s : State) (c : Nat) : (s.trimStash c).memory = s.memory := by simp [State.trimStash]
@[simp] theorem State.dropLines_memory (s : State) (ks : List Nat) : (s.dropLines ks).memory = s.memory := by
  simp [State.dropLines]
@[simp] theorem State.cleanWays_memory (s : State) (old new : Blob) : (s.cleanWays old new).memory = s.memory := by
  simp [State.cleanWays]
@[simp] theorem State.dropXlate_memory (s : State) (c : Nat) : (s.dropXlate c).memory = s.memory := by simp [State.dropXlate]
@[simp] theorem State.trimUnits_memory (s : State) (c : Nat) : (s.trimUnits c).memory = s.memory := by simp [State.trimUnits]
@[simp] theorem State.dropWalks_memory (s : State) (ts : List Nat) : (s.dropWalks ts).memory = s.memory := by
  simp [State.dropWalks]
@[simp] theorem State.clearBarriers_memory (s : State) (c : Nat) : (s.clearBarriers c).memory = s.memory := by
  simp [State.clearBarriers]
@[simp] theorem State.tenantDefaults_memory (s : State) (c : Nat) : (s.tenantDefaults c).memory = s.memory := by
  simp only [State.tenantDefaults]; exact State.each_memory _ _ _ fun s x => by split <;> simp
@[simp] theorem State.allDefaults_memory (s : State) (c : Nat) : (s.allDefaults c).memory = s.memory := by
  simp only [State.allDefaults]; exact State.each_memory _ _ _ fun s x => by split <;> simp
@[simp] theorem State.dropRows_memory (s : State) (c : Nat) : (s.dropRows c).memory = s.memory := by simp [State.dropRows]
@[simp] theorem State.dropNet_memory (s : State) (c : Nat) : (s.dropNet c).memory = s.memory := by simp [State.dropNet]
@[simp] theorem State.eraseSession_memory (s : State) (id : Nat) : (s.eraseSession id).memory = s.memory := by
  simp [State.eraseSession]
@[simp] theorem State.endImage_memory (s : State) (c cause : Nat) : (s.endImage c cause).memory = s.memory := by
  simp [State.endImage]
@[simp] theorem State.dropStaged_memory (s : State) (c result cause : Nat) : (s.dropStaged c result cause).memory = s.memory := by
  unfold State.dropStaged; split <;> simp
@[simp] theorem State.beginReset_memory (s : State) (c : Nat) (release : Bool) : (s.beginReset c release).memory = s.memory := by
  simp [State.beginReset]
@[simp] theorem State.squashLinks_memory (s : State) (c : Nat) : (s.squashLinks c).memory = s.memory := by
  simp [State.squashLinks]
@[simp] theorem State.resetSquash_memory (s : State) (c : Nat) : (s.resetSquash c).memory = s.memory := by
  unfold State.resetSquash; split <;> simp
@[simp] theorem State.forgetRead_memory (s : State) (c key : Nat) : (s.forgetRead c key).memory = s.memory := by
  simp [State.forgetRead]
@[simp] theorem State.hostReadAbandon_memory (s : State) (c tag : Nat) : (s.hostReadAbandon c tag).memory = s.memory := by
  unfold State.hostReadAbandon; split <;> simp
@[simp] theorem State.thaw_memory (s : State) (c : Nat) : (s.thaw c).memory = s.memory := by simp [State.thaw]
@[simp] theorem State.useSession_memory (s : State) (c : Nat) : (s.useSession c).memory = s.memory := by simp [State.useSession]
@[simp] theorem State.imageBegin_memory (s : State) (c role : Nat) : (s.imageBegin c role).memory = s.memory := by
  simp [State.imageBegin]

/-! ### Machine/Rebind -/

@[simp] theorem State.rebindStage_memory (s : State) (c : Nat) : (s.rebindStage c).memory = s.memory := by
  simp only [State.rebindStage]; (repeat' split) <;> simp
@[simp] theorem State.sendStates_memory (s : State) (c : Nat) : (s.sendStates c).memory = s.memory := by
  unfold State.sendStates; split <;> simp
@[simp] theorem State.rebindCutNow_memory (s : State) (c : Nat) : (s.rebindCutNow c).memory = s.memory := by
  simp [State.rebindCutNow]
@[simp] theorem State.rebindQuiesce_memory (s : State) (c : Nat) : (s.rebindQuiesce c).memory = s.memory := by
  simp [State.rebindQuiesce]
@[simp] theorem State.rebindBegin_memory (s : State) (c : Nat) : (s.rebindBegin c).memory = s.memory := by
  simp [State.rebindBegin]
@[simp] theorem State.rebindBoundary_memory (s : State) : s.rebindBoundary.memory = s.memory := by simp [State.rebindBoundary]
@[simp] theorem State.releaseUnits_memory (s : State) (ts ks : List Nat) : (s.releaseUnits ts ks).memory = s.memory := by
  simp [State.releaseUnits]
@[simp] theorem State.rebindResume_memory (s : State) (c : Nat) : (s.rebindResume c).memory = s.memory := by
  simp [State.rebindResume]
@[simp] theorem State.holidayDone_memory (s : State) (sc : Scope) : (s.holidayDone sc).memory = s.memory := by
  simp [State.holidayDone]
/-! ### Machine/Cuvee -/

@[simp] theorem State.stageCommand_memory (s : State) (a : Acc) (c code : Nat) (k : CmdRec) :
    (s.stageCommand a c code k).memory = s.memory := by
  simp [State.stageCommand]
@[simp] theorem State.refuseRebind_memory (s : State) (c : Nat) : (s.refuseRebind c).memory = s.memory := by
  simp [State.refuseRebind]
@[simp] theorem State.withdrawCommand_memory (s : State) (c : Nat) : (s.withdrawCommand c).memory = s.memory := by
  simp [State.withdrawCommand]
@[simp] theorem State.freezeCount_memory (s : State) : s.freezeCount.memory = s.memory := by simp [State.freezeCount]
/-! ### Machine/Memory -/

@[simp] theorem State.countCorrected_memory (s : State) (k n : Nat) : (s.countCorrected k n).memory = s.memory := by
  simp only [State.countCorrected]; (repeat' split) <;> simp
@[simp] theorem State.markPoison_memory (s : State) (k : Nat) (sectors : List Nat) :
    (s.markPoison k sectors).memory = s.memory := by
  simp [State.markPoison]
@[simp] theorem State.poison_memory (s : State) (k : Nat) (sectors : List Nat) : (s.poison k sectors).memory = s.memory := by
  simp only [State.poison]; (repeat' split) <;> simp
@[simp] theorem State.eccRead_memory (s : State) (k off n : Nat) (v : EccVerdict) :
    (s.eccRead k off n v).2.memory = s.memory := by
  unfold State.eccRead; split <;> simp
@[simp] theorem State.unpoison_memory (s : State) (k off n : Nat) : (s.unpoison k off n).memory = s.memory := by
  simp [State.unpoison]
@[simp] theorem State.repairWrite_memory (s : State) (k sector : Nat) : (s.repairWrite k sector).memory = s.memory := by
  simp [State.repairWrite]
@[simp] theorem State.patrolScrub_memory (s : State) (k sector : Nat) (v : EccVerdict) :
    (s.patrolScrub k sector v).memory = s.memory := by
  unfold State.patrolScrub; (repeat' split) <;> simp
@[simp] theorem State.touchLine_memory (s : State) (k line c mask policy sectors : Nat) (write : Bool) :
    (s.touchLine k line c mask policy sectors write).2.memory = s.memory := by
  simp only [State.touchLine]; (repeat' split) <;> simp
@[simp] theorem State.memTraffic_memory (s : State) (k off n c label policy : Nat) (write : Bool) :
    (s.memTraffic k off n c label policy write).memory = s.memory := by
  simp [State.memTraffic]
@[simp] theorem State.wayCleaningDone_memory (s : State) (p way : Nat) : (s.wayCleaningDone p way).memory = s.memory := by
  simp [State.wayCleaningDone]
@[simp] theorem State.latencySample_memory (s : State) (p l sample : Nat) : (s.latencySample p l sample).memory = s.memory := by
  simp [State.latencySample]
@[simp] theorem State.openSample_memory (s : State) (k l : Nat) : (s.openSample k l).memory = s.memory := by
  simp [State.openSample]
@[simp] theorem State.resetLabel_memory (s : State) (l : Nat) : (s.resetLabel l).memory = s.memory := by simp [State.resetLabel]
@[simp] theorem State.logShortfall_memory (s : State) (x : Shortfall) (r duration : Nat) (continues : Bool) :
    (s.logShortfall x r duration continues).memory = s.memory := by
  simp [State.logShortfall]
@[simp] theorem State.applyCut_memory (s : State) (r : Nat) : (s.applyCut r).memory = s.memory := by
  unfold State.applyCut; split <;> simp
@[simp] theorem State.regulate_memory (s : State) (r : Nat) : (s.regulate r).memory = s.memory := by
  simp only [State.regulate]; (repeat' split) <;> simp
@[simp] theorem State.regulateAll_memory (s : State) : s.regulateAll.memory = s.memory := by simp [State.regulateAll]
@[simp] theorem State.interimShortfalls_memory (s : State) : s.interimShortfalls.memory = s.memory := by
  simp [State.interimShortfalls]
@[simp] theorem State.refreshApply_memory (s : State) : s.refreshApply.memory = s.memory := by simp [State.refreshApply]
@[simp] theorem State.stackReading_memory (s : State) (p degC : Nat) : (s.stackReading p degC).memory = s.memory := by
  simp [State.stackReading]

/-! ### Machine/Power -/

@[simp] theorem State.updPower_memory (s : State) (f : PowerSt → PowerSt) : (s.updPower f).memory = s.memory := by
  simp [State.updPower]
@[simp] theorem State.episodeNote_memory (s : State) (r sensor peak holds : Nat) (lowest : Bool) :
    (s.episodeNote r sensor peak holds lowest).memory = s.memory := by
  simp [State.episodeNote]
@[simp] theorem State.logThrottle_memory (s : State) (c w : Nat) : (s.logThrottle c w).memory = s.memory := by
  simp [State.logThrottle]
@[simp] theorem State.throttleSlot_memory (s : State) (len : Rat) : (s.throttleSlot len).memory = s.memory := by
  simp only [State.throttleSlot]; exact State.each_memory _ _ _ fun s x => by split <;> simp
@[simp] theorem State.budgetSlot_memory (s : State) : s.budgetSlot.memory = s.memory := by
  simp only [State.budgetSlot]; exact State.each_memory _ _ _ fun s x => by split <;> simp
@[simp] theorem State.interimThrottles_memory (s : State) : s.interimThrottles.memory = s.memory := by
  unfold State.interimThrottles
  exact (State.each_memory _ _ _ fun s c => by split <;> simp).trans (by simp)
@[simp] theorem State.setLimit_memory (s : State) (i v : Nat) : (s.setLimit i v).memory = s.memory := by simp [State.setLimit]
@[simp] theorem State.lowerLimit_memory (s : State) (i n : Nat) : (s.lowerLimit i n).memory = s.memory := by
  simp [State.lowerLimit]
@[simp] theorem State.raiseLimit_memory (s : State) (i n : Nat) : (s.raiseLimit i n).memory = s.memory := by
  simp [State.raiseLimit]
@[simp] theorem State.powerCapLimiter_memory (s : State) (milliW avg1ms : Nat) :
    (s.powerCapLimiter milliW avg1ms).memory = s.memory := by
  simp [State.powerCapLimiter]
@[simp] theorem State.voltageLimiter_memory (s : State) (tenthsV : Nat) : (s.voltageLimiter tenthsV).memory = s.memory := by
  simp [State.voltageLimiter]
@[simp] theorem State.powerSample_memory (s : State) (milliW avg1ms tenthsV : Nat) :
    (s.powerSample milliW avg1ms tenthsV).memory = s.memory := by
  simp [State.powerSample]
@[simp] theorem State.clockStep_memory (s : State) : s.clockStep.memory = s.memory := by simp [State.clockStep]
@[simp] theorem State.phiStep_memory (s : State) (t : Nat) (waiting : Bool) (slope : Nat) :
    (s.phiStep t waiting slope).memory = s.memory := by
  simp [State.phiStep]
@[simp] theorem State.thermalLimiter_memory (s : State) (i st run ms : Nat) :
    (s.thermalLimiter i st run ms).memory = s.memory := by
  simp [State.thermalLimiter]
@[simp] theorem State.dieReading_memory (s : State) (ts : List Nat) : (s.dieReading ts).memory = s.memory := by
  simp [State.dieReading]
@[simp] theorem State.stackTemperatureRead_memory (s : State) (p degC : Nat) :
    (s.stackTemperatureRead p degC).memory = s.memory := by
  simp [State.stackTemperatureRead]
@[simp] theorem State.windowBegin_memory (s : State) : s.windowBegin.memory = s.memory := by simp [State.windowBegin]
@[simp] theorem State.windowBoundary_memory (s : State) : s.windowBoundary.memory = s.memory := by simp [State.windowBoundary]
@[simp] theorem State.observationWindowEnd_memory (s : State) : s.observationWindowEnd.memory = s.memory := by
  unfold State.observationWindowEnd; split <;> simp
@[simp] theorem State.correctionUpdate_memory (s : State) (c : Nat) : (s.correctionUpdate c).memory = s.memory := by
  simp [State.correctionUpdate]
@[simp] theorem State.reconcileCuvee_memory (s : State) (c : Nat) : (s.reconcileCuvee c).memory = s.memory := by
  simp [State.reconcileCuvee]
@[simp] theorem State.reconcileAct_memory (s : State) : s.reconcileAct.memory = s.memory := by simp [State.reconcileAct]

/-! ### Machine/Translate -/

@[simp] theorem State.walkCounted_memory (s : State) (c va k : Nat) : (s.walkCounted c va k).2.memory = s.memory := by
  simp [State.walkCounted]
@[simp] theorem State.fillUnit_memory (s : State) (c p key value : Nat) : (s.fillUnit c p key value).memory = s.memory := by
  simp [State.fillUnit]
@[simp] theorem State.fillMicro_memory (s : State) (t key value : Nat) : (s.fillMicro t key value).memory = s.memory := by
  simp [State.fillMicro]
theorem State.unitLookup_memory {s : State} {c p va : Nat} {q : Leaf × State} (h : s.unitLookup c p va = some q) :
    q.2.memory = s.memory := by
  obtain ⟨e, -, rfl⟩ := Option.map_eq_some_iff.mp h; simp
theorem State.lookup_memory {s : State} {t va : Nat} {q : Leaf × State} (h : s.lookup t va = some q) : q.2.memory = s.memory := by
  simp only [State.lookup] at h; split at h
  · cases h; simp
  · obtain ⟨r, hr, rfl⟩ := Option.map_eq_some_iff.mp h; simp [State.unitLookup_memory hr]
@[simp] theorem State.unitTranslate_memory (s : State) (c p va : Nat) : (s.unitTranslate c p va).2.memory = s.memory := by
  unfold State.unitTranslate; split
  · next h => exact State.unitLookup_memory h
  · simp only []; split <;> simp
@[simp] theorem State.invalidate_memory (s : State) (c va len : Nat) : (s.invalidate c va len).memory = s.memory := by
  simp [State.invalidate]
@[simp] theorem State.invalidateAct_memory (s : State) (c va len : Nat) : (s.invalidateAct c va len).memory = s.memory := by
  simp [State.invalidateAct]
@[simp] theorem State.countXFault_memory (s : State) (c : Nat) : (s.countXFault c).memory = s.memory := by
  simp [State.countXFault]
@[simp] theorem State.resolved_memory (c va len label : Nat) (write : Bool) (r : Except Nat Leaf × State) :
    (State.resolved c va len label write r).2.memory = r.2.memory := by
  unfold State.resolved; (repeat' split) <;> simp
@[simp] theorem State.translate_memory (s : State) (c va len label : Nat) (write : Bool) :
    (s.translate c va len label write).2.memory = s.memory := by
  simp [State.translate]
@[simp] theorem State.hostTraffic_memory (s : State) (c n : Nat) : (s.hostTraffic c n).memory = s.memory := by
  simp [State.hostTraffic]
@[simp] theorem State.memRead_memory (s : State) (k off n c label policy : Nat) :
    (s.memRead k off n c label policy).2.2.memory = s.memory := by
  simp [State.memRead]
@[simp] theorem State.poisonRead_memory (s : State) (c va : Nat) : (s.poisonRead c va).memory = s.memory := by
  simp [State.poisonRead]
@[simp] theorem State.vaReadChunks_memory (s : State) (c label : Nat) (l : List (Nat × Nat)) (bs : List Byte) :
    (s.vaReadChunks c label l bs).2.memory = s.memory := by
  induction l generalizing s bs with
  | nil => rfl
  | cons e rest ih => unfold State.vaReadChunks; simp only []; (repeat' split) <;> simp [ih]
@[simp] theorem State.vaRead_memory (s : State) (c va n label : Nat) (ext : List Byte) :
    (s.vaRead c va n label ext).2.memory = s.memory := by
  simp [State.vaRead]

/-! ### Machine/Observe -/

@[simp] theorem State.bookRestart_memory (s : State) (c : Nat) : (s.bookRestart c).memory = s.memory := by
  simp [State.bookRestart]
@[simp] theorem State.bookTokens_memory (s : State) (len : Rat) : (s.bookTokens len).memory = s.memory := by
  simp [State.bookTokens]
@[simp] theorem State.bookClosing_memory (s : State) : s.bookClosing.memory = s.memory := by
  simp only [State.bookClosing]; exact State.each_memory _ _ _ fun s x => by split <;> simp
@[simp] theorem State.bookControl_memory (s : State) (c cmd : Nat) : (s.bookControl c cmd).memory = s.memory := by
  unfold State.bookControl; split <;> simp
@[simp] theorem State.harvestLatch_memory (s : State) : s.harvestLatch.memory = s.memory := by simp [State.harvestLatch]
@[simp] theorem State.setCheck_memory (s : State) (n : Nat) (x : CheckCh) : (s.setCheck n x).memory = s.memory := by
  simp [State.setCheck]
@[simp] theorem State.checkStart_memory (s : State) (n : Nat) : (s.checkStart n).memory = s.memory := by simp [State.checkStart]
@[simp] theorem State.checkFeed_memory (s : State) (n value k : Nat) : (s.checkFeed n value k).memory = s.memory := by
  simp [State.checkFeed]
@[simp] theorem State.checkConfig_memory (s : State) (n v : Nat) : (s.checkConfig n v).memory = s.memory := by
  simp [State.checkConfig]
@[simp] theorem State.checkFold_memory (s : State) (n v : Nat) : (s.checkFold n v).memory = s.memory := by simp [State.checkFold]

/-! ### Machine/Faults -/

@[simp] theorem State.stopNow_memory (s : State) (c : Nat) : (s.stopNow c).memory = s.memory := by simp [State.stopNow]
@[simp] theorem State.estateStop_memory (s : State) (source : Nat) : (s.estateStop source).memory = s.memory := by
  simp [State.estateStop]
@[simp] theorem State.hang_memory (s : State) (c unit cause arg1 : Nat) : (s.hang c unit cause arg1).memory = s.memory := by
  simp [State.hang]
@[simp] theorem State.updWatch_memory (s : State) (id : Nat) (f : Watch → Watch) : (s.updWatch id f).memory = s.memory := by
  simp [State.updWatch]
@[simp] theorem State.hangDeadline_memory (s : State) (id : Nat) : (s.hangDeadline id).memory = s.memory := by
  unfold State.hangDeadline; (repeat' split) <;> simp
@[simp] theorem State.hangStall_memory (s : State) (t : Nat) : (s.hangStall t).memory = s.memory := by simp [State.hangStall]
@[simp] theorem State.statsStop_memory (s : State) (t : Nat) : (s.statsStop t).memory = s.memory := by simp [State.statsStop]
@[simp] theorem State.nackHeld_memory (s : State) (router : Nat) : (s.nackHeld router).memory = s.memory := by
  simp [State.nackHeld]
@[simp] theorem State.sharedFault_memory (s : State) (e : Engine) : (s.sharedFault e).memory = s.memory := by
  simp [State.sharedFault]
@[simp] theorem State.replayed_memory (s : State) (e : Engine) (delay c : Nat) : (s.replayed e delay c).memory = s.memory := by
  simp [State.replayed]
@[simp] theorem State.engineNamed_memory (s : State) (e : Engine) (c : Nat) : (s.engineNamed e c).memory = s.memory := by
  simp [State.engineNamed]
@[simp] theorem State.replayOver_memory (s : State) (e : Engine) (st : Nat) : (s.replayOver e st).memory = s.memory := by
  simp [State.replayOver]
@[simp] theorem State.retireEngine_memory (s : State) (e : Engine) (sus : List Nat) :
    (s.retireEngine e sus).memory = s.memory := by
  unfold State.retireEngine; split <;> simp
@[simp] theorem State.replayDone_memory (s : State) (e : Engine) (o : ReplayOutcome) : (s.replayDone e o).memory = s.memory := by
  unfold State.replayDone; (repeat' split) <;> simp
@[simp] theorem State.hangWatchdog_memory (s : State) (c : Nat) : (s.hangWatchdog c).memory = s.memory := by
  unfold State.hangWatchdog; split <;> simp
/-! ### Machine/Watch -/

@[simp] theorem State.watchPacket_memory (s : State) (t row : Nat) (first : Bool) (bs : List Byte) :
    (s.watchPacket t row first bs).memory = s.memory := by
  simp [State.watchPacket]
@[simp] theorem State.watchRewrite_memory (s : State) (c : Nat) : (s.watchRewrite c).memory = s.memory := by
  simp [State.watchRewrite]

/-! ### Machine/Links -/

@[simp] theorem State.linkCount_memory (s : State) (k i n : Nat) : (s.linkCount k i n).memory = s.memory := by
  simp [State.linkCount]
@[simp] theorem State.portCount_memory (s : State) (k j n : Nat) : (s.portCount k j n).memory = s.memory := by
  simp [State.portCount]
@[simp] theorem State.xferError_memory (s : State) (c i : Nat) : (s.xferError c i).memory = s.memory := by simp [State.xferError]
@[simp] theorem State.linkTraffic_memory (s : State) (c n : Nat) : (s.linkTraffic c n).memory = s.memory := by
  simp [State.linkTraffic]
@[simp] theorem State.updXfer_memory (s : State) (k : Nat) (mine : Bool) (tag : Nat) (f : LinkXfer → LinkXfer) :
    (s.updXfer k mine tag f).memory = s.memory := by
  simp [State.updXfer]
@[simp] theorem State.dropXfer_memory (s : State) (k : Nat) (mine : Bool) (tag : Nat) :
    (s.dropXfer k mine tag).memory = s.memory := by
  simp [State.dropXfer]
@[simp] theorem State.answerXfer_memory (s : State) (x : LinkXfer) (st : Nat) (data : List Byte) :
    (s.answerXfer x st data).memory = s.memory := by
  simp [State.answerXfer]
@[simp] theorem State.endXfer_memory (s : State) (k tag st : Nat) (data : List Byte) :
    (s.endXfer k tag st data).memory = s.memory := by
  unfold State.endXfer; split <;> simp
@[simp] theorem State.sendDone_memory (s : State) (k : Nat) (m : LinkRequest) (st len : Nat) :
    (s.sendDone k m st len).memory = s.memory := by
  simp [State.sendDone]
@[simp] theorem State.closeXfer_memory (s : State) (k tag : Nat) : (s.closeXfer k tag).memory = s.memory := by
  unfold State.closeXfer; split <;> simp
@[simp] theorem State.linkPacket_memory (s : State) (k : Nat) (p : Packet) : (s.linkPacket k p).memory = s.memory := by
  simp only [State.linkPacket]; (repeat' split) <;> simp
@[simp] theorem State.transferClose_memory (s : State) (k tag : Nat) : (s.transferClose k tag).memory = s.memory := by
  simp [State.transferClose]
@[simp] theorem State.transferTimeout_memory (s : State) (k tag : Nat) : (s.transferTimeout k tag).memory = s.memory := by
  unfold State.transferTimeout; split <;> simp
@[simp] theorem State.markTaken_memory (s : State) (k c : Nat) : (s.markTaken k c).memory = s.memory := by simp [State.markTaken]
@[simp] theorem State.endRecording_memory (s : State) (k : Nat) : (s.endRecording k).memory = s.memory := by
  simp [State.endRecording]
@[simp] theorem State.endPort_memory (s : State) (k : Nat) : (s.endPort k).memory = s.memory := by
  unfold State.endPort
  refine (State.each_memory _ _ _ fun s e => ?_).trans ((State.each_memory _ _ _ fun s x => by simp).trans (by simp))
  simp only []; split <;> simp
@[simp] theorem State.portTo_memory (s : State) (k st cause : Nat) : (s.portTo k st cause).memory = s.memory := by
  simp [State.portTo]
@[simp] theorem State.portTrain_memory (s : State) (k : Nat) : (s.portTrain k).memory = s.memory := by simp [State.portTrain]
@[simp] theorem State.portRetrain_memory (s : State) (k cause : Nat) : (s.portRetrain k cause).memory = s.memory := by
  simp [State.portRetrain]
@[simp] theorem State.portEnable_memory (s : State) (k : Nat) (on : Bool) : (s.portEnable k on).memory = s.memory := by
  simp [State.portEnable]
@[simp] theorem State.signalDetect_memory (s : State) (k : Nat) : (s.signalDetect k).memory = s.memory := by
  simp [State.signalDetect]
@[simp] theorem State.signalLoss_memory (s : State) (k : Nat) : (s.signalLoss k).memory = s.memory := by simp [State.signalLoss]
@[simp] theorem State.sendKey_memory (s : State) (k step : Nat) : (s.sendKey k step).memory = s.memory := by simp [State.sendKey]
@[simp] theorem State.portKeying_memory (s : State) (k : Nat) : (s.portKeying k).memory = s.memory := by simp [State.portKeying]
@[simp] theorem State.trainingDone_memory (s : State) (k good : Nat) : (s.trainingDone k good).memory = s.memory := by
  simp [State.trainingDone]
@[simp] theorem State.laneFailure_memory (s : State) (k lane : Nat) : (s.laneFailure k lane).memory = s.memory := by
  simp [State.laneFailure]
@[simp] theorem State.portRekey_memory (s : State) (k : Nat) : (s.portRekey k).memory = s.memory := by simp [State.portRekey]
@[simp] theorem State.portCommand_memory (s : State) (k code : Nat) : (s.portCommand k code).memory = s.memory := by
  unfold State.portCommand; split <;> simp
@[simp] theorem State.rekeyDue_memory (s : State) (k : Nat) : (s.rekeyDue k).memory = s.memory := by simp [State.rekeyDue]
@[simp] theorem State.keyFail_memory (s : State) (k : Nat) : (s.keyFail k).memory = s.memory := by simp [State.keyFail]
@[simp] theorem State.keyUp_memory (s : State) (k : Nat) : (s.keyUp k).memory = s.memory := by simp [State.keyUp]
@[simp] theorem State.rekeyed_memory (s : State) (k : Nat) : (s.rekeyed k).memory = s.memory := by simp [State.rekeyed]
theorem State.takeMsg_memory {s : State} {k : Nat} {m : LinkMsg} {t : State} (h : s.takeMsg k m = some t) : t.memory = s.memory := by
  unfold State.takeMsg at h; split at h
  · cases h; simp
  · cases h
@[simp] theorem State.takeMsg_getD_memory (s : State) (k : Nat) (m : LinkMsg) : ((s.takeMsg k m).getD s).memory = s.memory := by
  cases h : s.takeMsg k m with
  | none => rfl
  | some t => exact State.takeMsg_memory h
@[simp] theorem State.dropBad_memory (s : State) (k : Nat) (m : LinkMsg) : (s.dropBad k m).memory = s.memory := by
  unfold State.dropBad; split
  · rfl
  · next h => rw [← State.takeMsg_memory h]; simp
@[simp] theorem State.keyMessage_memory (s : State) (k : Nat) (m : KeyMsg) : (s.keyMessage k m).memory = s.memory := by
  unfold State.keyMessage; split
  · rfl
  · next h => rw [← State.takeMsg_memory h]; simp only []; (repeat' split) <;> simp
@[simp] theorem State.emitFlit_memory (s : State) (k : Nat) (f : Flit) : (s.emitFlit k f).memory = s.memory := by
  simp [State.emitFlit]
@[simp] theorem State.putFlit_memory (s : State) (k : Nat) (f : Flit) : (s.putFlit k f).memory = s.memory := by
  simp [State.putFlit]
@[simp] theorem State.idleSlot_memory (s : State) (k slot : Nat) : (s.idleSlot k slot).memory = s.memory := by
  simp [State.idleSlot]
@[simp] theorem State.controlSlot_memory (s : State) (k slot : Nat) (ready : List LinkMsg) :
    (s.controlSlot k slot ready).memory = s.memory := by
  simp [State.controlSlot]
@[simp] theorem State.sendData_memory (s : State) (k slot : Nat) (x : LinkXfer) : (s.sendData k slot x).memory = s.memory := by
  unfold State.sendData; (repeat' split) <;> simp
@[simp] theorem State.dataSlot_memory (s : State) (k slot : Nat) : (s.dataSlot k slot).memory = s.memory := by
  simp only [State.dataSlot]; (repeat' split) <;> simp
@[simp] theorem State.controlFlitSend_memory (s : State) (k : Nat) : (s.controlFlitSend k).memory = s.memory := by
  simp [State.controlFlitSend]
@[simp] theorem State.replayFrom_memory (s : State) (k : Nat) : (s.replayFrom k).memory = s.memory := by simp [State.replayFrom]
@[simp] theorem State.openIncoming_memory (s : State) (k : Nat) (m : LinkMsg) : (s.openIncoming k m).memory = s.memory := by
  unfold State.openIncoming; split <;> simp
@[simp] theorem State.acceptMsgs_memory (s : State) (k : Nat) (l : List LinkMsg) : (s.acceptMsgs k l).memory = s.memory := by
  simp [State.acceptMsgs]
@[simp] theorem State.acceptData_memory (s : State) (k : Nat) (f : Flit) : (s.acceptData k f).memory = s.memory := by
  simp only [State.acceptData]; (repeat' split) <;> simp
@[simp] theorem State.linkFec_memory (s : State) (k good bad : Nat) : (s.linkFec k good bad).memory = s.memory := by
  simp [State.linkFec]
@[simp] theorem State.flitReceive_memory (s : State) (k : Nat) (f : Flit) : (s.flitReceive k f).memory = s.memory := by
  simp [State.flitReceive]
@[simp] theorem State.inboundPlaces_memory (s : State) (c u label : Nat) (write : Bool) (l : List (Nat × Nat)) :
    (s.inboundPlaces c u label write l).2.memory = s.memory := by
  induction l generalizing s with
  | nil => rfl
  | cons e rest ih => unfold State.inboundPlaces; simp only []; split <;> simp [ih]
@[simp] theorem State.inboundRead_memory (s : State) (c : Nat) (l : List (Nat × Nat × Nat × Nat × Nat)) :
    (s.inboundRead c l).2.2.memory = s.memory := by
  induction l generalizing s with
  | nil => rfl
  | cons e rest ih => unfold State.inboundRead; simp [ih]
@[simp] theorem State.refuseInbound_memory (s : State) (k : Nat) (m : LinkRequest) : (s.refuseInbound k m).memory = s.memory := by
  simp [State.refuseInbound]
@[simp] theorem State.forwardRequest_memory (s : State) (k : Nat) (m : LinkRequest) :
    (s.forwardRequest k m).memory = s.memory := by
  unfold State.forwardRequest; split <;> simp
@[simp] theorem State.doneMessage_memory (s : State) (k : Nat) (m : LinkDone) : (s.doneMessage k m).memory = s.memory := by
  unfold State.doneMessage; split
  · simp
  · split
    · rfl
    · next h => rw [← State.takeMsg_memory h]; (repeat' split) <;> simp; split <;> simp
@[simp] theorem State.timeSend_memory (s : State) (k : Nat) : (s.timeSend k).memory = s.memory := by simp [State.timeSend]
@[simp] theorem State.linkMark_memory (s : State) (k : Nat) (m : MarkMsg) : (s.linkMark k m).memory = s.memory := by
  unfold State.linkMark; split
  · rfl
  · next h =>
    rw [← State.takeMsg_memory h]
    split
    · simp
    · simp only []; split
      · split
        · split <;> simp
        · simp
      · simp
@[simp] theorem State.forwardMsg_memory (s : State) (dst hops : Nat) (m : LinkMsg) :
    (s.forwardMsg dst hops m).memory = s.memory := by
  unfold State.forwardMsg; split <;> simp
@[simp] theorem State.squashMessage_memory (s : State) (k : Nat) (m : SquashMsg) : (s.squashMessage k m).memory = s.memory := by
  unfold State.squashMessage; split
  · rfl
  · next h => rw [← State.takeMsg_memory h]; (repeat' split) <;> simp
@[simp] theorem State.flareMessage_memory (s : State) (k : Nat) (m : FlareMsg) : (s.flareMessage k m).memory = s.memory := by
  unfold State.flareMessage; split
  · rfl
  · next h => rw [← State.takeMsg_memory h]; simp only []; split <;> [rfl; (split <;> simp)]
@[simp] theorem State.flareAct_memory (s : State) (g : Nat) : (s.flareAct g).memory = s.memory := by
  simp only [State.flareAct]; (repeat' split) <;> simp

/-! ### Machine/Tiles -/

@[simp] theorem State.progressed_memory (s : State) (t : Nat) : (s.progressed t).memory = s.memory := by simp [State.progressed]
@[simp] theorem State.storeTraffic_memory (s : State) (t n : Nat) : (s.storeTraffic t n).memory = s.memory := by
  simp [State.storeTraffic]
@[simp] theorem State.startTile_memory (s : State) (t entry tag g : Nat) : (s.startTile t entry tag g).memory = s.memory := by
  simp [State.startTile]
@[simp] theorem State.startGroup_memory (s : State) (c g entry tag : Nat) : (s.startGroup c g entry tag).memory = s.memory := by
  simp [State.startGroup]
@[simp] theorem State.fillBoth_memory (s : State) (t va : Nat) (lf : Leaf) : (s.fillBoth t va lf).memory = s.memory := by
  simp [State.fillBoth]
@[simp] theorem State.prefetch_memory (s : State) (t va : Nat) : (s.prefetch t va).memory = s.memory := by
  unfold State.prefetch; split
  · rfl
  · split
    · next h => exact State.lookup_memory h
    · simp only []; split <;> simp
@[simp] theorem State.prefetchRow_memory (s : State) (t r n k m : Nat) : (s.prefetchRow t r n k m).memory = s.memory := by
  simp [State.prefetchRow]
@[simp] theorem State.askIssue_memory (s : State) (t e en d : Nat) : (s.askIssue t e en d).memory = s.memory := by
  simp [State.askIssue]
@[simp] theorem State.openBanks_memory (s : State) (t : Nat) (ks : List Nat) : (s.openBanks t ks).memory = s.memory := by
  simp [State.openBanks]
@[simp] theorem State.finishEntry_memory (s : State) (t en : Nat) : (s.finishEntry t en).memory = s.memory := by
  simp [State.finishEntry]
@[simp] theorem State.workDone_memory (s : State) (w : Watch) : (s.workDone w).memory = s.memory := by simp [State.workDone]
@[simp] theorem State.groupsDone_memory (s : State) (c : Nat) : (s.groupsDone c).memory = s.memory := by simp [State.groupsDone]
@[simp] theorem State.loadsDone_memory (s : State) (c : Nat) : (s.loadsDone c).memory = s.memory := by simp [State.loadsDone]
@[simp] theorem State.arriveBarrier_memory (s : State) (t b : Nat) : (s.arriveBarrier t b).memory = s.memory := by
  simp [State.arriveBarrier]
@[simp] theorem State.noteSent_memory (s : State) (t : Nat) (q : Issue) (x : Xfer) (bs : List Byte) :
    (s.noteSent t q x bs).memory = s.memory := by
  simp [State.noteSent]
@[simp] theorem State.sendVa_memory (s : State) (t : Nat) (q : Issue) (r va n local_ : Nat) (last : Bool) :
    (s.sendVa t q r va n local_ last).2.memory = s.memory := by
  unfold State.sendVa; simp only []; split
  · split <;> simp
  · next h => rw [← State.lookup_memory h]; split <;> simp
@[simp] theorem State.sendTile_memory (s : State) (t : Nat) (q : Issue) (r off n local_ : Nat) (last : Bool) :
    (s.sendTile t q r off n local_ last).2.memory = s.memory := by
  simp only [State.sendTile]; (repeat' split) <;> simp
@[simp] theorem State.sendGroup_memory (s : State) (t : Nat) (q : Issue) (r off n local_ : Nat) (last : Bool) :
    (s.sendGroup t q r off n local_ last).2.memory = s.memory := by
  simp only [State.sendGroup]; (repeat' split) <;> simp
@[simp] theorem State.sendIssue_memory (t : Nat) (n : Nat) (s : State) : (State.sendIssue t n s).memory = s.memory := by
  induction n generalizing s with
  | zero => rfl
  | succ n ih => unfold State.sendIssue; simp only []; (repeat' split) <;> simp [ih]
@[simp] theorem State.walkDone_memory (s : State) (id : Nat) (poisoned : Bool) : (s.walkDone id poisoned).memory = s.memory := by
  simp only [State.walkDone]; (repeat' split) <;> simp

/-! ### Machine/Trellis -/

@[simp] theorem State.dropMalformed_memory (s : State) (p : Packet) : (s.dropMalformed p).memory = s.memory := by
  simp [State.dropMalformed]
theorem State.flitCheck_memory {s : State} {v : FlitVerdict} {p : Packet} {q : Bool × State} (h : s.flitCheck v p = some q) :
    q.2.memory = s.memory := by
  unfold State.flitCheck at h; (repeat' split at h) <;> cases h <;> simp
@[simp] theorem State.checked_memory (s : State) (p : Packet) (v : FlitVerdict) {go : Bool → State → State} (hg :
    ∀ b s, (go b s).memory = s.memory) : (s.checked p v go).memory = s.memory := by
  unfold State.checked; split
  · simp
  · next h => simp [hg, State.flitCheck_memory h]
@[simp] theorem State.delivered_memory (s : State) (ty : Nat) (p : Packet) (v : FlitVerdict) {go : Bool → State → State} (hg :
    ∀ b s, (go b s).memory = s.memory) : (s.delivered ty p v go).memory = s.memory := by
  unfold State.delivered; (repeat' split) <;> simp [State.checked_memory _ _ _ hg]
@[simp] theorem State.tileCorrected_memory (s : State) (t n : Nat) : (s.tileCorrected t n).memory = s.memory := by
  simp [State.tileCorrected]
@[simp] theorem State.tileEcc_memory (s : State) (t : Nat) (v : EccVerdict) : (s.tileEcc t v).2.memory = s.memory := by
  unfold State.tileEcc; split <;> simp
@[simp] theorem State.trellisRead_memory (s : State) (p : Packet) (v : FlitVerdict) (ecc : EccVerdict) (latency : Nat) :
    (s.trellisRead p v ecc latency).memory = s.memory :=
  State.delivered_memory _ _ _ _ fun b s => by (repeat' split) <;> simp
@[simp] theorem State.poisonConsumed_memory (s : State) (t va : Nat) : (s.poisonConsumed t va).memory = s.memory := by
  simp [State.poisonConsumed]
@[simp] theorem State.checkWrite_memory (s : State) (addr value : Nat) : (s.checkWrite addr value).memory = s.memory := by
  unfold State.checkWrite; split <;> simp
@[simp] theorem State.combineAt_memory (s : State) (r : Nat) (p : Packet) : (s.combineAt r p).memory = s.memory := by
  simp only [State.combineAt]; (repeat' split) <;> simp
@[simp] theorem State.holdExpiry_memory (s : State) (r slot : Nat) : (s.holdExpiry r slot).memory = s.memory := by
  unfold State.holdExpiry; split <;> simp
@[simp] theorem State.mcastDone_memory (s : State) (t : Nat) (o : Xfer) : (s.mcastDone t o).memory = s.memory := by
  simp [State.mcastDone]
@[simp] theorem State.targetOver_memory (s : State) (t tag target : Nat) (given : Bool) :
    (s.targetOver t tag target given).memory = s.memory := by
  unfold State.targetOver; split <;> simp
@[simp] theorem State.ackTile_memory (s : State) (t tag from_ : Nat) : (s.ackTile t tag from_).memory = s.memory := by
  unfold State.ackTile; split <;> simp
@[simp] theorem State.leavesAnswered_memory (s : State) (p : Packet) : (s.leavesAnswered p).2.memory = s.memory := by
  simp [State.leavesAnswered]
@[simp] theorem State.ack_memory (s : State) (p : Packet) (v : FlitVerdict) : (s.ack p v).memory = s.memory := by
  simp only [State.ack]; (repeat' split) <;> simp
@[simp] theorem State.nackBuffer_memory (s : State) (t tag target : Nat) : (s.nackBuffer t tag target).memory = s.memory := by
  unfold State.nackBuffer; (repeat' split) <;> simp
@[simp] theorem State.nackEnds_memory (s : State) (p : Packet) (t tag : Nat) : (s.nackEnds p t tag).memory = s.memory := by
  unfold State.nackEnds; split <;> simp
@[simp] theorem State.nack_memory (s : State) (p : Packet) (v : FlitVerdict) : (s.nack p v).memory = s.memory := by
  simp only [State.nack]; (repeat' split) <;> simp
@[simp] theorem State.multicastResend_memory (s : State) (t idx : Nat) : (s.multicastResend t idx).memory = s.memory := by
  simp only [State.multicastResend]; (repeat' split) <;> simp
@[simp] theorem State.statePacket_memory (s : State) (p : Packet) (v : FlitVerdict) : (s.statePacket p v).memory = s.memory := by
  simp [State.statePacket]

/-! ### Machine/Tendril -/

@[simp] theorem State.roundComplete_memory (s : State) (b gen : Nat) : (s.roundComplete b gen).memory = s.memory := by
  unfold State.roundComplete; split <;> simp
@[simp] theorem State.barArrive_memory (s : State) (node b gen count : Nat) :
    (s.barArrive node b gen count).memory = s.memory := by
  unfold State.barArrive; (repeat' split) <;> simp
@[simp] theorem State.barRelease_memory (s : State) (b gen : Nat) : (s.barRelease b gen).memory = s.memory := by
  simp only [State.barRelease]; (repeat' split) <;> simp
@[simp] theorem State.barrierMessage_memory (s : State) (k : Nat) (m : GroupBarMsg) :
    (s.barrierMessage k m).memory = s.memory := by
  unfold State.barrierMessage; split
  · rfl
  · next h => rw [← State.takeMsg_memory h]; (repeat' split) <;> simp
@[simp] theorem State.flagSet_memory (s : State) (c flag count : Nat) : (s.flagSet c flag count).memory = s.memory := by
  simp only [State.flagSet]; (repeat' split) <;> simp

/-! ### Machine/Rings -/

@[simp] theorem State.updRing_memory (s : State) (c k : Nat) (f : Ring → Ring) : (s.updRing c k f).memory = s.memory := by
  simp [State.updRing]
@[simp] theorem State.ringsChange_memory (s : State) (c : Nat) (old new : Blob) :
    (s.ringsChange c old new).memory = s.memory := by
  simp [State.ringsChange]
@[simp] theorem State.ringError_memory (s : State) (c k which value : Nat) : (s.ringError c k which value).memory = s.memory := by
  simp [State.ringError]
@[simp] theorem State.ringFault_memory (s : State) (c k which : Nat) (f : XFault) :
    (s.ringFault c k which f).memory = s.memory := by
  simp [State.ringFault]
@[simp] theorem State.complete_memory (s : State) (c : Nat) (j : Job) (result flags outBytes units cask : Nat) :
    (s.complete c j result flags outBytes units cask).memory = s.memory := by
  simp [State.complete]
@[simp] theorem State.completeJob_memory (s : State) (c : Nat) (j : Job) (result : Nat) (units : Nat) (cask : Nat) :
    (s.completeJob c j result units cask).memory = s.memory := by
  simp [State.completeJob]
@[simp] theorem State.account_memory (s : State) (c client : Nat) (f : Nat × Nat × Nat → Nat × Nat × Nat) :
    (s.account c client f).memory = s.memory := by
  simp [State.account]
@[simp] theorem State.noteStart_memory (s : State) (c : Nat) (j : Job) : (s.noteStart c j).memory = s.memory := by
  simp [State.noteStart]
@[simp] theorem State.updServing_memory (s : State) (c : Nat) (f : Serving → Serving) : (s.updServing c f).memory = s.memory := by
  simp [State.updServing]
@[simp] theorem State.takeEntry_memory (s : State) (c pair pos : Nat) (e : Blob) :
    (s.takeEntry c pair pos e).memory = s.memory := by
  simp [State.takeEntry]
@[simp] theorem State.fetchEntries_memory (c k : Nat) (n : Nat) (l : List SqEntry) (s : State) :
    (State.fetchEntries c k n l s).memory = s.memory := by
  induction n generalizing s l with
  | zero => rfl
  | succ n ih => unfold State.fetchEntries; simp only []; (repeat' split) <;> simp [ih]
@[simp] theorem State.fetchSq_memory (s : State) (c k limit : Nat) (ext : List SqEntry) :
    (s.fetchSq c k limit ext).memory = s.memory := by
  simp [State.fetchSq]

/-! ### Machine/Models -/

@[simp] theorem State.writeGroups_memory (s : State) (c : Nat) (m : Model) : (s.writeGroups c m).memory = s.memory := by
  simp [State.writeGroups]
@[simp] theorem State.writeNet_memory (s : State) (c slot : Nat) (m : Model) : (s.writeNet c slot m).memory = s.memory := by
  simp [State.writeNet]
@[simp] theorem State.dropMcast_memory (s : State) (c slot : Nat) : (s.dropMcast c slot).memory = s.memory := by
  simp [State.dropMcast]
@[simp] theorem State.uninstall_memory (s : State) (c slot : Nat) : (s.uninstall c slot).memory = s.memory := by
  unfold State.uninstall; split <;> simp
@[simp] theorem State.install_memory (s : State) (c slot : Nat) (r : Recipe) (j : Job) :
    (s.install c slot r j).2.memory = s.memory := by
  simp only [State.install]; (repeat' split) <;> simp
@[simp] theorem State.controlDone_memory (s : State) (c : Nat) : (s.controlDone c).memory = s.memory := by
  simp [State.controlDone]
@[simp] theorem State.noteBottle_memory (s : State) (c reason id : Nat) : (s.noteBottle c reason id).memory = s.memory := by
  simp [State.noteBottle]
@[simp] theorem State.courierFault_memory (s : State) (c : Nat) (j : Job) (f : XFault) :
    (s.courierFault c j f).memory = s.memory := by
  simp [State.courierFault]
@[simp] theorem State.openBottle_memory (s : State) (c : Nat) (j : Job) (b : BottleFindings) :
    (s.openBottle c j b).2.memory = s.memory := by
  simp only [State.openBottle]; (repeat' split) <;> simp
@[simp] theorem State.loadModel_memory (s : State) (b : BottleFindings) : (s.loadModel b).memory = s.memory := by
  simp only [State.loadModel]; (repeat' split) <;> simp
@[simp] theorem State.coresArrive_memory (s : State) (c : Nat) (m : Model) : (s.coresArrive c m).memory = s.memory := by
  simp only [State.coresArrive]; (repeat' split) <;> simp
@[simp] theorem State.updModel_memory (s : State) (c slot : Nat) (f : Model → Model) :
    (s.updModel c slot f).memory = s.memory := by
  simp [State.updModel]
@[simp] theorem State.bottleJobs_memory (s : State) (c content : Nat) (tags : Bool) :
    (s.bottleJobs c content tags).memory = s.memory := by
  simp [State.bottleJobs]
@[simp] theorem State.unloadModel_memory (s : State) : s.unloadModel.memory = s.memory := by
  simp only [State.unloadModel]; (repeat' split) <;> simp
@[simp] theorem State.placeNow_memory (s : State) (c slot : Nat) : (s.placeNow c slot).memory = s.memory := by
  unfold State.placeNow; (repeat' split) <;> simp
@[simp] theorem State.placeBoundary_memory (s : State) : s.placeBoundary.memory = s.memory := by simp [State.placeBoundary]
@[simp] theorem State.placeModel_memory (s : State) : s.placeModel.memory = s.memory := by
  simp only [State.placeModel]; (repeat' split) <;> simp
@[simp] theorem State.controlCancel_memory (s : State) : s.controlCancel.memory = s.memory := by
  simp only [State.controlCancel]; (repeat' split) <;> simp
theorem State.takeNew_memory {s : State} {p : Job → Bool} {q : Nat × Job × State} (h : s.takeNew p = some q) :
    q.2.2.memory = s.memory := by
  obtain ⟨c, -, hc⟩ := List.exists_of_findSome?_eq_some h
  split at hc
  · cases hc
  · obtain ⟨j, -, rfl⟩ := Option.map_eq_some_iff.mp hc; simp
@[simp] theorem State.courierJob_memory (s : State) (c kind bytes va : Nat) {run : State → Nat × State} (hr :
    ∀ s, (run s).2.memory = s.memory) : (s.courierJob c kind bytes va run).memory = s.memory := by
  simp [State.courierJob, hr]
@[simp] theorem State.willNeed_memory (s : State) (c label va n : Nat) : (s.willNeed c label va n).2.memory = s.memory := by
  simp only [State.willNeed]; (repeat' split) <;> simp
@[simp] theorem State.willNeedAll_memory (c label : Nat) (n : Nat) (m : Nat) (k : Nat) (s : State) :
    (State.willNeedAll c label n m k s).2.memory = s.memory := by
  induction n generalizing s m k with
  | zero => rfl
  | succ n ih => unfold State.willNeedAll; simp only []; (repeat' split) <;> simp [ih]
@[simp] theorem State.dontNeed_memory (s : State) (c va : Nat) : (s.dontNeed c va).memory = s.memory := by
  unfold State.dontNeed; split <;> simp
@[simp] theorem State.adviseRun_memory (s : State) (c : Nat) (j : Job) : (s.adviseRun c j).2.memory = s.memory := by
  simp only [State.adviseRun]; (repeat' split) <;> simp
@[simp] theorem State.adviseCommand_memory (s : State) : s.adviseCommand.memory = s.memory := by
  unfold State.adviseCommand; split
  · rfl
  · next h => rw [← State.takeNew_memory h]; exact State.courierJob_memory _ _ _ _ _ fun s => by simp

/-! ### Machine/Text -/

@[simp] theorem State.coreRead_memory (s : State) (c va n : Nat) (ext : List Byte) :
    (s.coreRead c va n ext).2.memory = s.memory := by
  simp only [State.coreRead]; (repeat' split) <;> simp
@[simp] theorem State.readCandidates_memory (c : Nat) (n : Nat) (m : Nat) (l : List Byte) (s : State) :
    (State.readCandidates c n m l s).2.memory = s.memory := by
  induction n generalizing s m l with
  | zero => rfl
  | succ n ih => unfold State.readCandidates; simp only []; (repeat' split) <;> simp [ih]
@[simp] theorem State.candidatesOf_memory (s : State) (c : Nat) (m : Model) (host : List Candidates) :
    (s.candidatesOf c m host).2.memory = s.memory := by
  simp [State.candidatesOf]
@[simp] theorem State.updSeqs_memory (s : State) (c slot : Nat) (f : List Seq → List Seq) :
    (s.updSeqs c slot f).memory = s.memory := by
  simp [State.updSeqs]
@[simp] theorem State.putSeq_memory (s : State) (c slot : Nat) (q : Seq) : (s.putSeq c slot q).memory = s.memory := by
  simp [State.putSeq]
@[simp] theorem State.takeWaiting_memory (s : State) (kind : Nat) : (s.takeWaiting kind).memory = s.memory := by
  unfold State.takeWaiting; split
  · rfl
  · next h => rw [← State.takeNew_memory h]; simp
/-! ### Machine/Steps -/

@[simp] theorem State.stepRequests_memory (s : State) (c slot g : Nat) (p : Nat → Job → Bool) (f : Job → Job) :
    (s.stepRequests c slot g p f).memory = s.memory := by
  unfold State.stepRequests; split <;> simp
@[simp] theorem State.stepBegins_memory (s : State) (c g : Nat) (row : Nat) : (s.stepBegins c g row).memory = s.memory := by
  simp only [State.stepBegins]; (repeat' split) <;> simp
@[simp] theorem State.stepLate_memory (s : State) (c : Nat) (w : Watch) : (s.stepLate c w).memory = s.memory := by
  unfold State.stepLate; split <;> simp
@[simp] theorem State.issueStart_memory (s : State) (c g entry tag watch row : Nat) :
    (s.issueStart c g entry tag watch row).memory = s.memory := by
  simp [State.issueStart]
@[simp] theorem State.preempt_memory (s : State) (c g entry tag watch : Nat) :
    (s.preempt c g entry tag watch).memory = s.memory := by
  simp only [State.preempt]; exact State.each_memory _ _ _ fun s x => by split <;> simp
@[simp] theorem State.switchRead_memory (s : State) (c va n : Nat) : (s.switchRead c va n).2.memory = s.memory := by
  simp only [State.switchRead]; (repeat' split) <;> simp
@[simp] theorem State.saveLive_memory (s : State) (t : Nat) : (s.saveLive t).memory = s.memory := by
  simp only [State.saveLive]; (repeat' split) <;> simp
@[simp] theorem State.countStep_memory (s : State) (c slot : Nat) : (s.countStep c slot).memory = s.memory := by
  simp [State.countStep]
@[simp] theorem State.stepOutput_memory (s : State) (c : Nat) (j : Job) (policy : Nat) :
    (s.stepOutput c j policy).memory = s.memory := by
  simp [State.stepOutput]
@[simp] theorem State.takeFrame_memory (s : State) : s.takeFrame.memory = s.memory := by
  unfold State.takeFrame; split
  · rfl
  · next h => rw [← State.takeNew_memory h]; simp
@[simp] theorem State.returnFrames_memory (s : State) (c : Nat) : (s.returnFrames c).memory = s.memory := by
  simp [State.returnFrames]
@[simp] theorem State.planRow_memory (s : State) (c r : Nat) : (s.planRow c r).memory = s.memory := by simp [State.planRow]
@[simp] theorem State.closeStream_memory (s : State) (c k : Nat) : (s.closeStream c k).memory = s.memory := by
  simp only [State.closeStream]; (repeat' split) <;> simp
@[simp] theorem State.stepRow_memory (s : State) (c : Nat) (m : Model) (entry : Nat) :
    (s.stepRow c m entry).memory = s.memory := by
  simp [State.stepRow]
@[simp] theorem State.closeModel_memory (s : State) (c slot : Nat) : (s.closeModel c slot).memory = s.memory := by
  unfold State.closeModel; (repeat' split) <;> simp
@[simp] theorem State.pageClose_memory (s : State) (c : Nat) : (s.pageClose c).memory = s.memory := by simp [State.pageClose]
@[simp] theorem State.nextPageComplete_memory (s : State) (c : Nat) (rows : List Nat) :
    (s.nextPageComplete c rows).memory = s.memory := by
  simp [State.nextPageComplete]

/-! ### Machine/Casks -/

@[simp] theorem State.caskCount_memory (s : State) (c i : Nat) : (s.caskCount c i).memory = s.memory := by simp [State.caskCount]
@[simp] theorem State.sendCask_memory (s : State) (m : CaskMsg) : (s.sendCask m).memory = s.memory := by simp [State.sendCask]
@[simp] theorem State.loseCask_memory (s : State) (c id : Nat) : (s.loseCask c id).memory = s.memory := by simp [State.loseCask]
@[simp] theorem State.limboRecord_memory (s : State) (c id : Nat) (x : Cask) : (s.limboRecord c id x).memory = s.memory := by
  simp [State.limboRecord]
@[simp] theorem State.endFetch_memory (s : State) (c : Nat) (f : Fetching) (result cask : Nat) :
    (s.endFetch c f result cask).memory = s.memory := by
  simp [State.endFetch]
@[simp] theorem State.unfetch_memory (s : State) (c id : Nat) : (s.unfetch c id).memory = s.memory := by simp [State.unfetch]
@[simp] theorem State.staveBytes_memory (s : State) (c : Nat) (m : Model) (n label : Nat) :
    (s.staveBytes c m n label).2.memory = s.memory := by
  simp only [State.staveBytes]; (repeat' split) <;> simp
@[simp] theorem State.streamStaves_memory (s : State) (c : Nat) (m : Model) (vintage label : Nat) (l : List Nat) (n : Nat) :
    (s.streamStaves c m vintage label l n).2.2.memory = s.memory := by
  induction l generalizing s n with
  | nil => rfl
  | cons e rest ih => unfold State.streamStaves; simp [ih]
@[simp] theorem State.caskStream_memory (s : State) (c remoteModel label : Nat) (m : Model) (x : Cask) :
    (s.caskStream c remoteModel label m x).2.memory = s.memory := by
  simp [State.caskStream]
@[simp] theorem State.dropStream_memory (s : State) (x : Cask) (st : Nat) : (s.dropStream x st).memory = s.memory := by
  unfold State.dropStream; split <;> simp
@[simp] theorem State.caskFetch_memory (s : State) : s.caskFetch.memory = s.memory := by
  simp only [State.caskFetch]; (repeat' split) <;> simp
@[simp] theorem State.refuseStream_memory (s : State) (k tag : Nat) : (s.refuseStream k tag).memory = s.memory := by
  unfold State.refuseStream; split <;> simp
@[simp] theorem State.declineOffer_memory (s : State) (k c : Nat) (m : CaskMsg) (code : Nat) :
    (s.declineOffer k c m code).memory = s.memory := by
  simp [State.declineOffer]
@[simp] theorem State.onCask_memory (s : State) (k : Nat) (m : CaskMsg) (sub : Nat) {act : State → Nat → State} (ha :
    ∀ s c, (act s c).memory = s.memory) : (s.onCask k m sub act).memory = s.memory := by
  unfold State.onCask; split
  · rfl
  · split
    · rfl
    · next h => rw [← State.takeMsg_memory h]; (repeat' split) <;> simp [ha]
@[simp] theorem State.ifLive_memory (s : State) (c : Nat) {act : State → State} (ha : ∀ s, (act s).memory = s.memory) :
    (s.ifLive c act).memory = s.memory := by
  unfold State.ifLive; split <;> simp [ha]
@[simp] theorem State.answerFromLog_memory (s : State) (c : Nat) (m : CaskMsg) : (s.answerFromLog c m).memory = s.memory := by
  simp [State.answerFromLog]
@[simp] theorem State.refusedFetch_memory (s : State) (c : Nat) (m : CaskMsg) : (s.refusedFetch c m).memory = s.memory := by
  unfold State.refusedFetch; split <;> simp
@[simp] theorem State.queryMessage_memory (s : State) (k : Nat) (m : CaskMsg) : (s.queryMessage k m).memory = s.memory := by
  simp [State.queryMessage]
@[simp] theorem State.fetchMessage_memory (s : State) (k : Nat) (m : CaskMsg) : (s.fetchMessage k m).memory = s.memory := by
  simp [State.fetchMessage]
@[simp] theorem State.fetchTimeout_memory (s : State) (c reqId : Nat) : (s.fetchTimeout c reqId).memory = s.memory := by
  unfold State.fetchTimeout; split <;> simp
/-! ### Machine/Slot -/

@[simp] theorem State.countBusy_memory (s : State) (len : Rat) : (s.countBusy len).memory = s.memory := by simp [State.countBusy]
@[simp] theorem State.countTileSlots_memory (s : State) : s.countTileSlots.memory = s.memory := by simp [State.countTileSlots]
@[simp] theorem State.countPcTime_memory (s : State) (len : Rat) : (s.countPcTime len).memory = s.memory := by
  simp [State.countPcTime]
@[simp] theorem State.countPeers_memory (s : State) : s.countPeers.memory = s.memory := by simp [State.countPeers]
@[simp] theorem State.takeRow_memory (s : State) (c i : Nat) (found : List RowInst) :
    (s.takeRow c i found).2.memory = s.memory := by
  simp only [State.takeRow]; (repeat' split) <;> simp
@[simp] theorem State.takePage_memory (s : State) (c : Nat) : (s.takePage c).2.memory = s.memory := by
  unfold State.takePage
  generalize List.range _ = l
  suffices h : ∀ a : List RowInst × State, (l.foldl (fun a i => a.2.takeRow c i a.1) a).2.memory = a.2.memory from h _
  induction l with
  | nil => intro a; rfl
  | cons i l ih => intro a; simp [ih]
@[simp] theorem State.takePages_memory (s : State) (cs : List Nat) : (s.takePages cs).2.memory = s.memory := by
  unfold State.takePages
  suffices h : ∀ a : List RowInst × State, (cs.foldl (fun a c => (a.1 ++ (a.2.takePage c).1, (a.2.takePage c).2)) a).2.memory = a.2.memory from h _
  induction cs with
  | nil => intro a; rfl
  | cons i l ih => intro a; simp [ih]
@[simp] theorem State.presentSlot_memory (s : State) : s.presentSlot.memory = s.memory := by simp [State.presentSlot]
@[simp] theorem State.latchReady_memory (s : State) : s.latchReady.memory = s.memory := by simp [State.latchReady]
@[simp] theorem State.holidaysEnd_memory (s : State) : s.holidaysEnd.memory = s.memory := by simp [State.holidaysEnd]
theorem State.issueRow_memory {s : State} {action : Nat} {q : RowInst × State} (h : s.issueRow action = some q) :
    q.2.memory = s.memory := by
  unfold State.issueRow at h; split at h
  · cases h
  · split at h <;> cases h; simp
@[simp] theorem State.rowEnd_memory (s : State) (x : RowInst) (how : Nat) : (s.rowEnd x how).memory = s.memory := by
  simp [State.rowEnd]
@[simp] theorem State.watchRow_memory (s : State) (x : RowInst) (tileWork : Bool) :
    (s.watchRow x tileWork).memory = s.memory := by
  simp [State.watchRow]
@[simp] theorem State.skipRow_memory (s : State) (x : RowInst) : (s.skipRow x).memory = s.memory := by simp [State.skipRow]
@[simp] theorem State.startStep_memory (s : State) : s.startStep.memory = s.memory := by
  unfold State.startStep; split
  · rfl
  · next h => rw [← State.issueRow_memory h]; simp
@[simp] theorem State.heldStartIssue_memory (s : State) (c g : Nat) : (s.heldStartIssue c g).memory = s.memory := by
  unfold State.heldStartIssue; split <;> simp
@[simp] theorem State.loadPlane_memory (s : State) : s.loadPlane.memory = s.memory := by
  unfold State.loadPlane; split
  · rfl
  · next h => rw [← State.issueRow_memory h]; simp
@[simp] theorem State.fetchRow_memory (s : State) (ext : List SqEntry) : (s.fetchRow ext).memory = s.memory := by
  unfold State.fetchRow; split
  · rfl
  · next h => rw [← State.issueRow_memory h]; simp
@[simp] theorem State.holidayFinish_memory (s : State) (sc : Scope) : (s.holidayFinish sc).memory = s.memory := by
  simp [State.holidayFinish]
@[simp] theorem State.holidayRow_memory (s : State) : s.holidayRow.memory = s.memory := by
  unfold State.holidayRow; split
  · rfl
  · next h => rw [← State.issueRow_memory h]; simp only []; split <;> simp
@[simp] theorem State.reconcileRow_memory (s : State) : s.reconcileRow.memory = s.memory := by
  unfold State.reconcileRow; split
  · rfl
  · next h => rw [← State.issueRow_memory h]; simp
@[simp] theorem State.nopRow_memory (s : State) : s.nopRow.memory = s.memory := by
  unfold State.nopRow; split
  · rfl
  · next h => rw [← State.issueRow_memory h]; simp
@[simp] theorem State.deadlineMiss_memory (s : State) (id : Nat) : (s.deadlineMiss id).memory = s.memory := by
  simp only [State.deadlineMiss]; (repeat' split) <;> simp

/-! ### Machine/View -/

@[simp] theorem State.setSelect_memory (s : State) (a : Acc) (i sub v : Nat) : (s.setSelect a i sub v).memory = s.memory := by
  simp [State.setSelect]

/-! ### Machine/Acts -/

@[simp] theorem State.settleUnits_memory (s : State) (isTile : Bool) (us : List Nat) :
    (s.settleUnits isTile us).memory = s.memory := by
  simp [State.settleUnits]
@[simp] theorem State.holdUnits_memory (s : State) (w : ObjWrite) : (s.holdUnits w).memory = s.memory := by
  unfold State.holdUnits; (repeat' split) <;> simp
@[simp] theorem State.freeUnitsOf_memory (s : State) (w : ObjWrite) : (s.freeUnitsOf w).memory = s.memory := by
  unfold State.freeUnitsOf; split <;> simp
@[simp] theorem State.endHold_memory (s : State) (w : ObjWrite) : (s.endHold w).memory = s.memory := by
  unfold State.endHold; split <;> simp
@[simp] theorem State.deviceRows_memory (s : State) : s.deviceRows.memory = s.memory := by simp [State.deviceRows]
@[simp] theorem State.takeDeviceRows_memory (s : State) : s.takeDeviceRows.memory = s.memory := by simp [State.takeDeviceRows]
@[simp] theorem State.harvestChange_memory (s : State) : s.harvestChange.memory = s.memory := by simp [State.harvestChange]
@[simp] theorem State.placeEstateRow_memory (s : State) (n row : Nat) : (s.placeEstateRow n row).memory = s.memory := by
  simp [State.placeEstateRow]
@[simp] theorem State.scaleShares_memory (s : State) : s.scaleShares.memory = s.memory := by simp [State.scaleShares]
@[simp] theorem State.stashOn_memory (s : State) (p : Nat) : (s.stashOn p).memory = s.memory := by simp [State.stashOn]
@[simp] theorem State.reportChange_memory (s : State) (c : Nat) (old new : Blob) :
    (s.reportChange c old new).memory = s.memory := by
  simp [State.reportChange]
@[simp] theorem State.inboundChange_memory (s : State) (old new : Blob) : (s.inboundChange old new).memory = s.memory := by
  simp [State.inboundChange]
@[simp] theorem State.moveSteward_memory (s : State) (p : HostPort) : (s.moveSteward p).memory = s.memory := by
  simp [State.moveSteward]
@[simp] theorem State.stewardAct_memory (s : State) (a : Acc) (code : Nat) : (s.stewardAct a code).memory = s.memory := by
  unfold State.stewardAct; split <;> simp
@[simp] theorem State.heartbeatAct_memory (s : State) : s.heartbeatAct.memory = s.memory := by simp [State.heartbeatAct]
@[simp] theorem State.parcelReset_memory (s : State) (p : Nat) : (s.parcelReset p).memory = s.memory := by
  simp [State.parcelReset]
@[simp] theorem State.firmwareCommit_memory (s : State) : s.firmwareCommit.memory = s.memory := by simp [State.firmwareCommit]
@[simp] theorem State.flashProgram_memory (s : State) (b : Blob) : (s.flashProgram b).memory = s.memory := by
  unfold State.flashProgram; simp only []; split <;> simp
@[simp] theorem State.sessionOpen_memory (s : State) (target id : Nat) : (s.sessionOpen target id).memory = s.memory := by
  simp [State.sessionOpen]
@[simp] theorem State.sessionTake_memory (s : State) (b : Blob) : (s.sessionTake b).memory = s.memory := by
  simp [State.sessionTake]
@[simp] theorem State.sessionDone_memory (s : State) (b : Blob) : (s.sessionDone b).memory = s.memory := by
  simp [State.sessionDone]
@[simp] theorem State.sessionAct_memory (s : State) (b : Blob) (x : Extra) : (s.sessionAct b x).memory = s.memory := by
  unfold State.sessionAct; split <;> simp
@[simp] theorem State.actEstate_memory (s : State) (i sub : Nat) (old new : Blob) :
    (s.actEstate i sub old new).memory = s.memory := by
  unfold State.actEstate; split <;> simp
@[simp] theorem State.actCuvee_memory (s : State) (i sub : Nat) (old new : Blob) :
    (s.actCuvee i sub old new).memory = s.memory := by
  unfold State.actCuvee; split <;> simp

/-! ### Machine/Boundary -/

@[simp] theorem State.swapPage_memory (s : State) (c : Nat) : (s.swapPage c).memory = s.memory := by simp [State.swapPage]
@[simp] theorem State.noteStage_memory (s : State) (a : Acc) (result cause idx sub : Nat) :
    (s.noteStage a result cause idx sub).memory = s.memory := by
  simp [State.noteStage]
@[simp] theorem State.countEpochTime_memory (s : State) (len : Rat) : (s.countEpochTime len).memory = s.memory := by
  simp [State.countEpochTime]
@[simp] theorem State.meterBoundary_memory (s : State) (before : List Nat) (every : Nat) :
    (s.meterBoundary before every).memory = s.memory := by
  simp [State.meterBoundary]
@[simp] theorem State.paceBoundary_memory (s : State) : s.paceBoundary.memory = s.memory := by simp [State.paceBoundary]
@[simp] theorem State.gateClusters_memory (s : State) : s.gateClusters.memory = s.memory := by simp [State.gateClusters]
@[simp] theorem State.storedRows_memory (s : State) : s.storedRows.memory = s.memory := by
  simp only [State.storedRows]; exact State.each_memory _ _ _ fun s x => by split <;> simp

/-! ### Machine/Boot -/

@[simp] theorem State.updBoot_memory (s : State) (f : BootSt → BootSt) : (s.updBoot f).memory = s.memory := by
  simp [State.updBoot]
@[simp] theorem State.bootFails_memory (s : State) : s.bootFails.memory = s.memory := by simp [State.bootFails]
@[simp] theorem State.loadDictionary_memory (s : State) (ok0 ok1 : Bool) : (s.loadDictionary ok0 ok1).memory = s.memory := by
  simp [State.loadDictionary]
@[simp] theorem State.bootRom_memory (s : State) (f : BootFindings) : (s.bootRom f).2.memory = s.memory := by
  unfold State.bootRom; split <;> simp
@[simp] theorem State.railsUp_memory (s : State) : s.railsUp.memory = s.memory := by simp [State.railsUp]
@[simp] theorem State.plcaBeacon_memory (s : State) (present : Bool) : (s.plcaBeacon present).memory = s.memory := by
  simp [State.plcaBeacon]
@[simp] theorem State.coreMuster_memory (s : State) : s.coreMuster.memory = s.memory := by simp [State.coreMuster]
@[simp] theorem State.selfTestDone_memory (s : State) (v : SelfTest) : (s.selfTestDone v).memory = s.memory := by
  simp [State.selfTestDone]
@[simp] theorem State.stackTrained_memory (s : State) (p : Nat) (r : TrainingResult) :
    (s.stackTrained p r).memory = s.memory := by
  simp [State.stackTrained]
@[simp] theorem State.estateReady_memory (s : State) : s.estateReady.memory = s.memory := by simp [State.estateReady]
@[simp] theorem State.keepExclusions_memory (s old : State) : (s.keepExclusions old).memory = s.memory := by
  simp [State.keepExclusions]

/-! ### Machine/Access -/

@[simp] theorem State.targetValue_memory (s : State) (a : Acc) (t : ObjRef) : (s.targetValue a t).2.memory = s.memory := by
  unfold State.targetValue; split <;> simp
@[simp] theorem State.readTarget_memory (s : State) (a : Acc) (r : Req) (t : ObjRef) :
    (s.readTarget a r t).2.memory = s.memory := by
  simp [State.readTarget]
@[simp] theorem State.dropAsm_memory (s : State) (p : Path) : (s.dropAsm p).memory = s.memory := by simp [State.dropAsm]
@[simp] theorem State.putAsm_memory (s : State) (x : Assembly) : (s.putAsm x).memory = s.memory := by simp [State.putAsm]
@[simp] theorem State.settleAsm_memory (s : State) (r : Req) : (s.settleAsm r).memory = s.memory := by
  unfold State.settleAsm; split <;> simp
@[simp] theorem State.assemble_memory (s : State) (r : Req) : (s.assemble r).2.memory = s.memory := by
  simp only [State.assemble]; (repeat' split) <;> simp
@[simp] theorem State.putStaging_memory (s : State) (a : Acc) (ws : List ObjWrite) : (s.putStaging a ws).memory = s.memory := by
  simp [State.putStaging]
theorem State.stageWrite_memory {s : State} {a : Acc} {w : ObjWrite} {t : State} (h : s.stageWrite a w = some t) :
    t.memory = s.memory := by
  simp only [State.stageWrite] at h; split at h <;> cases h; simp
@[simp] theorem State.post_memory (s : State) (a : Acc) (commit : Bool) (ws : List ObjWrite) (named : Option Nat) :
    (s.post a commit ws named).memory = s.memory := by
  simp [State.post]
@[simp] theorem State.commitSet_memory (s : State) (a : Acc) (r : Req) : (s.commitSet a r).2.memory = s.memory := by
  simp only [State.commitSet]; (repeat' split) <;> simp
@[simp] theorem State.unpost_memory (s : State) (p : Pending) : (s.unpost p).memory = s.memory := by simp [State.unpost]
@[simp] theorem State.abortObject_memory (s : State) (a : Acc) (t : ObjRef) : (s.abortObject a t).2.memory = s.memory := by
  simp only [State.abortObject]; (repeat' split) <;> simp
@[simp] theorem State.abortSet_memory (s : State) (a : Acc) (r : Req) : (s.abortSet a r).2.memory = s.memory := by
  unfold State.abortSet; (repeat' split) <;> simp
@[simp] theorem State.command_memory (s : State) (a : Acc) (c code : Nat) (k : CmdRec) :
    (s.command a c code k).2.memory = s.memory := by
  simp only [State.command]; (repeat' split) <;> simp
@[simp] theorem State.beginJob_memory (s : State) (j : FlashJob) : (s.beginJob j).memory = s.memory := by simp [State.beginJob]
@[simp] theorem State.serveWhole_memory (s : State) (a : Acc) (r : Req) : (s.serveWhole a r).2.memory = s.memory := by
  unfold State.serveWhole; (repeat' split) <;> simp

/-! ### Machine/Windows -/

@[simp] theorem State.setWindow_memory (s : State) (p : Path) (w : Window) : (s.setWindow p w).memory = s.memory := by
  simp [State.setWindow]
@[simp] theorem State.discardSubmission_memory (s : State) (p : Path) : (s.discardSubmission p).memory = s.memory := by
  simp [State.discardSubmission]
@[simp] theorem State.answerWindow_memory (s : State) (p : Path) (gen : Nat) (y : Response) :
    (s.answerWindow p gen y).memory = s.memory := by
  simp [State.answerWindow]
@[simp] theorem State.fillWindow_memory (s : State) (p : Path) (h d : Blob) : (s.fillWindow p h d).memory = s.memory := by
  simp [State.fillWindow]
@[simp] theorem State.wizorCount_memory (s : State) (k : Nat) : (s.wizorCount k).memory = s.memory := by simp [State.wizorCount]
@[simp] theorem State.emitWizor_memory (s : State) (src seq : Nat) (y : Response) :
    (s.emitWizor src seq y).memory = s.memory := by
  simp [State.emitWizor]
@[simp] theorem State.answerWizor_memory (s : State) (src seq : Nat) (y : Response) :
    (s.answerWizor src seq y).memory = s.memory := by
  simp [State.answerWizor]
@[simp] theorem State.acceptSeq_memory (s : State) (seq : Nat) : (s.acceptSeq seq).memory = s.memory := by
  simp only [State.acceptSeq]; (repeat' split) <;> simp
@[simp] theorem State.neighbour_memory (s : State) (target : Nat) : (s.neighbour target).memory = s.memory := by
  simp [State.neighbour]
@[simp] theorem State.deliver_memory (s : State) (p : Path) (gen : Nat) (y : Response) :
    (s.deliver p gen y).memory = s.memory := by
  unfold State.deliver; split <;> simp
@[simp] theorem State.bar0Read_memory (s : State) (p : Path) (o size : Nat) : (s.bar0Read p o size).memory = s.memory := by
  simp [State.bar0Read]
@[simp] theorem State.bar2Read_memory (s : State) (p : Path) (o size : Nat) : (s.bar2Read p o size).memory = s.memory := by
  unfold State.bar2Read; split <;> simp
@[simp] theorem State.checkReg_memory (s : State) (p : Path) (j off size value : Nat) (aligned : Bool) :
    (s.checkReg p j off size value aligned).memory = s.memory := by
  unfold State.checkReg; (repeat' split) <;> simp
@[simp] theorem State.pairReg_memory (s : State) (p : Path) (k : Nat) (isHead : Bool) (size value : Nat) (aligned : Bool) :
    (s.pairReg p k isHead size value aligned).memory = s.memory := by
  unfold State.pairReg; split <;> simp
@[simp] theorem State.dropClass_memory (s : State) (a : Acc) : (s.dropClass a).memory = s.memory := by simp [State.dropClass]
@[simp] theorem State.resetWindow_memory (s : State) (p : Path) : (s.resetWindow p).memory = s.memory := by
  simp [State.resetWindow]
@[simp] theorem State.resetConfig_memory (s : State) (p : HostPort) (fn : Nat) : (s.resetConfig p fn).memory = s.memory := by
  simp [State.resetConfig]
@[simp] theorem State.linkGone_memory (s : State) (p : HostPort) : (s.linkGone p).memory = s.memory := by simp [State.linkGone]
@[simp] theorem State.pcieLinkUp_memory (s : State) (p : HostPort) : (s.pcieLinkUp p).memory = s.memory := by
  simp [State.pcieLinkUp]
@[simp] theorem State.configWrite_memory (s : State) (p : HostPort) (fn reg v : Nat) :
    (s.configWrite p fn reg v).memory = s.memory := by
  simp [State.configWrite]
@[simp] theorem State.configuration_memory (s : State) (p : HostPort) (fn reg : Nat) (value : Option Nat) :
    (s.configuration p fn reg value).memory = s.memory := by
  unfold State.configuration; (repeat' split) <;> simp
@[simp] theorem State.hostCompletion_memory (s : State) (p : HostPort) (tag : Nat) (data : List Byte) :
    (s.hostCompletion p tag data).memory = s.memory := by
  simp only [State.hostCompletion]; (repeat' split) <;> simp
@[simp] theorem State.barCheck_memory (s : State) (w : BarWrite) (off : Nat) : (s.barCheck w off).memory = s.memory := by
  simp [State.barCheck]

/-! ### Machine/Image -/

@[simp] theorem State.sendImage_memory (s : State) (c : Nat) : (s.sendImage c).memory = s.memory := by simp [State.sendImage]
@[simp] theorem State.imageComplete_memory (s : State) (c : Nat) (ok : Bool) : (s.imageComplete c ok).memory = s.memory := by
  simp [State.imageComplete]
/-! ### Machine/Security -/

@[simp] theorem State.spdmSay_memory (s : State) (p : HostPort) (code : Nat) (body : Blob) :
    (s.spdmSay p code body).memory = s.memory := by
  simp [State.spdmSay]
@[simp] theorem State.spdmError_memory (s : State) (p : HostPort) (code : Nat) : (s.spdmError p code).memory = s.memory := by
  simp [State.spdmError]
@[simp] theorem State.spdmStandard_memory (s : State) (p : HostPort) (code : Nat) :
    (s.spdmStandard p code).memory = s.memory := by
  simp [State.spdmStandard]
@[simp] theorem State.keyExchange_memory (s : State) (p : HostPort) (slot : Nat) : (s.keyExchange p slot).memory = s.memory := by
  simp [State.keyExchange]
@[simp] theorem State.spdmFinish_memory (s : State) (p : HostPort) (n : Nat) (ok : Bool) :
    (s.spdmFinish p n ok).memory = s.memory := by
  simp [State.spdmFinish]
@[simp] theorem State.spdmAgreed_memory (s : State) (p : HostPort) (m : SpdmMsg) : (s.spdmAgreed p m).memory = s.memory := by
  unfold State.spdmAgreed; (repeat' split) <;> simp
@[simp] theorem State.spdm_memory (s : State) (p : HostPort) (m : SpdmMsg) : (s.spdm p m).memory = s.memory := by
  unfold State.spdm; (repeat' split) <;> simp
@[simp] theorem State.endSession_memory (s : State) (p : HostPort) (n : Nat) : (s.endSession p n).memory = s.memory := by
  simp [State.endSession]
@[simp] theorem State.inSession_memory (s : State) (p : HostPort) (n : Nat) {act : State → State} (ha :
    ∀ s, (act s).memory = s.memory) : (s.inSession p n act).memory = s.memory := by
  unfold State.inSession; (repeat' split) <;> simp [ha]
@[simp] theorem State.ideQuery_memory (s : State) (p : HostPort) : (s.ideQuery p).memory = s.memory := by simp [State.ideQuery]
@[simp] theorem State.ideProgram_memory (s : State) (p : HostPort) (n : Nat) (k : IdeKey) (key : Nat) :
    (s.ideProgram p n k key).memory = s.memory := by
  simp [State.ideProgram]
@[simp] theorem State.ideGo_memory (s : State) (p : HostPort) (k : IdeKey) : (s.ideGo p k).memory = s.memory := by
  simp [State.ideGo]
@[simp] theorem State.ideStop_memory (s : State) (p : HostPort) (k : IdeKey) : (s.ideStop p k).memory = s.memory := by
  simp [State.ideStop]
@[simp] theorem State.tdispSay_memory (s : State) (p : HostPort) (vf code : Nat) (body : Blob) :
    (s.tdispSay p vf code body).memory = s.memory := by
  simp [State.tdispSay]
@[simp] theorem State.tdispError_memory (s : State) (p : HostPort) (vf code : Nat) :
    (s.tdispError p vf code).memory = s.memory := by
  simp [State.tdispError]
@[simp] theorem State.tdisp_memory (s : State) (p : HostPort) (vf : Nat) {act : State → Nat → State} (ha :
    ∀ s c, (act s c).memory = s.memory) : (s.tdisp p vf act).memory = s.memory := by
  unfold State.tdisp; (repeat' split) <;> simp [ha]
@[simp] theorem State.tdiVersion_memory (s : State) (p : HostPort) (vf : Nat) : (s.tdiVersion p vf).memory = s.memory := by
  simp [State.tdiVersion]
@[simp] theorem State.tdiCapabilities_memory (s : State) (p : HostPort) (vf : Nat) :
    (s.tdiCapabilities p vf).memory = s.memory := by
  simp [State.tdiCapabilities]
@[simp] theorem State.tdiLock_memory (s : State) (p : HostPort) (vf stream c : Nat) :
    (s.tdiLock p vf stream c).memory = s.memory := by
  simp [State.tdiLock]
@[simp] theorem State.tdiReport_memory (s : State) (p : HostPort) (vf c : Nat) : (s.tdiReport p vf c).memory = s.memory := by
  simp [State.tdiReport]
@[simp] theorem State.tdiState_memory (s : State) (p : HostPort) (vf c : Nat) : (s.tdiState p vf c).memory = s.memory := by
  simp [State.tdiState]
@[simp] theorem State.tdiStart_memory (s : State) (p : HostPort) (vf c : Nat) : (s.tdiStart p vf c).memory = s.memory := by
  simp [State.tdiStart]
@[simp] theorem State.meterRing_memory (s : State) (n : Nat) (r : Blob) : (s.meterRing n r).memory = s.memory := by
  simp [State.meterRing]
@[simp] theorem State.meterWrite_memory (s : State) (c : Nat) (body : Blob) : (s.meterWrite c body).memory = s.memory := by
  simp [State.meterWrite]
@[simp] theorem State.meterRecords_memory (s : State) : s.meterRecords.memory = s.memory := by simp [State.meterRecords]

end Sys2Proof.Machine

/-! # Both memories stay in canonical form under every command -/

namespace Sys2Proof.Machine

/-- Both memories list their bytes in rising order of address and no zero byte (log 7). -/
def Canonical (m : List Host.Cell × List Host.Cell) : Prop := Memory.wf m.1 = true ∧ Memory.wf m.2 = true

theorem State.memoryWf_iff (s : State) : s.memoryWf ↔ Canonical s.memory := Iff.rfl

@[simp] theorem canonical_ite (p : Prop) [Decidable p] (m n : List Host.Cell × List Host.Cell) :
    Canonical (if p then m else n) ↔ if p then Canonical m else Canonical n := by split <;> rfl

theorem State.each_canonical {α : Type} {f : State → α → State} (l : List α) {s : State}
    (hf : ∀ s x, Canonical s.memory → Canonical (f s x).memory) (h : Canonical s.memory) : Canonical (s.each l f).memory :=
  State.each_keeps (fun s => Canonical s.memory) f l hf h

/-- Filtering the cells of a memory keeps its form. -/
theorem Memory.wf_filter {m : List Host.Cell} (p : Host.Cell → Bool) (h : Memory.wf m = true) : Memory.wf (m.filter p) = true := by
  simp only [Memory.wf, Sparse.wf, Bool.and_eq_true, List.all_eq_true] at h ⊢
  exact ⟨Sparse.rising_filter p h.1, fun e he => h.2 e (List.mem_of_mem_filter he)⟩

section
variable {s : State} (h : Canonical s.memory)
include h

/-! ### Machine/Ops -/

theorem State.setHbm_canonical {m : List Host.Cell} (hm : Memory.wf m = true) : Canonical (s.setHbm m).memory := ⟨hm, h.2⟩
@[simp] theorem State.storeWrite_canonical (t off : Nat) (bs : List Byte) :
    Canonical (s.storeWrite t off bs).memory := ⟨h.1, Memory.wf_storeWrite t off bs h.2⟩
@[simp] theorem State.storePatch_canonical (t : Nat) (l : List (Nat × Byte)) :
    Canonical (s.storePatch t l).memory := ⟨h.1, Memory.wf_storePatch t l h.2⟩
@[simp] theorem State.hbmWrite_canonical (k off : Nat) (bs : List Byte) :
    Canonical (s.hbmWrite k off bs).memory := ⟨Memory.wf_hbmWrite k off bs h.1, h.2⟩

/-! ### Machine/TileBase -/

@[simp] theorem State.zeroTile_canonical (t : Nat) : Canonical (s.zeroTile t).memory := ⟨h.1, Memory.wf_zeroBytes _ _ h.2⟩

/-! ### Machine/Compose -/

@[simp] theorem State.putRecord_canonical (t c n : Nat) (r : SavedTile) : Canonical (s.putRecord t c n r).memory := by
  simp [State.putRecord, h]
@[simp] theorem State.zeroPc_canonical (k : Nat) : Canonical (s.zeroPc k).memory := ⟨Memory.wf_zeroBytes _ _ h.1, h.2⟩
@[simp] theorem State.scrubCuvee_canonical (c : Nat) : Canonical (s.scrubCuvee c).memory := by
  simp only [State.scrubCuvee, State.clearBarriers_memory, State.dropWalks_memory, State.dropXlate_memory]
  refine State.each_canonical _ (fun s k h => State.zeroPc_canonical h k) ?_
  rw [State.dropLines_memory]
  exact State.each_canonical _ (fun s e h => by simp [h]) h
@[simp] theorem State.resetComplete_canonical (c : Nat) : Canonical (s.resetComplete c).memory := by
  simp only [State.resetComplete]; (repeat' split) <;> simp [h]
@[simp] theorem State.releaseComplete_canonical (c : Nat) : Canonical (s.releaseComplete c).memory := by
  unfold State.releaseComplete; split
  · exact h
  · simp only []; split
    · exact h
    · simp only [State.fenceLater_memory, State.cmdStatusIf_memory, State.setCuvee_memory, State.memory_mk, State.memory_eta,
        State.allDefaults_memory]
      rw [State.each_memory _ _ _ fun s i => by split <;> simp]; simp [h]

/-! ### Machine/Rebind -/

@[simp] theorem State.copyRegions_canonical (old new : Nat) (which : Option (List Nat)) :
    Canonical (s.copyRegions old new which).memory := by
  simp only [State.copyRegions, State.count_memory]
  exact State.setHbm_canonical h (Memory.wf_foldl _ _ (fun _ _ h => Memory.wf_writeByte _ _ h) (Memory.wf_filter _ h.1))
@[simp] theorem State.passEnd_canonical (c k : Nat) : Canonical (s.passEnd c k).memory := by
  unfold State.passEnd; split <;> simp [h]
@[simp] theorem State.precopyPassEnd_canonical (c : Nat) (ks : List Nat) : Canonical (s.precopyPassEnd c ks).memory := by
  have he : ∀ l : List Nat, Canonical (s.each l fun s k => s.passEnd c k).memory :=
    fun l => State.each_canonical l (fun s k h => State.passEnd_canonical h c k) h
  simp [State.precopyPassEnd, h, he]
@[simp] theorem State.finalCopy_canonical (c k new : Nat) : Canonical (s.finalCopy c k new).memory := by simp [State.finalCopy, h]
@[simp] theorem State.rebindMoves_canonical (c : Nat) : Canonical (s.rebindMoves c).memory := by
  unfold State.rebindMoves; split
  · simp [h]
  · extract_lets oldT oldK newT newK ws recs copied zeroed dropped released placed written owned unbound dict unreserved trimmed relaid
    have hzeroed : Canonical zeroed.memory := State.each_canonical _ (fun s e h => State.zeroPc_canonical h _)
      (State.each_canonical _ (fun s e h => State.finalCopy_canonical h ..) h)
    have hplaced : Canonical placed.memory :=
      State.each_canonical _ (fun s e h => by split <;> simp [h]) (by simpa [released, dropped] using hzeroed)
    have hwritten : written.memory = placed.memory := State.each_memory _ _ _ fun s w => by simp
    have hunbound : unbound.memory = placed.memory := by simp [unbound, owned, hwritten]
    simpa [relaid, trimmed, unreserved, hunbound] using hplaced
@[simp] theorem State.rebindMovesDone_canonical (c : Nat) : Canonical (s.rebindMovesDone c).memory := by
  simp [State.rebindMovesDone, h]

/-! ### Machine/Cuvee -/

@[simp] theorem State.resetAct_canonical (c : Nat) (release : Bool) : Canonical (s.resetAct c release).memory := by
  simp [State.resetAct, h]
@[simp] theorem State.commandEffect_canonical (c : Nat) (st : Staged) : Canonical (s.commandEffect c st).memory := by
  unfold State.commandEffect; split <;> simp [h]
@[simp] theorem State.commandAct_canonical (c : Nat) : Canonical (s.commandAct c).memory := by
  unfold State.commandAct; split <;> simp [h]
@[simp] theorem State.slotCommands_canonical : Canonical s.slotCommands.memory := by
  unfold State.slotCommands
  refine State.each_canonical _ (fun s c h => by split <;> simp [h]) ?_
  rw [State.each_memory _ _ _ fun s c => by simp]; simp [h]
@[simp] theorem State.flrCuvee_canonical (c : Nat) : Canonical (s.flrCuvee c).memory := by
  unfold State.flrCuvee; split <;> simp [h]
@[simp] theorem State.clusterPowerUp_canonical (d : Nat) : Canonical (s.clusterPowerUp d).memory := by
  have he := State.each_canonical ((s.muster.tileMap.filter fun e => physCluster e.2 == d).map Prod.fst)
    (fun s t h => State.zeroTile_canonical h t) h
  simp [State.clusterPowerUp, h, he]

/-! ### Machine/Translate -/

@[simp] theorem State.memWrite_canonical (k off : Nat) (bs : List Byte) (c label policy : Nat) :
    Canonical (s.memWrite k off bs c label policy).memory := by
  simp [State.memWrite, h]
omit h in
@[simp] theorem State.vaWriteChunks_canonical (h : Canonical s.memory) (c label : Nat) (l : List (Nat × Nat)) (bs : List Byte) :
    Canonical (s.vaWriteChunks c label l bs).2.memory := by
  induction l generalizing s bs with
  | nil => exact h
  | cons e rest ih => unfold State.vaWriteChunks; simp only []; (repeat' split) <;> simp [ih, h]
@[simp] theorem State.vaWrite_canonical (c va : Nat) (bs : List Byte) (label : Nat) :
    Canonical (s.vaWrite c va bs label).2.memory := by
  simp [State.vaWrite, h]

/-! ### Machine/Observe -/

@[simp] theorem State.forwardBlock_canonical (c stamp span flags : Nat) (marks : List (Nat × Nat)) :
    Canonical (s.forwardBlock c stamp span flags marks).memory := by
  simp only [State.forwardBlock]; (repeat' split) <;> simp [h]
@[simp] theorem State.harvestRecordWrite_canonical : Canonical s.harvestRecordWrite.memory := by
  unfold State.harvestRecordWrite; split
  · exact h
  · simp only [State.memory_mk, State.memory_eta]
    rw [State.each_memory _ _ _ fun s c => by simp]
    exact State.each_canonical _ (fun s c h => State.forwardBlock_canonical h ..) h
@[simp] theorem State.harvestAct_canonical : Canonical s.harvestAct.memory := by simp [State.harvestAct, h]

/-! ### Machine/Faults -/

@[simp] theorem State.parcelResetDone_canonical (p : Nat) (badTiles : List Nat) (r : TrainingResult) :
    Canonical (s.parcelResetDone p badTiles r).memory := by
  unfold State.parcelResetDone; split
  · exact h
  · extract_lets units tiles pcs tilesZeroed zeroed tilesRetired phys bad margin margins retired init reset
    have hzeroed : Canonical zeroed.memory := State.each_canonical _ (fun s k h => State.zeroPc_canonical h k)
      (State.each_canonical _ (fun s t h => State.zeroTile_canonical h t) h)
    have hretired : retired.memory = zeroed.memory := by simp [retired, tilesRetired]
    simpa [reset, hretired] using hzeroed

/-! ### Machine/Watch -/

@[simp] theorem State.watchEnd_canonical (t : Nat) : Canonical (s.watchEnd t).memory := by
  refine State.each_canonical _ (fun s w h => ?_) h
  simp only []; (repeat' split) <;> simp [h]

/-! ### Machine/Links -/

omit h in
@[simp] theorem State.inboundWrite_canonical (h : Canonical s.memory) (c op : Nat) (l : List (Nat × Nat × Nat × Nat × Nat))
    (bs : List Byte) : Canonical (s.inboundWrite c op l bs).memory := by
  induction l generalizing s bs with
  | nil => exact h
  | cons e rest ih => exact ih (State.memWrite_canonical h ..) _
@[simp] theorem State.request_canonical (k : Nat) (m : LinkRequest) : Canonical (s.request k m).memory := by
  unfold State.request; extract_lets x data; split
  · simp [h]
  · split
    · simp [h]
    · split
      · exact h
      · split
        · exact h
        · next hm => have hk := State.takeMsg_memory hm; (repeat' split) <;> simp [h, hk] <;> split <;> simp [h, hk]

/-! ### Machine/Tiles -/

@[simp] theorem State.commitStream_canonical (t en k : Nat) : Canonical (s.commitStream t en k).memory := by
  simp only [State.commitStream, State.updTile_memory]
  exact State.each_canonical _ (fun s w h => State.storeWrite_canonical h ..) h
omit h in
@[simp] theorem State.flow_canonical (t en n : Nat) (h : Canonical s.memory) : Canonical (State.flow t en n s).memory := by
  induction n generalizing s with
  | zero => exact h
  | succ n ih =>
    unfold State.flow; simp only []
    have he := State.each_canonical (List.range 4) (fun s k h => State.commitStream_canonical h t en k)
      (s := s.setTile t (Tile.settle (s.tileRd t) rngStep en 4194304 (s.tile t))) (by simp [h])
    split
    · exact he
    · exact ih he
@[simp] theorem State.pump_canonical (t en : Nat) : Canonical (s.pump t en).memory := by simp [State.pump, h]
@[simp] theorem State.releaseDrains_canonical (t en : Nat) : Canonical (s.releaseDrains t en).memory := by
  simp [State.releaseDrains, h]
omit h in
@[simp] theorem State.advance_canonical (t en n : Nat) (h : Canonical s.memory) : Canonical (State.advance t en n s).memory := by
  induction n generalizing s with
  | zero => exact h
  | succ n ih =>
    have hu : Canonical (((s.pump t en).releaseDrains t en).updTile t fun x => x.beatTriggers en).memory := by simp [h]
    unfold State.advance; extract_lets u v x n before after asked counted pumped closed ended
    have hv : Canonical v.memory := hu
    clear_value v; split
    · exact hv
    · split
      · split
        · exact hv
        · split
          · exact hv
          · exact ih (by simp [ended, closed, pumped, counted, asked, hv])
      · split
        · simp [hv]
        · exact hv
@[simp] theorem State.runOn_canonical (t : Nat) : Canonical (s.runOn t).memory := by simp [State.runOn, h]
@[simp] theorem State.beginEntry_canonical (t en : Nat) : Canonical (s.beginEntry t en).memory := by simp [State.beginEntry, h]
@[simp] theorem State.openEntry_canonical (t en : Nat) : Canonical (s.openEntry t en).memory := by simp [State.openEntry, h]
@[simp] theorem State.nextEntry_canonical (t : Nat) : Canonical (s.nextEntry t).memory := by simp [State.nextEntry, h]
@[simp] theorem State.entryBoundary_canonical (t : Nat) : Canonical (s.entryBoundary t).memory := by
  simp only [State.entryBoundary]; (repeat' split) <;> simp [h]
@[simp] theorem State.accumulatorSwap_canonical (t : Nat) : Canonical (s.accumulatorSwap t).memory := by
  simp [State.accumulatorSwap, h]
@[simp] theorem State.vectorTrigger_canonical (t : Nat) : Canonical (s.vectorTrigger t).memory := by
  simp only [State.vectorTrigger]; split
  · exact h
  · split
    · exact h
    · exact State.runOn_canonical (by simp [h]) t
@[simp] theorem State.endRun_canonical (t : Nat) : Canonical (s.endRun t).memory := by simp [State.endRun, h]
@[simp] theorem State.entryComplete_canonical (t : Nat) : Canonical (s.entryComplete t).memory := by
  simp only [State.entryComplete]; split <;> simp [h]
@[simp] theorem State.transferIssue_canonical (t : Nat) : Canonical (s.transferIssue t).memory := by
  simp only [State.transferIssue]; split <;> simp [h]

/-! ### Machine/Trellis -/

omit h in
theorem State.delivered_canonical (h : Canonical s.memory) {go : Bool → State → State} (ty : Nat) (p : Packet) (v : FlitVerdict)
    (hg : ∀ b s, Canonical s.memory → Canonical (go b s).memory) : Canonical (s.delivered ty p v go).memory := by
  unfold State.delivered State.checked
  split
  · exact h
  · split
    · simp [h]
    · split
      · simp [h]
      · next hc => exact hg _ _ (by simpa [State.flitCheck_memory hc] using h)
@[simp] theorem State.readData_canonical (p : Packet) (v : FlitVerdict) : Canonical (s.readData p v).memory :=
  State.delivered_canonical h _ _ _ fun b s h => by split <;> simp [h]
@[simp] theorem State.trellisWrite_canonical (p : Packet) (v : FlitVerdict) : Canonical (s.trellisWrite p v).memory := 
  State.delivered_canonical h _ _ _ fun b s h => by (repeat' split) <;> simp [h]
@[simp] theorem State.landAdd_canonical (p : Packet) (bad : Bool) : Canonical (s.landAdd p bad).memory := by
  simp [State.landAdd, h]
@[simp] theorem State.writeAdd_canonical (ty : Nat) (router : Option Nat) (p : Packet) (v : FlitVerdict) :
    Canonical (s.writeAdd ty router p v).memory := by
  unfold State.writeAdd; split
  · exact h
  · split
    · simp [h]
    · split
      · simp [h]
      · exact State.delivered_canonical h _ _ _ fun b s h => State.landAdd_canonical h ..
@[simp] theorem State.mcastWrite_canonical (p : Packet) (v : FlitVerdict) : Canonical (s.mcastWrite p v).memory := 
  State.delivered_canonical h _ _ _ fun b s h => by simp [h]

/-! ### Machine/Rings -/

@[simp] theorem State.writeCompletion_canonical (c k : Nat) (b : Blob) : Canonical (s.writeCompletion c k b).2.memory := by
  simp only [State.writeCompletion]; split <;> simp [h]
omit h in
@[simp] theorem State.writeReady_canonical (c k n : Nat) (h : Canonical s.memory) :
    Canonical (State.writeReady c k n s).memory := by
  induction n generalizing s with
  | zero => exact h
  | succ n ih => unfold State.writeReady; simp only []; (repeat' split) <;> simp [ih, h]
@[simp] theorem State.writeCq_canonical (c k : Nat) : Canonical (s.writeCq c k).memory := by simp [State.writeCq, h]

/-! ### Machine/Models -/

omit h in
@[simp] theorem State.writePieces_canonical (h : Canonical s.memory) (c label : Nat) (l : List (Nat × List Byte)) :
    Canonical (s.writePieces c label l).2.memory := by
  induction l generalizing s with
  | nil => exact h
  | cons e rest ih => unfold State.writePieces; simp only []; split <;> simp [ih, h]
@[simp] theorem State.zeroPieces_canonical (c label : Nat) (ps : List (Nat × List Byte)) :
    Canonical (s.zeroPieces c label ps).memory := 
  State.each_canonical _ (fun _ _ h => State.vaWrite_canonical h ..) h
@[simp] theorem State.coreWrite_canonical (c va : Nat) (bs : List Byte) : Canonical (s.coreWrite c va bs).memory := by
  simp only [State.coreWrite]; split <;> simp [h]
@[simp] theorem State.bottleLoadDone_canonical (c slot : Nat) (b : BottleFindings) :
    Canonical (s.bottleLoadDone c slot b).memory := by
  simp only [State.bottleLoadDone]; (repeat' split) <;> simp [h]
  exact State.coreWrite_canonical (by simp [h]) ..
omit h in
@[simp] theorem State.courierPages_canonical (c label n src dst k : Nat) (ext : List Byte) (h : Canonical s.memory) :
    Canonical (State.courierPages c label n src dst k ext s).2.memory := by
  induction n generalizing s src dst k ext with
  | zero => exact h
  | succ n ih => unfold State.courierPages; simp only []; (repeat' split) <;> simp [ih, h]
@[simp] theorem State.courierCopy_canonical (c label src dst n : Nat) (ext : List Byte) :
    Canonical (s.courierCopy c label src dst n ext).2.memory := by
  simp [State.courierCopy, h]
omit h in
@[simp] theorem State.movePages_canonical (c label : Nat) (j : Job) (l : List (Nat × Nat)) (bs : List Byte)
    (h : Canonical s.memory) : Canonical (State.movePages c label j l bs s).2.memory := by
  induction l generalizing s bs with
  | nil => exact h
  | cons e rest ih => unfold State.movePages; simp only []; split <;> simp [ih, h]
@[simp] theorem State.prefetchRun_canonical (c : Nat) (j : Job) (ext : List Byte) :
    Canonical (s.prefetchRun c j ext).2.memory := by
  simp only [State.prefetchRun]; (repeat' split) <;> simp [h]
omit h in
theorem State.courierJob_canonical (h : Canonical s.memory) {run : State → Nat × State} (c kind bytes va : Nat)
    (hr : ∀ s, Canonical s.memory → Canonical (run s).2.memory) : Canonical (s.courierJob c kind bytes va run).memory := by
  simpa [State.courierJob] using hr _ (by simp [h])
@[simp] theorem State.prefetchCommand_canonical (ext : List Byte) : Canonical (s.prefetchCommand ext).memory := by
  unfold State.prefetchCommand; split
  · exact h
  · next hn =>
    exact State.courierJob_canonical (by rwa [State.takeNew_memory hn]) _ _ _ _ fun s h => State.prefetchRun_canonical h ..
@[simp] theorem State.remapPage_canonical (c src dst : Nat) : Canonical (s.remapPage c src dst).memory := by
  simp only [State.remapPage]; split <;> simp [h]
@[simp] theorem State.remapBoundary_canonical : Canonical s.remapBoundary.memory := by
  refine State.each_canonical _ (fun s c h => ?_) h
  simp only []; split
  · exact h
  · rw [State.each_memory _ _ _ fun s j => by simp, State.updServing_memory]
    refine State.each_canonical _ (fun s r h => ?_) h
    rw [State.invalidate_memory]
    exact State.each_canonical _ (fun s i h => State.remapPage_canonical h ..) h

/-! ### Machine/Text -/

@[simp] theorem State.setCask_canonical (c id : Nat) (x : Cask) : Canonical (s.setCask c id x).memory := by
  simp [State.setCask, h]
@[simp] theorem State.freeCask_canonical (c id : Nat) : Canonical (s.freeCask c id).memory := by simp [State.freeCask, h]
theorem State.giveStaves_canonical {c id len : Nat} {t : State} (ht : s.giveStaves c id len = some t) : Canonical t.memory := by
  unfold State.giveStaves at ht; split at ht
  · cases ht
  · simp only [] at ht; split at ht
    · cases ht; exact h
    · obtain ⟨got, -, rfl⟩ := Option.map_eq_some_iff.mp ht; simp [h]
@[simp] theorem State.writeTokens_canonical (c : Nat) (q : Seq) (first gen : Nat) :
    Canonical (s.writeTokens c q first gen).2.memory := by
  simp [State.writeTokens, h]
@[simp] theorem State.leaveSeq_canonical (c slot : Nat) (q : Seq) (result leave : Nat) (keep : Bool) :
    Canonical (s.leaveSeq c slot q result leave keep).memory := by
  simp only [State.leaveSeq]; (repeat' split) <;> simp [h]
@[simp] theorem State.stepSeq_canonical (c slot : Nat) (cands : List Candidates) (q : Seq) :
    Canonical (s.stepSeq c slot cands q).memory := by
  unfold State.stepSeq; split
  · exact h
  · split
    · split <;> simp [h]
    · extract_lets pos picked lse f tok sampled r u q' v gen w before q2 x code
      have hf : f.2.memory = s.memory := by simp [f]
      have ht : Canonical tok.2.memory := by simp only [tok]; clear_value picked; split <;> simp [h, hf]
      have hr : Canonical r.2.memory := by simp only [r]; split <;> simp [h, ht]
      have hv : Canonical v.memory := by simp only [v, u]; split <;> simp [hr]
      clear_value v
      split
      · split <;> simp [hv]
      · have hw : Canonical w.2.memory := by simp only [w]; split <;> simp [hv]
        clear_value w
        (repeat' split) <;> simp [x, hw]
@[simp] theorem State.enrol_canonical (c slot : Nat) (q : Seq) (count : Nat) (tokens : List Nat) (pre sample : Bool) :
    Canonical (s.enrol c slot q count tokens pre sample).2.memory := by
  unfold State.enrol; split
  · next hg => simp [State.giveStaves_canonical h hg]
  · simp [h]
@[simp] theorem State.batchSeq_canonical (c slot : Nat) (m : Model) (budget : Nat) (q : Seq) :
    Canonical (s.batchSeq c slot m budget q).2.memory := by
  simp only [State.batchSeq]; (repeat' split) <;> simp [h]
omit h in
@[simp] theorem State.batchAll_canonical (c slot : Nat) (m : Model) (l : List Seq) (n : Nat) (bs : List BatchRec)
    (h : Canonical s.memory) : Canonical (State.batchAll c slot m l n bs s).2.2.memory := by
  induction l generalizing s n bs with
  | nil => exact h
  | cons q rest ih => unfold State.batchAll; simp only []; split <;> simp [ih, h]
@[simp] theorem State.join_canonical (c slot : Nat) (j : Job) (at_ id : Nat) (x : Cask) (ext : List Byte) :
    Canonical (s.join c slot j at_ id x ext).2.memory := by
  simp only [State.join]; split <;> simp [h]
omit h in
@[simp] theorem State.joinAll_canonical (c slot : Nat) (prompts : List (Nat × List Nat)) (l : List Job) (n : Nat)
    (bs : List BatchRec) (h : Canonical s.memory) : Canonical (State.joinAll c slot prompts l n bs s).2.memory := by
  induction l generalizing s n bs with
  | nil => exact h
  | cons j rest ih =>
    unfold State.joinAll; simp only []; split
    · exact h
    · split
      · exact h
      · split
        · exact ih _ _ (by simp [h])
        · split
          · exact h
          · exact ih _ _ h
          · split
            · exact ih _ _ (by simp [h])
            · split <;> exact ih _ _ (by simp [h])
@[simp] theorem State.nextBatch_canonical (c slot : Nat) (prompts : List (Nat × List Nat)) :
    Canonical (s.nextBatch c slot prompts).memory := by
  unfold State.nextBatch; split
  · exact h
  · simp only [State.coresArrive_memory, State.vintnerTask_memory]
    exact State.coreWrite_canonical (State.joinAll_canonical _ _ _ _ _ _ (State.batchAll_canonical _ _ _ _ _ _
      (State.batchAll_canonical _ _ _ _ _ _ h))) ..
@[simp] theorem State.stavesExhausted_canonical (c slot : Nat) : Canonical (s.stavesExhausted c slot).memory := by
  simp only [State.stavesExhausted]; (repeat' split) <;> simp [h]

/-! ### Machine/Steps -/

@[simp] theorem State.loadResident_canonical (t : Nat) (m : Model) : Canonical (s.loadResident t m).memory := by
  unfold State.loadResident
  rw [State.each_memory _ _ _ fun s e => by simp only []; split <;> simp, State.updTile_memory]
  exact State.each_canonical _ (fun s e h => by simp only []; split <;> simp [h]) h
@[simp] theorem State.switchTile_canonical (t slot : Nat) (m : Model) : Canonical (s.switchTile t slot m).memory := by
  simp [State.switchTile, h]
@[simp] theorem State.switchDone_canonical (c g : Nat) : Canonical (s.switchDone c g).memory := by
  unfold State.switchDone; split
  · exact h
  · split
    · exact h
    · split
      · exact h
      · simp only [State.stepBegins_memory, State.startGroup_memory, State.updServing_memory]
        exact State.each_canonical _ (fun s t h => by split <;> simp [h]) h
@[simp] theorem State.resumeSaved_canonical (t slot : Nat) (m : Model) : Canonical (s.resumeSaved t slot m).memory := by
  simp only [State.resumeSaved]; split <;> simp [h]
@[simp] theorem State.preemptedResume_canonical (c g : Nat) : Canonical (s.preemptedResume c g).memory := by
  unfold State.preemptedResume; split
  · exact h
  · split
    · exact h
    · refine State.each_canonical _ (fun s l h => ?_) (by simpa using h)
      split
      · exact h
      · split
        · exact h
        · refine State.each_canonical _ (fun s t h => ?_) h
          (repeat' split) <;> simp [h]
@[simp] theorem State.stepComplete_canonical (c slot : Nat) (cands : List Candidates) (prompts : List (Nat × List Nat)) :
    Canonical (s.stepComplete c slot cands prompts).memory := by
  unfold State.stepComplete; split
  · exact h
  · split
    · exact h
    · split
      · rw [State.each_memory _ _ _ fun s e => by simp]; exact h
      · split
        · exact h
        · extract_lets u v r; split
          · refine State.nextBatch_canonical (State.each_canonical _ (fun s q h => State.stepSeq_canonical h ..) ?_) ..
            simp [r, v, u, h]
          · split <;> simp [u, h]
@[simp] theorem State.outputCopyDone_canonical (c : Nat) : Canonical (s.outputCopyDone c).memory := by
  unfold State.outputCopyDone; split
  · exact h
  · split
    · exact h
    · simp only []; split
      · simp [h]
      · split
        · simp [h]
        · refine State.courierJob_canonical (by simp [h]) _ _ _ _ fun s h => ?_
          split <;> simp [h]

/-! ### Machine/Casks -/

@[simp] theorem State.setLog_canonical (c i : Nat) (e : HandLog) : Canonical (s.setLog c i e).memory := by simp [State.setLog, h]
@[simp] theorem State.clearLog_canonical (c i : Nat) : Canonical (s.clearLog c i).memory := by simp [State.clearLog, h]
@[simp] theorem State.logOutcome_canonical (c uid vintage outcome receiver device : Nat) :
    Canonical (s.logOutcome c uid vintage outcome receiver device).memory := by
  unfold State.logOutcome; split
  · exact h
  · exact State.setLog_canonical h ..
@[simp] theorem State.toLimbo_canonical (c id : Nat) (x : Cask) : Canonical (s.toLimbo c id x).memory := by
  simp only [State.toLimbo]; split <;> simp [h]
@[simp] theorem State.endOffer_canonical (c id : Nat) (x : Cask) (vintage : Nat) :
    Canonical (s.endOffer c id x vintage).memory := by
  unfold State.endOffer; split <;> simp [h]
@[simp] theorem State.withdraw_canonical (c id : Nat) (x : Cask) : Canonical (s.withdraw c id x).memory := by
  simp [State.withdraw, h]
@[simp] theorem State.offerCask_canonical (c id w remoteModel label : Nat) (job : Option Job) :
    Canonical (s.offerCask c id w remoteModel label job).2.memory := by
  unfold State.offerCask; (repeat' split) <;> simp [h]
  split <;> simp [h]
@[simp] theorem State.caskOffer_canonical : Canonical s.caskOffer.memory := by unfold State.caskOffer; split <;> simp [h]
@[simp] theorem State.caskFree_canonical : Canonical s.caskFree.memory := by
  simp only [State.caskFree]; (repeat' split) <;> simp [h]
@[simp] theorem State.serveFetch_canonical (c : Nat) (f : Nat × Nat × Nat × Nat) : Canonical (s.serveFetch c f).memory := by
  simp only [State.serveFetch]; (repeat' split) <;> simp [h]
@[simp] theorem State.brokenOffers_canonical (c : Nat) : Canonical (s.brokenOffers c).memory := 
  State.each_canonical _ (fun s e h => by split <;> simp [h]) h
@[simp] theorem State.allBroken_canonical : Canonical s.allBroken.memory := 
  State.each_canonical _ (fun _ c h => State.brokenOffers_canonical h c) h
@[simp] theorem State.caskBoundary_canonical : Canonical s.caskBoundary.memory := by
  refine State.each_canonical _ (fun s c h => ?_) h
  exact State.each_canonical _ (fun s f h => State.serveFetch_canonical h c f) (State.brokenOffers_canonical (by simpa using h) c)
@[simp] theorem State.dropIncoming_canonical (c id : Nat) (x : Cask) : Canonical (s.dropIncoming c id x).memory := by
  simp [State.dropIncoming, h]
@[simp] theorem State.declineIncoming_canonical (c id : Nat) (x : Cask) (code : Nat) :
    Canonical (s.declineIncoming c id x code).memory := by
  simp [State.declineIncoming, h]
omit h in
@[simp] theorem State.takeStaves_canonical (h : Canonical s.memory) (c id : Nat) (m : Model) (data : List Byte) (n k : Nat) :
    Canonical (s.takeStaves c id m data n k).2.memory := by
  induction n generalizing s k with
  | zero => exact h
  | succ n ih =>
    unfold State.takeStaves; simp only []; split
    · exact h
    · split
      · exact h
      · next hg => have hs := State.giveStaves_canonical h hg; (repeat' split) <;> simp [ih, hs]
@[simp] theorem State.acceptIncoming_canonical (c id : Nat) : Canonical (s.acceptIncoming c id).memory := by
  unfold State.acceptIncoming; (repeat' split) <;> simp [h]
@[simp] theorem State.caskData_canonical (c id : Nat) : Canonical (s.caskData c id).memory := by
  unfold State.caskData; (repeat' split) <;> simp [h]
@[simp] theorem State.caskStreams_canonical (k : Nat) : Canonical (s.caskStreams k).memory := 
  State.each_canonical _ (fun _ c h => State.each_canonical _ (fun _ e h => State.caskData_canonical h c e.1) h) h
@[simp] theorem State.outranked_canonical (c : Nat) (uid : Nat) : Canonical (s.outranked c uid).memory := 
  State.each_canonical _ (fun s e h => by simp [h]) h
@[simp] theorem State.offer_canonical (k : Nat) (m : CaskMsg) : Canonical (s.offer k m).memory := by
  unfold State.offer; split
  · exact h
  · split
    · split
      · exact h
      · next hm => rw [← State.takeMsg_memory hm] at h; extract_lets t; split <;> simp [t, h]
    · split
      · split
        · exact h
        · next hm => simpa [State.takeMsg_memory hm] using h
      · extract_lets early; split
        · exact h
        · split
          · exact h
          · next hm =>
            rw [← State.takeMsg_memory hm] at h; (repeat' split) <;> simp [h]
            exact fun _ => State.caskData_canonical (by simp [h]) ..
omit h in
theorem State.onCask_canonical (h : Canonical s.memory) {act : State → Nat → State} (k : Nat) (m : CaskMsg) (sub : Nat)
    (ha : ∀ s c, Canonical s.memory → Canonical (act s c).memory) : Canonical (s.onCask k m sub act).memory := by
  unfold State.onCask; split
  · exact h
  · split
    · exact h
    · next hm =>
      rw [← State.takeMsg_memory hm] at h
      split
      · simp [h]
      · split
        · simp [h]
        · exact ha _ _ (by simp [h])
omit h in
theorem State.ifLive_canonical (h : Canonical s.memory) {act : State → State} (c : Nat)
    (ha : ∀ s, Canonical s.memory → Canonical (act s).memory) : Canonical (s.ifLive c act).memory := by
  unfold State.ifLive; split
  · exact ha s h
  · exact h
@[simp] theorem State.acceptMessage_canonical (k : Nat) (m : CaskMsg) : Canonical (s.acceptMessage k m).memory :=
  State.onCask_canonical h _ _ _ fun s c h => by
  split
  · simp [h]
  · simp only []; (repeat' split) <;> simp [h]
@[simp] theorem State.declineMessage_canonical (k : Nat) (m : CaskMsg) : Canonical (s.declineMessage k m).memory := 
  State.onCask_canonical h _ _ _ fun s c h => State.ifLive_canonical h _ fun s h => by
  split
  · simp only []; (repeat' split) <;> simp [h]
  · simp [h]
@[simp] theorem State.ownCask_canonical (c id : Nat) (x : Cask) : Canonical (s.ownCask c id x).memory := by
  simp only [State.ownCask]; split <;> simp [h]
@[simp] theorem State.releaseMessage_canonical (k : Nat) (m : CaskMsg) : Canonical (s.releaseMessage k m).memory := 
  State.onCask_canonical h _ _ _ fun s c h => State.ifLive_canonical h _ fun s h => by split <;> simp [h]
@[simp] theorem State.answerMessage_canonical (k : Nat) (m : CaskMsg) : Canonical (s.answerMessage k m).memory := 
  State.onCask_canonical h _ _ _ fun s c h => State.ifLive_canonical h _ fun s h => by (repeat' split) <;> simp [h]
@[simp] theorem State.offerTimeout_canonical (c id : Nat) : Canonical (s.offerTimeout c id).memory := by
  unfold State.offerTimeout; split <;> simp [h]
@[simp] theorem State.acceptTimer_canonical (c id : Nat) : Canonical (s.acceptTimer c id).memory := by
  unfold State.acceptTimer; split <;> simp [h]
@[simp] theorem State.limboAssign_canonical (c id : Nat) : Canonical (s.limboAssign c id).memory := by
  unfold State.limboAssign; split <;> simp [h]
@[simp] theorem State.limboDiscard_canonical (c id : Nat) : Canonical (s.limboDiscard c id).memory := by
  simp [State.limboDiscard, h]
@[simp] theorem State.caskCut_canonical (c : Nat) : Canonical (s.caskCut c).memory := by
  unfold State.caskCut; split
  · exact h
  · exact State.each_canonical _ (fun s e h => by (repeat' split) <;> simp [h]) h
@[simp] theorem State.casksCut_canonical : Canonical s.casksCut.memory := 
  State.each_canonical _ (fun _ c h => State.caskCut_canonical h c) h
@[simp] theorem State.squashCasks_canonical (k : Nat) (m : SquashMsg) : Canonical (s.squashCasks k m).memory := by
  simp only [State.squashCasks]; split
  · simp [h]
  · split
    · simp [h]
    · exact State.each_canonical _ (fun s e h => by simp [h]) (by simp [h])

/-! ### Machine/Slot -/

@[simp] theorem State.slotTick_canonical (len : Rat) : Canonical (s.slotTick len).memory := by
  simp only [State.slotTick]; split <;> simp [h]
@[simp] theorem State.writeRow_canonical : Canonical s.writeRow.memory := by
  unfold State.writeRow; split
  · exact h
  · next hi => rw [← State.issueRow_memory hi] at h; simp [h]
@[simp] theorem State.harvestRow_canonical : Canonical s.harvestRow.memory := by
  unfold State.harvestRow; split
  · exact h
  · next hi => rw [← State.issueRow_memory hi] at h; simp [h]

/-! ### Machine/Acts -/

@[simp] theorem State.poolReturn_canonical (isTile : Bool) (u : Nat) (scrubOk : Bool) :
    Canonical (s.poolReturn isTile u scrubOk).memory := by
  unfold State.poolReturn; (repeat' split) <;> simp [h]

/-! ### Machine/Windows -/

@[simp] theorem State.functionReset_canonical (p : Path) : Canonical (s.functionReset p).memory := by
  simp only [State.functionReset]; (repeat' split) <;> simp [h]
@[simp] theorem State.portReset_canonical (p : HostPort) : Canonical (s.portReset_ p).memory := by
  simp only [State.portReset_, State.updHost_memory]
  exact State.each_canonical _ (fun s q h => State.functionReset_canonical h q) h
@[simp] theorem State.perst_canonical (p : HostPort) (asserted : Bool) : Canonical (s.perst p asserted).memory := by
  unfold State.perst; split <;> simp [h]

/-! ### Machine/Image -/

@[simp] theorem State.restoreImage_canonical (c : Nat) (img : CuveeImage) : Canonical (s.restoreImage c img).memory := by
  have hp : ∀ u : State, Canonical u.memory →
      Canonical (u.each ((u.cvTiles c).zipIdx.zip img.records) fun s e => s.putRecord e.1.1 c e.1.2 e.2).memory :=
    fun u h => State.each_canonical _ (fun s e h => State.putRecord_canonical h ..) h
  unfold State.restoreImage
  extract_lets objects g alm seg segment rows records
  have hobjects : objects.memory = s.memory := State.each_memory _ _ _ fun s e => by (repeat' split) <;> simp
  have hrows : rows.memory = s.memory :=
    (State.each_memory _ _ _ fun s e => by split <;> simp).trans (by simp [segment, hobjects])
  rw [State.updCuvee_memory]
  refine State.each_canonical _ (fun s e h => ?_) (hp rows (by rwa [hrows]))
  split
  · rw [State.markWritten_memory]
    exact State.setHbm_canonical h (Memory.wf_foldl _ _ (fun _ _ h => Memory.wf_writeByte _ _ h) h.1)
  · exact h
@[simp] theorem State.restored_canonical (c : Nat) (img : CuveeImage) : Canonical (s.restored c img).memory := by
  simp [State.restored, h]
@[simp] theorem State.restoreComplete_canonical (c : Nat) (v : ImageVerdict) (img : CuveeImage) :
    Canonical (s.restoreComplete c v img).memory := by
  unfold State.restoreComplete; (repeat' split) <;> simp [h]

/-! ### Machine/Security -/

@[simp] theorem State.tdiStop_canonical (p : HostPort) (vf c : Nat) : Canonical (s.tdiStop p vf c).memory := by
  simp [State.tdiStop, h]

end

/-! ### Events that carry an instant -/

@[simp] theorem State.at_memory (s : State) (t : Instant) : (s.at_ t).memory = s.memory := by unfold State.at_; split <;> rfl
@[simp] theorem State.referenceBoundary_memory (s : State) (t : Instant) : (s.referenceBoundary t).memory = s.memory := by
  simp only [State.referenceBoundary]; (repeat' split) <;> simp
@[simp] theorem State.dividedEdge_memory (s : State) (t : Instant) : (s.dividedEdge t).memory = s.memory := by
  simp only [State.dividedEdge]; (repeat' split) <;> simp
@[simp] theorem State.cadenceEdge_memory (s : State) (t : Instant) : (s.cadenceEdge t).memory = s.memory := by
  simp only [State.cadenceEdge]; (repeat' split) <;> simp
@[simp] theorem State.ptpMessage_memory (s : State) (m : PtpMsg) : (s.ptpMessage m).memory = s.memory := by
  simp only [State.ptpMessage]; (repeat' split) <;> simp
@[simp] theorem State.referenceTimeout_memory (s : State) (t : Instant) : (s.referenceTimeout t).memory = s.memory := by
  simp only [State.referenceTimeout]; (repeat' split) <;> simp
@[simp] theorem State.missedBoundary_memory (s : State) : s.missedBoundary.memory = s.memory := by
  simp only [State.missedBoundary]; (repeat' split) <;> simp
@[simp] theorem State.timeMessage_memory (s : State) (k : Nat) (m : TimeMsg) (arrival : Instant) :
    (s.timeMessage k m arrival).memory = s.memory := by
  unfold State.timeMessage; split
  · rfl
  · next hm => have hk := State.takeMsg_memory hm; simp only []; (repeat' split) <;> simp [hk]
@[simp] theorem State.jumpE_memory (s : State) : s.jumpE.memory = s.memory := rfl
@[simp] theorem State.firstLock_memory (s : State) : s.firstLock.memory = s.memory := by simp [State.firstLock]
@[simp] theorem State.beginEpoch_memory (s : State) (at_ len : Rat) : (s.beginEpoch at_ len).memory = s.memory := by
  simp [State.beginEpoch]
@[simp] theorem State.replayLimit_memory (s : State) (e : Engine) : (s.replayLimit e).memory = s.memory := by
  unfold State.replayLimit; split <;> simp
@[simp] theorem State.cadenceCommandAct_memory (s : State) (code : Nat) : (s.cadenceCommandAct code).memory = s.memory := by
  unfold State.cadenceCommandAct; split <;> simp

section
variable {s : State} (h : Canonical s.memory)
include h

/-! ### Staged writes and the ticks of estate time -/

@[simp] theorem State.quiesceLimit_canonical (sc : Scope) : Canonical (s.quiesceLimit sc).memory := by
  refine State.each_canonical _ (fun s c h => ?_) h
  (repeat' split) <;> simp [h]
@[simp] theorem State.actCommand_canonical (a : Acc) (w : ObjWrite) (x : Extra) : Canonical (s.actCommand a w x).memory := by
  simp only [State.actCommand]; (repeat' split) <;> simp [h]
@[simp] theorem State.actWrite_canonical (a : Acc) (w : ObjWrite) (x : Extra) : Canonical (s.actWrite a w x).memory := by
  unfold State.actWrite; (repeat' split) <;> simp [h]
@[simp] theorem State.actPending_canonical (p : Pending) : Canonical (s.actPending p).memory := by
  simp only [State.actPending]; split
  · simp [h]
  · rw [State.noteStage_memory]
    refine State.each_canonical _ (fun s w h => ?_) (by simpa using h)
    rw [State.endHold_memory]
    exact State.actWrite_canonical h ..
@[simp] theorem State.actDue_canonical (x : DueItem) : Canonical (s.actDue x).memory := by
  unfold State.actDue; (repeat' split) <;> simp [h]
@[simp] theorem State.actStaged_canonical : Canonical s.actStaged.memory := by
  have hd := State.each_canonical s.dueItems (fun s x h => State.actDue_canonical h x) h
  unfold State.actStaged
  rw [State.fenceBoundary_memory]
  refine State.caskBoundary_canonical ?_
  rw [State.placeBoundary_memory]
  refine State.remapBoundary_canonical ?_
  rwa [State.rebindBoundary_memory]
@[simp] theorem State.restoreObject_canonical (a : Acc) (i sub : Nat) : Canonical (s.restoreObject a i sub).memory := by
  simp only [State.restoreObject]; (repeat' split) <;> simp [h]
@[simp] theorem State.slotFire_canonical : Canonical s.slotFire.memory := by
  unfold State.slotFire; split
  · exact h
  · exact State.slotTick_canonical (by simp [h]) _
@[simp] theorem State.epochBoundary_canonical : Canonical s.epochBoundary.memory := by
  unfold State.epochBoundary; split
  · exact h
  · extract_lets at_ len ended last lock first counted begun locked swapped before every stored acted jumped now metered
    have hl : locked.memory = s.memory := by simp [locked, begun, counted]
    have hs : stored.memory = s.memory := by simp [stored, swapped, hl]
    have ha : Canonical acted.memory := by simp [acted, hs, h]
    clear_value acted
    exact State.slotTick_canonical (by simpa [metered, now, jumped] using ha) last

/-! ### Power and boot -/

omit h in
@[simp] theorem State.estateLost_canonical (s : State) : Canonical s.estateLost.memory := ⟨rfl, rfl⟩
omit h in
@[simp] theorem State.standbyLost_canonical (s : State) : Canonical s.standbyLost.memory := ⟨rfl, rfl⟩
omit h in
@[simp] theorem State.memoryReady_canonical (s : State) : Canonical s.memoryReady.memory := by
  simp [State.memoryReady, Canonical, Memory.wf, Sparse.wf, Sparse.rising]
omit h in
@[simp] theorem State.startBoot_canonical (s : State) (f : BootFindings) : Canonical (s.startBoot f).memory := by
  simp [State.startBoot]
omit h in
@[simp] theorem State.powerGone_canonical (s : State) : Canonical s.powerGone.memory := by simp [State.powerGone]
omit h in
@[simp] theorem State.warmReset_canonical (s : State) (f : BootFindings) : Canonical (s.warmReset f).memory := by
  simp [State.warmReset]
@[simp] theorem State.coldBoot_canonical (f : BootFindings) (tenthsV : Nat) : Canonical (s.coldBoot f tenthsV).memory := by
  unfold State.coldBoot; (repeat' split) <;> simp [h]
@[simp] theorem State.standbyStart_canonical (strap : Nat) : Canonical (s.standbyStart strap).memory := by
  simp only [State.standbyStart]; (repeat' split) <;> simp [h]
@[simp] theorem State.mainInputInRange_canonical : Canonical s.mainInputInRange.memory := by
  unfold State.mainInputInRange; (repeat' split) <;> simp [h]
@[simp] theorem State.mainInputFault_canonical : Canonical s.mainInputFault.memory := by
  unfold State.mainInputFault; split <;> simp [h]
@[simp] theorem State.dieSensorRead_canonical (ts : List Nat) : Canonical (s.dieSensorRead ts).memory := by
  unfold State.dieSensorRead; (repeat' split) <;> simp [h, State.thermTrip]
@[simp] theorem State.acquire_canonical : Canonical s.acquire.memory := by
  simp only [State.acquire]
  exact State.slotTick_canonical (by simpa using h) 0
@[simp] theorem State.memoryMuster_canonical : Canonical s.memoryMuster.memory := by
  unfold State.memoryMuster; split
  · exact h
  · extract_lets u v w; split
    · simpa [u] using h
    · rw [State.updBoot_memory, State.each_memory _ _ _ fun s k => by split <;> simp]
      exact State.acquire_canonical (by simp)

/-! ### Requests -/

@[simp] theorem State.acceptWrite_canonical (a : Acc) (t : ObjRef) (b : Blob) (x : Extra) :
    Canonical (s.acceptWrite a t b x).2.2.memory := by
  simp only [State.acceptWrite]; (repeat' split) <;> simp [h]
@[simp] theorem State.writeValue_canonical (a : Acc) (op : Nat) (tyOk : Bool) (t : ObjRef) (b : Blob) (x : Extra) :
    Canonical (s.writeValue a op tyOk t b x).2.2.memory := by
  unfold State.writeValue; simp only []; split
  · split
    · exact h
    · next hs =>
      split
      · rwa [State.stageWrite_memory hs]
      · exact h
  · split <;> simp [h]
@[simp] theorem State.serveObject_canonical (a : Acc) (r : Req) (t : ObjRef) (x : Extra) :
    Canonical (s.serveObject a r t x).2.memory := by
  unfold State.serveObject; simp only []; split
  case h_2 | h_3 =>
    have ha : ∀ y u, s.assemble r = (y, u) → Canonical u.memory := fun y u hu => by
      have := State.assemble_memory s r
      rw [hu] at this
      rwa [this]
    split
    · exact h
    · split
      · exact h
      · split
        case h_4 hu =>
          have := State.writeValue_canonical (ha _ _ hu) a r.op (r.ty == 255 || r.ty == t.ty) t ‹Blob› x
          split
          · rwa [State.beginJob_memory]
          · exact this
        all_goals next hu => exact ha _ _ hu
  all_goals (repeat' split) <;> simp [h]
@[simp] theorem State.serve_canonical (r : Req) (x : Extra) : Canonical (s.serve r x).2.memory := by
  simp only [State.serve]; (repeat' split) <;> simp [h]
omit h in
/-- The state that a served request leaves. -/
theorem State.canonical_of_serve {u : State} {r : Req} {x : Extra} {y : Option Reply} (h : Canonical s.memory)
    (hy : s.serve r x = (y, u)) : Canonical u.memory := by
  have := State.serve_canonical h r x
  rwa [hy] at this
@[simp] theorem State.submit_canonical (p : Path) (gen : Nat) (x : Extra) : Canonical (s.submit p gen x).memory := by
  unfold State.submit; simp only []; split
  · simp [h]
  · split
    · simp [h]
    · split <;> next hy => simpa using State.canonical_of_serve (by simpa using h) hy
@[simp] theorem State.writeReqGen_canonical (p : Path) (gen size : Nat) (aligned : Bool) (x : Extra) :
    Canonical (s.writeReqGen p gen size aligned x).memory := by
  unfold State.writeReqGen; split <;> simp [h]
@[simp] theorem State.wizor_canonical (src : Nat) (f : WizorFrame) (r : Req) (x : Extra) :
    Canonical (s.wizor src f r x).memory := by
  unfold State.wizor; split
  · exact h
  · split
    · simp [h]
    · split
      · simp [h]
      · split
        · simp [h]
        · simp only []
          split <;> next hy => simpa using State.canonical_of_serve (by simpa using h) hy
@[simp] theorem State.bar0Write_canonical (p : Path) (o size value : Nat) (x : Extra) :
    Canonical (s.bar0Write p o size value x).memory := by
  unfold State.bar0Write; split <;> simp [h]
@[simp] theorem State.accessRequest_canonical (op : Nat) (a : Access) (x : Extra) : Canonical (s.request_ op a x).memory := by
  unfold State.request_; (repeat' split) <;> simp [h]
@[simp] theorem State.plainWrite_canonical (a : Access) : Canonical (s.plainWrite a).memory := by
  simp [State.plainWrite, h]
@[simp] theorem State.commandWrite_canonical (a : Access) (i sub : Nat) (b : Blob) (x : Extra) :
    Canonical (s.commandWrite a i sub b x).memory := by
  unfold State.commandWrite; split <;> simp [h]
@[simp] theorem State.cuveeWrite_canonical (a : Access) (c : Nat) (estate view : Nat × Nat) (b : Blob) :
    Canonical (s.cuveeWrite a c estate view b).memory := by
  unfold State.cuveeWrite; (repeat' split) <;> simp [h]
@[simp] theorem State.openWith_canonical (a : Access) (digest id : Nat) : Canonical (s.openWith a digest id).memory := by
  unfold State.openWith; split <;> simp [h]
@[simp] theorem State.flashDone_canonical (ok : Bool) : Canonical (s.flashDone ok).memory := by
  unfold State.flashDone; split
  · exact h
  · simp only []; split
    · simp [h]
    · rw [State.deliver_memory]; split
      · exact h
      · exact State.each_canonical _ (fun s k h => State.restoreObject_canonical h ..) h
      · exact h
@[simp] theorem State.sessionExpiry_canonical (id : Nat) : Canonical (s.sessionExpiry id).memory := by
  unfold State.sessionExpiry; split <;> simp [h]
@[simp] theorem State.codeWrite_canonical (a : Access) (i sub n : Nat) : Canonical (s.codeWrite a i sub n).memory :=
  State.commandWrite_canonical h ..
@[simp] theorem State.cuveeCommand_canonical (a : Access) (c code : Nat) (k : CmdRec) :
    Canonical (s.cuveeCommand a c code k).memory := State.cuveeWrite_canonical h ..
@[simp] theorem State.daybookCommand_canonical (a : Access) (c code : Nat) : Canonical (s.daybookCommand a c code).memory :=
  State.cuveeWrite_canonical h ..
omit h in
@[simp] theorem State.pwrEnFall_canonical (s : State) : Canonical s.pwrEnFall.memory := by simp [State.pwrEnFall]
@[simp] theorem State.tdisp_canonical (p : HostPort) (vf : Nat) {act : State → Nat → State}
    (ha : ∀ s c, Canonical s.memory → Canonical (act s c).memory) : Canonical (s.tdisp p vf act).memory := by
  unfold State.tdisp; (repeat' split) <;> simp [ha, h]

end

/-! ### Every command -/

/-- What the next state holds, a command answers with. -/
theorem canonical_of_next {u t : State} (hu : Canonical u.memory) (ht : (.next u : Result) = .next t) : Canonical t.memory := by
  cases ht; exact hu

theorem exec_canonical {i : Instr} {s t : State} (h : Canonical s.memory) (ht : exec i s = .next t) : Canonical t.memory := by
  cases i
  case powerSample w avg v =>
    simp only [exec, execPowerSample] at ht
    split at ht <;> cases ht
    simp [h]
  case stopInterface p vf => exact canonical_of_next (State.tdisp_canonical h _ _ fun s c h => State.tdiStop_canonical h ..) ht
  all_goals exact canonical_of_next (by simp [h]) ht

/-- Settles O52: no operation that writes memory lists a zero byte, or one address out of order. -/
theorem memoryStaysCanonical : Obligations.MemoryStaysCanonical := by
  unfold Obligations.MemoryStaysCanonical
  intro s t h ht
  have hs : Canonical s.memory := s.memoryWf_iff.mp h
  refine t.memoryWf_iff.mpr ?_
  unfold step at ht; split at ht
  · cases ht; exact hs
  · next c rest _ => exact exec_canonical (s := { s with pending := rest }) hs ht

end Sys2Proof.Machine

/-! # Packets that land in a tile's store -/

namespace Sys2Proof.Machine

/-! ## Bytes of one tile's store (log 8) -/

/-- Bytes of tile t's store from offset i on, as `storePut` writes them. -/
theorem readByte_zipIdx_store_other (t off : Nat) (bs : List Byte) (i : Nat) (m : List Host.Cell) {q : Nat}
    (h : ∀ k < bs.length, q ≠ storeKey t ((off + (i + k)) % 2 ^ 20)) :
    readByte ((bs.zipIdx i).foldl (fun m e => writeByte m (storeKey t ((off + e.2) % 2 ^ 20)) e.1) m) q = readByte m q := by
  induction bs generalizing i m with
  | nil => rfl
  | cons b bs ih =>
    rw [List.zipIdx_cons, List.foldl_cons, ih, readByte_writeByte_ne]
    · simpa using h 0
    · intro k hk
      rw [show i + 1 + k = i + (k + 1) by omega]
      exact h (k + 1) (by simpa using hk)

theorem readByte_zipIdx_store (t off : Nat) (bs : List Byte) (i : Nat) (m : List Host.Cell) (hl : bs.length ≤ 2 ^ 20) {k : Nat}
    (hk : k < bs.length) :
    readByte ((bs.zipIdx i).foldl (fun m e => writeByte m (storeKey t ((off + e.2) % 2 ^ 20)) e.1) m)
      (storeKey t ((off + (i + k)) % 2 ^ 20)) = bs.getD k 0 := by
  induction bs generalizing i k m with
  | nil => simp at hk
  | cons b bs ih =>
    rw [List.length_cons] at hl hk
    rw [List.zipIdx_cons, List.foldl_cons]
    cases k with
    | zero =>
      rw [readByte_zipIdx_store_other]
      · simp
      · intro j hj
        simp only [storeKey]
        omega
    | succ k =>
      rw [show i + (k + 1) = i + 1 + k by omega, ih _ _ (by omega) (by omega)]
      simp

/-- Bytes that no written place names stay. -/
theorem readByte_storePut_other (m : List Host.Cell) (t off : Nat) (bs : List Byte) {q : Nat}
    (h : ∀ k < bs.length, q ≠ storeKey t ((off + k) % 2 ^ 20)) : readByte (storePut m t off bs) q = readByte m q :=
  readByte_zipIdx_store_other t off bs 0 m (by simpa using h)

/-- What a write puts into a store no shorter than it reads back. -/
theorem readByte_storePut (m : List Host.Cell) (t off : Nat) (bs : List Byte) (hl : bs.length ≤ 2 ^ 20) {k : Nat}
    (hk : k < bs.length) : readByte (storePut m t off bs) (storeKey t ((off + k) % 2 ^ 20)) = bs.getD k 0 := by
  simpa [storePut] using readByte_zipIdx_store t off bs 0 m hl hk

@[simp] theorem State.storeWrite_store (s : State) (t off : Nat) (bs : List Byte) :
    (s.storeWrite t off bs).mem.store = storePut s.mem.store t off bs := rfl
@[simp] theorem State.storeWrite_hbm (s : State) (t off : Nat) (bs : List Byte) :
    (s.storeWrite t off bs).mem.hbm = s.mem.hbm := rfl
@[simp] theorem State.storeWrite_tile (s : State) (t off u : Nat) (bs : List Byte) :
    (s.storeWrite t off bs).tile u = s.tile u := rfl
@[simp] theorem State.storeTraffic_mem (s : State) (t n : Nat) : (s.storeTraffic t n).mem = s.mem := by simp [State.storeTraffic]
@[simp] theorem State.storeTraffic_tile (s : State) (t n u : Nat) : (s.storeTraffic t n).tile u = s.tile u :=
  State.tile_of_tiles (by simp [State.storeTraffic]) u
@[simp] theorem State.arrive_tile (s : State) (p : Packet) (t : Nat) : (s.arrive p).tile t = s.tile t := rfl
@[simp] theorem State.progressed_mem (s : State) (t : Nat) : (s.progressed t).mem = s.mem := rfl
@[simp] theorem State.progressed_net (s : State) (t : Nat) : (s.progressed t).net = s.net := rfl

/-! ## Sums of WRITE_ADD (R166) -/

@[simp] theorem length_toBytes (n v : Nat) : (toBytes n v).length = n := by
  induction n generalizing v with
  | zero => rfl
  | succ n ih => simp [toBytes, ih]

/-- The sum of whole elements is as long as what stood there. -/
theorem length_addPayload (bf : Bool) (a b : List Byte) (h : a.length % (if bf then 2 else 4) = 0) :
    (addPayload bf a b).length = a.length := by
  simp only [addPayload, List.length_flatMap, length_toBytes, List.map_const', List.sum_replicate, List.length_range, smul_eq_mul]
  exact Nat.div_mul_cancel (Nat.dvd_of_mod_eq_zero h)

/-! ## A packet at its destination -/

/-- At most 256 bytes are in a packet (R146). -/
theorem packetOk_bytes {p : Packet} (h : packetOk p = true) : p.bytes ≤ 256 := by
  simp only [packetOk, Bool.and_eq_true, decide_eq_true_eq] at h
  omega

/-- A packet without errors goes on as it came (R146, R170). -/
theorem State.delivered_clean {s : State} {p : Packet} (ha : s.arrives p = true) (hp : packetOk p = true) (hs : p.status ≠ 1)
    (go : Bool → State → State) : s.delivered p.ty p .clean go = go false (s.arrive p) := by
  simp [State.delivered, ha, hp, State.checked, State.flitCheck, beq_false_of_ne hs]

/-- The ACK of a packet is under way (R151). -/
def State.acks (u : State) (p : Packet) : Prop := ∃ q ∈ u.net.flight, q.ty = 5 ∧ q.dst = p.src ∧ q.tag = p.tag ∧ q.src = p.dst

theorem State.answer_acks (s : State) (p : Packet) : (s.answer p 5 0 []).acks p := by
  simp only [State.acks, State.answer, State.inject, List.mem_append, List.mem_singleton]
  exact ⟨_, .inr rfl, rfl, rfl, rfl, rfl⟩

/-- The bytes bs landed at an offset of tile t's store, and every other byte of both memories is as it was. -/
structure Landed (s u : State) (t off : Nat) (bs : List Byte) : Prop where
  store : u.mem.store = storePut s.mem.store t off bs
  hbm : u.mem.hbm = s.mem.hbm

theorem Landed.inside {s u : State} {t off : Nat} {bs : List Byte} (h : Landed s u t off bs) {n : Nat} (hn : bs.length = n)
    (hl : n ≤ 256) : ∀ k < n, readByte u.mem.store (storeKey t ((off + k) % 2 ^ 20)) = bs.getD k 0 := fun k hk => by
  rw [h.store, readByte_storePut _ _ _ _ (by omega) (by omega)]

theorem Landed.outside {s u : State} {t off : Nat} {bs : List Byte} (h : Landed s u t off bs) {n : Nat} (hn : bs.length = n) :
    ∀ a, (∀ k < n, a ≠ storeKey t ((off + k) % 2 ^ 20)) → readByte u.mem.store a = readByte s.mem.store a := fun a ha => by
  rw [h.store, readByte_storePut_other _ _ _ _ (by rwa [hn])]

theorem State.trellisWrite_lands {s : State} {p : Packet} (ha : s.arrives p = true) (hp : packetOk p = true) (hs : p.status ≠ 1)
    (hd : epKind p.dst = 0) (hty : p.ty = 2) :
    Landed s (s.trellisWrite p .clean) p.dst (p.addr % 2 ^ 20) p.data ∧ (s.trellisWrite p .clean).acks p := by
  unfold State.trellisWrite
  rw [← hty, State.delivered_clean ha hp hs]
  simp only [hd]
  exact ⟨⟨by simp, by simp⟩, State.answer_acks ..⟩

theorem State.mcastWrite_lands {s : State} {p : Packet} (ha : s.arrives p = true) (hp : packetOk p = true) (hs : p.status ≠ 1)
    (hty : p.ty = 7) :
    Landed s (s.mcastWrite p .clean) p.dst (p.addr % 2 ^ 20) p.data ∧ (s.mcastWrite p .clean).acks p := by
  unfold State.mcastWrite
  rw [← hty, State.delivered_clean ha hp hs]
  exact ⟨⟨by simp, by simp⟩, State.answer_acks ..⟩

theorem State.writeAdd_lands {s : State} {p : Packet} (ha : s.arrives p = true) (hp : packetOk p = true) (hs : p.status ≠ 1)
    (hd : epKind p.dst = 0) (hal : addAligned p = true) :
    Landed s (s.writeAdd p.ty none p .clean) p.dst (p.addr % 2 ^ 20)
        (addPayload (p.ty == 4) (toBytes p.bytes (s.storeNat p.dst (p.addr % 2 ^ 20) p.bytes)) p.data) ∧
      (s.writeAdd p.ty none p .clean).acks p := by
  have hf : s.inFlight p = true := by
    simp only [State.arrives, Bool.and_eq_true] at ha
    exact ha.1.2
  unfold State.writeAdd
  rw [if_neg (by simp [hf]), if_neg (by simp [hp, hal])]
  simp only [State.delivered_clean ha hp hs, State.landAdd, if_neg (not_not.mpr hd)]
  exact ⟨⟨by simp [State.storeNat], by simp⟩, State.answer_acks ..⟩

theorem State.readData_lands {s : State} {p : Packet} {o : Xfer} (ha : s.arrives p = true) (hp : packetOk p = true)
    (hs : p.status ≠ 1) (hty : p.ty = 1) (ho : (s.tile p.dst).out.find? (fun x => x.isGet && x.tag == p.tag) = some o) :
    Landed s (s.readData p .clean) p.dst o.local_ p.data ∧
      ((s.readData p .clean).tile p.dst).out = (s.tile p.dst).out.erase o := by
  unfold State.readData
  rw [← hty, State.delivered_clean ha hp hs]
  simp only [State.arrive_tile, ho]
  exact ⟨⟨by simp, by simp⟩, by simp [State.progressed]⟩

/-- Settles O32. -/
theorem packetsLandInTileStores : Obligations.PacketsLandInTileStores := by
  unfold Obligations.PacketsLandInTileStores
  intro s p ha hp hd hs hb
  have hk : epKind p.dst = 0 := by simp [epKind, bits]; omega
  have hl := packetOk_bytes hp
  refine ⟨fun i hi => ?_, fun i hi ho hm => ?_, fun o hty ho => ?_⟩
  · rcases hi with ⟨rfl, hty⟩ | ⟨rfl, hty⟩
    · obtain ⟨hw, hq⟩ := State.trellisWrite_lands ha hp hs hk hty
      exact ⟨_, rfl, hw.inside hb hl, hw.outside hb, hw.hbm, hq⟩
    · obtain ⟨hw, hq⟩ := State.mcastWrite_lands ha hp hs hty
      exact ⟨_, rfl, hw.inside hb hl, hw.outside hb, hw.hbm, hq⟩
  · have hal : addAligned p = true := by simp [addAligned, ho, hm]
    obtain ⟨hw, hq⟩ := State.writeAdd_lands ha hp hs hk hal
    have hn : (addPayload (p.ty == 4) (toBytes p.bytes (s.storeNat p.dst (p.addr % 2 ^ 20) p.bytes)) p.data).length = p.bytes := by
      rw [length_addPayload, length_toBytes]
      rcases hi with ⟨-, hty⟩ | ⟨-, hty⟩ <;> simpa [hty] using hm
    rcases hi with ⟨rfl, hty⟩ | ⟨rfl, hty⟩ <;>
    · refine ⟨s.writeAdd p.ty none p .clean, by rw [hty]; rfl, hw.inside hn hl, hw.outside hn, hw.hbm, hq⟩
  · obtain ⟨hw, hq⟩ := State.readData_lands ha hp hs hty ho
    exact ⟨_, rfl, hw.inside hb hl, hw.outside hb, hw.hbm, hq⟩

end Sys2Proof.Machine

/-! # What stands beside the tiles' own work -/

namespace Sys2Proof.Machine

/-- What stands while memory is read and written, translations are made, and counters, records and faults are kept: the
almanac, the tiles, the flits sent up the tree and the walks under way. -/
def State.still (s : State) : AlmanacSt × Sparse Tile × List TendrilFlit × List (Nat × Nat × Nat × Nat × Bool × Issue) :=
  (s.alm, s.tiles, s.net.tendril, s.mem.walks)

@[simp] theorem State.still_mk (a b c d e f g h i j k l m n o p q r t u v w) :
    (State.mk a b c d e f g h i j k l m n o p q r t u v w).still = (g, i, j.tendril, k.walks) := by simp [State.still]
@[simp] theorem State.still_eta (s : State) : (s.alm, s.tiles, s.net.tendril, s.mem.walks) = s.still := rfl
@[simp] theorem State.still_ite (p : Prop) [Decidable p] (s t : State) :
    (if p then s else t).still = if p then s.still else t.still := apply_ite ..
@[simp] theorem State.each_still {α : Type} (s : State) (l : List α) (f : State → α → State)
    (hf : ∀ s x, (f s x).still = s.still) : (s.each l f).still = s.still := State.each_frame State.still f l s hf

theorem State.still_tiles {s u : State} (h : u.still = s.still) : u.tiles = s.tiles := (Prod.mk.inj (Prod.mk.inj h).2).1
theorem State.still_alm {s u : State} (h : u.still = s.still) : u.alm = s.alm := (Prod.mk.inj h).1
theorem State.still_tendril {s u : State} (h : u.still = s.still) : u.net.tendril = s.net.tendril :=
  (Prod.mk.inj (Prod.mk.inj (Prod.mk.inj h).2).2).1
theorem State.still_walks {s u : State} (h : u.still = s.still) : u.mem.walks = s.mem.walks :=
  (Prod.mk.inj (Prod.mk.inj (Prod.mk.inj h).2).2).2
theorem State.still_tile {s u : State} (h : u.still = s.still) (t : Nat) : u.tile t = s.tile t :=
  State.tile_of_tiles (State.still_tiles h) t

@[simp] theorem State.setCuvee_still (s : State) (c : Nat) (x : Cuvee) : (s.setCuvee c x).still = s.still := by
  simp [State.setCuvee]
@[simp] theorem State.updCuvee_still (s : State) (c : Nat) (f : Cuvee → Cuvee) : (s.updCuvee c f).still = s.still := by
  simp [State.updCuvee]
@[simp] theorem State.updPc_still (s : State) (k : Nat) (f : Pc → Pc) : (s.updPc k f).still = s.still := by simp [State.updPc]
@[simp] theorem State.updParcel_still (s : State) (p : Nat) (f : ParcelSt → ParcelSt) : (s.updParcel p f).still = s.still := by
  simp [State.updParcel]
@[simp] theorem State.updHost_still (s : State) (p : HostPort) (f : HostSt → HostSt) : (s.updHost p f).still = s.still := by
  unfold State.updHost; split <;> simp
@[simp] theorem State.fresh_still (s : State) : s.fresh.2.still = s.still := by simp [State.fresh]
@[simp] theorem State.setHbm_still (s : State) (m : List Host.Cell) : (s.setHbm m).still = s.still := by simp [State.setHbm]
@[simp] theorem State.markWritten_still (s : State) (k : Nat) (rs : List Nat) : (s.markWritten k rs).still = s.still := by
  simp [State.markWritten]
@[simp] theorem State.hbmWrite_still (s : State) (k off : Nat) (bs : List Byte) : (s.hbmWrite k off bs).still = s.still := by
  simp [State.hbmWrite]
@[simp] theorem State.count_still (s : State) (key n : Nat) : (s.count key n).still = s.still := by simp [State.count]
@[simp] theorem State.tally_still (s : State) (c k n : Nat) : (s.tally c k n).still = s.still := by simp [State.tally]
@[simp] theorem State.hostWrite_still (s : State) (p : HostPort) (fn addr : Nat) (bs : List Byte) (noSnoop : Bool)
    (tee : Option Nat) : (s.hostWrite p fn addr bs noSnoop tee).still = s.still := by
  simp [State.hostWrite]
@[simp] theorem State.inject_still (s : State) (p : Packet) : (s.inject p).still = s.still := by simp [State.inject]
@[simp] theorem State.signal_still (s : State) (kind payload : Nat) : (s.signal kind payload).still = s.still := by
  simp [State.signal]
@[simp] theorem State.setBook_still (s : State) (c : Nat) (b : Daybook) : (s.setBook c b).still = s.still := by
  simp [State.setBook]
@[simp] theorem State.bookTrigger_still (s : State) (c src : Nat) (tag : Nat) : (s.bookTrigger c src tag).still = s.still := by
  simp [State.bookTrigger]
@[simp] theorem State.bookOffer_still (s : State) (c : Nat) (recs : List Nat) : (s.bookOffer c recs).still = s.still := by
  simp [State.bookOffer]
@[simp] theorem State.daybook_still (s : State) (c kind engine unit code tag arg0 arg1 arg2 : Nat) :
    (s.daybook c kind engine unit code tag arg0 arg1 arg2).still = s.still := by
  simp [State.daybook]
@[simp] theorem State.logEstate_still (s : State) (b : Blob) : (s.logEstate b).still = s.still := by simp [State.logEstate]
@[simp] theorem State.logCuvee_still (s : State) (c kind cls flags unit arg0 arg1 detail : Nat) (tileUnit : Bool) :
    (s.logCuvee c kind cls flags unit arg0 arg1 detail tileUnit).still = s.still := by
  simp [State.logCuvee]
@[simp] theorem State.containedFault_still (s : State) (c kind cls unit arg0 arg1 detail : Nat) (tileUnit : Bool) :
    (s.containedFault c kind cls unit arg0 arg1 detail tileUnit).still = s.still := by
  simp [State.containedFault]
@[simp] theorem State.plainFault_still (s : State) (c kind cls unit arg0 arg1 detail : Nat) :
    (s.plainFault c kind cls unit arg0 arg1 detail).still = s.still := by
  simp [State.plainFault]
@[simp] theorem State.roundOpen_still (s : State) (x : Rat) : (s.roundOpen x).2.still = s.still := by simp [State.roundOpen]
@[simp] theorem State.unpoison_still (s : State) (k off n : Nat) : (s.unpoison k off n).still = s.still := by simp [State.unpoison]
@[simp] theorem State.touchLine_still (s : State) (k line c mask policy sectors : Nat) (write : Bool) :
    (s.touchLine k line c mask policy sectors write).2.still = s.still := by
  simp only [State.touchLine]; (repeat' split) <;> simp
@[simp] theorem State.memTraffic_still (s : State) (k off n c label policy : Nat) (write : Bool) :
    (s.memTraffic k off n c label policy write).still = s.still := by
  simp [State.memTraffic]
@[simp] theorem State.latencySample_still (s : State) (p l sample : Nat) : (s.latencySample p l sample).still = s.still := by
  simp [State.latencySample]
@[simp] theorem State.openSample_still (s : State) (k l : Nat) : (s.openSample k l).still = s.still := by simp [State.openSample]
@[simp] theorem State.walkCounted_still (s : State) (c va k : Nat) : (s.walkCounted c va k).2.still = s.still := by
  simp [State.walkCounted]
@[simp] theorem State.fillUnit_still (s : State) (c p key value : Nat) : (s.fillUnit c p key value).still = s.still := by
  simp [State.fillUnit]
@[simp] theorem State.countXFault_still (s : State) (c : Nat) : (s.countXFault c).still = s.still := by simp [State.countXFault]
@[simp] theorem State.resolved_still (c va len label : Nat) (write : Bool) (r : Except Nat Leaf × State) :
    (State.resolved c va len label write r).2.still = r.2.still := by
  unfold State.resolved; (repeat' split) <;> simp
@[simp] theorem State.translate_still (s : State) (c va len label : Nat) (write : Bool) :
    (s.translate c va len label write).2.still = s.still := by
  simp [State.translate]
@[simp] theorem State.hostTraffic_still (s : State) (c n : Nat) : (s.hostTraffic c n).still = s.still := by
  simp [State.hostTraffic]
@[simp] theorem State.memRead_still (s : State) (k off n c label policy : Nat) :
    (s.memRead k off n c label policy).2.2.still = s.still := by
  simp [State.memRead]
@[simp] theorem State.memWrite_still (s : State) (k off : Nat) (bs : List Byte) (c label policy : Nat) :
    (s.memWrite k off bs c label policy).still = s.still := by
  simp [State.memWrite]
@[simp] theorem State.vaWriteChunks_still (s : State) (c label : Nat) (l : List (Nat × Nat)) (bs : List Byte) :
    (s.vaWriteChunks c label l bs).2.still = s.still := by
  induction l generalizing s bs with
  | nil => rfl
  | cons e rest ih => unfold State.vaWriteChunks; simp only []; (repeat' split) <;> simp [ih]
@[simp] theorem State.vaWrite_still (s : State) (c va : Nat) (bs : List Byte) (label : Nat) :
    (s.vaWrite c va bs label).2.still = s.still := by
  simp [State.vaWrite]
@[simp] theorem State.poisonRead_still (s : State) (c va : Nat) : (s.poisonRead c va).still = s.still := by simp [State.poisonRead]
@[simp] theorem State.vaReadChunks_still (s : State) (c label : Nat) (l : List (Nat × Nat)) (bs : List Byte) :
    (s.vaReadChunks c label l bs).2.still = s.still := by
  induction l generalizing s bs with
  | nil => rfl
  | cons e rest ih => unfold State.vaReadChunks; simp only []; (repeat' split) <;> simp [ih]
@[simp] theorem State.vaRead_still (s : State) (c va n label : Nat) (ext : List Byte) :
    (s.vaRead c va n label ext).2.still = s.still := by
  simp [State.vaRead]
@[simp] theorem State.storeTraffic_still (s : State) (t n : Nat) : (s.storeTraffic t n).still = s.still := by
  simp [State.storeTraffic]
@[simp] theorem State.updRing_still (s : State) (c k : Nat) (f : Ring → Ring) : (s.updRing c k f).still = s.still := by
  simp [State.updRing]
@[simp] theorem State.ringError_still (s : State) (c k which value : Nat) : (s.ringError c k which value).still = s.still := by
  simp [State.ringError]
@[simp] theorem State.ringFault_still (s : State) (c k which : Nat) (f : XFault) : (s.ringFault c k which f).still = s.still := by
  simp [State.ringFault]
@[simp] theorem State.complete_still (s : State) (c : Nat) (j : Job) (result flags outBytes units cask : Nat) :
    (s.complete c j result flags outBytes units cask).still = s.still := by
  simp [State.complete]
@[simp] theorem State.completeJob_still (s : State) (c : Nat) (j : Job) (result : Nat) (units : Nat) (cask : Nat) :
    (s.completeJob c j result units cask).still = s.still := by
  simp [State.completeJob]
@[simp] theorem State.account_still (s : State) (c client : Nat) (f : Nat × Nat × Nat → Nat × Nat × Nat) :
    (s.account c client f).still = s.still := by
  simp [State.account]
@[simp] theorem State.writeCompletion_still (s : State) (c k : Nat) (b : Blob) : (s.writeCompletion c k b).2.still = s.still := by
  simp only [State.writeCompletion]; (repeat' split) <;> simp
@[simp] theorem State.writeReady_still (c k : Nat) (n : Nat) (s : State) : (State.writeReady c k n s).still = s.still := by
  induction n generalizing s with
  | zero => rfl
  | succ n ih => unfold State.writeReady; simp only []; (repeat' split) <;> simp [ih]
@[simp] theorem State.writeCq_still (s : State) (c k : Nat) : (s.writeCq c k).still = s.still := by simp [State.writeCq]
@[simp] theorem State.updServing_still (s : State) (c : Nat) (f : Serving → Serving) : (s.updServing c f).still = s.still := by
  simp [State.updServing]
@[simp] theorem State.takeEntry_still (s : State) (c pair pos : Nat) (e : Blob) : (s.takeEntry c pair pos e).still = s.still := by
  simp [State.takeEntry]
@[simp] theorem State.fetchEntries_still (c k : Nat) (n : Nat) (l : List SqEntry) (s : State) :
    (State.fetchEntries c k n l s).still = s.still := by
  induction n generalizing s l with
  | zero => rfl
  | succ n ih => unfold State.fetchEntries; simp only []; (repeat' split) <;> simp [ih]
@[simp] theorem State.fetchSq_still (s : State) (c k limit : Nat) (ext : List SqEntry) :
    (s.fetchSq c k limit ext).still = s.still := by
  simp [State.fetchSq]

end Sys2Proof.Machine

/-! # A transfer issue and the end of a walk -/

namespace Sys2Proof.Machine

/-! ## A packet that leaves -/

@[simp] theorem State.inject_flight (s : State) (p : Packet) : (s.inject p).net.flight = s.net.flight ++ [s.stamped p] := by
  simp [State.inject]
@[simp] theorem State.inject_tile (s : State) (p : Packet) (t : Nat) : (s.inject p).tile t = s.tile t :=
  State.tile_of_tiles (by simp) t

/-- The issues that wait at tile t and the packets under way. -/
def State.sendings (s : State) (t : Nat) : List Issue × List Packet := ((s.tile t).queue, s.net.flight)

@[simp] theorem State.updTile_sendings (s : State) (t : Nat) {f : Tile → Tile} (hf : ∀ x, (f x).queue = x.queue) :
    (s.updTile t f).sendings t = s.sendings t := by simp [State.sendings, hf]
@[simp] theorem State.storeTraffic_sendings (s : State) (t n : Nat) : (s.storeTraffic t n).sendings t = s.sendings t := by
  simp [State.sendings]; simp [State.storeTraffic]
/-- The statistics unit only counts what passes it (R421). -/
@[simp] theorem State.watchPacket_sendings (s : State) (t row : Nat) (first : Bool) (bs : List Byte) :
    (s.watchPacket t row first bs).sendings t = s.sendings t :=
  State.each_frame (State.sendings · t) _ _ _ fun _ _ => rfl

/-- A packet that was sent is outstanding, and nothing else of what waits or is under way changes. -/
@[simp] theorem State.noteSent_sendings (s : State) (t : Nat) (q : Issue) (x : Xfer) (bs : List Byte) :
    (s.noteSent t q x bs).sendings t = s.sendings t := by
  simp only [State.noteSent]; (repeat' split) <;> simp

/-- The packet that an issue of one packet sends to a tile of the cuvee (R149). -/
def State.tilePacket (s : State) (t : Nat) (q : Issue) (r : Nat) : Packet :=
  { s.issuePacket t r (xrAddr r q.n q.m % (2 ^ 20 : Nat)).toNat (xrBytes r) (xrLocal r q.n % (2 ^ 20 : Nat)).toNat
      ((s.tile t).freeTag (xrOp r == 0)) (xrLabel r) true with
    dst := (s.cvTiles (s.tile t).cuvee).getD (bits r 42 32) t, addr := (xrAddr r q.n q.m % (2 ^ 20 : Nat)).toNat }

/-- An issue to a tile with room in flight goes out as it is asked for (R109). -/
theorem State.sendTile_sends {s : State} {t r off n l : Nat} {last : Bool} (q : Issue)
    (hw : (s.tile t).towards ((s.cvTiles (s.tile t).cuvee).getD (bits r 42 32) t) < 4) :
    ∃ u, s.sendTile t q r off n l last = (.sent, u) ∧ u.sendings t = ((s.tile t).queue, s.net.flight ++ [s.stamped
      { s.issuePacket t r off n l ((s.tile t).freeTag (xrOp r == 0)) (xrLabel r) last with
        dst := (s.cvTiles (s.tile t).cuvee).getD (bits r 42 32) t, addr := off }]) := by
  unfold State.sendTile
  simp only [if_neg (Nat.not_le.mpr hw)]
  refine ⟨_, rfl, ?_⟩
  rw [State.noteSent_sendings]
  simp [State.sendings]

theorem State.sendIssue_tile {s : State} {t r f : Nat} {q : Issue} (hq : (s.tile t).queue = [q]) (hsent : q.sent = 0)
    (hr : r = (s.tile t).rows.getD q.row 0) (hx : (s.tile t).xfault = none) (htg : xrTarget r = 1) (hb : 0 < xrBytes r)
    (hfit : (xrAddr r q.n q.m % (2 ^ 20 : Nat)).toNat % 256 + xrBytes r ≤ 256) (hin : (s.tile t).inFlight (xrOp r == 0) < 192)
    (hw : (s.tile t).towards ((s.cvTiles (s.tile t).cuvee).getD (bits r 42 32) t) < 4) :
    (State.sendIssue t (f + 1) s).sendings t = ([], s.net.flight ++ [s.stamped (s.tilePacket t q r)]) := by
  have ha : (xrAddr r q.n q.m % (2 ^ 20 : Nat)).toNat < 2 ^ 20 := by omega
  have hl : (xrLocal r q.n % (2 ^ 20 : Nat)).toNat < 2 ^ 20 := by omega
  have hn : min (xrBytes r) (256 - (xrAddr r q.n q.m % (2 ^ 20 : Nat)).toNat % 256) = xrBytes r := by omega
  obtain ⟨u, hu, hs⟩ := State.sendTile_sends (s := s) (t := t) (r := r) (off := (xrAddr r q.n q.m % (2 ^ 20 : Nat)).toNat)
    (n := xrBytes r) (l := (xrLocal r q.n % (2 ^ 20 : Nat)).toNat) (last := true) q hw
  unfold State.sendIssue
  simp only [hq, ← hr, hx, hsent, htg, one_ne_zero, if_false, Nat.add_zero, Nat.sub_zero, Nat.zero_add, Nat.mod_eq_of_lt ha,
    Nat.mod_eq_of_lt hl, hn, Option.isSome_none, Bool.false_or, decide_eq_true_eq, Nat.not_le.mpr hb, Nat.not_le.mpr hin,
    le_refl, decide_true, if_true, hu]
  have hf := congrArg Prod.snd hs
  simp only [State.sendings] at hf ⊢
  rw [State.tile_updTile, State.updTile_net, hf]
  rfl

/-! ## The end of a walk -/

@[simp] theorem State.fillBoth_walks (s : State) (t va : Nat) (lf : Leaf) : (s.fillBoth t va lf).mem.walks = s.mem.walks := by
  simp [State.fillBoth, State.fillMicro, State.still_walks (State.fillUnit_still s _ _ _ _)]

/-- A walk that ends is under way no more. -/
theorem State.walkDone_walks {s : State} {id c t va : Nat} {w : Bool} {q : Issue} (bad : Bool)
    (hw : s.mem.walks.find? (fun e => e.1 == id) = some (id, c, t, va, w, q)) :
    (s.walkDone id bad).mem.walks = s.mem.walks.filter fun e => e.1 != id := by
  have hk : ∀ u : State, ((u.walkCounted c va 0).2).mem.walks = u.mem.walks := fun u =>
    State.still_walks (State.walkCounted_still u c va 0)
  unfold State.walkDone
  simp only [hw]
  (repeat' split) <;> simp [hk, State.countXFault]

/-- A poisoned leaf leaves its fault to the tile whose issue asked for the walk (R225). -/
theorem State.walkDone_poisoned {s : State} {id c t va : Nat} {w : Bool} {q : Issue}
    (hw : s.mem.walks.find? (fun e => e.1 == id) = some (id, c, t, va, w, q)) (hc : (s.tile t).cuvee = c)
    (hq : (s.tile t).queue.head?.map Issue.entry = some q.entry) :
    ((s.walkDone id true).tile t).xfault = some ⟨7, va⟩ ∧ ((s.walkDone id true).tile t).queue = [] := by
  have ht : ∀ u : State, u.tiles = s.tiles → ((u.walkCounted c va 0).2.countXFault c).tile t = s.tile t := fun u hu =>
    State.tile_of_tiles ((State.still_tiles (by simp)).trans hu) t
  unfold State.walkDone; split
  · next hn => rw [hw] at hn; cases hn
  · next he =>
    cases hw.symm.trans he
    extract_lets mem u r fault
    have hu : (u.tile t).cuvee = c := hc
    have hv : (r.2.countXFault c).tile t = s.tile t := ht u rfl
    rw [if_neg (not_not.mpr hu), if_pos rfl]
    simp only [fault, hv, hq, if_true]
    simp

/-- Settles O31. -/
theorem transferAndWalk : Obligations.TransferAndWalk := by
  unfold Obligations.TransferAndWalk
  refine ⟨fun s t r q hq hsent hr ha hm hx htg hb hfit hin hw => ?_, fun s id c t va w bad q hw => ?_⟩
  · have hs := State.sendIssue_tile (f := xrBytes r / 64 + 1) hq hsent hr hx htg hb hfit hin hw
    obtain ⟨hq', hf⟩ := Prod.mk.inj hs
    refine ⟨_, _, ?_, hq', hf, rfl, rfl, rfl, rfl, rfl, by simp [State.stamped, State.tilePacket, State.issuePacket, htg]⟩
    change Host.Outcome.next (s.transferIssue t) = _
    unfold State.transferIssue
    simp only [hq, ← hr, ha, hm, decide_false, Bool.not_true, Bool.or_false, ]
    rfl
  · refine ⟨_, rfl, ?_, fun hb hc hq => ?_⟩
    · rw [State.walkDone_walks bad hw]
      simp
    · subst hb
      exact State.walkDone_poisoned hw hc hq

end Sys2Proof.Machine

/-! # Events inside a tile and the end of an entry -/

namespace Sys2Proof.Machine

/-- What a tile keeps of its banks while their contents change: which one fills, and the swaps that are due. -/
def Tile.banking (x : Tile) : Nat × Nat := (x.fill1, x.path.swapDue)

theorem Tile.foldl_banking {α : Type} (f : Tile → α → Tile) (l : List α) (x : Tile) (hf : ∀ x a, (f x a).banking = x.banking) :
    (l.foldl f x).banking = x.banking := by
  induction l generalizing x with
  | nil => rfl
  | cons a l ih => exact (ih _).trans (hf x a)

theorem Tile.initBank_banking (x : Tile) (k : Nat) : (x.initBank k).banking = x.banking := by
  simp only [Tile.initBank]; split <;> rfl

theorem Tile.convert_banking (x : Tile) (step : Word64 → Word64) (k : Nat) (l : List Word32) (n : Nat) :
    (x.convert step k l n).2.banking = x.banking := by
  rfl

theorem Tile.drainRows_banking (x : Tile) (step : Word64 → Word64) (k : Nat) : (x.drainRows step k).2.banking = x.banking := by
  unfold Tile.drainRows
  suffices h : ∀ (l : List Nat) (a : List Blob × Tile), (l.foldl (fun (acc : List Blob × Tile) r =>
      let q := acc.2.convert step k ((List.range 8).map fun c => (acc.2.drainBank k).getD (64 * k + 8 * r + c) 0) 255
      (acc.1 ++ [q.1], q.2)) a).2.banking = a.2.banking from h _ _
  intro l
  induction l with
  | nil => exact fun _ => rfl
  | cons r l ih => exact fun a => (ih _).trans (a.2.convert_banking ..)

theorem Tile.flushChain_banking (x : Tile) (d i : Nat) : (x.flushChain d i).banking = x.banking := by
  simp only [Tile.flushChain]; split <;> rfl

theorem Tile.drain_banking (x : Tile) (step : Word64 → Word64) (mask : Nat) : (x.drain step mask).banking = x.banking := by
  simp only [Tile.drain]
  refine (Tile.foldl_banking _ _ _ fun x d => Tile.foldl_banking _ _ _ fun x i => x.flushChain_banking d i).trans ?_
  refine Tile.foldl_banking _ _ _ fun x k => ?_
  have hq : ((x.drainRows step k).2.fill1, (x.drainRows step k).2.path.swapDue) = x.banking := x.drainRows_banking step k
  generalize x.drainRows step k = q at hq ⊢
  split
  · rfl
  · exact hq

/-- The banks of a bit map change roles, whatever they are initialised to (R95). -/
theorem Tile.swapBanks_banking (x : Tile) (mask : Nat) : (x.swapBanks mask).banking = (x.fill1 ^^^ mask, x.path.swapDue) :=
  Tile.foldl_banking _ _ _ Tile.initBank_banking

theorem State.openBanks_banking (s : State) (t : Nat) (ks : List Nat) :
    ((s.openBanks t ks).tile t).banking = (s.tile t).banking := by
  refine State.each_frame (fun s : State => (s.tile t).banking) _ _ _ fun s k => ?_
  refine State.each_frame (fun s : State => (s.tile t).banking) _ _ _ fun s q => ?_
  simp only [State.tile_updTile]
  split <;> rfl

/-- A swap that is due, once the draining banks are released, exchanges the roles of its cells' banks (R101). -/
theorem State.accumulatorSwap_swaps {s : State} {t : Nat} (ha : (s.tile t).act = .running) (he : (s.tile t).inEntry = true)
    (hm : (s.tile t).path.swapDue ≠ 0) (hd : ((s.tile t).path.draining ||| (s.tile t).undrained) &&& (s.tile t).path.swapDue = 0) :
    ∃ u : State, s.accumulatorSwap t = u.runOn t ∧ (u.tile t).banking = ((s.tile t).fill1 ^^^ (s.tile t).path.swapDue, 0) := by
  unfold State.accumulatorSwap
  extract_lets x m en u y later path z
  rw [if_neg (by simp [x, m, ha, he, hm, hd])]
  refine ⟨_, rfl, ?_⟩
  have hy : y.fill1 = (s.tile t).fill1 ^^^ (s.tile t).path.swapDue := by
    have h := congrArg Prod.fst ((u.tile t).swapBanks_banking m)
    rw [show (u.tile t).fill1 = (s.tile t).fill1 from congrArg Prod.fst (s.openBanks_banking t _)] at h
    exact h
  have hz : z.banking = ((s.tile t).fill1 ^^^ (s.tile t).path.swapDue, 0) := by simp [Tile.banking, z, hy]
  clear_value z
  rw [← hz, ← Tile.drain_banking z rngStep (m &&& (m ^^^ later))]
  generalize z.drain rngStep _ = d
  simp [State.progressed, Tile.banking]

/-! ## The end of a plane load (R90, R111) -/

@[simp] theorem State.daybook_tendril (s : State) (c kind engine unit code tag a0 a1 a2 : Nat) :
    (s.daybook c kind engine unit code tag a0 a1 a2).net.tendril = s.net.tendril := State.still_tendril (State.daybook_still ..)

/-- A row's END changes nothing of the tiles, the issue queue or the flits sent up the tree. -/
theorem State.workDone_frame (s : State) (w : Watch) : (s.workDone w).tiles = s.tiles ∧
    (s.workDone w).alm.issue = s.alm.issue ∧ (s.workDone w).net.tendril = s.net.tendril :=
  ⟨State.daybook_tiles .., by simp [State.workDone], by simp [State.workDone]⟩

theorem State.loadsDone_frame (s : State) (c : Nat) :
    (s.loadsDone c).tiles = s.tiles ∧ (s.loadsDone c).alm.issue = s.alm.issue := by
  constructor
  · exact State.each_frame State.tiles _ _ _ fun u w => by simp only []; split; exacts [rfl, (u.workDone_frame w).1]
  · exact State.each_frame (fun u : State => u.alm.issue) _ _ _ fun u w => by
      simp only []; split; exacts [rfl, (u.workDone_frame w).2.1]

/-- The shadow plane holds the image, and the load that waited is under way. -/
theorem State.planeLoadDone_fills {s : State} {t img : Nat} (h : (s.tile t).load = some img) :
    ((s.planeLoadDone t).tile t).load = (s.tile t).loadNext ∧ ((s.planeLoadDone t).tile t).loadNext = none ∧
      ((s.planeLoadDone t).tile t).activeP1 = (s.tile t).activeP1 ∧
      (if (s.tile t).activeP1 then
        ((s.planeLoadDone t).tile t).cells.plane0 = s.planeImage t img ∧
          ((s.planeLoadDone t).tile t).cells.plane1 = (s.tile t).cells.plane1
      else ((s.planeLoadDone t).tile t).cells.plane1 = s.planeImage t img ∧
          ((s.planeLoadDone t).tile t).cells.plane0 = (s.tile t).cells.plane0) := by
  unfold State.planeLoadDone
  simp only [h]
  rw [State.tile_of_tiles ((State.tally_tiles ..).trans (State.tally_tiles ..))]
  generalize hi : s.planeImage t img = ws
  cases hp : (s.tile t).activeP1 <;> simp [State.loadInto, hi, hp]

/-! ## Triggers (R97) -/

/-- The programs of the cells listed begin. -/
theorem find_foldl_insert_zero (l : List Nat) (m : Sparse Nat) {k : Nat} (h : k ∈ l ∨ m.find k = some 0) :
    (l.foldl (fun (p : Sparse Nat) k => p.insert k 0) m).find k = some 0 := by
  induction l generalizing m with
  | nil => exact h.resolve_left List.not_mem_nil
  | cons j l ih =>
    refine ih _ ?_
    by_cases hj : k = j
    · exact .inr (by rw [hj, Sparse.find_insert_self])
    · rw [Sparse.find_insert_ne _ _ hj]
      exact h.imp_left fun hk => (List.mem_cons.mp hk).resolve_left hj

theorem State.vectorTrigger_begins {s : State} {t m : Nat} {l : List Nat} (ha : (s.tile t).act = .running)
    (he : (s.tile t).inEntry = true) (hm : (s.tile t).path.trig = m :: l) :
    ∃ u : State, s.vectorTrigger t =
        (((u.pump t (s.tile t).cur).releaseDrains t (s.tile t).cur).progressed t).runOn t ∧
      ∀ k ∈ cellsOf m, (s.tile t).path.prog.find k = none → (u.tile t).path.prog.find k = some 0 := by
  unfold State.vectorTrigger
  simp only [hm]
  rw [if_neg (by simp [ha, he])]
  refine ⟨_, rfl, fun k hk hf => ?_⟩
  rw [State.tile_updTile]
  exact find_foldl_insert_zero _ _ (.inl (List.mem_filter.mpr ⟨hk, by simp [hf]⟩))

/-! ## The end of an entry (R110, R178) -/

@[simp] theorem State.watchEnd_still (s : State) (t : Nat) : (s.watchEnd t).still = s.still := State.each_still _ _ _ fun s w => by
  simp only []; (repeat' split) <;> simp

theorem State.groupsDone_tendril (s : State) (c : Nat) : (s.groupsDone c).net.tendril = s.net.tendril :=
  State.each_frame (fun u : State => u.net.tendril) _ _ _ fun u w => by split; exacts [rfl, (u.workDone_frame w).2.2]

/-- A run that ends leaves its tile IDLE and sends nothing up the tree. -/
theorem State.endRun_frame (s : State) (t : Nat) : ((s.endRun t).tile t).act = .idle ∧
    ((s.endRun t).tile t).completing = (s.tile t).completing ∧ (s.endRun t).net.tendril = s.net.tendril := by
  unfold State.endRun
  extract_lets x u v w
  have hv : v.still = s.still := by simp [v, u]
  have ht : (w.groupsDone x.cuvee).tile t = { s.tile t with act := .idle, ended := false } := by
    rw [State.tile_of_tiles (State.groupsDone_frame w _).1, State.tile_updTile, State.still_tile hv]
  rw [ht, State.groupsDone_tendril]
  exact ⟨rfl, rfl, (State.still_tendril hv : v.net.tendril = s.net.tendril)⟩

theorem State.entryComplete_completes {s : State} {t e en : Nat} {l : List (Nat × Nat)}
    (hc : (s.tile t).completing = (e, en) :: l) (hd : (s.tile t).entryDone e = true) (hx : (s.tile t).xfault = none)
    (hb : enArriveB en = false) :
    ((s.entryComplete t).tile t).completing = l ∧
      (s.entryComplete t).net.tendril = s.net.tendril ++
        (if enSetF en then [⟨s.tileNode t, 3, field (s.tile t).cuvee 8 20 + field (enFlag en) 7 13 + 1⟩] else []) ∧
      ((s.entryComplete t).tile t).act =
        if enLast en && ((s.tile t).act == .running || (s.tile t).act == .held) then .idle else (s.tile t).act := by
  unfold State.entryComplete
  extract_lets x
  split
  · next hn => cases hc.symm.trans hn
  · next he =>
    cases hc.symm.trans he
    rw [if_neg (by simp [x, hd, hx, hb])]
    extract_lets u v w
    have hv : v = u := if_neg (by simp [hb])
    have hw : (w.tile t).completing = l ∧ (w.tile t).act = (s.tile t).act ∧ w.net.tendril = s.net.tendril ++
        (if enSetF en then [⟨s.tileNode t, 3, field (s.tile t).cuvee 8 20 + field (enFlag en) 7 13 + 1⟩] else []) := by
      have hl : (u.tile t).completing = l := by simp [u, State.progressed]
      have ha : (u.tile t).act = (s.tile t).act := by simp [u, State.progressed]
      simp only [w, hv]
      split
      · rw [State.tile_of_tiles (State.tendrilSend_tiles ..)]
        exact ⟨hl, ha, rfl⟩
      · exact ⟨hl, ha, (List.append_nil _).symm⟩
    obtain ⟨hl, ha, ht⟩ := hw
    clear_value w
    obtain ⟨hi, hl', ht'⟩ := w.endRun_frame t
    split
    · exact ⟨hl'.trans hl, ht'.trans ht, hi⟩
    · exact ⟨hl, ht, ha⟩

/-- Settles O30. -/
theorem tileEventsAndCompletion : Obligations.TileEventsAndCompletion := by
  unfold Obligations.TileEventsAndCompletion
  refine ⟨fun s t => ⟨fun img hi => ?_, fun ha he hm hd => ?_, fun m l ha he hm => ?_⟩, fun s t e en l hc hd hx hb => ?_⟩
  · refine ⟨_, rfl, ?_⟩
    rw [State.tile_of_tiles (State.loadsDone_frame ..).1]
    exact State.planeLoadDone_fills hi
  · obtain ⟨u, hu, hbank⟩ := State.accumulatorSwap_swaps ha he hm hd
    obtain ⟨hf, hs⟩ := Prod.mk.inj hbank
    exact ⟨u, congrArg Host.Outcome.next hu, hs, hf⟩
  · obtain ⟨u, hu, hp⟩ := State.vectorTrigger_begins ha he hm
    exact ⟨u, congrArg Host.Outcome.next hu, hp⟩
  · obtain ⟨hl, ht, ha⟩ := State.entryComplete_completes hc hd hx hb
    refine ⟨_, rfl, hl, fun hs => ?_, fun hs => ?_, fun hl hr => ?_, fun hl => ?_⟩
    · rw [ht, if_pos hs]
    · rw [ht, if_neg (by simp [hs]), List.append_nil]
    · rw [ha, if_pos (by simpa [hl] using hr)]
    · rw [ha, if_neg (by simp [hl])]

end Sys2Proof.Machine

/-! # What a tile does at an entry boundary -/

namespace Sys2Proof.Machine

/-! ## What an entry's opening issues leave of their tile -/

/-- Where tile t stands in its list: its state, its entry and the beats of it, its plane and its flags. -/
def Tile.course (x : Tile) : TileAct × Bool × Nat × Nat × Nat × Bool × Sparse Nat × Nat :=
  (x.act, x.inEntry, x.entry, x.path.beat, x.path.beats, x.activeP1, x.flags, x.cur)

/-- The course of tile t. -/
def State.course (s : State) (t : Nat) := (s.tile t).course

theorem State.course_of_still {s u : State} (h : u.still = s.still) (t : Nat) : u.course t = s.course t :=
  congrArg Tile.course (State.still_tile h t)

@[simp] theorem State.updTile_course (s : State) (t : Nat) {f : Tile → Tile} (hf : ∀ x, (f x).course = x.course) :
    (s.updTile t f).course t = s.course t := by simp [State.course, hf]
theorem State.each_course {α : Type} (s : State) (l : List α) {f : State → α → State} {t : Nat}
    (hf : ∀ s x, (f s x).course t = s.course t) : (s.each l f).course t = s.course t :=
  State.each_frame (State.course · t) f l s hf

@[simp] theorem Tile.askLoad_course (x : Tile) (img : Nat) : (x.askLoad img).course = x.course := by
  unfold Tile.askLoad; split <;> rfl
@[simp] theorem Tile.pushTrigger_course (x : Tile) (code : Nat) : (x.pushTrigger code).course = x.course := by
  unfold Tile.pushTrigger; split <;> rfl
@[simp] theorem State.fillMicro_course (s : State) (t key value : Nat) : (s.fillMicro t key value).course t = s.course t :=
  s.updTile_course t fun _ => rfl
@[simp] theorem State.fillUnit_course (s : State) (c p key value t : Nat) : (s.fillUnit c p key value).course t = s.course t :=
  State.course_of_still (by simp) t
@[simp] theorem State.fillBoth_course (s : State) (t va : Nat) (lf : Leaf) : (s.fillBoth t va lf).course t = s.course t := by
  simp [State.fillBoth]
@[simp] theorem State.walkCounted_course (s : State) (c va k t : Nat) : (s.walkCounted c va k).2.course t = s.course t :=
  State.course_of_still (by simp) t
@[simp] theorem State.storeTraffic_course (s : State) (t n : Nat) : (s.storeTraffic t n).course t = s.course t :=
  State.course_of_still (by simp) t
@[simp] theorem State.progressed_course (s : State) (t : Nat) : (s.progressed t).course t = s.course t :=
  s.updTile_course t fun _ => rfl

theorem State.lookup_course {s : State} {t va : Nat} {q : Leaf × State} (h : s.lookup t va = some q) :
    q.2.course t = s.course t := by
  unfold State.lookup State.unitLookup at h
  simp only [] at h; split at h
  · cases h; simp
  · obtain ⟨r, hr, rfl⟩ := Option.map_eq_some_iff.mp h
    obtain ⟨e, -, rfl⟩ := Option.map_eq_some_iff.mp hr
    simp

/-- What is translated ahead comes into the caches alone (R223). -/
@[simp] theorem State.prefetch_course (s : State) (t va : Nat) : (s.prefetch t va).course t = s.course t := by
  unfold State.prefetch; split
  · rfl
  · split
    · next h => exact State.lookup_course h
    · simp only []; split <;> simp
@[simp] theorem State.prefetchRow_course (s : State) (t r n k m : Nat) : (s.prefetchRow t r n k m).course t = s.course t := by
  unfold State.prefetchRow; split
  · rfl
  · exact s.each_course _ fun s i => s.each_course _ fun s va => s.prefetch_course t va
@[simp] theorem State.askIssue_course (s : State) (t e en d : Nat) : (s.askIssue t e en d).course t = s.course t :=
  (State.prefetchRow_course ..).trans (s.updTile_course t fun _ => rfl)

/-- An entry that begins stands at its first beat, with the plane it wants active (R104). -/
theorem State.beginEntry_begins (s : State) (t en : Nat) : ∃ u : State, s.beginEntry t en = u.runOn t ∧
    u.course t = ((s.tile t).act, true, (s.tile t).entry, 0, enBeats en, wantedPlane en (s.tile t).activeP1, (s.tile t).flags, en) := by
  unfold State.beginEntry
  extract_lets x e want path begun loaded asked next ahead moved u
  refine ⟨u, rfl, ?_⟩
  have hb : begun.course t =
      ((s.tile t).act, true, (s.tile t).entry, 0, enBeats en, want, (s.tile t).flags, en) := by
    simp [begun, State.course, Tile.course, show path.beat = 0 from rfl]
  have hl : loaded.course t = begun.course t := by simp only [loaded]; split <;> simp
  have hq : asked.course t = loaded.course t := loaded.each_course _ fun s d => s.askIssue_course t e en d
  have ha : ahead.course t = asked.course t := by
    simp only [ahead]; split
    · rfl
    · exact asked.each_course _ fun s d => by split; exacts [State.prefetchRow_course .., rfl]
  have hm : moved.course t = ahead.course t := by simp [moved]
  have hu : u.course t = moved.course t := moved.updTile_course t fun _ => Tile.pushTrigger_course _ _
  rw [hu, hm, ha, hq, hl, hb]

/-- Once its waits are over and its transfers allow it, the fetched entry begins and its flag is consumed (R110). -/
theorem State.openEntry_begins {s : State} {t en : Nat}
    (hb : enWaitB en = true → (s.tile t).barrierOpen (enBarrier en) = true)
    (hf : enWaitF en = true → (s.tile t).flagTaken = false → (s.tile t).flags.getD (enFlag en) 0 ≠ 0)
    (hp : wantedPlane en (s.tile t).activeP1 ≠ (s.tile t).activeP1 →
      (s.tile t).load = none ∧ (s.tile t).cells.planeMalformed (wantedPlane en (s.tile t).activeP1) = false)
    (hq : (s.tile t).queue.length + (duePlaces en 3 false).length ≤ 16) :
    ∃ v : State, s.openEntry t en = v.beginEntry t en ∧ (v.tile t).act = (s.tile t).act ∧ (v.tile t).entry = (s.tile t).entry ∧
      (v.tile t).activeP1 = (s.tile t).activeP1 ∧ (v.tile t).flags.getD (enFlag en) 0 =
        (s.tile t).flags.getD (enFlag en) 0 - b2n (enWaitF en && !(s.tile t).flagTaken) := by
  unfold State.openEntry
  extract_lets x b r v want
  have hload : ¬((want != x.activeP1 && x.load.isSome) = true) := fun h => by
    simp only [Bool.and_eq_true, bne_iff_ne] at h
    simp [x, (hp h.1).1] at h
  have hplane : ¬((want != x.activeP1 && x.cells.planeMalformed want) = true) := fun h => by
    simp only [Bool.and_eq_true, bne_iff_ne] at h
    simp [x, want, (hp h.1).2] at h
  rw [if_neg (by simpa [x, b] using hb), if_neg (by simpa [x, and_imp] using hf), if_neg hload, if_neg hplane,
    if_neg (by simpa [x] using hq)]
  refine ⟨v, rfl, ?_⟩
  simp only [v]
  split
  · next ht => simp [ht, x, b2n]
  · next ht => simp [ht, x, b2n]

theorem State.nextEntry_opens {s : State} {t en : Nat} (hen : en = s.boundaryEntry t) (hbad : s.entryBad t en = false)
    (hlast : ¬((s.tile t).entry = 1023 ∧ enLast en = false)) (hrows : s.entryRowsBad t en = false) :
    s.nextEntry t = (s.updTile t fun x => { x with fetched := true, cur := en }).openEntry t en := by
  unfold State.nextEntry
  simp only [← hen, hbad, hrows, Bool.false_eq_true, if_false]
  rw [if_neg (by simpa using hlast)]

/-- A tile that faults at an entry is FAULTED with the cause (R113). -/
theorem State.faultTile_tile (s : State) (t cause : Nat) : ((s.faultTile t cause).tile t).act = .faulted ∧
    ((s.faultTile t cause).tile t).cause = cause := by
  unfold State.faultTile
  extract_lets x u v
  have hv : v.still = u.still := by simp only [v]; split <;> simp
  have hu : (u.tile t).act = .faulted ∧ (u.tile t).cause = cause := by simp [u]
  have hf : ∀ w : State, w.still = v.still → (w.tile t).act = .faulted ∧ (w.tile t).cause = cause := fun w hw => by
    rwa [State.still_tile (hw.trans hv)]
  split
  · exact hf _ rfl
  · split <;> exact hf _ (by simp)

/-- A tile at a boundary is held, or takes its next entry once its transfers allow it (R110, R252). -/
theorem State.entryBoundary_eq {s : State} {t : Nat} (ha : (s.tile t).act = .running) (hi : (s.tile t).inEntry = false)
    (he : (s.tile t).ended = false) (hc : (s.tile t).cuvee ≠ 0) :
    (s.quiescing (s.tile t).cuvee = true → s.entryBoundary t = s.updTile t Tile.hold) ∧
    (s.quiescing (s.tile t).cuvee = false → (s.tile t).preempted = false → (s.tile t).xfault = none →
      (s.tile t).transfersReady (s.tile t).entry = true → s.entryBoundary t = s.nextEntry t) := by
  unfold State.entryBoundary
  extract_lets x parked
  have hparked : parked = s.quiescing (s.tile t).cuvee := by
    simp only [parked, State.quiescing, x]
    cases (s.cuvee (s.tile t).cuvee).quiesce <;> rfl
  rw [if_neg (by simp [x, ha, hi, he, hc]), hparked]
  refine ⟨fun hq => if_pos (by simp [hq]), fun hq hp hx ht => ?_⟩
  rw [if_neg (by simp [hq, x, hp])]
  simp only [x, hx, ht, if_true]

/-- Settles O29. -/
theorem entryBoundary : Obligations.EntryBoundary := by
  unfold Obligations.EntryBoundary
  intro s t en ha hi he hc hen
  obtain ⟨hheld, hnext⟩ := State.entryBoundary_eq ha hi he hc
  refine ⟨fun hq => ?_, fun hq hp hx ht => ?_⟩
  · refine ⟨_, congrArg Host.Outcome.next (hheld hq), ?_⟩
    simp [Tile.hold, Tile.atBoundary, ha, hi]
  · have hn := hnext hq hp hx ht
    refine ⟨fun hbad => ?_, fun hbad hlast hrows hb hf hw hqueue => ?_⟩
    · have hfault : s.nextEntry t = s.faultTile t 1 := if_pos (hen ▸ hbad)
      exact ⟨_, congrArg Host.Outcome.next (hn.trans hfault), s.faultTile_tile t 1⟩
    · obtain ⟨v, hv, hact, hentry, hplane, hflag⟩ := State.openEntry_begins
        (s := s.updTile t fun x => { x with fetched := true, cur := en }) (t := t) (en := en)
        (by rw [State.tile_updTile]; exact hb) (by simpa using hf) (by simpa using hw) (by simpa using hqueue)
      obtain ⟨u, hu, hcourse⟩ := v.beginEntry_begins t en
      refine ⟨u, congrArg Host.Outcome.next (hn.trans ((State.nextEntry_opens hen hbad hlast hrows).trans (hv.trans hu))), ?_⟩
      simp only [State.course, Tile.course, Prod.mk.injEq] at hcourse
      obtain ⟨h1, h2, h3, h4, h5, h6, h7, h8⟩ := hcourse
      simp only [State.tile_updTile] at hact hentry hplane hflag
      exact ⟨h1.trans (hact.trans ha), h2, h3.trans hentry, h4, h5, h6.trans (by rw [hplane]), by rw [h7, hflag], h8⟩

end Sys2Proof.Machine

/-! # LOAD_PLANE, NOP, FETCH_SQ and WRITE_CQ -/

namespace Sys2Proof.Machine

/-! ## The row that is issued -/

/-- The memories and the networks, which no daybook record touches. -/
def State.fabric (s : State) : NetSt × MemSt := (s.net, s.mem)

@[simp] theorem State.tally_fabric (s : State) (c k n : Nat) : (s.tally c k n).fabric = s.fabric := by simp [State.fabric]
@[simp] theorem State.setBook_fabric (s : State) (c : Nat) (b : Daybook) : (s.setBook c b).fabric = s.fabric := by
  simp [State.setBook, State.fabric]
@[simp] theorem State.bookTrigger_fabric (s : State) (c src tag : Nat) : (s.bookTrigger c src tag).fabric = s.fabric := by
  simp only [State.bookTrigger]; (repeat' split) <;> simp
@[simp] theorem State.daybook_fabric (s : State) (c kind engine unit code tag a0 a1 a2 : Nat) :
    (s.daybook c kind engine unit code tag a0 a1 a2).fabric = s.fabric := by
  simp only [State.daybook, State.bookOffer]; (repeat' split) <;> simp

/-- The row x is issued and l is left: its BEGIN record is written (R412). -/
def State.issued (s : State) (x : RowInst) (l : List RowInst) : State :=
  ({ s with alm := { s.alm with issue := l } } : State).daybook x.seg 0 0 x.idx (rowAction x.row) (rowTag x.row)
    (x.dueE % 2 ^ 32) x.deferred 0

theorem State.issueRow_issued {s : State} {x : RowInst} {l : List RowInst} {n : Nat} (hl : s.alm.issue = x :: l)
    (hn : rowAction x.row = n) : s.issueRow n = some (x, s.issued x l) := by
  simp [State.issueRow, State.issued, hl, hn]

section
variable (s : State) (x : RowInst) (l : List RowInst)

@[simp] theorem State.issued_alm : (s.issued x l).alm = { s.alm with issue := l } := State.daybook_alm ..
@[simp] theorem State.issued_tiles : (s.issued x l).tiles = s.tiles := State.daybook_tiles ..
@[simp] theorem State.issued_fabric : (s.issued x l).fabric = s.fabric := State.daybook_fabric ..
theorem State.issued_grouping : (s.issued x l).grouping = s.grouping := State.daybook_grouping ..
theorem State.issued_slotCount : (s.issued x l).slotCount = s.slotCount := by
  have h := State.daybook_kept { s with alm := { s.alm with issue := l } } x.seg 0 0 x.idx (rowAction x.row) (rowTag x.row)
    (x.dueE % 2 ^ 32) x.deferred 0
  exact congrArg (fun t : TimeSt => 4096 * t.epochs + t.slot) (Prod.mk.inj (Prod.mk.inj h).2).1
theorem State.issued_num (i sub : Nat) : (s.issued x l).num i sub = s.num i sub :=
  congrArg Blob.val (State.val_congr (s.issued_grouping x l) i sub)
theorem State.issued_quiescing (c : Nat) : (s.issued x l).quiescing c = s.quiescing c := by
  simp only [State.quiescing, State.quiesce_of_grouping (s.issued_grouping x l)]

end

@[simp] theorem State.rowEnd_alm (s : State) (x : RowInst) (how : Nat) : (s.rowEnd x how).alm = s.alm := State.daybook_alm ..
@[simp] theorem State.rowEnd_tiles (s : State) (x : RowInst) (how : Nat) : (s.rowEnd x how).tiles = s.tiles :=
  State.daybook_tiles ..
@[simp] theorem State.rowEnd_fabric (s : State) (x : RowInst) (how : Nat) : (s.rowEnd x how).fabric = s.fabric :=
  State.daybook_fabric ..

/-! ## LOAD_PLANE (R90, R111) -/

/-- A tile with no load under way loads the image, also where the group lists it again. -/
theorem State.each_askLoad_load {l : List Nat} {s : State} {t img : Nat}
    (h : (t ∈ l ∧ (s.tile t).load = none) ∨ (s.tile t).load = some img) :
    ((s.each l fun s t => s.updTile t fun y => y.askLoad img).tile t).load = some img := by
  unfold State.each
  induction l generalizing s with
  | nil => exact h.resolve_left fun hn => List.not_mem_nil hn.1
  | cons q l ih =>
    refine ih ?_
    by_cases hq : t = q
    · subst hq
      rw [State.tile_updTile]
      right
      rcases h with ⟨-, hn⟩ | hs
      · simp [Tile.askLoad, hn]
      · simp [Tile.askLoad, hs]
    · rw [State.tile_updTile_ne _ _ hq]
      exact h.imp_left fun hm => ⟨(List.mem_cons.mp hm.1).resolve_left hq, hm.2⟩

theorem State.loadPlane_loads {s : State} {x : RowInst} {l : List RowInst} (hl : s.alm.issue = x :: l)
    (ha : rowAction x.row = 2) (hq : s.quiescing x.seg = false) :
    s.loadPlane.alm.issue = l ∧ ∀ t ∈ s.groupTiles x.seg (rowGroup x.row), (s.tile t).load = none →
      (s.loadPlane.tile t).load = some (bits (rowOperand x.row) 6 0) := by
  unfold State.loadPlane
  simp only [State.issueRow_issued hl ha, State.issued_quiescing, hq, Bool.false_and, if_false,
    State.groupTiles_congr (s.issued_grouping x l), Bool.false_eq_true]
  obtain ⟨ht, hi⟩ := State.loadsDone_frame (State.watchRow ((s.issued x l).each (s.groupTiles x.seg (rowGroup x.row)) fun s t =>
    s.updTile t fun y => y.askLoad (bits (rowOperand x.row) 6 0)) x false) x.seg
  refine ⟨?_, fun t hm hn => ?_⟩
  · rw [hi, State.watchRow_issue, State.each_updTile_alm, State.issued_alm]
  · rw [State.tile_of_tiles ht, State.tile_of_tiles (State.watchRow_tiles ..)]
    refine State.each_askLoad_load (.inl ⟨hm, ?_⟩)
    rwa [State.tile_of_tiles (s.issued_tiles x l)]

/-! ## FETCH_SQ and WRITE_CQ (R65, R72, R74) -/

@[simp] theorem State.seg_updSeg (s : State) (c : Nat) (f : Segment → Segment) : (s.updSeg c f).seg c = f (s.seg c) :=
  Sparse.getD_set_self ..

theorem State.seg_issued (s : State) (x : RowInst) (l : List RowInst) (c : Nat) : (s.issued x l).seg c = s.seg c := by
  simp [State.seg]

theorem State.seg_of_alm {s u : State} (h : u.alm = s.alm) (c : Nat) : u.seg c = s.seg c := by
  simp only [State.seg, h]

theorem State.fetchRow_near {s : State} {x : RowInst} {l : List RowInst} {n : Nat} (hl : s.alm.issue = x :: l)
    (ha : rowAction x.row = 3) (hn : (s.seg x.seg).lastFetch = some n) (hs : s.slotCount < n + s.num 0x2004 x.seg)
    (es : List SqEntry) : (s.fetchRow es).alm = ((s.issued x l).countSkip x.seg).alm := by
  unfold State.fetchRow
  simp only [State.issueRow_issued hl ha, State.seg_issued, hn, State.issued_slotCount, State.issued_num, hs, decide_true, if_true]
  exact State.skipRow_alm ..

/-- The first FETCH_SQ marks its slot, fetches and ends its row. -/
theorem State.fetchRow_eq_first {s : State} {x : RowInst} {l : List RowInst} (hl : s.alm.issue = x :: l)
    (ha : rowAction x.row = 3) (hn : (s.seg x.seg).lastFetch = none) (es : List SqEntry) :
    s.fetchRow es = (((s.issued x l).updSeg x.seg fun g => { g with lastFetch := some (s.issued x l).slotCount }).fetchSq x.seg
      (bits (rowOperand x.row) 9 0) (bits (rowOperand x.row) 23 12) es).rowEnd x 0 := by
  have hi : ((s.issued x l).seg x.seg).lastFetch = none := by rw [State.seg_issued, hn]
  simp [State.fetchRow, State.issueRow_issued hl ha, hi]

theorem State.fetchRow_first {s : State} {x : RowInst} {l : List RowInst} (hl : s.alm.issue = x :: l)
    (ha : rowAction x.row = 3) (hn : (s.seg x.seg).lastFetch = none) (es : List SqEntry) :
    (s.fetchRow es).alm = ((s.issued x l).updSeg x.seg fun g => { g with lastFetch := some s.slotCount }).alm := by
  rw [State.fetchRow_eq_first hl ha hn, State.rowEnd_alm, State.still_alm (State.fetchSq_still ..), State.issued_slotCount]

/-- Settles O21. -/
theorem otherRowActions : Obligations.OtherRowActions := by
  unfold Obligations.OtherRowActions
  refine ⟨fun s x l hl => ⟨fun ha hq => ⟨_, rfl, State.loadPlane_loads hl ha hq⟩, fun ha => ?_⟩,
    fun s x l hl => ⟨fun ha n es hn hs => ?_, fun ha es hn => ?_, fun ha => ?_⟩⟩
  · have hu : s.nopRow = (s.issued x l).rowEnd x 0 := by simp [State.nopRow, State.issueRow_issued hl ha]
    have hf : s.nopRow.fabric = s.fabric := by simp [hu]
    obtain ⟨hnet, hmem⟩ := Prod.mk.inj hf
    exact ⟨_, rfl, by simp [hu], by simp [hu], hmem, hnet, by simp [hu]⟩
  · have hu := State.fetchRow_near hl ha hn hs es
    refine ⟨_, rfl, by rw [hu]; simp [State.countSkip, State.updSeg], ?_, ?_⟩
    · rw [State.seg_of_alm hu]
      simp [State.countSkip, State.seg_issued]
    · rw [State.seg_of_alm hu]
      simp [State.countSkip, State.seg_issued, hn]
  · have hu := State.fetchRow_first hl ha hn es
    exact ⟨_, rfl, by rw [hu]; simp [State.updSeg], by rw [State.seg_of_alm hu]; simp⟩
  · have hu : s.writeRow = ((s.issued x l).writeCq x.seg (bits (rowOperand x.row) 9 0)).rowEnd x 0 := by
      simp [State.writeRow, State.issueRow_issued hl ha]
    have hw := State.writeCq_still (s.issued x l) x.seg (bits (rowOperand x.row) 9 0)
    refine ⟨_, rfl, ?_, ?_⟩
    · rw [hu, State.rowEnd_alm, State.still_alm hw, State.issued_alm]
    · rw [hu, State.rowEnd_tiles, State.still_tiles hw, State.issued_tiles]

end Sys2Proof.Machine

/-! # Reads and answers of the trellis -/

namespace Sys2Proof.Machine

/-! ## Where an endpoint stands (R148) -/

/-- The KIND of an endpoint ID, by its place in the numbering. -/
theorem epKind_of_div {e k : Nat} (h : e / 2048 = k) (hk : k < 8) : epKind e = k := by
  simp only [epKind, bits]
  omega

/-! ## Answers (R147, R149) -/

/-- a answers p: it goes back to p's source, on p's VC and under p's tag. -/
structure Answers (a p : Packet) (ty status : Nat) (data : List Byte) : Prop where
  ty : a.ty = ty
  src : a.src = p.dst
  dst : a.dst = p.src
  tag : a.tag = p.tag
  vc : a.vc = p.vc
  status : a.status = status
  data : a.data = data

theorem State.answer_sends (s : State) (p : Packet) (ty status : Nat) (data : List Byte) :
    ∃ a, (s.answer p ty status data).net.flight = s.net.flight ++ [a] ∧ Answers a p ty status data :=
  ⟨_, State.inject_flight .., ⟨rfl, rfl, rfl, rfl, rfl, rfl, rfl⟩⟩

@[simp] theorem State.answer_rebind (s : State) (p : Packet) (ty status : Nat) (data : List Byte) (c : Nat) :
    ((s.answer p ty status data).cuvee c).rebind = (s.cuvee c).rebind := by
  have ht : ∀ (u : State) (d k n : Nat), ((u.tally d k n).cuvee c).rebind = (u.cuvee c).rebind := fun u d k n => by
    unfold State.tally
    split
    · rfl
    · by_cases hc : c = d
      · subst hc; simp
      · rw [State.cuvee_updCuvee_ne _ _ hc]
  exact (ht _ _ 13 _).trans (ht _ _ 12 _)

/-- A packet whose flits are clean reaches its destination, poisoned if its STATUS says so (R146, R170). -/
theorem State.delivered_clean_flits {s : State} {p : Packet} {ty : Nat} (ha : s.arrives p = true) (hp : packetOk p = true)
    (hty : p.ty = ty) (go : Bool → State → State) : s.delivered ty p .clean go = go (p.status == 1) (s.arrive p) := by
  simp [State.delivered, ha, hp, hty, State.checked, State.flitCheck]

/-! ## TRELLIS_READ (R149, R187, R227) -/

@[simp] theorem State.hostTraffic_net (s : State) (c n : Nat) : (s.hostTraffic c n).net = s.net := by simp [State.hostTraffic]
@[simp] theorem State.hostTraffic_mem (s : State) (c n : Nat) : (s.hostTraffic c n).mem = s.mem := by simp [State.hostTraffic]
@[simp] theorem State.hostTraffic_host (s : State) (c n : Nat) (q : HostPort) : (s.hostTraffic c n).host q = s.host q := by
  cases q <;> simp [State.hostTraffic, State.host]

section
variable {s : State} {p : Packet} (ha : s.arrives p = true) (hp : packetOk p = true) (hty : p.ty = 0) (latency : Nat)
include ha hp hty

/-- A tile's store answers with the bytes that stand there. -/
theorem State.trellisRead_store (hd : epKind p.dst = 0) :
    s.trellisRead p .clean .clean latency = ((s.arrive p).storeTraffic p.dst p.bytes).answer p 1 0
      (toBytes p.bytes (s.storeNat p.dst (p.addr % 2 ^ 20) p.bytes)) := by
  unfold State.trellisRead
  rw [State.delivered_clean_flits ha hp hty]
  simp only [hd]
  rfl

/-- Parcel memory that another owns is not read. -/
theorem State.trellisRead_denied {k : Nat} (hd : epKind p.dst = 1) (hk : s.pcAt p = some k) (ho : s.ownerOk p.cuvee k = false) :
    s.trellisRead p .clean .clean latency = (s.arrive p).answer p 6 2 [] := by
  unfold State.trellisRead
  rw [State.delivered_clean_flits ha hp hty]
  have hk' : (s.arrive p).pcAt p = some k := hk
  have ho' : (s.arrive p).ownerOk p.cuvee k = false := ho
  simp [hd, hk', ho']

/-- A read of host memory leaves the trellis and waits at its port. -/
theorem State.trellisRead_host (hd : epKind p.dst = 4) (hs : s.hostShut p.cuvee = false) :
    ∃ h : HostRead, ((s.trellisRead p .clean .clean latency).host (portOf (p.dst % 2))).reads =
        (s.host (portOf (p.dst % 2))).reads ++ [h] ∧ h.pkt = p ∧ h.cuvee = p.cuvee ∧ h.addr = s.hostAddr p ∧
      (s.trellisRead p .clean .clean latency).net = (s.arrive p).net ∧ (s.trellisRead p .clean .clean latency).mem = s.mem := by
  have hs' : (s.arrive p).hostShut p.cuvee = false := hs
  unfold State.trellisRead
  rw [State.delivered_clean_flits ha hp hty]
  simp only [hd, hs', Bool.false_eq_true, if_false]
  refine ⟨_, congrArg HostSt.reads ((State.hostTraffic_host ..).trans (State.host_updHost ..)), rfl, rfl, rfl, ?_, ?_⟩ <;> simp

end

/-! ## What an answer ends (R110, R161) -/

section
variable {s : State} {p : Packet} {o : Xfer} (ha : s.arrives p = true) (hp : packetOk p = true)
  (hl : (s.leavesAnswered p).1 = [(p.dst, p.tag)]) (hd : epKind p.dst = 0)
  (ho : (s.tile p.dst).out.find? (fun x => !x.isGet && x.tag == p.tag) = some o)
include ha hp hl hd ho

/-- An ACK ends the packet of its tag. -/
theorem State.ack_ends (hty : p.ty = 5) (hm : o.mgroup = none) :
    ((s.ack p .clean).tile p.dst).out = (s.tile p.dst).out.erase o ∧
      (s.ack p .clean).net.flight = s.net.flight.erase p := by
  have hg : s.awaitsGroup p.dst p.tag = false := by simp [State.awaitsGroup, ho, hm]
  have hl' : ((s.arrive p).leavesAnswered p).1 = [(p.dst, p.tag)] := hl
  have ho' : ((((s.arrive p).leavesAnswered p).2).tile p.dst).out.find? (fun x => !x.isGet && x.tag == p.tag) = some o := ho
  have hu : s.ack p .clean = ((((s.arrive p).leavesAnswered p).2).progressed p.dst).updTile p.dst fun x =>
      { x with out := x.out.erase o } := by
    unfold State.ack
    rw [if_neg (by simp [hty]), if_neg (by simp [hg]), State.delivered_clean_flits ha hp hty]
    simp only [hd, hl', if_true, State.each, List.foldl_cons, List.foldl_nil, State.ackTile, ho', hm]
    rfl
  rw [hu]
  exact ⟨by simp [State.progressed]; rfl, rfl⟩

/-- A copy that found no buffer waits out its backoff (R161). -/
theorem State.nack_resends {k : Nat} (hty : p.ty = 6) (hst : p.status = 3)
    (hk : o.targets.find? (fun e => e.1 == p.src) = some (p.src, k)) (h8 : k < 8) :
    (s.nack p .clean).tiles = s.tiles ∧
      (s.nack p .clean).net.resends = s.net.resends ++ [(p.dst, p.tag, p.src, k + 1, 32 * 2 ^ (k + 1))] := by
  have hf : s.inFlight p = true := by
    simp only [State.arrives, Bool.and_eq_true] at ha
    exact ha.1.2
  have hl' : ((s.arrive p).leavesAnswered p).1 = [(p.dst, p.tag)] := hl
  have ho' : ((((s.arrive p).leavesAnswered p).2).tile p.dst).out.find? (fun x => !x.isGet && x.tag == p.tag) = some o := ho
  have hu : s.nack p .clean = (((s.arrive p).leavesAnswered p).2).nackBuffer p.dst p.tag p.src := by
    unfold State.nack
    simp only [hf, hty, Bool.not_true, ne_eq, not_true, if_false, Bool.false_eq_true]
    rw [State.delivered_clean_flits ha hp hty]
    simp [hd, hl', hst, State.each]
  rw [hu]
  simp only [State.nackBuffer, ho', hk, if_neg (Nat.not_le.mpr h8)]
  exact ⟨rfl, rfl⟩

end

/-- MULTICAST_RESEND sends the copy to its target alone (R161). -/
theorem State.multicastResend_sends {s : State} {t tag target k b : Nat} {o : Xfer} {l : List (Nat × Nat × Nat × Nat × Nat)}
    (hr : s.net.resends.filter (fun r => r.1 == t) = (t, tag, target, k, b) :: l)
    (ho : (s.tile t).out.find? (fun x => !x.isGet && x.tag == tag) = some o) (hm : s.mayInject (s.tile t).cuvee = true) :
    ∃ q : Packet, (s.multicastResend t 0).net.flight = s.net.flight ++ [q] ∧ q.dst = target ∧ q.src = t ∧ q.tag = tag ∧
      q.try_ = k ∧ (s.multicastResend t 0).net.resends = s.net.resends.erase (t, tag, target, k, b) := by
  unfold State.multicastResend
  simp only [hr, List.getElem?_cons_zero, hm, Bool.not_true, Bool.false_eq_true, if_false]
  have ho' : ∀ n : NetSt, (({ s with net := n } : State).tile t).out.find? (fun x => !x.isGet && x.tag == tag) = some o :=
    fun _ => ho
  simp only [ho']
  refine ⟨_, State.inject_flight .., rfl, rfl, rfl, rfl, ?_⟩
  simp [State.inject]

/-! ## Combining (R164, R165) -/

/-- A record whose hold is over goes on, and none of its slot waits any more. -/
theorem State.holdExpiry_goesOn {s : State} {r slot : Nat} {x : Combine}
    (hx : s.net.combines.find? (fun y => y.router == r && y.slot == slot && !y.sent) = some x) :
    (s.holdExpiry r slot).net.flight = s.net.flight ++ [{ x.pkt with held := r :: x.pkt.held }] ∧
      ∀ y ∈ (s.holdExpiry r slot).net.combines, y.router = r → y.slot = slot → y.sent = true := by
  unfold State.holdExpiry
  simp only [hx]
  refine ⟨rfl, fun y hy hr hs => ?_⟩
  simp only [State.copyPacket] at hy
  split at hy
  · simp [hr, hs] at hy
  · obtain ⟨z, -, rfl⟩ := List.mem_map.mp hy
    split
    · rfl
    · next hz =>
      rw [if_neg hz] at hr hs
      simp [hr, hs] at hz

/-- A WRITE_ADD that meets a partner leaves the trellis: its sum is the partner's. -/
theorem State.writeAdd_joins {s : State} {p : Packet} {r : Nat} {x : Combine} (hf : s.inFlight p = true)
    (hp : packetOk p = true) (hal : addAligned p = true) (hr : r ≤ 159) (hway : r ∈ s.routersOf p) (hn : s.num 0x30A3 1 ≠ 0)
    (hc : p.combine = true) (hheld : r ∉ p.held) (hno : r ∉ s.net.noCombine) (hadd : s.adderServes r p.cuvee = true)
    (hx : (s.net.combines.filter fun y => y.router == r).find? (fun y => !y.sent && combines y.pkt p) = some x)
    (hlen : x.contribs.length < 16) (hrec : s.recordsUsed r < recordCount r) :
    (s.writeAdd p.ty (some r) p .clean).net.flight = s.net.flight.erase p ∧
      (s.writeAdd p.ty (some r) p .clean).mem = s.mem ∧ x.join p ∈ (s.writeAdd p.ty (some r) p .clean).net.combines := by
  have hmem := List.mem_filter.mp (List.mem_of_find?_eq_some hx)
  unfold State.writeAdd
  rw [if_neg (by simp [hf]), if_neg (by simp [hp, hal])]
  simp only [State.combineAt]
  rw [if_neg (by simp [hc, hheld, hno, hadd, hn, hway]; omega)]
  simp only [hx]
  rw [if_neg (by simp; omega)]
  refine ⟨rfl, rfl, List.mem_map.mpr ⟨x, hmem.1, ?_⟩⟩
  simp [show x.router = r by simpa using hmem.2]

/-! ## STATE (R149, R256) -/

theorem State.statePacket_lands {s : State} {p : Packet} (ha : s.arrives p = true) (hp : packetOk p = true) (hs : p.status ≠ 1)
    (hty : p.ty = 8) : ∃ u : State, s.statePacket p .clean = u.answer p 5 0 [] ∧ u.net = (s.arrive p).net ∧ u.mem = s.mem ∧
      u.tiles = s.tiles ∧ (u.cuvee p.cuvee).rebind.landed = (s.cuvee p.cuvee).rebind.landed ++ [(p.dst, p.addr, p.data)] := by
  unfold State.statePacket
  rw [← hty, State.delivered_clean ha hp hs]
  refine ⟨_, rfl, rfl, rfl, rfl, ?_⟩
  rw [State.cuvee_updCuvee]
  rfl

/-- Settles O33. -/
theorem readsAndAnswers : Obligations.ReadsAndAnswers := by
  unfold Obligations.ReadsAndAnswers
  refine ⟨fun s p latency ha hty hp => ⟨fun hd => ?_, fun k hd hk ho => ?_, fun hd hs => ?_⟩, fun s p =>
    ⟨fun o ha hp hty hl hd ho hm => ?_, fun o k ha hp hty hl hd hst ho hk h8 => ?_, fun t tag target k b o l hr ho hm => ?_,
      fun r slot x hx => ?_, fun i r x hi hf hp hal hr hway hn hc hheld hno hadd hx hlen hrec => ?_, fun hty ha hp hs => ?_⟩⟩
  · have hu := State.trellisRead_store ha hp hty latency (epKind_of_div hd (by omega))
    obtain ⟨a, hf, h⟩ := State.answer_sends ((s.arrive p).storeTraffic p.dst p.bytes) p 1 0
      (toBytes p.bytes (s.storeNat p.dst (p.addr % 2 ^ 20) p.bytes))
    exact ⟨_, a, congrArg Host.Outcome.next hu, by rw [hf]; simp [State.storeTraffic, State.arrive], h.ty, h.src, h.dst,
      h.tag, h.vc, h.status, h.data, by simp⟩
  · have hu := State.trellisRead_denied ha hp hty latency (epKind_of_div hd (by omega)) hk ho
    obtain ⟨a, hf, h⟩ := State.answer_sends (s.arrive p) p 6 2 []
    exact ⟨_, a, congrArg Host.Outcome.next hu, hf, h.ty, h.status, h.dst, by simp⟩
  · obtain ⟨h, hreads, hpkt, hcv, haddr, hnet, hmem⟩ :=
      State.trellisRead_host ha hp hty latency (epKind_of_div hd (by omega)) hs
    exact ⟨_, h, rfl, congrArg NetSt.flight hnet, hreads, hpkt, hcv, haddr, hmem⟩
  · obtain ⟨hout, hf⟩ := State.ack_ends ha hp hl (epKind_of_div hd (by omega)) ho hty hm
    exact ⟨_, rfl, hout, hf⟩
  · obtain ⟨ht, hr⟩ := State.nack_resends ha hp hl (epKind_of_div hd (by omega)) ho hty hst hk h8
    exact ⟨_, rfl, ht, hr⟩
  · obtain ⟨q, h⟩ := State.multicastResend_sends hr ho hm
    exact ⟨_, q, rfl, h⟩
  · exact ⟨_, rfl, State.holdExpiry_goesOn hx⟩
  · have h := State.writeAdd_joins hf hp hal hr hway hn hc hheld hno hadd hx hlen hrec
    rcases hi with ⟨hty, rfl⟩ | ⟨hty, rfl⟩ <;> exact ⟨s.writeAdd p.ty (some r) p .clean, by rw [hty]; rfl, h⟩
  · obtain ⟨u, hu, hnet, hmem, htiles, hland⟩ := State.statePacket_lands ha hp hs hty
    obtain ⟨a, hf, h⟩ := State.answer_sends u p 5 0 []
    exact ⟨_, a, congrArg Host.Outcome.next hu, by rw [hf, hnet]; rfl, h.ty, h.dst, h.tag,
      by simp [hmem], by simp [htiles], by simp [hland]⟩

end Sys2Proof.Machine

/-! # Barriers and flags -/

namespace Sys2Proof.Machine

/-! ## Barriers and what a message to a peer leaves of them (R176, R333) -/

theorem State.barrier_updBarrier {s : State} {b : Nat} {r : Barrier} (hr : s.barrier b = some r) (f : Barrier → Barrier) :
    (s.updBarrier b f).barrier b = some (f r) := by
  unfold State.updBarrier
  rw [hr]
  exact Sparse.find_insert_self ..

@[simp] theorem State.updBarrier_tiles (s : State) (b : Nat) (f : Barrier → Barrier) : (s.updBarrier b f).tiles = s.tiles := by
  unfold State.updBarrier; split <;> rfl
@[simp] theorem State.updBarrier_tendril (s : State) (b : Nat) (f : Barrier → Barrier) :
    (s.updBarrier b f).net.tendril = s.net.tendril := by
  unfold State.updBarrier; split <;> rfl
@[simp] theorem State.updBarrier_grouping (s : State) (b : Nat) (f : Barrier → Barrier) :
    (s.updBarrier b f).grouping = s.grouping := by
  unfold State.updBarrier; split <;> rfl

@[simp] theorem Barrier.count_setCount (r : Barrier) (gen n : Nat) : (r.setCount gen n).count gen = n := by
  by_cases h : gen = 0 <;> simp [Barrier.setCount, Barrier.count, h]

/-- A message to a peer leaves the tiles and the networks on the module. -/
theorem State.forwardMsg_onModule (s : State) (dst hops : Nat) (m : LinkMsg) :
    (s.forwardMsg dst hops m).tiles = s.tiles ∧ (s.forwardMsg dst hops m).net = s.net := by
  unfold State.forwardMsg
  split
  · split <;> exact ⟨rfl, rfl⟩
  · exact ⟨rfl, rfl⟩

/-! ## BAR_ARRIVE (R176) -/

/-- A complete round is reported, and no count or flit changes with that. -/
theorem State.roundComplete_counts {s : State} {b : Nat} {r : Barrier} (hr : s.barrier b = some r) (gen : Nat) :
    (s.roundComplete b gen).net.tendril = s.net.tendril ∧
      ∃ x, (s.roundComplete b gen).barrier b = some x ∧ ∀ g, x.count g = r.count g := by
  unfold State.roundComplete
  split
  · exact ⟨rfl, r, hr, fun _ => rfl⟩
  · have hb := State.barrier_updBarrier hr fun r => { r with await := addOnce r.await gen }
    split
    · exact ⟨State.updBarrier_tendril .., _, hb, fun _ => rfl⟩
    · rw [State.barrier, (State.forwardMsg_onModule ..).2]
      exact ⟨State.updBarrier_tendril .., _, hb, fun _ => rfl⟩

section
variable {s : State} {b gen count : Nat} {r : Barrier} {fs : List TendrilFlit} (hg : gen < 2) (hc : 0 < count)
  (hc' : count ≤ 4095) (hr : s.barrier b = some r)
include hg hc hc' hr

/-- The node that a barrier tops out at counts its arrivals. -/
theorem State.barArrive_top (hf : takeFlits (s.topNode r) 1 ((2 * b + gen) * 8) 12 s.net.tendril count = some fs) :
    (s.barArrive (s.topNode r) b gen count).net.tendril = fs ∧
      ∃ x, (s.barArrive (s.topNode r) b gen count).barrier b = some x ∧ x.count gen = r.count gen + count := by
  unfold State.barArrive
  rw [if_neg (by simp; omega)]
  split
  · next hn => cases hn.symm.trans hf
  · next fs' hfs =>
    cases hfs.symm.trans hf
    extract_lets net s'
    rw [hr]
    simp only [if_true]
    have hb : (s'.updBarrier b fun r' => r'.setCount gen (r.count gen + count)).barrier b =
        some (r.setCount gen (r.count gen + count)) := State.barrier_updBarrier (s := s') hr _
    split
    · obtain ⟨htd, x, hx, hn⟩ := State.roundComplete_counts hb gen
      exact ⟨htd.trans (State.updBarrier_tendril ..), x, hx, by rw [hn, Barrier.count_setCount]⟩
    · exact ⟨State.updBarrier_tendril .., _, hb, Barrier.count_setCount ..⟩

/-- Any other node sends the arrivals of its subtree up as one. -/
theorem State.barArrive_below {node : Nat} (ht : node ≠ s.topNode r) (h0 : node ≠ 0) (ho : count = s.barrierOwed r node)
    (hf : takeFlits node 1 ((2 * b + gen) * 8) 12 s.net.tendril count = some fs) :
    (s.barArrive node b gen count).net.tendril = fs ++ [⟨nodeAbove node, 1, payArrive b gen count⟩] := by
  unfold State.barArrive
  rw [if_neg (by simp; omega)]
  simp only [flitBarArrive, arriveHead, hf, hr]
  rw [if_neg ht, if_pos (by simp [h0, ← ho])]
  rfl

end

/-! ## BAR_RELEASE (R176, R177) -/

/-- The tile stands released at its barrier j. -/
def Tile.passed (x : Tile) (j : Nat) : Prop := (x.bars.getD j default).released = true

theorem Tile.released_passed {x : Tile} {j gen : Nat} (ha : (x.bars.getD j default).arrived = true)
    (hg : (x.bars.getD j default).gens = [gen]) (hl : (x.bars.getD j default).lastGen = gen) : (x.released j gen).passed j := by
  simp [Tile.passed, Tile.released, ha, hg, hl]

/-- A tile that stands released stays so. -/
theorem Tile.passed_released {x : Tile} {j gen : Nat} (h : x.passed j) : (x.released j gen).passed j := by
  simp only [Tile.passed] at h
  simp [Tile.passed, Tile.released, h]

/-- Two actions that agree wherever a run of the one gets to have the same run. -/
theorem State.each_congr {α : Type} {I : State → Prop} {f g : State → α → State} (hf : ∀ s x, I s → f s x = g s x)
    (hI : ∀ s x, I s → I (g s x)) (l : List α) {s : State} (hs : I s) : s.each l f = s.each l g := by
  induction l generalizing s with
  | nil => rfl
  | cons x l ih =>
    change (f s x).each l f = (g s x).each l g
    rw [hf s x hs, ih (hI s x hs)]

/-- What one change of tile k brings about, and no second one takes away, holds after a change of each tile of a list. -/
theorem State.each_updTile_reaches {P : Tile → Prop} {f : Tile → Tile} (hP : ∀ x, P x → P (f x)) {l : List Nat} {k : Nat}
    (hk : k ∈ l) {s : State} (hf : P (f (s.tile k))) : P ((s.each l fun s t => s.updTile t f).tile k) := by
  have hkeep : ∀ (u : State) (t : Nat), P (u.tile k) → P ((u.updTile t f).tile k) := fun u t hu => by
    by_cases h : k = t
    · subst h; rw [State.tile_updTile]; exact hP _ hu
    · rwa [State.tile_updTile_ne _ _ h]
  induction l generalizing s with
  | nil => cases hk
  | cons t l ih =>
    change P (((s.updTile t f).each l fun s t => s.updTile t f).tile k)
    by_cases h : k = t
    · subst h
      exact State.each_keeps (fun u => P (u.tile k)) _ _ hkeep (by rwa [State.tile_updTile])
    · exact ih ((List.mem_cons.mp hk).resolve_left h) (by rwa [State.tile_updTile_ne _ _ h])

theorem State.barBase_congr {s u : State} (h : u.grouping = s.grouping) (c : Nat) : u.barBase c = s.barBase c := by
  simp only [State.barBase, State.num, State.val_congr h]

/-- The release reaches each tile of the list. -/
theorem State.each_released_passed {s u : State} (hg : u.grouping = s.grouping) {b gen c k : Nat} {l : List Nat} (hk : k ∈ l)
    (hp : ((u.tile k).released (b - s.barBase c) gen).passed (b - s.barBase c)) :
    ((u.each l fun u t => u.updTile t fun x => x.released (b - u.barBase c) gen).tile k).passed (b - s.barBase c) := by
  rw [State.each_congr (I := fun u => u.grouping = s.grouping)
    (g := fun u t => u.updTile t fun x => x.released (b - s.barBase c) gen)
    (fun u t hu => by simp only [State.barBase_congr hu]) (fun _ _ hu => by exact hu) l hg]
  exact State.each_updTile_reaches (P := (Tile.passed · _)) (fun _ => Tile.passed_released) hk hp

/-- A release takes the arrivals owed from the round's count, and each tile that takes part has its release. -/
theorem State.barRelease_releases {s : State} {b gen : Nat} {r : Barrier} (hr : s.barrier b = some r)
    (hrel : s.releasable b gen r = true) :
    (∃ x, (s.barRelease b gen).barrier b = some x ∧ x.count gen = r.count gen - s.barrierTotal r) ∧
      ∀ k ∈ s.groupTiles r.cuvee r.tgroup, ((s.tile k).released (b - s.barBase r.cuvee) gen).passed (b - s.barBase r.cuvee) →
        ((s.barRelease b gen).tile k).passed (b - s.barBase r.cuvee) := by
  unfold State.barRelease
  split
  · next hn => cases hn.symm.trans hr
  · next r' hr' =>
    cases hr'.symm.trans hr
    rw [if_neg (by simp [hrel])]
    extract_lets peers s1 s2 s3
    have hg : s2.grouping = s.grouping := State.updBarrier_grouping s1 ..
    have hnet : s3.net = s2.net := State.each_frame State.net _ _ _ fun _ _ => rfl
    have hreleased : (∃ x, s3.barrier b = some x ∧ x.count gen = r.count gen - s.barrierTotal r) ∧
        ∀ k ∈ s.groupTiles r.cuvee r.tgroup,
          ((s.tile k).released (b - s.barBase r.cuvee) gen).passed (b - s.barBase r.cuvee) →
          (s3.tile k).passed (b - s.barBase r.cuvee) := by
      refine ⟨?_, fun k hk hp => State.each_released_passed hg ?_ ?_⟩
      · rw [State.barrier, hnet]
        exact ⟨_, State.barrier_updBarrier (s := s1) hr _, Barrier.count_setCount r gen _⟩
      · rwa [State.groupTiles_congr hg]
      · rwa [State.tile_of_tiles (State.updBarrier_tiles s1 ..)]
    split
    · exact hreleased
    · split
      · exact hreleased
      · simp only [State.barrier, State.tile, State.each_frame State.net _ _ _ fun u d => (u.forwardMsg_onModule ..).2,
          State.each_frame State.tiles _ _ _ fun u d => (u.forwardMsg_onModule ..).1]
        exact hreleased

/-! ## FLAG_SET (R178) -/

theorem State.tile_each_of_not_mem {f : State → Nat → State} (hother : ∀ s t k, k ≠ t → (f s t).tile k = s.tile k) {l : List Nat}
    {k : Nat} (hk : k ∉ l) (s : State) : (s.each l f).tile k = s.tile k := by
  induction l generalizing s with
  | nil => rfl
  | cons t l ih =>
    obtain ⟨ht, hl⟩ := not_or.mp (List.mem_cons.not.mp hk)
    exact (ih hl (f s t)).trans (hother s t k ht)

/-- One change of each tile of a list without repeats. -/
theorem State.tile_each_of_nodup {f : State → Nat → State} {g : Tile → Tile} (hself : ∀ s t, (f s t).tile t = g (s.tile t))
    (hother : ∀ s t k, k ≠ t → (f s t).tile k = s.tile k) {l : List Nat} (hl : l.Nodup) {k : Nat} (hk : k ∈ l) (s : State) :
    (s.each l f).tile k = g (s.tile k) := by
  induction l generalizing s with
  | nil => cases hk
  | cons t l ih =>
    obtain ⟨ht, hl⟩ := List.nodup_cons.mp hl
    change ((f s t).each l f).tile k = _
    by_cases h : k = t
    · subst h
      rw [State.tile_each_of_not_mem hother ht, hself]
    · rw [ih hl ((List.mem_cons.mp hk).resolve_left h), hother s t k h]

/-- The tile with a flag's counter raised, up to 255. -/
def Tile.raiseFlag (x : Tile) (flag count : Nat) : Tile :=
  { x with flags := x.flags.set 0 flag (min 255 (x.flags.getD flag 0 + count)) }

theorem Tile.raiseFlag_flag (x : Tile) (flag count : Nat) :
    (x.raiseFlag flag count).flags.getD flag 0 = min 255 (x.flags.getD flag 0 + count) := Sparse.getD_set_self ..

/-- A flag set that the tree brings to the root raises the flag of every tile of the cuvee, up to 255. -/
theorem State.flagSet_raises {s : State} {c flag count : Nat} {fs : List TendrilFlit} (h0 : 0 < count) (hc : count ≤ 255)
    (hfl : flag < 128) (hn : (s.cvTiles c).Nodup)
    (hf : takeFlits 0 3 ((c * 128 + flag) * 32) 8 (s.net.tendril.map fun f =>
      if f.kind == 3 && f.payload / 2 ^ 8 == (c * 128 + flag) * 32 then { f with node := 0 } else f) count = some fs) :
    (s.flagSet c flag count).net.tendril = fs ∧
      ∀ k ∈ s.cvTiles c, ((s.flagSet c flag count).tile k).flags.getD flag 0 = min 255 ((s.tile k).flags.getD flag 0 + count) := by
  unfold State.flagSet
  rw [if_neg (by simp; omega)]
  extract_lets mine
  split
  · next hn => cases hn.symm.trans hf
  · next fs' hfs =>
    cases hfs.symm.trans hf
    extract_lets u
    refine ⟨(congrArg NetSt.tendril (State.each_frame State.net _ _ u ?_)).trans rfl, fun k hk => ?_⟩
    · exact fun _ _ => rfl
    · rw [State.eachTile, show u.cvTiles c = s.cvTiles c from rfl,
        State.tile_each_of_nodup (g := (Tile.raiseFlag · flag count)) ?_ ?_ hn hk]
      · exact Tile.raiseFlag_flag ..
      · exact fun v t => (State.tile_of_tiles (State.updCuvee_tiles ..) t).trans (State.tile_updTile ..)
      · exact fun v t k h => (State.tile_of_tiles (State.updCuvee_tiles ..) k).trans (State.tile_updTile_ne _ _ h)

/-- Settles O34. -/
theorem barriersAndFlags : Obligations.BarriersAndFlags := by
  unfold Obligations.BarriersAndFlags
  refine ⟨fun s b gen count r fs hg h0 hc hr => ⟨fun hf => ?_, fun node ht hz ho hf => ?_⟩, fun s b gen r hr hrel => ?_,
    fun s c flag count fs h0 hc hfl hf hn => ?_⟩
  · obtain ⟨ht, x, hx, hcount⟩ := State.barArrive_top hg h0 hc hr hf
    exact ⟨_, x, rfl, ht, hx, hcount⟩
  · exact ⟨_, rfl, State.barArrive_below hg h0 hc hr ht hz ho hf⟩
  · obtain ⟨⟨x, hx, hcount⟩, ht⟩ := State.barRelease_releases hr hrel
    exact ⟨_, x, rfl, hx, hcount, fun k hk ha hgens hl => ht k hk (Tile.released_passed ha hgens hl)⟩
  · exact ⟨_, rfl, State.flagSet_raises h0 hc hfl hn hf⟩

end Sys2Proof.Machine

/-! # Upkeep of the parcel memory -/

namespace Sys2Proof.Machine

/-! ## Repair writes and patrol scrub (R191, R192) -/

/-- A corrected sector whose repair write holds an entry is written back once, and 32 bytes are counted. -/
theorem State.repairWrite_of_held {s : State} {k sector : Nat} (h : (k, sector) ∈ s.repairsHeld (pcParcel k)) :
    s.repairWrite k sector =
      (s.updParcel (pcParcel k) fun p => { p with repairs := p.repairs.erase (k, sector) }).count (8 * (4096 + k) + 2) 32 :=
  if_pos (List.contains_iff_mem.mpr h)

/-- A sector that patrol scrub finds clean leaves the traffic of its read and the instant of the pass. -/
theorem State.patrolScrub_clean {s : State} {k c : Nat} (h : (s.pc k).owner = some c) (sector : Nat) :
    s.patrolScrub k sector .clean =
      (s.count (8 * (4096 + k) + 2) 32).updPc k fun x => { x with scrubbed := s.time.now } := by
  unfold State.patrolScrub
  split
  · next hn => cases hn.symm.trans h
  · rfl

/-! ## What a stack's readout leaves of the memory (R184, R368) -/

/-- A parcel is read from the memory alone. -/
theorem State.parcel_of_mem {s t : State} (h : t.mem = s.mem) (p : Nat) : t.parcel p = s.parcel p :=
  congrArg (·.parcels.getD p ParcelSt.init) h

@[simp] theorem State.updPower_mem (s : State) (f : PowerSt → PowerSt) : (s.updPower f).mem = s.mem := rfl

@[simp] theorem State.episodeNote_mem (s : State) (r sensor peak holds : Nat) (lowest : Bool) :
    (s.episodeNote r sensor peak holds lowest).mem = s.mem := by
  unfold State.episodeNote
  split <;> rfl

@[simp] theorem State.thermalLimiter_mem (s : State) (i st run ms : Nat) : (s.thermalLimiter i st run ms).mem = s.mem := by
  unfold State.thermalLimiter
  (repeat' split) <;> rfl

/-- The thermal limiter that follows a readout is a matter of power: of the memory the readout alone remains. -/
theorem State.stackTemperatureRead_mem {s : State} (h : s.boot.pwrGood = true) (p degC : Nat) :
    (s.stackTemperatureRead p degC).mem = (s.stackReading p degC).mem := by
  unfold State.stackTemperatureRead
  rw [if_neg (by simp [h])]
  extract_lets u ts st first run v w
  have hv : v.mem = u.mem := State.updPower_mem ..
  have hw : w.mem = v.mem := by
    unfold w
    split
    · exact State.thermalLimiter_mem ..
    · rfl
  rw [State.episodeNote_mem, hw, hv]

/-- What a readout makes of its parcel: refresh doubles from 85 °C on, is normal again at 82 °C and stays between (R184). -/
theorem State.stackReading_parcel (s : State) (p degC : Nat) :
    (s.stackReading p degC).parcel p = { s.parcel p with
      temp := degC
      refreshNext := if 85 ≤ degC then true else if degC ≤ 82 then false else (s.parcel p).refreshNext } :=
  State.parcel_updParcel ..

/-! ## Ways that become clean (R196) -/

theorem State.wayCleaningDone_of_cleaning {s : State} {p way : Nat} (h : way ∈ (s.parcel p).cleaning) :
    (s.wayCleaningDone p way).parcel p = { s.parcel p with
      cleaning := (s.parcel p).cleaning.filter (· != way)
      lines := (s.parcel p).lines.filter fun l => l.way != way } := by
  unfold State.wayCleaningDone
  rw [if_pos (List.contains_iff_mem.mpr h), State.parcel_updParcel]

/-- Settles O35. -/
theorem memoryUpkeep : Obligations.MemoryUpkeep := by
  unfold Obligations.MemoryUpkeep
  refine ⟨fun s k sector h => ⟨_, rfl, ?_⟩, fun s k sector c h => ⟨_, rfl, ?_⟩, fun s p degC h => ⟨_, rfl, ?_⟩,
    fun s p way h => ⟨_, rfl, ?_⟩⟩
  · rw [State.repairWrite_of_held h, State.parcel_of_mem (State.count_mem ..), State.parcel_updParcel]
    exact ⟨rfl, rfl⟩
  · rw [State.patrolScrub_clean h, State.pc_updPc]
    exact ⟨rfl, rfl⟩
  · rw [State.parcel_of_mem (State.stackTemperatureRead_mem h p degC), State.stackReading_parcel]
    refine ⟨rfl, fun hot => if_pos hot, fun cool => ?_, fun above below => ?_⟩
    · exact (if_neg (by omega)).trans (if_pos cool)
    · exact (if_neg (by omega)).trans (if_neg (by omega))
  · rw [State.wayCleaningDone_of_cleaning h]
    exact ⟨by simp, fun l hl => by simpa using (List.mem_filter.mp hl).2⟩

end Sys2Proof.Machine

/-! # Transfers of the link ports (R230–R232, R324–R326)

A transfer lives in its port's record, and few operations reach that record: what serves, answers or closes a transfer, and
what withdraws a cask's offer after it, otherwise leaves the links and the dictionary as they are. -/

namespace Sys2Proof.Machine

/-- The link ports with their transfers, and the dictionary, which holds this device's ID and its windows. -/
def State.linkSide (s : State) : LinkSt × DictSt := (s.links, s.dict)

@[simp] theorem State.linkSide_mk (a b c d e f g h i j k l m n o p q r t u v w) :
    (State.mk a b c d e f g h i j k l m n o p q r t u v w).linkSide = (m, d) := rfl
@[simp] theorem State.linkSide_eta (s : State) : (s.links, s.dict) = s.linkSide := rfl
@[simp] theorem State.linkSide_ite (p : Prop) [Decidable p] (s t : State) :
    (if p then s else t).linkSide = if p then s.linkSide else t.linkSide := apply_ite ..
@[simp] theorem State.each_linkSide {α : Type} (s : State) (l : List α) (f : State → α → State)
    (hf : ∀ s x, (f s x).linkSide = s.linkSide) : (s.each l f).linkSide = s.linkSide :=
  State.each_frame State.linkSide f l s hf

/-! ## What leaves the links and the dictionary alone -/

/-! ### Units, counters and packets -/

@[simp] theorem State.updCuvee_linkSide (s : State) (c : Nat) (f : Cuvee → Cuvee) :
    (s.updCuvee c f).linkSide = s.linkSide := rfl
@[simp] theorem State.updPc_linkSide (s : State) (k : Nat) (f : Pc → Pc) : (s.updPc k f).linkSide = s.linkSide := rfl
@[simp] theorem State.updParcel_linkSide (s : State) (p : Nat) (f : ParcelSt → ParcelSt) :
    (s.updParcel p f).linkSide = s.linkSide := rfl
@[simp] theorem State.count_linkSide (s : State) (key n : Nat) : (s.count key n).linkSide = s.linkSide := rfl
@[simp] theorem State.tally_linkSide (s : State) (c k n : Nat) : (s.tally c k n).linkSide = s.linkSide := by simp [State.tally]
@[simp] theorem State.hbmWrite_linkSide (s : State) (k off : Nat) (bs : List Byte) :
    (s.hbmWrite k off bs).linkSide = s.linkSide := rfl
@[simp] theorem State.hostWrite_linkSide (s : State) (p : HostPort) (fn addr : Nat) (bs : List Byte) (noSnoop : Bool)
    (tee : Option Nat) : (s.hostWrite p fn addr bs noSnoop tee).linkSide = s.linkSide := by
  cases p <;> rfl
@[simp] theorem State.inject_linkSide (s : State) (p : Packet) : (s.inject p).linkSide = s.linkSide := by simp [State.inject]
@[simp] theorem State.answer_linkSide (s : State) (p : Packet) (ty status : Nat) (data : List Byte) :
    (s.answer p ty status data).linkSide = s.linkSide := by
  simp [State.answer]

/-! ### The daybook and the fault logs -/

@[simp] theorem State.setBook_linkSide (s : State) (c : Nat) (b : Daybook) : (s.setBook c b).linkSide = s.linkSide := rfl
@[simp] theorem State.bookTrigger_linkSide (s : State) (c src tag : Nat) : (s.bookTrigger c src tag).linkSide = s.linkSide := by
  simp [State.bookTrigger]
@[simp] theorem State.bookOffer_linkSide (s : State) (c : Nat) (recs : List Nat) :
    (s.bookOffer c recs).linkSide = s.linkSide := by
  simp [State.bookOffer]
@[simp] theorem State.jobBegin_linkSide (s : State) (c engine code tag arg0 arg2 : Nat) :
    (s.jobBegin c engine code tag arg0 arg2).linkSide = s.linkSide := by
  simp [State.jobBegin, State.daybook]
@[simp] theorem State.jobEnd_linkSide (s : State) (c engine code tag arg0 status arg2 : Nat) :
    (s.jobEnd c engine code tag arg0 status arg2).linkSide = s.linkSide := by
  simp [State.jobEnd, State.daybook]
@[simp] theorem State.plainFault_linkSide (s : State) (c kind cls unit arg0 arg1 detail : Nat) :
    (s.plainFault c kind cls unit arg0 arg1 detail).linkSide = s.linkSide := rfl

/-! ### Parcel memory and translation -/

@[simp] theorem State.unpoison_linkSide (s : State) (k off n : Nat) : (s.unpoison k off n).linkSide = s.linkSide := rfl
@[simp] theorem State.touchLine_linkSide (s : State) (k line c mask policy sectors : Nat) (write : Bool) :
    (s.touchLine k line c mask policy sectors write).2.linkSide = s.linkSide := by
  simp only [State.touchLine]; (repeat' split) <;> simp
@[simp] theorem State.memTraffic_linkSide (s : State) (k off n c label policy : Nat) (write : Bool) :
    (s.memTraffic k off n c label policy write).linkSide = s.linkSide := by
  simp [State.memTraffic]
@[simp] theorem State.openSample_linkSide (s : State) (k l : Nat) : (s.openSample k l).linkSide = s.linkSide := rfl
@[simp] theorem State.walkCounted_linkSide (s : State) (c va k : Nat) : (s.walkCounted c va k).2.linkSide = s.linkSide := by
  simp [State.walkCounted]
@[simp] theorem State.fillUnit_linkSide (s : State) (c p key value : Nat) :
    (s.fillUnit c p key value).linkSide = s.linkSide := rfl
theorem State.unitLookup_linkSide {s : State} {c p va : Nat} {q : Leaf × State} (h : s.unitLookup c p va = some q) :
    q.2.linkSide = s.linkSide := by
  obtain ⟨e, -, rfl⟩ := Option.map_eq_some_iff.mp h
  rfl
@[simp] theorem State.unitTranslate_linkSide (s : State) (c p va : Nat) : (s.unitTranslate c p va).2.linkSide = s.linkSide := by
  unfold State.unitTranslate
  split
  · next h => exact State.unitLookup_linkSide h
  · simp only []; split <;> simp
@[simp] theorem State.resolved_linkSide (c va len label : Nat) (write : Bool) (r : Except Nat Leaf × State) :
    (State.resolved c va len label write r).2.linkSide = r.2.linkSide := by
  unfold State.resolved; (repeat' split) <;> rfl
@[simp] theorem State.translate_linkSide (s : State) (c va len label : Nat) (write : Bool) :
    (s.translate c va len label write).2.linkSide = s.linkSide := by
  simp [State.translate]
@[simp] theorem State.hostTraffic_linkSide (s : State) (c n : Nat) : (s.hostTraffic c n).linkSide = s.linkSide := by
  simp [State.hostTraffic]
@[simp] theorem State.memRead_linkSide (s : State) (k off n c label policy : Nat) :
    (s.memRead k off n c label policy).2.2.linkSide = s.linkSide := by
  simp [State.memRead]
@[simp] theorem State.memWrite_linkSide (s : State) (k off : Nat) (bs : List Byte) (c label policy : Nat) :
    (s.memWrite k off bs c label policy).linkSide = s.linkSide := by
  simp [State.memWrite]
@[simp] theorem State.vaWriteChunks_linkSide (s : State) (c label : Nat) (l : List (Nat × Nat)) (bs : List Byte) :
    (s.vaWriteChunks c label l bs).2.linkSide = s.linkSide := by
  induction l generalizing s bs with
  | nil => rfl
  | cons e rest ih => unfold State.vaWriteChunks; simp only []; (repeat' split) <;> simp [ih]
@[simp] theorem State.coreWrite_linkSide (s : State) (c va : Nat) (bs : List Byte) :
    (s.coreWrite c va bs).linkSide = s.linkSide := by
  simp only [State.coreWrite, State.vaWrite]; split <;> simp

/-! ### Inbound accesses (R231, R232) and the answers of a transfer (R324, R325) -/

@[simp] theorem State.xferError_linkSide (s : State) (c i : Nat) : (s.xferError c i).linkSide = s.linkSide := rfl
@[simp] theorem State.linkTraffic_linkSide (s : State) (c n : Nat) : (s.linkTraffic c n).linkSide = s.linkSide := by
  simp [State.linkTraffic]
@[simp] theorem State.inboundPlaces_linkSide (s : State) (c u label : Nat) (write : Bool) (l : List (Nat × Nat)) :
    (s.inboundPlaces c u label write l).2.linkSide = s.linkSide := by
  induction l generalizing s with
  | nil => rfl
  | cons e rest ih => unfold State.inboundPlaces; simp only []; split <;> simp [ih]
@[simp] theorem State.inboundWrite_linkSide (s : State) (c op : Nat) (l : List (Nat × Nat × Nat × Nat × Nat)) (bs : List Byte) :
    (s.inboundWrite c op l bs).linkSide = s.linkSide := by
  induction l generalizing s bs with
  | nil => rfl
  | cons e rest ih => unfold State.inboundWrite; simp [ih]
@[simp] theorem State.inboundRead_linkSide (s : State) (c : Nat) (l : List (Nat × Nat × Nat × Nat × Nat)) :
    (s.inboundRead c l).2.2.linkSide = s.linkSide := by
  induction l generalizing s with
  | nil => rfl
  | cons e rest ih => unfold State.inboundRead; simp [ih]
@[simp] theorem State.answerXfer_linkSide (s : State) (x : LinkXfer) (st : Nat) (data : List Byte) :
    (s.answerXfer x st data).linkSide = s.linkSide := by
  simp [State.answerXfer]

/-! ### Casks that stay (R337, R341) -/

@[simp] theorem State.setCask_linkSide (s : State) (c id : Nat) (x : Cask) : (s.setCask c id x).linkSide = s.linkSide := by
  simp [State.setCask, State.updServing]
@[simp] theorem State.completeJob_linkSide (s : State) (c : Nat) (j : Job) (result units cask : Nat) :
    (s.completeJob c j result units cask).linkSide = s.linkSide := by
  simp [State.completeJob, State.complete, State.updRing]
@[simp] theorem State.logOutcome_linkSide (s : State) (c uid vintage outcome receiver device : Nat) :
    (s.logOutcome c uid vintage outcome receiver device).linkSide = s.linkSide := by
  unfold State.logOutcome
  split
  · rfl
  · simp [State.setLog, State.updServing]
@[simp] theorem State.caskCount_linkSide (s : State) (c i : Nat) : (s.caskCount c i).linkSide = s.linkSide := rfl

/-! ## What is read of the links and the dictionary -/

theorem State.port_of_linkSide {s t : State} (h : t.linkSide = s.linkSide) (k : Nat) : t.port k = s.port k :=
  congrArg (·.1.ports.getD k LinkPort.init) h
theorem State.deviceId_of_linkSide {s t : State} (h : t.linkSide = s.linkSide) : t.deviceId = s.deviceId := by
  unfold State.deviceId State.num State.val
  rw [show t.dict = s.dict from congrArg Prod.snd h]
theorem State.linkXfer_of_linkSide {s t : State} (h : t.linkSide = s.linkSide) (k : Nat) (mine : Bool) (tag : Nat) :
    t.linkXfer k mine tag = s.linkXfer k mine tag := by
  unfold State.linkXfer
  rw [State.port_of_linkSide h]

/-! ## The transfers of a port -/

/-- A change of a port that leaves its transfers as they are. -/
theorem State.linkXfer_updPort {s : State} {j : Nat} {f : LinkPort → LinkPort} (hf : (f (s.port j)).xfers = (s.port j).xfers)
    (k : Nat) (mine : Bool) (tag : Nat) : (s.updPort j f).linkXfer k mine tag = s.linkXfer k mine tag := by
  unfold State.linkXfer
  by_cases h : k = j
  · subst h
    rw [State.port_updPort, hf]
  · rw [State.port_updPort_ne _ _ h]

@[simp] theorem State.linkXfer_linkSend (s : State) (j : Nat) (m : LinkMsg) (k : Nat) (mine : Bool) (tag : Nat) :
    (s.linkSend j m).linkXfer k mine tag = s.linkXfer k mine tag :=
  State.linkXfer_updPort (by rfl) k mine tag

@[simp] theorem State.linkXfer_dropXfer_self (s : State) (k : Nat) (mine : Bool) (tag : Nat) :
    (s.dropXfer k mine tag).linkXfer k mine tag = none := by
  unfold State.linkXfer State.dropXfer
  rw [State.port_updPort, List.find?_eq_none]
  intro x hx
  simpa [imp_iff_not_or] using (List.mem_filter.mp hx).2

/-- No transfer comes by dropping another. -/
theorem State.linkXfer_dropXfer_none {s : State} {k : Nat} {mine : Bool} {tag : Nat} (h : s.linkXfer k mine tag = none)
    (j : Nat) (mine' : Bool) (tag' : Nat) : (s.dropXfer j mine' tag').linkXfer k mine tag = none := by
  unfold State.linkXfer State.dropXfer at *
  by_cases hj : k = j
  · subst hj
    rw [State.port_updPort]
    exact List.find?_eq_none.mpr fun x hx => List.find?_eq_none.mp h x (List.mem_filter.mp hx).1
  · rwa [State.port_updPort_ne _ _ hj]

/-- A change of a transfer that keeps its side and tag is what that transfer then is. -/
theorem State.linkXfer_updXfer_self {s : State} {k : Nat} {mine : Bool} {tag : Nat} {f : LinkXfer → LinkXfer}
    (hf : ∀ x, (f x).mine = x.mine ∧ (f x).xtag = x.xtag) :
    (s.updXfer k mine tag f).linkXfer k mine tag = (s.linkXfer k mine tag).map f := by
  unfold State.linkXfer State.updXfer
  rw [State.port_updPort]
  generalize (s.port k).xfers = l
  induction l with
  | nil => rfl
  | cons x l ih =>
    obtain ⟨hm, ht⟩ := hf x
    by_cases h : x.mine = mine ∧ x.xtag = tag
    · simp [h, hm, ht]
    · simpa [h] using ih

/-! ## Messages taken from an inbox -/

theorem State.takeMsg_of_mem {s : State} {k : Nat} {m : LinkMsg} (h : m ∈ (s.port k).inbox) :
    s.takeMsg k m = some (s.updPort k fun p => { p with inbox := p.inbox.erase m }) :=
  if_pos (List.contains_iff_mem.mpr h)

theorem State.eq_of_takeMsg {s u : State} {k : Nat} {m : LinkMsg} (h : s.takeMsg k m = some u) :
    u = s.updPort k fun p => { p with inbox := p.inbox.erase m } := by
  unfold State.takeMsg at h
  split at h
  · exact (Option.some.inj h).symm
  · cases h

/-- What taking a message leaves: the port's transfers and what waits to be sent. -/
theorem State.linkXfer_takeMsg {s u : State} {k : Nat} {m : LinkMsg} (h : s.takeMsg k m = some u) (mine : Bool) (tag : Nat) :
    u.linkXfer k mine tag = s.linkXfer k mine tag := by
  rw [State.eq_of_takeMsg h]
  exact State.linkXfer_updPort (by rfl) k mine tag
theorem State.ctl_takeMsg {s u : State} {k : Nat} {m : LinkMsg} (h : s.takeMsg k m = some u) :
    (u.port k).ctl = (s.port k).ctl := by
  rw [State.eq_of_takeMsg h, State.port_updPort]
theorem State.deviceId_takeMsg {s u : State} {k : Nat} {m : LinkMsg} (h : s.takeMsg k m = some u) :
    u.deviceId = s.deviceId := by
  rw [State.eq_of_takeMsg h]
  rfl
theorem State.inbound_takeMsg {s u : State} {k : Nat} {m : LinkMsg} (h : s.takeMsg k m = some u) (i : Nat) :
    u.inbound i = s.inbound i := by
  rw [State.eq_of_takeMsg h]
  rfl
theorem State.inboundOk_takeMsg {s u : State} {k : Nat} {m : LinkMsg} (h : s.takeMsg k m = some u)
    (j window src group offset length : Nat) (write : Bool) :
    u.inboundOk j window src group offset length write = s.inboundOk j window src group offset length write := by
  rw [State.eq_of_takeMsg h]
  rfl

/-! ## Requests that are let through (R231, R232, R325) -/

/-- The places of a request's bytes, by the translation unit of its port's parcel (R231). -/
def State.requestPlaces (s : State) (k : Nat) (m : LinkRequest) : Option (List (Nat × Nat × Nat × Nat × Nat)) × State :=
  s.inboundPlaces (bits (s.inbound m.window) 99 92) ((s.portParcel k).getD 0) (bits (s.inbound m.window) 91 88) (m.op != 3)
    (rangeChunks (bits (s.inbound m.window) 47 0 + m.offset) m.length)

/-- The state in which a request's bytes are written or read: its places are known and its traffic is counted. -/
def State.requestFound (s : State) (k : Nat) (m : LinkRequest) : State :=
  (s.requestPlaces k m).2.linkTraffic (bits (s.inbound m.window) 99 92) m.length

/-- What is done at a request's places: a write is answered DONE, a read gets its answer (R325). -/
def State.performRequest (s : State) (k : Nat) (m : LinkRequest) (c : Nat) (data : List Byte)
    (places : List (Nat × Nat × Nat × Nat × Nat)) : State :=
  if m.op != 3 then ((s.inboundWrite c m.op places data).dropXfer k false m.xtag).sendDone k m 0 m.length
  else
    let q := s.inboundRead c places
    q.2.2.updXfer k false m.xtag fun x => { x with data := q.1, answer := some (b2n q.2.1) }

theorem State.requestFound_linkSide (s : State) (k : Nat) (m : LinkRequest) : (s.requestFound k m).linkSide = s.linkSide := by
  simp [State.requestFound, State.requestPlaces]

/-- A request for this device that is let through, whose data is in, is performed (R231, R232, R325). -/
theorem State.request_of_places {s u : State} {k : Nat} {m : LinkRequest} {x : LinkXfer}
    {places : List (Nat × Nat × Nat × Nat × Nat)} (ht : s.takeMsg k (.request m) = some u) (hdst : m.dst = s.deviceId)
    (hop : m.op < 4) (hx : s.linkXfer k false m.xtag = some x) (hlen : m.op ≠ 3 → m.length ≤ x.data.length)
    (hok : s.inboundOk k m.window m.src m.group m.offset m.length (m.op != 3) = true)
    (hp : (u.requestPlaces k m).1 = some places) :
    s.request k m = (u.requestFound k m).performRequest k m (bits (u.inbound m.window) 99 92) (x.data.take m.length) places := by
  have hclean : (LinkMsg.request m).clean = true := decide_eq_true (by omega)
  have hdata : ¬(m.dst = s.deviceId && m.op ≠ 3 && x.data.length < m.length) = true := by
    simp only [Bool.and_eq_true, decide_eq_true_eq, not_and, not_lt]
    exact fun h => hlen h.2
  have hdst' : ¬m.dst ≠ u.deviceId := not_not.mpr (hdst.trans (State.deviceId_takeMsg ht).symm)
  have hok' := (State.inboundOk_takeMsg ht _ _ _ _ _ _ _).trans hok
  unfold State.request
  rw [hx, ht]
  simp only []
  rw [if_neg (by simp [hclean]), if_neg (by simp; omega), if_neg hdata, if_neg hdst', if_neg (by simp [hok'])]
  unfold State.requestPlaces at hp
  rw [hp]
  rfl

/-- A write that is performed is answered DONE with STATUS 0, and its transfer leaves the port. -/
theorem State.performRequest_write (s : State) (k : Nat) {m : LinkRequest} (hop : m.op ≠ 3) (c : Nat) (data : List Byte)
    (places : List (Nat × Nat × Nat × Nat × Nat)) :
    ((s.performRequest k m c data places).port k).ctl =
        (s.port k).ctl ++ [.done ⟨0, 0, m.xtag, s.deviceId, m.src, m.group, m.length⟩] ∧
      (s.performRequest k m c data places).linkXfer k false m.xtag = none := by
  have hw : s.performRequest k m c data places =
      ((s.inboundWrite c m.op places data).dropXfer k false m.xtag).sendDone k m 0 m.length := if_pos (by simpa using hop)
  have hl := State.inboundWrite_linkSide s c m.op places data
  rw [hw]
  constructor
  · rw [← State.deviceId_of_linkSide hl, ← State.port_of_linkSide hl k]
    simp only [State.sendDone, State.linkSend, State.dropXfer, State.port_updPort]
    rfl
  · exact (State.linkXfer_linkSend ..).trans (State.linkXfer_dropXfer_self ..)

/-- A read that is performed leaves its answer with its transfer. -/
theorem State.performRequest_read {s : State} {k : Nat} {m : LinkRequest} {x : LinkXfer} (hop : m.op = 3)
    (hx : s.linkXfer k false m.xtag = some x) (c : Nat) (data : List Byte) (places : List (Nat × Nat × Nat × Nat × Nat)) :
    ∃ y, (s.performRequest k m c data places).linkXfer k false m.xtag = some y ∧ y.answer.isSome = true := by
  have hl := State.inboundRead_linkSide s c places
  refine ⟨{ x with data := (s.inboundRead c places).1, answer := some (b2n (s.inboundRead c places).2.1) }, ?_, rfl⟩
  unfold State.performRequest
  rw [if_neg (by simp [hop])]
  simp only []
  rw [State.linkXfer_updXfer_self (by simp), State.linkXfer_of_linkSide hl, hx]
  rfl

/-! ## Transfers of this device: closed, answered, out of time (R324, R325, R326) -/

/-- A transfer of this device that is open is closed: its REQUEST goes out. -/
theorem State.closeXfer_of_open {s : State} {k tag : Nat} {x : LinkXfer} (hx : s.linkXfer k true tag = some x)
    (ho : x.open_ = true) :
    ((s.closeXfer k tag).port k).ctl = (s.port k).ctl ++ [.request x.req] ∧
      (s.closeXfer k tag).linkXfer k true tag = some { x with open_ := false } := by
  have hc : s.closeXfer k tag =
      ((s.updXfer k true tag fun x => { x with open_ := false }).linkSend k (.request x.req)).jobBegin x.cuvee 4 x.req.op tag
        x.req.length x.req.dst := by
    unfold State.closeXfer
    rw [hx]
    exact if_neg (by simp [ho])
  have hl := State.jobBegin_linkSide ((s.updXfer k true tag fun x => { x with open_ := false }).linkSend k (.request x.req))
    x.cuvee 4 x.req.op tag x.req.length x.req.dst
  rw [hc]
  constructor
  · rw [State.port_of_linkSide hl]
    simp [State.linkSend, State.updXfer]
  · rw [State.linkXfer_of_linkSide hl, State.linkXfer_linkSend, State.linkXfer_updXfer_self (by simp), hx]
    rfl

/-- A transfer of this device that has ended is not on its port. -/
theorem State.linkXfer_endXfer (s : State) (k tag st : Nat) (data : List Byte) :
    (s.endXfer k tag st data).linkXfer k true tag = none := by
  unfold State.endXfer
  split
  · assumption
  · exact (State.linkXfer_of_linkSide (State.answerXfer_linkSide ..) k true tag).trans (State.linkXfer_dropXfer_self ..)

/-- A transfer that runs out of time is dropped, unless its cuvee stands still with the links of its group (R444). -/
theorem State.linkXfer_transferTimeout {s : State} {k tag : Nat} {x : LinkXfer} (hx : s.linkXfer k true tag = some x)
    (hrun : ((s.cuvee x.cuvee).state ≠ .frozen ∧ (s.cuvee x.cuvee).state ≠ .saved) ∨ (s.cuvee x.cuvee).linksRun = true) :
    (s.transferTimeout k tag).linkXfer k true tag = none := by
  have hgo : ¬(((s.cuvee x.cuvee).state = .frozen || (s.cuvee x.cuvee).state = .saved) &&
      !(s.cuvee x.cuvee).linksRun) = true := by
    rcases hrun with ⟨hf, hs⟩ | hr
    · simp [hf, hs]
    · simp [hr]
  unfold State.transferTimeout
  rw [hx]
  simp only []
  rw [if_neg hgo, State.linkXfer_of_linkSide (State.answerXfer_linkSide ..)]
  exact (State.linkXfer_of_linkSide (State.xferError_linkSide ..) k true tag).trans (State.linkXfer_dropXfer_self ..)

/-! ## A DONE (R322, R325), and the offers that it may break (R344) -/

/-- A stream that is dropped brings no transfer. -/
theorem State.linkXfer_dropStream_none {s : State} {k tag : Nat} {mine : Bool} (h : s.linkXfer k mine tag = none) (x : Cask)
    (st : Nat) : (s.dropStream x st).linkXfer k mine tag = none := by
  have hd := State.linkXfer_dropXfer_none h x.port true x.xtag
  unfold State.dropStream
  split
  · exact h
  · simp only []
    split
    · exact hd
    · exact (State.linkXfer_of_linkSide (State.jobEnd_linkSide ..) k mine tag).trans hd

/-- An offer that is withdrawn brings no transfer. -/
theorem State.linkXfer_withdraw_none {s : State} {k tag : Nat} {mine : Bool} (h : s.linkXfer k mine tag = none)
    (c id : Nat) (x : Cask) : (s.withdraw c id x).linkXfer k mine tag = none := by
  have hl : ((s.logOutcome c x.uid (x.vintage + 1) 3 0 x.peer).caskCount c 3).linkSide = s.linkSide := by simp
  have hd := State.linkXfer_dropStream_none ((State.linkXfer_of_linkSide hl k mine tag).trans h) x 3
  unfold State.withdraw State.endOffer
  split
  · rw [State.linkXfer_of_linkSide (State.completeJob_linkSide ..), State.linkXfer_of_linkSide (State.setCask_linkSide ..), hd]
  · rw [State.linkXfer_of_linkSide (State.setCask_linkSide ..), hd]

/-- The withdrawal of every broken offer brings no transfer. -/
theorem State.linkXfer_allBroken_none {s : State} {k tag : Nat} {mine : Bool} (h : s.linkXfer k mine tag = none) :
    s.allBroken.linkXfer k mine tag = none :=
  State.each_keeps (fun s => s.linkXfer k mine tag = none) _ _ (fun s c hs =>
    State.each_keeps (fun s => s.linkXfer k mine tag = none) _ _ (fun s e he => by
      split
      · exact State.linkXfer_withdraw_none he c e.1 e.2
      · exact he) hs) h

/-- A DONE with a STATUS that the manual gives ends this device's transfer, forwarded ones and cask streams aside. -/
theorem State.linkXfer_doneMessage {s : State} {k : Nat} {m : LinkDone} {x : LinkXfer} (hm : (.done m) ∈ (s.port k).inbox)
    (hst : m.status ≤ 5) (hx : s.linkXfer k true m.xtag = some x) (hf : x.fwdPort = none) (hop : x.req.op ≠ 4) :
    (s.doneMessage k m).linkXfer k true m.xtag = none := by
  have ht := State.takeMsg_of_mem hm
  have hclean : (LinkMsg.done m).clean = true := decide_eq_true hst
  unfold State.doneMessage
  rw [if_neg (by simp [hclean]), ht]
  simp only [(State.linkXfer_takeMsg ht true m.xtag).trans hx, hf, if_neg hop]
  exact State.linkXfer_endXfer ..

/-- Settles O45. -/
theorem transfers : Obligations.Transfers := by
  unfold Obligations.Transfers
  refine ⟨fun s u k m x places ht hdst hop hx hok hp => ?_, fun s k tag x hx => ⟨fun m hm htag hst hf h4 => ?_, fun ho => ?_,
    fun hrun => ⟨_, rfl, State.linkXfer_transferTimeout hx hrun⟩⟩⟩
  · have hl := State.requestFound_linkSide u k m
    have hp' : (u.requestPlaces k m).1 = some places := by
      unfold State.requestPlaces
      rwa [State.inbound_takeMsg ht]
    refine ⟨fun h3 hlen => ⟨_, rfl, ?_⟩, fun h3 => ?_⟩
    · rw [State.request_of_places ht hdst hop hx (fun _ => hlen) hok hp', ← State.deviceId_takeMsg ht,
        ← State.deviceId_of_linkSide hl, ← State.ctl_takeMsg ht, ← State.port_of_linkSide hl]
      exact State.performRequest_write _ k h3 _ _ places
    · obtain ⟨y, hy⟩ := State.performRequest_read h3
        ((State.linkXfer_of_linkSide hl ..).trans ((State.linkXfer_takeMsg ht ..).trans hx)) _ _ places
      exact ⟨_, y, congrArg Host.Outcome.next (State.request_of_places ht hdst hop hx (fun h => absurd h3 h) hok hp'), hy⟩
  · subst htag
    exact ⟨_, rfl, State.linkXfer_allBroken_none (State.linkXfer_doneMessage hm hst hx hf h4)⟩
  · obtain ⟨hctl, hy⟩ := State.closeXfer_of_open hx ho
    exact ⟨_, rfl, hctl, fun y h => by cases hy.symm.trans h; rfl⟩

end Sys2Proof.Machine

/-! # Cuvee commands (R245–R249) -/

namespace Sys2Proof.Machine

/-- The table's row of CuveeCommand (R245). -/
def cuveeCommandRow : ObjDesc :=
  ⟨0x3012, 0x3012, 0x01, 0xFE, "CuveeCommand[c]", .blob, 2, 0, 2, true, .cuvee, true, 16, 16, 1, ⟨16, 0⟩, none⟩

/-- Cuvees 1–254 have a CuveeCommand, and no other object stands at its index. -/
theorem objAt_cuveeCommand {c : Nat} (h1 : 1 ≤ c) (h2 : c ≤ 254) : objAt 0x3012 c = some cuveeCommandRow := by
  have hrow : objects.filter (fun d => decide (d.idx ≤ 0x3012) && decide (0x3012 ≤ d.idxHi)) = [cuveeCommandRow] := by
    decide +kernel
  have hfind := List.find?_filter (xs := objects) (p := fun d => decide (d.idx ≤ 0x3012) && decide (0x3012 ≤ d.idxHi))
    (q := fun d => decide (d.subLo ≤ c) && decide (c ≤ d.subHi))
  rw [hrow] at hfind
  calc objAt 0x3012 c = _ := congrArg (List.find? · objects) (funext fun d => by simp [Bool.and_assoc])
    _ = _ := hfind.symm
    _ = some cuveeCommandRow := by simp [cuveeCommandRow, h1, h2]

/-- A record whose fields fit reads back from its bytes (R245). -/
theorem parseRecord_packRecord {code : Nat} {k : CmdRec} (hc : code < 2 ^ 8) (he : k.epoch < 2 ^ 40) (hs : k.slot < 2 ^ 12)
    (hr : k.reserved < 2 ^ 3) (ha : k.arg < 2 ^ 64) : parseRecord (packRecord code k).val = (code, k) := by
  obtain ⟨named, epoch, slot, reserved, arg⟩ := k
  simp only [parseRecord, packRecord, field, bits, bit, Nat.shiftLeft_eq, Nat.shiftRight_eq_div_pow,
    Nat.testBit_eq_decide_div_mod_eq, Nat.mod_eq_of_lt hc, Nat.mod_eq_of_lt he, Nat.mod_eq_of_lt hs, Nat.mod_eq_of_lt hr,
    Nat.mod_eq_of_lt ha] at *
  norm_num at *
  cases named <;> simp [b2n] <;> omega

/-- What R245 and R246 ask of a record's own fields. -/
theorem State.fields_of_recordStatus {s : State} {code : Nat} {k : CmdRec} (h : s.recordStatus code k = stOk) :
    code < 2 ^ 8 ∧ k.epoch < 2 ^ 40 ∧ k.slot < 2 ^ 12 ∧ k.reserved < 2 ^ 3 ∧ k.arg < 2 ^ 64 := by
  have hall := of_not_not fun hn => absurd ((if_neg hn).symm.trans h) (by decide)
  simp only [Bool.and_eq_true, decide_eq_true_eq] at hall
  obtain ⟨⟨⟨⟨⟨⟨⟨-, hcode⟩, hres⟩, hslot⟩, hepoch⟩, harg⟩, -⟩, -⟩ := hall
  refine ⟨by omega, hepoch, hslot, by omega, ?_⟩
  split at harg
  · simp only [Bool.and_eq_true, decide_eq_true_eq] at harg
    omega
  · simp only [decide_eq_true_eq] at harg
    omega

/-! ## A command that is accepted, and one that finds another staged (R247, R249) -/

theorem State.command_of_legal {s : State} {a : Acc} {c code : Nat} {k : CmdRec} (hr : s.recordStatus code k = stOk)
    (hc : s.commandStatus a c code k.arg = (stOk, false)) :
    s.command a c code k =
      if (s.cuvee c).staged.isSome then (stBusy, s) else (stStaged, s.stageCommand a c code k) := by
  simp [State.command, hr, hc]

/-- PAUSE's one condition is its legality (R246). -/
theorem State.commandStatus_pause {s : State} {a : Acc} {c arg : Nat} (h : s.legal c 5 = true) :
    s.commandStatus a c 5 arg = (stOk, false) := by
  simp [State.commandStatus, h]

@[simp] theorem State.filled_cuvee (s : State) (a : Access) (op c : Nat) : (s.filled a op).cuvee c = s.cuvee c := rfl

/-- A plan that is staged begins its record (R251, R273). -/
theorem State.rebindStage_cuvee (s : State) (c : Nat) : (s.rebindStage c).cuvee c =
    { s.cuvee c with rebindActive := true, rebind := { (default : Rebind) with phase := 1 } } := by
  have h : (s.rebindStage c).cuvees = (s.updCuvee c fun v => { v with
      rebindActive := true, rebind := { (default : Rebind) with phase := 1 } }).cuvees := by
    unfold State.rebindStage
    simp only []
    split <;> rfl
  exact (congrArg (Sparse.getD · c Cuvee.init) h).trans (State.cuvee_updCuvee ..)

/-- An accepted command stands staged alone, due at the next boundary, and CommandStatus names and counts it. -/
theorem State.stageCommand_cuvee (s : State) (a : Acc) (c code : Nat) (k : CmdRec) :
    ((s.stageCommand a c code k).cuvee c).staged =
        some ⟨s.dict.nextSeq, code, k, s.time.epochs + 1, a, 16, s.time.now + 200⟩ ∧
      ((s.stageCommand a c code k).cuvee c).status =
        ⟨⟨0, 0, 0⟩, code, stStaged, 0, 1, ((s.cuvee c).status.seq + 1) % 2 ^ 32⟩ := by
  unfold State.stageCommand
  simp only []
  split
  · rw [State.rebindStage_cuvee, State.cuvee_updCuvee]
    exact ⟨rfl, rfl⟩
  · rw [State.cuvee_updCuvee]
    exact ⟨rfl, rfl⟩

/-- The windows wait on while a command is staged. -/
theorem State.stageCommand_window (s : State) (a : Acc) (c code : Nat) (k : CmdRec) (p : Path) :
    (s.stageCommand a c code k).window p = s.window p := by
  unfold State.stageCommand State.rebindStage
  simp only []
  split
  · split <;> rfl
  · rfl

@[simp] theorem State.answerWindow_cuvees (s : State) (p : Path) (g : Nat) (y : Response) :
    (s.answerWindow p g y).cuvees = s.cuvees := by
  unfold State.answerWindow
  simp only []
  split <;> rfl
@[simp] theorem State.answerWindow_cuvee (s : State) (p : Path) (g : Nat) (y : Response) (c : Nat) :
    (s.answerWindow p g y).cuvee c = s.cuvee c := by
  simp [State.cuvee]

/-! ## The manager's write of CuveeCommand -/

theorem State.writeValue_cuveeCommand {s : State} {c code : Nat} {k : CmdRec} (h : s.recordStatus code k = stOk) :
    s.writeValue .manager 2 true (refOf .manager 0x3012 c cuveeCommandRow) (packRecord code k) default =
      ((s.command .manager c code k).1, false, (s.command .manager c code k).2) := by
  obtain ⟨hcode, hepoch, hslot, hres, harg⟩ := State.fields_of_recordStatus h
  have hsize : (packRecord code k).size = 16 := rfl
  have hok : s.writeCode .manager 2 true (refOf .manager 0x3012 c cuveeCommandRow) (packRecord code k) default = stOk := by
    simp [State.writeCode, refOf, cuveeCommandRow, sizeOk, State.valueDenied, hsize]
  unfold State.writeValue
  simp only [hok]
  simp [State.acceptWrite, refOf, cuveeCommandRow, parseRecord_packRecord hcode hepoch hslot hres harg]

/-- A command whose record is sound is served: what it amounts to, and its answer in the manager's window. -/
theorem State.cuveeCommand_heard {s : State} {a : Access} {c code : Nat} {k : CmdRec} (hh : s.hears a = true)
    (hp : a.path = .pf s.dict.steward) (h1 : 1 ≤ c) (h2 : c ≤ 254) (hr : s.recordStatus code k = stOk) :
    ∃ u y, u = s.filled (writingTo a 0x3012 c (packRecord code k)) 2 ∧ y.status = (u.command .manager c code k).1 ∧
      y.tag = a.tag ∧ s.cuveeCommand a c code k = (u.command .manager c code k).2.answerWindow a.path (reqGen a) y := by
  have hcl : s.classOf a.path = some .manager := by rw [hp]; exact congrArg some (if_pos rfl)
  have hval : (packRecord code k).val < 2 ^ (8 * (packRecord code k).size) := by
    simp only [packRecord, field, Nat.shiftLeft_eq]
    omega
  have hcmd : s.cuveeCommand a c code k = s.commandWrite a 0x3012 c (packRecord code k) default := by
    unfold State.cuveeCommand State.cuveeWrite
    rw [hp]
  obtain ⟨u, size, hu, hw⟩ := s.commandWrite_heard a 0x3012 c (packRecord code k) default .manager cuveeCommandRow hh
    (by decide) (by omega) (by simp [packRecord]) hval hcl (by simp) (objAt_cuveeCommand h1 h2) rfl
  rw [State.writeValue_cuveeCommand (s := u) (by rw [hu]; exact hr)] at hw
  exact ⟨u, (accessReq (writingTo a 0x3012 c (packRecord code k)) 2 (reqGen a)).response s.stamp
    ⟨(u.command .manager c code k).1, cuveeCommandRow.ty.code, ⟨0, 0⟩, size⟩, hu, rfl, rfl, hcmd.trans hw⟩

/-- Settles O1: the window's write assembles the record, and what the record says decides between STAGED and BUSY. -/
theorem cuveeCommandsAreStagedOneAtATime : Obligations.CuveeCommandsAreStagedOneAtATime := by
  unfold Obligations.CuveeCommandsAreStagedOneAtATime
  refine ⟨fun s a c k f code hf hh hp h1 h2 hr hc hn => ?_, fun s a c k st hh hp h1 h2 hr hl hst => ?_⟩
  · have hexec : exec (f a c k) s = .next (s.cuveeCommand a c code k) := by
      simp only [List.mem_cons, Prod.mk.injEq, List.not_mem_nil, or_false] at hf
      rcases hf with ⟨rfl, rfl⟩ | ⟨rfl, rfl⟩ | ⟨rfl, rfl⟩ | ⟨rfl, rfl⟩ | ⟨rfl, rfl⟩ | ⟨rfl, rfl⟩ | ⟨rfl, rfl⟩ | ⟨rfl, rfl⟩ |
        ⟨rfl, rfl⟩ | ⟨rfl, rfl⟩ | ⟨rfl, rfl⟩ | ⟨rfl, rfl⟩ | ⟨rfl, rfl⟩ | ⟨rfl, rfl⟩ <;> rfl
    obtain ⟨u, y, hu, hy, htag, hw⟩ := State.cuveeCommand_heard hh hp h1 h2 hr
    have hcmd : u.command .manager c code k = (stStaged, u.stageCommand .manager c code k) := by
      subst hu
      exact (State.command_of_legal (s := s.filled _ 2) hr hc).trans (if_neg (by simp [hn]))
    rw [hcmd] at hy hw
    obtain ⟨hstaged, hstatus⟩ := u.stageCommand_cuvee .manager c code k
    refine ⟨_, hexec, ?_⟩
    rw [hw, State.answerWindow_cuvee, hstaged, hstatus]
    refine ⟨State.answerWindow_answered ?_ hy htag, ⟨_, rfl, rfl, rfl, ?_, rfl⟩, rfl, rfl, ?_⟩
    · rw [State.stageCommand_window, hu]
      exact State.filled_inFlight ..
    · subst hu; rfl
    · subst hu; rfl
  · obtain ⟨u, y, hu, hy, htag, hw⟩ := State.cuveeCommand_heard hh hp h1 h2 hr
    have hcmd : u.command .manager c 5 k = (stBusy, u) := by
      subst hu
      exact (State.command_of_legal (s := s.filled _ 2) hr (State.commandStatus_pause hl)).trans (if_pos (by simp [hst]))
    rw [hcmd] at hy hw
    refine ⟨_, rfl, ?_⟩
    rw [hw, State.answerWindow_cuvees]
    refine ⟨State.answerWindow_answered ?_ hy htag, ?_⟩
    · rw [hu]
      exact State.filled_inFlight ..
    · subst hu; rfl

end Sys2Proof.Machine

/-! # A stray fragment under a cuvee command (R245, R469) -/

namespace Sys2Proof.Machine

/-- Port A is up and the estate in service; cuvee 1 is DEFINED with a plan that may be staged, and a fragment without bytes, whose
blob holds bits beyond its size, waits for the rest of cuvee 1's CuveeCommand. -/
def strayFragment : State :=
  let s := { State.reset with
    boot := { State.reset.boot with standby := true }
    hostA := { State.reset.hostA with linkUp := true }
    faults := { State.reset.faults with estateState := 0 }
    muster := { State.reset.muster with tileMap := [(0, 0)] }
    dict := { State.reset.dict with asm := [⟨.pf .a, 2, 0x3012, 1, ⟨0, 12 * 2 ^ 120⟩⟩] } }
  ((((s.setDomain 0 2).updCuvee 1 fun v => { v with state := .defined }).setVal 0x3014 1 ⟨2, 0⟩).setVal 0x3015 1 ⟨2, 0⟩).setVal 0x301A 1
    ⟨16, 2 ^ 48 + 2 ^ 64⟩

/-- A plain request by the window of port A's PF. -/
def plainRequest : Access := ⟨.pf .a, .window 1 4 true, 0, 0, 0, 255, 5, 0, 0, 0, 0, ⟨0, 0⟩⟩

/-- Refutes O57: it ranges over every state, also one in which a waiting fragment of CuveeCommand (R469) has no byte but bits beyond
its size. The CREATE that completes that fragment assembles to a REBIND, and a plan begins (R251). -/
theorem not_cuveeCommandsStayInTheirCuvee : ¬ Obligations.CuveeCommandsStayInTheirCuvee := by
  unfold Obligations.CuveeCommandsStayInTheirCuvee
  intro h
  obtain ⟨-, ⟨st, r, p, b, hcuvee, hother⟩, -⟩ := h strayFragment _ plainRequest 1 ⟨false, 0, 0, 0, 0⟩ .create (by simp) (by decide) rfl
  have hactive : ((strayFragment.cuveeCommand plainRequest 1 1 ⟨false, 0, 0, 0, 0⟩).cuvee 1).rebindActive = b :=
    congrArg Cuvee.rebindActive hcuvee
  exact absurd (hactive.trans (hother (by simp)).2) (by decide +kernel)

end Sys2Proof.Machine

/-! # What of a cuvee stands while its units are moved, scrubbed and restored

Of a cuvee, its life is where it stands in its states and sequences. A sequence that works on its units (a move, a scrub, a
restore) changes the units first and the life last, so each operation on units is stated once as leaving the life alone. -/

namespace Sys2Proof.Machine

/-- The fields of a cuvee that its commands and sequences set (R243, R250–R263). -/
def Cuvee.life (v : Cuvee) : Cuvee :=
  { Cuvee.init with
    state := v.state, prior := v.prior, freezeCause := v.freezeCause, rebindActive := v.rebindActive, rebind := v.rebind
    saveActive := v.saveActive, restoreActive := v.restoreActive, binding := v.binding, resets := v.resets, seq := v.seq }

/-- Where cuvee c stands. -/
def State.life (s : State) (c : Nat) : Cuvee := (s.cuvee c).life

section
variable (s : State) (c : Nat)

theorem State.state_life : (s.life c).state = (s.cuvee c).state := rfl
theorem State.prior_life : (s.life c).prior = (s.cuvee c).prior := rfl
theorem State.freezeCause_life : (s.life c).freezeCause = (s.cuvee c).freezeCause := rfl
theorem State.rebindActive_life : (s.life c).rebindActive = (s.cuvee c).rebindActive := rfl
theorem State.rebind_life : (s.life c).rebind = (s.cuvee c).rebind := rfl
theorem State.saveActive_life : (s.life c).saveActive = (s.cuvee c).saveActive := rfl
theorem State.restoreActive_life : (s.life c).restoreActive = (s.cuvee c).restoreActive := rfl
theorem State.binding_life : (s.life c).binding = (s.cuvee c).binding := rfl
theorem State.resets_life : (s.life c).resets = (s.cuvee c).resets := rfl
theorem State.seq_life : (s.life c).seq = (s.cuvee c).seq := rfl

end

theorem State.life_of_cuvee {s t : State} {c : Nat} (h : t.cuvee c = s.cuvee c) : t.life c = s.life c := congrArg Cuvee.life h

@[simp] theorem State.life_updCuvee (s : State) (c : Nat) (f : Cuvee → Cuvee) :
    (s.updCuvee c f).life c = (f (s.cuvee c)).life := congrArg Cuvee.life (s.cuvee_updCuvee c f)

/-- A change of one cuvee that keeps its life keeps every cuvee's. -/
theorem State.updCuvee_life (s : State) (d c : Nat) {f : Cuvee → Cuvee} (hf : ∀ v, (f v).life = v.life) :
    (s.updCuvee d f).life c = s.life c := by
  by_cases h : c = d
  · subst h; simp [State.life, hf]
  · exact State.life_of_cuvee (State.cuvee_updCuvee_ne s f h)

theorem State.each_life {α : Type} (s : State) (l : List α) (c : Nat) {f : State → α → State}
    (hf : ∀ s x, (f s x).life c = s.life c) : (s.each l f).life c = s.life c := State.each_frame (State.life · c) f l s hf

@[simp] theorem State.life_ite (p : Prop) [Decidable p] (s t : State) (c : Nat) :
    (if p then s else t).life c = if p then s.life c else t.life c := apply_ite (State.life · c) ..

/-- What one step of a run brings about, and no step takes away, holds after the run. -/
theorem State.each_reaches {α : Type} {P : State → Prop} {f : State → α → State} {l : List α} {x : α} (hx : x ∈ l)
    (hreach : ∀ s, P (f s x)) (hkeep : ∀ s y, P s → P (f s y)) (s : State) : P (s.each l f) := by
  obtain ⟨l₁, l₂, rfl⟩ := List.append_of_mem hx
  rw [State.each, List.foldl_append]
  exact State.each_keeps P f l₂ hkeep (hreach _)

/-! ## Units -/

section
variable (s : State) (c : Nat)

@[simp] theorem State.updTile_life (t : Nat) (f : Tile → Tile) : (s.updTile t f).life c = s.life c := rfl
@[simp] theorem State.setTile_life (t : Nat) (x : Tile) : (s.setTile t x).life c = s.life c := rfl
@[simp] theorem State.setVal_life (i sub : Nat) (b : Blob) : (s.setVal i sub b).life c = s.life c := rfl
@[simp] theorem State.unsetVal_life (i sub : Nat) : (s.unsetVal i sub).life c = s.life c := rfl
@[simp] theorem State.setBook_life (d : Nat) (b : Daybook) : (s.setBook d b).life c = s.life c := rfl
@[simp] theorem State.fenceLater_life (ts : List Nat) : (s.fenceLater ts).life c = s.life c := rfl
@[simp] theorem State.dropWalks_life (ts : List Nat) : (s.dropWalks ts).life c = s.life c := rfl
@[simp] theorem State.dropNet_life (d : Nat) : (s.dropNet d).life c = s.life c := rfl
@[simp] theorem State.clearBarriers_life (d : Nat) : (s.clearBarriers d).life c = s.life c := rfl
@[simp] theorem State.eraseSession_life (id : Nat) : (s.eraseSession id).life c = s.life c := rfl
@[simp] theorem State.emit_life (o : Out) : (s.emit o).life c = s.life c := rfl
@[simp] theorem State.zeroTile_life (t : Nat) : (s.zeroTile t).life c = s.life c := rfl
@[simp] theorem State.bindTile_life (t d n : Nat) : (s.bindTile t d n).life c = s.life c := rfl
@[simp] theorem State.zeroPc_life (k : Nat) : (s.zeroPc k).life c = s.life c := rfl
@[simp] theorem State.finalCopy_life (d k new : Nat) : (s.finalCopy d k new).life c = s.life c := rfl
@[simp] theorem State.seedStreams_life (t : Nat) (resumed : Bool) : (s.seedStreams t resumed).life c = s.life c := rfl
@[simp] theorem State.storePatch_life (t : Nat) (l : List (Nat × Byte)) : (s.storePatch t l).life c = s.life c := rfl
@[simp] theorem State.loadInto_life (t : Nat) (p1 : Bool) (img : Nat) : (s.loadInto t p1 img).life c = s.life c := rfl
@[simp] theorem State.putRecord_life (t d n : Nat) (r : SavedTile) : (s.putRecord t d n r).life c = s.life c := by
  simp [State.putRecord]
@[simp] theorem State.dropLines_life (ks : List Nat) : (s.dropLines ks).life c = s.life c := s.each_life _ c fun _ _ => rfl
@[simp] theorem State.cleanWays_life (old new : Blob) : (s.cleanWays old new).life c = s.life c := s.each_life _ c fun _ _ => rfl
@[simp] theorem State.dropXlate_life (d : Nat) : (s.dropXlate d).life c = s.life c := s.each_life _ c fun _ _ => rfl
@[simp] theorem State.trimUnits_life (d : Nat) : (s.trimUnits d).life c = s.life c := s.each_life _ c fun _ _ => rfl
@[simp] theorem State.trimStash_life (d : Nat) : (s.trimStash d).life c = s.life c :=
  s.each_life _ c fun s _ => s.updCuvee_life d c fun _ => rfl

@[simp] theorem State.releaseUnits_life (ts ks : List Nat) : (s.releaseUnits ts ks).life c = s.life c := by
  calc (s.releaseUnits ts ks).life c
    _ = (s.each ts fun s t => s.updTile t fun x => { x with cuvee := 0, ctile := 0, act := .idle, inEntry := false }).life c :=
      State.each_life _ _ c fun _ _ => rfl
    _ = s.life c := s.each_life _ c fun _ _ => rfl

@[simp] theorem State.updBarrier_life (b : Nat) (f : Barrier → Barrier) : (s.updBarrier b f).life c = s.life c := by
  unfold State.updBarrier
  split <;> rfl

@[simp] theorem State.relayRound_life (b gen : Nat) : (s.relayRound b gen).life c = s.life c := by
  unfold State.relayRound
  split
  · rfl
  · split
    · rfl
    · exact (State.each_life _ _ c fun _ _ => by rfl).trans
        ((State.each_life _ _ c fun _ _ => by rfl).trans (s.updBarrier_life c b _))

@[simp] theorem State.relayNet_life (d : Nat) : (s.relayNet d).life c = s.life c :=
  (State.each_life _ _ c fun s b => by simp).trans rfl

@[simp] theorem State.resumeTile_life (t : Nat) : (s.resumeTile t).life c = s.life c := by
  unfold State.resumeTile
  rw [State.updTile_life, State.life_ite]
  split <;> rfl

@[simp] theorem State.scrubCuvee_life (d : Nat) : (s.scrubCuvee d).life c = s.life c := by
  unfold State.scrubCuvee
  simp only []
  rw [State.clearBarriers_life, State.dropWalks_life, State.dropXlate_life, State.each_life _ _ c fun s k => s.zeroPc_life c k,
    State.dropLines_life, State.each_life _ _ c fun _ _ => by rfl]

@[simp] theorem State.tenantDefaults_life (d : Nat) : (s.tenantDefaults d).life c = s.life c := by
  refine (State.each_life _ _ c fun s v => ?_).trans rfl
  split
  · rw [State.life_ite, State.unsetVal_life, ite_self]
  · rfl
  · rfl

@[simp] theorem State.allDefaults_life (d : Nat) : (s.allDefaults d).life c = s.life c := by
  refine (State.each_life _ _ c fun s v => ?_).trans rfl
  split <;> rfl

/-! ## Records, links and statuses -/

@[simp] theorem State.tally_life (d k n : Nat) : (s.tally d k n).life c = s.life c := by
  unfold State.tally
  split
  · rfl
  · exact s.updCuvee_life d c fun _ => rfl

@[simp] theorem State.logEstate_life (b : Blob) : (s.logEstate b).life c = s.life c := rfl

@[simp] theorem State.cmdStatusIf_life (d code phase result cause : Nat) :
    (s.cmdStatusIf d code phase result cause).life c = s.life c := by
  unfold State.cmdStatusIf
  split
  · exact s.updCuvee_life d c fun _ => rfl
  · rfl

@[simp] theorem State.logCuvee_life (d kind cls flags unit arg0 arg1 detail : Nat) (tileUnit : Bool) :
    (s.logCuvee d kind cls flags unit arg0 arg1 detail tileUnit).life c = s.life c := by
  unfold State.logCuvee
  simp only []
  rw [State.logEstate_life, s.updCuvee_life d c fun _ => by rfl]

@[simp] theorem State.sendSquash_life (d reason : Nat) : (s.sendSquash d reason).life c = s.life c :=
  s.each_life _ c fun _ _ => rfl

@[simp] theorem State.raiseFlare_life (g : Nat) : (s.raiseFlare g).life c = s.life c :=
  (State.each_life _ _ c fun _ _ => by rfl).trans rfl

@[simp] theorem State.stopIfFrozen_life : s.stopIfFrozen.life c = s.life c := by
  unfold State.stopIfFrozen
  split <;> rfl

@[simp] theorem State.meterEnd_life (d extra : Nat) (closing : Bool) : (s.meterEnd d extra closing).life c = s.life c :=
  s.updCuvee_life d c fun _ => rfl

@[simp] theorem State.meterOpen_life (d : Nat) (restored : Bool) : (s.meterOpen d restored).life c = s.life c :=
  s.updCuvee_life d c fun _ => rfl

end

/-! ## What a daybook record leaves of the rest of the device -/

/-- Everything but the cuvees' own records, the books and the counters. -/
def State.beyondCuvees (s : State) : State := { s with cuvees := [], obs := default }

@[simp] theorem State.updCuvee_beyondCuvees (s : State) (c : Nat) (f : Cuvee → Cuvee) :
    (s.updCuvee c f).beyondCuvees = s.beyondCuvees := rfl

@[simp] theorem State.setBook_beyondCuvees (s : State) (c : Nat) (b : Daybook) :
    (s.setBook c b).beyondCuvees = s.beyondCuvees := rfl

@[simp] theorem State.tally_beyondCuvees (s : State) (c k n : Nat) : (s.tally c k n).beyondCuvees = s.beyondCuvees := by
  unfold State.tally
  split <;> rfl

@[simp] theorem State.cmdStatusIf_beyondCuvees (s : State) (c code phase result cause : Nat) :
    (s.cmdStatusIf c code phase result cause).beyondCuvees = s.beyondCuvees := by
  unfold State.cmdStatusIf
  split <;> rfl

@[simp] theorem State.bookTrigger_beyondCuvees (s : State) (c src tag : Nat) :
    (s.bookTrigger c src tag).beyondCuvees = s.beyondCuvees := by
  unfold State.bookTrigger
  extract_lets
  split
  · rfl
  · split <;> rfl

@[simp] theorem State.daybook_beyondCuvees (s : State) (c kind engine unit code tag a0 a1 a2 : Nat) :
    (s.daybook c kind engine unit code tag a0 a1 a2).beyondCuvees = s.beyondCuvees := by
  unfold State.daybook State.bookOffer
  simp only []
  (repeat' split) <;> simp

@[simp] theorem State.cryptoJobs_beyondCuvees (s : State) (c code : Nat) (chunks : List (Nat × Nat)) :
    (s.cryptoJobs c code chunks).beyondCuvees = s.beyondCuvees :=
  State.each_frame State.beyondCuvees _ _ _ fun s e => by
    unfold State.jobBegin State.jobEnd
    split <;> simp

theorem State.dict_of_beyondCuvees {s t : State} (h : t.beyondCuvees = s.beyondCuvees) : t.dict = s.dict := congrArg (·.dict) h

/-! ## What a daybook record leaves of a cuvee's life -/

@[simp] theorem State.bookTrigger_life (s : State) (d src tag c : Nat) : (s.bookTrigger d src tag).life c = s.life c := by
  unfold State.bookTrigger
  extract_lets
  split
  · rfl
  · split <;> rfl

@[simp] theorem State.daybook_life (s : State) (d kind engine unit code tag a0 a1 a2 c : Nat) :
    (s.daybook d kind engine unit code tag a0 a1 a2).life c = s.life c := by
  unfold State.daybook State.bookOffer
  simp only []
  (repeat' split) <;> simp

@[simp] theorem State.jobEnd_life (s : State) (d engine code tag arg0 status arg2 c : Nat) :
    (s.jobEnd d engine code tag arg0 status arg2).life c = s.life c := by
  unfold State.jobEnd
  split
  · rfl
  · exact s.daybook_life ..

@[simp] theorem State.cryptoJobs_life (s : State) (d code : Nat) (chunks : List (Nat × Nat)) (c : Nat) :
    (s.cryptoJobs d code chunks).life c = s.life c :=
  s.each_life _ c fun s e => by
    rw [State.jobEnd_life, State.jobBegin]
    split
    · rfl
    · exact s.daybook_life ..

/-! ## The end of a save or a restore (R243) -/

/-- What ends a save or a restore ends its session; the cuvee's state stands, and neither sequence goes on. -/
theorem State.endImage_ended (s : State) (c cause : Nat) :
    ((s.endImage c cause).cuvee c).state = (s.cuvee c).state ∧ ((s.endImage c cause).cuvee c).saveActive = false ∧
      ((s.endImage c cause).cuvee c).restoreActive = false := by
  have hstatus : ∀ (p : Bool) (code : Nat) (s : State),
      (if p = true then s.cmdStatusIf c code 4 stConflict cause else s).life c = s.life c := fun p code s => by
    rw [State.life_ite, State.cmdStatusIf_life, ite_self]
  unfold State.endImage
  extract_lets v u w x
  have hx : x.life c = s.life c := by
    rw [State.life_ite, State.eraseSession_life, ite_self, hstatus, hstatus]
  rw [State.cuvee_updCuvee]
  exact ⟨(congrArg Cuvee.state hx :), rfl, rfl⟩

/-! ## What a save or a restore leaves of the memory and the dictionary -/

/-- The memory and the dictionary. -/
def State.contents (s : State) : MemSt × DictSt := (s.mem, s.dict)

theorem State.contents_ite (p : Prop) [Decidable p] (s t : State) :
    (if p then s else t).contents = if p then s.contents else t.contents := apply_ite ..

theorem State.contents_of_beyondCuvees {s t : State} (h : t.beyondCuvees = s.beyondCuvees) : t.contents = s.contents :=
  congrArg (fun s => s.contents) h

@[simp] theorem State.updCuvee_contents (s : State) (c : Nat) (f : Cuvee → Cuvee) :
    (s.updCuvee c f).contents = s.contents := rfl

@[simp] theorem State.eraseSession_contents (s : State) (id : Nat) : (s.eraseSession id).contents = s.contents := rfl

@[simp] theorem State.cmdStatusIf_contents (s : State) (c code phase result cause : Nat) :
    (s.cmdStatusIf c code phase result cause).contents = s.contents := State.contents_of_beyondCuvees (by simp)

@[simp] theorem State.cryptoJobs_contents (s : State) (c code : Nat) (chunks : List (Nat × Nat)) :
    (s.cryptoJobs c code chunks).contents = s.contents := State.contents_of_beyondCuvees (by simp)

@[simp] theorem State.sendImage_contents (s : State) (c : Nat) : (s.sendImage c).contents = s.contents := by
  unfold State.sendImage State.hostWrite State.updHost
  simp only []
  split
  · split <;> rfl
  · rfl

@[simp] theorem State.endImage_contents (s : State) (c cause : Nat) : (s.endImage c cause).contents = s.contents := by
  change State.contents (ite _ _ _) = _
  simp [State.contents_ite]

end Sys2Proof.Machine

/-! # Images: the end of a save and of a restore (R243, R263, R267–R269) -/

namespace Sys2Proof.Machine

/-- An image received whole is judged by its digests and its trailer: it is never one that could not be reached. -/
theorem imageVerdict_ok_cases (img : CuveeImage) :
    imageVerdict .ok img = .badDigest ∨ imageVerdict .ok img = .truncated ∨ imageVerdict .ok img = .ok := by
  unfold imageVerdict
  simp only []
  split
  · exact .inl rfl
  · split
    · exact .inr (.inl rfl)
    · exact .inr (.inr rfl)

/-- An image is held against the cuvee's objects and units, all of them in the dictionary. -/
theorem State.imageFits_congr {s t : State} (h : t.dict = s.dict) (c : Nat) (img : CuveeImage) :
    t.imageFits c img = s.imageFits c img := by
  simp [State.imageFits, State.cvTiles, State.cvPcs, State.ringPairs, State.pageLength, State.num, State.val, h]

/-- The end of a save whose image has gone out whole. -/
def State.saveEnded (s : State) (c : Nat) : State :=
  ((s.eraseSession (s.imageSession c)).updCuvee c fun v => { v with saveActive := false, state := .saved }).cmdStatusIf c 9 3 0 0

theorem State.saveEnded_saved (s : State) (c : Nat) :
    ((s.saveEnded c).cuvee c).state = .saved ∧ ((s.saveEnded c).cuvee c).saveActive = false ∧
      (s.saveEnded c).contents = s.contents := by
  simp [← State.state_life, ← State.saveActive_life, State.saveEnded, Cuvee.life]

/-- A save that ended whole has sent its image, which touches neither the memory nor the dictionary. -/
theorem State.imageComplete_whole {s : State} {c : Nat} (ha : (s.cuvee c).saveActive = true)
    (hs : (s.cuvee c).state = .frozen) (hl : s.imageTooLarge c = false) :
    ∃ u : State, s.imageComplete c true = u.saveEnded c ∧ u.contents = s.contents := by
  refine ⟨(s.sendImage c).cryptoJobs c 2 ((chunksOf (s.imageSections c) ++
    [(0x0F, imageTrailer (s.imageSections c))]).map fun (e : Nat × Blob) => (e.2.size, 0)), ?_,
    (State.cryptoJobs_contents ..).trans (s.sendImage_contents c)⟩
  unfold State.imageComplete
  extract_lets v secs u w x
  rw [if_neg (by simp [v, ha, hs]), if_pos (by simp [hl])]
  rfl

/-- A save whose buffer is too small ends with its cuvee where it was. -/
theorem State.imageComplete_tooLarge {s : State} {c : Nat} (ha : (s.cuvee c).saveActive = true)
    (hs : (s.cuvee c).state = .frozen) (hl : s.imageTooLarge c = true) : s.imageComplete c true = s.endImage c 8 := by
  simp [State.imageComplete, ha, hs, hl]

/-- A restored cuvee is FROZEN, with PRIOR from its image and FREEZE_CAUSE 4. -/
theorem State.restored_frozen (s : State) (c : Nat) (img : CuveeImage) :
    ((s.restored c img).cuvee c).state = .frozen ∧ ((s.restored c img).cuvee c).prior = img.prior ∧
      ((s.restored c img).cuvee c).freezeCause = 4 ∧ ((s.restored c img).cuvee c).restoreActive = false := by
  rw [← State.state_life, ← State.prior_life, ← State.freezeCause_life, ← State.restoreActive_life]
  unfold State.restored
  extract_lets u w x y z
  simp only [State.cmdStatusIf_life, z, State.meterOpen_life, y, State.meterEnd_life, x, State.life_updCuvee]
  exact ⟨rfl, rfl, rfl, rfl⟩

/-- An image received whole that does not fit its cuvee ends the restore with cause 5. -/
theorem State.restoreComplete_misfit {s : State} {c : Nat} {img : CuveeImage} (ha : (s.cuvee c).restoreActive = true)
    (hs : (s.cuvee c).state = .bound) (hf : s.imageFits c img = false) :
    s.restoreComplete c .ok img = (s.cryptoJobs c 2 (img.chunks.map fun e => (e.1.size, 0))).endImage c 5 := by
  have hfit := State.imageFits_congr (State.dict_of_beyondCuvees
    (s.cryptoJobs_beyondCuvees c 2 (img.chunks.map fun e => (e.1.size, 0)))) c img
  rcases imageVerdict_ok_cases img with hv | hv | hv <;> simp [State.restoreComplete, ha, hs, hv, hfit, hf]

/-- An image that fits and is sound restores its cuvee. -/
theorem State.restoreComplete_fit {s : State} {c : Nat} {img : CuveeImage} (ha : (s.cuvee c).restoreActive = true)
    (hs : (s.cuvee c).state = .bound) (hf : s.imageFits c img = true) (hv : imageVerdict .ok img = .ok) :
    s.restoreComplete c .ok img = (s.cryptoJobs c 2 (img.chunks.map fun e => (e.1.size, 0))).restored c img := by
  have hfit := State.imageFits_congr (State.dict_of_beyondCuvees
    (s.cryptoJobs_beyondCuvees c 2 (img.chunks.map fun e => (e.1.size, 0)))) c img
  simp [State.restoreComplete, ha, hs, hv, hfit, hf]

/-- An image that does not fit leaves its cuvee BOUND and touches neither the memory nor the dictionary. -/
theorem State.restoreComplete_bound {s : State} {c : Nat} {img : CuveeImage} (ha : (s.cuvee c).restoreActive = true)
    (hs : (s.cuvee c).state = .bound) (hf : s.imageFits c img = false) :
    ((s.restoreComplete c .ok img).cuvee c).state = .bound ∧ ((s.restoreComplete c .ok img).cuvee c).restoreActive = false ∧
      (s.restoreComplete c .ok img).contents = s.contents := by
  rw [State.restoreComplete_misfit ha hs hf, State.endImage_contents, State.cryptoJobs_contents]
  obtain ⟨hstate, -, hactive⟩ := (s.cryptoJobs c 2 (img.chunks.map fun e => (e.1.size, 0))).endImage_ended c 5
  have hjobs := congrArg Cuvee.state (s.cryptoJobs_life c 2 (img.chunks.map fun e => (e.1.size, 0)) c)
  rw [State.state_life, State.state_life] at hjobs
  exact ⟨hstate.trans (hjobs.trans hs), hactive, rfl⟩

/-- Settles O27: what a save or a restore comes to is set last, after the image's work on the units, which leaves the cuvee's own
state alone. -/
theorem imagesComplete : Obligations.ImagesComplete := by
  unfold Obligations.ImagesComplete
  refine fun s c => ⟨fun ha hs => ⟨fun hl => ?_, fun hl => ?_⟩, fun img ha hs hf hv => ?_, fun img ha hs hf => ?_⟩
  · obtain ⟨u, hu, hcontents⟩ := State.imageComplete_whole ha hs hl
    obtain ⟨hstate, hactive, hended⟩ := u.saveEnded_saved c
    exact ⟨_, congrArg Host.Outcome.next hu, hstate, hactive, (congrArg Prod.fst (hended.trans hcontents)).symm⟩
  · obtain ⟨hstate, hactive, -⟩ := s.endImage_ended c 8
    exact ⟨s.endImage c 8, congrArg Host.Outcome.next (State.imageComplete_tooLarge ha hs hl), hstate.trans hs, hactive,
      (congrArg Prod.fst (s.endImage_contents c 8)).symm⟩
  · exact ⟨_, congrArg Host.Outcome.next (State.restoreComplete_fit ha hs hf hv), State.restored_frozen ..⟩
  · obtain ⟨hstate, hactive, hcontents⟩ := State.restoreComplete_bound ha hs hf
    exact ⟨s.restoreComplete c .ok img, rfl, hstate, hactive, congrArg Prod.fst hcontents, congrArg Prod.snd hcontents⟩

end Sys2Proof.Machine

/-! # The reset and release sequence (R259–R261, R385) -/

namespace Sys2Proof.Machine

/-! ## RESET_SQUASH (R259) -/

/-- The tiles, and the reads that each host port has open. -/
def State.openWork (s : State) : Sparse Tile × List HostRead × List HostRead := (s.tiles, s.hostA.reads, s.hostB.reads)

theorem State.tiles_of_openWork {s t : State} (h : t.openWork = s.openWork) : t.tiles = s.tiles := congrArg Prod.fst h

theorem State.openWork_setObs (s : State) (o : ObsSt) : { s with obs := o }.openWork = s.openWork := rfl

/-- Which of a cuvee's reads are open is a matter of the host ports alone. -/
theorem State.openReads_congr {s t : State} (h : t.openWork.2 = s.openWork.2) (c : Nat) : t.openReads c = s.openReads c := by
  obtain ⟨ha, hb⟩ := Prod.mk.inj h
  have hreads : ∀ p, (t.host p).reads = (s.host p).reads
    | .a => ha
    | .b => hb
  simp only [State.openReads, hreads]

/-- Squashing a tile leaves the open reads and every other tile, and the tile takes the act it is given. -/
theorem State.squashTile_openWork (s : State) (t : Nat) (act : TileAct) (k : Nat) :
    (s.squashTile t act).openWork.2 = s.openWork.2 ∧
      ((s.squashTile t act).tile k).act = if k = t then act else (s.tile k).act := by
  unfold State.squashTile
  extract_lets x u
  obtain ⟨hreads, htile⟩ : u.openWork.2 = s.openWork.2 ∧ u.tile k = s.tile k := by
    unfold u
    split
    · exact ⟨congrArg (fun s => s.openWork.2) (s.daybook_beyondCuvees ..), s.daybook_tile ..⟩
    · exact ⟨rfl, rfl⟩
  refine ⟨hreads, ?_⟩
  split
  · next h => subst h; rw [State.tile_updTile]
  · next h => rw [State.tile_updTile_ne _ _ h, htile]

/-- Squashing each tile of a list leaves the open reads, and each of the tiles idle. -/
theorem State.each_squashTile_idle (s : State) (l : List Nat) :
    (s.each l fun s t => s.squashTile t .idle).openWork.2 = s.openWork.2 ∧
      ∀ k ∈ l, ((s.each l fun s t => s.squashTile t .idle).tile k).act = .idle := by
  refine ⟨State.each_frame (fun s => s.openWork.2) _ _ _ fun s t => (s.squashTile_openWork t .idle 0).1, fun k hk => ?_⟩
  refine State.each_reaches (P := fun s => (s.tile k).act = .idle) hk (fun s => ?_) (fun s t h => ?_) s
  · rw [(s.squashTile_openWork k .idle k).2, if_pos rfl]
  · rw [(s.squashTile_openWork t .idle k).2, h, ite_self]

theorem State.answer_openWork (s : State) (p : Packet) (ty status : Nat) (data : List Byte) :
    (s.answer p ty status data).openWork = s.openWork := by
  have htally : ∀ (s : State) (c k n : Nat), (s.tally c k n).openWork = s.openWork := fun s c k n => by
    unfold State.tally
    split <;> rfl
  exact (htally ..).trans (htally ..)

/-- The transfers of a cuvee end on its links; its tiles and the open reads stand. -/
theorem State.squashLinks_openWork (s : State) (c : Nat) : (s.squashLinks c).openWork = s.openWork :=
  (State.each_frame State.openWork _ _ _ fun s p => s.answer_openWork p 6 4 []).trans <|
    (State.each_frame State.openWork _ _ _ fun _ _ => by rfl).trans (State.each_frame State.openWork _ _ _ fun _ _ => by rfl)

theorem State.updHost_openWork (s : State) (p : HostPort) {f : HostSt → HostSt} (hf : ∀ h, (f h).reads = h.reads) :
    (s.updHost p f).openWork = s.openWork := by
  cases p <;> simp [State.openWork, State.updHost, hf]

/-- RESET_SQUASH after its trigger's slot: the sequence knows the reads that are open, and every tile is idle. -/
theorem State.resetSquash_squashes {s : State} {c : Nat} {q : ResetSeq} (hq : (s.cuvee c).seq = some q)
    (hs : q.squashed = false) (hat : q.at_ < s.slotCount) :
    ((s.resetSquash c).cuvee c).seq = some { q with squashed := true, reads := s.openReads c } ∧
      ∀ k ∈ s.cvTiles c, ((s.resetSquash c).tile k).act = .idle := by
  obtain ⟨hreads, hidle⟩ := s.each_squashTile_idle (s.cvTiles c)
  unfold State.resetSquash
  simp -zeta only [hq]
  rw [if_neg (by simp [hs, hat])]
  extract_lets u v b w obs x
  have hwork : x.openWork = u.openWork :=
    (w.openWork_setObs _).trans ((v.updHost_openWork b.1 fun _ => by rfl).trans (u.squashLinks_openWork c))
  refine ⟨?_, fun k hk => ?_⟩
  · rw [State.cuvee_updCuvee, State.openReads_congr ((congrArg Prod.snd hwork).trans hreads) c]
  · rw [State.tile, State.updCuvee_tiles, State.tiles_of_openWork hwork]
    exact hidle k hk

/-! ## Reads given up (R385) -/

/-- A read open too long is given up: its host port forgets it, and so does the sequence. -/
theorem State.hostReadAbandon_forgets {s : State} {c tag : Nat} {q : ResetSeq} (hq : (s.cuvee c).seq = some q)
    (hs : q.squashed = true) (ht : tag ∈ q.reads) :
    ((s.hostReadAbandon c tag).cuvee c).seq = some { q with reads := q.reads.filter (· != tag) } ∧
      ∀ e ∈ ((s.hostReadAbandon c tag).host (portOf (tag / 65536))).reads, e.tag ≠ tag % 65536 := by
  unfold State.hostReadAbandon
  simp only [hq, hs, List.contains_iff_mem.mpr ht, Bool.and_self, if_true]
  refine ⟨by simp [State.forgetRead, hq, hs], fun e he => ?_⟩
  rw [State.forgetRead, State.updCuvee_host, State.host_updHost, List.mem_filter] at he
  exact bne_iff_ne.mp he.2

/-! ## Memory that a scrub has zeroed (R260) -/

/-- Clearing a range drops its keys and leaves every other's entry. -/
theorem Sparse.find_clearRange {α : Type} (m : Sparse α) (lo n q : Nat) :
    (Sparse.clearRange m lo n).find q = if lo ≤ q ∧ q < lo + n then none else m.find q := by
  induction m with
  | nil => simp [Sparse.clearRange]
  | cons e m ih =>
    obtain ⟨j, y⟩ := e
    unfold Sparse.clearRange at ih ⊢
    rw [List.filter_cons]
    by_cases hj : j = q
    · subst hj
      split <;> grind [Sparse.find]
    · split <;> grind [Sparse.find]

/-- A byte of a zeroed range reads 0, and a byte that read 0 before still does (R89). -/
theorem readByte_zeroBytes (m : List Host.Cell) (a n : Nat) {q : Nat} (h : a ≤ q ∧ q < a + n ∨ readByte m q = 0) :
    readByte (zeroBytes m a n) q = 0 := by
  unfold readByte zeroBytes Sparse.getD at *
  rw [Sparse.find_clearRange]
  split
  · rfl
  · next hout => exact h.resolve_left hout

/-- Zeroing each pseudo-channel of a list leaves every byte of each of them 0. -/
theorem State.each_zeroPc_zeroes (s : State) {l : List Nat} {k off : Nat} (hk : k ∈ l) (h : off < 2 ^ 31) :
    readByte (s.each l State.zeroPc).mem.hbm (hbmKey k off) = 0 :=
  State.each_reaches (P := fun s => readByte s.mem.hbm (hbmKey k off) = 0) hk
    (fun _ => readByte_zeroBytes _ _ _ (.inl (by unfold hbmKey; omega))) (fun _ _ h => readByte_zeroBytes _ _ _ (.inr h)) s

/-- Blanking tiles and dropping cache lines leaves the dictionary, and so the list of the cuvee's pseudo-channels. -/
theorem State.each_blank_dropLines_dict (s : State) (l : List (Nat × Nat)) (c : Nat) (ks : List Nat) :
    ((s.each l fun s e => (s.zeroTile e.1).bindTile e.1 c e.2).dropLines ks).dict = s.dict :=
  (State.each_frame (·.dict) _ _ _ fun _ _ => by rfl).trans (State.each_frame (·.dict) _ _ _ fun _ _ => by rfl)

theorem State.cvPcs_congr {s t : State} (h : t.dict = s.dict) (c : Nat) : t.cvPcs c = s.cvPcs c := by
  simp only [State.cvPcs, State.val, h]

/-- A scrub leaves every byte of the cuvee's pseudo-channels 0. -/
theorem State.scrubCuvee_zeroes {s : State} {c k off : Nat} (hk : k ∈ s.cvPcs c) (h : off < 2 ^ 31) :
    readByte (s.scrubCuvee c).mem.hbm (hbmKey k off) = 0 := by
  unfold State.scrubCuvee
  extract_lets u v w
  have hmem : (((w.dropXlate c).dropWalks (w.cvTiles c)).clearBarriers c).memory = w.memory := by simp
  have hv : v.cvPcs c = s.cvPcs c := State.cvPcs_congr (s.each_blank_dropLines_dict ..) c
  rw [(Prod.mk.inj hmem).1]
  exact v.each_zeroPc_zeroes (hv ▸ hk) h

theorem State.life_setAlm (s : State) (a : AlmanacSt) (c : Nat) : { s with alm := a }.life c = s.life c := rfl
theorem State.memory_setAlm (s : State) (a : AlmanacSt) : { s with alm := a }.memory = s.memory := rfl

/-- The end of a reset (R260): the cuvee is BOUND, one reset further, and its pseudo-channels read 0. -/
theorem State.resetComplete_bound {s : State} {c : Nat} {q : ResetSeq} (hq : (s.cuvee c).seq = some q)
    (hr : q.release = false) (hd : q.drained = true) :
    ((s.resetComplete c).cuvee c).state = .bound ∧ ((s.resetComplete c).cuvee c).seq = none ∧
      ((s.resetComplete c).cuvee c).resets = ((s.cuvee c).resets + 1) % 2 ^ 32 ∧
      ((s.resetComplete c).cuvee c).binding = (s.cuvee c).binding ∧
      ∀ k ∈ s.cvPcs c, ∀ off < 2 ^ 31, readByte (s.resetComplete c).mem.hbm (hbmKey k off) = 0 := by
  rw [← State.state_life, ← State.seq_life, ← State.resets_life, ← State.binding_life]
  unfold State.resetComplete
  simp -zeta only [hq]
  rw [if_neg (by simp [hr, hd])]
  extract_lets u g a v w b x y z
  have hlife : x.life c = s.life c := calc
    x.life c = w.life c := w.setBook_life ..
    _ = v.life c := v.tenantDefaults_life ..
    _ = u.life c := u.life_setAlm ..
    _ = (s.scrubCuvee c).life c := State.dropNet_life ..
    _ = s.life c := s.scrubCuvee_life ..
  have hmemory : x.memory = (s.scrubCuvee c).memory := calc
    x.memory = w.memory := w.setBook_memory ..
    _ = v.memory := v.tenantDefaults_memory ..
    _ = u.memory := u.memory_setAlm ..
    _ = (s.scrubCuvee c).memory := State.dropNet_memory ..
  obtain ⟨hz, hzm⟩ : z.life c = y.life c ∧ z.memory = y.memory := by
    unfold z
    split
    · exact ⟨State.emit_life .., State.emit_memory ..⟩
    · exact ⟨rfl, rfl⟩
  refine ⟨?_, ?_, ?_, ?_, fun k hk off hoff => ?_⟩
  · rw [State.cmdStatusIf_life, hz, State.life_updCuvee]; rfl
  · rw [State.cmdStatusIf_life, hz, State.life_updCuvee]; rfl
  · rw [State.cmdStatusIf_life, hz, State.life_updCuvee, ← s.resets_life, ← hlife]; rfl
  · rw [State.cmdStatusIf_life, hz, State.life_updCuvee, ← s.binding_life, ← hlife]; rfl
  · rw [(Prod.mk.inj ((z.cmdStatusIf_memory c 0x0B 3 0 0).trans (hzm.trans ((x.updCuvee_memory ..).trans hmemory)))).1]
    exact State.scrubCuvee_zeroes hk hoff

/-! ## The end of a release (R261) -/

theorem State.pc_of_contents {s t : State} (h : t.contents = s.contents) (k : Nat) : t.pc k = s.pc k :=
  congrArg (fun x : MemSt × DictSt => x.1.pcs.getD k Pc.init) h
theorem State.cvTiles_of_contents {s t : State} (h : t.contents = s.contents) (c : Nat) : t.cvTiles c = s.cvTiles c := by
  simp only [State.cvTiles, State.val, (Prod.mk.inj h).2]
theorem State.cvPcs_of_contents {s t : State} (h : t.contents = s.contents) (c : Nat) : t.cvPcs c = s.cvPcs c :=
  State.cvPcs_congr (Prod.mk.inj h).2 c

@[simp] theorem State.fenceLater_contents (s : State) (ts : List Nat) : (s.fenceLater ts).contents = s.contents := rfl
theorem State.dict_setAlm (s : State) (a : AlmanacSt) : { s with alm := a }.dict = s.dict := rfl
@[simp] theorem State.clearBarriers_dict (s : State) (c : Nat) : (s.clearBarriers c).dict = s.dict := rfl
@[simp] theorem State.dropWalks_dict (s : State) (ts : List Nat) : (s.dropWalks ts).dict = s.dict := rfl
@[simp] theorem State.dropNet_dict (s : State) (c : Nat) : (s.dropNet c).dict = s.dict := rfl

/-- A scrub leaves the dictionary. -/
theorem State.scrubCuvee_dict (s : State) (c : Nat) : (s.scrubCuvee c).dict = s.dict := by
  unfold State.scrubCuvee
  extract_lets u v w
  have hw : w.dict = v.dict := State.each_frame (·.dict) _ _ _ fun _ _ => by rfl
  have hx : (w.dropXlate c).dict = w.dict := State.each_frame (·.dict) _ _ _ fun _ _ => by rfl
  rw [State.clearBarriers_dict, State.dropWalks_dict, hx, hw]
  exact s.each_blank_dropLines_dict ..

/-- Giving up each pseudo-channel of a list leaves each of them without an owner. -/
theorem State.each_ownerless (s : State) {l : List Nat} {k : Nat} (hk : k ∈ l) :
    ((s.each l fun s k => s.updPc k fun x => { x with owner := none }).pc k).owner = none := by
  refine State.each_reaches (P := fun s => (s.pc k).owner = none) hk (fun s => by rw [State.pc_updPc]) (fun s y h => ?_) s
  by_cases hy : k = y
  · subst hy; rw [State.pc_updPc]
  · rwa [State.pc_updPc_ne _ _ hy]

/-- An unbound cuvee's resets stand, and its pseudo-channels have no owner (R261). -/
theorem State.unbind_frees (s : State) (c : Nat) :
    ((s.unbind c).cuvee c).resets = (s.cuvee c).resets ∧ ∀ k ∈ s.cvPcs c, ((s.unbind c).pc k).owner = none := by
  unfold State.unbind
  extract_lets ts g a u v w
  have hv : v.dict = s.dict :=
    (State.each_frame (·.dict) (fun s t => s.bindTile t 0 0) ts u fun _ _ => by rfl).trans (s.dict_setAlm _)
  have hw : w.life c = s.life c := calc
    w.life c = v.life c := v.each_life _ c fun _ _ => by rfl
    _ = u.life c := u.each_life _ c fun _ _ => by rfl
    _ = s.life c := s.life_setAlm ..
  refine ⟨?_, fun k hk => ?_⟩
  · rw [← State.resets_life, State.fenceLater_life, State.life_updCuvee, ← s.resets_life, ← hw]; rfl
  · rw [State.pc_of_contents ((State.fenceLater_contents ..).trans (State.updCuvee_contents ..)) k]
    exact v.each_ownerless (State.cvPcs_congr hv c ▸ hk)

/-- An object of a cuvee whose every row returns to its default is unset (R261). -/
theorem State.allDefaults_unset (s : State) (c : Nat) {d : ObjDesc} (hd : d ∈ objects) (ho : d.owner = .cuvee) :
    (s.allDefaults c).dict.vals.find (objKey d.idx c) = none := by
  have hkeep : ∀ (s : State) (i sub : Nat), s.dict.vals.find (objKey d.idx c) = none →
      (s.unsetVal i sub).dict.vals.find (objKey d.idx c) = none := fun s i sub h => by
    by_cases hk : objKey d.idx c = objKey i sub
    · rw [hk]; exact Sparse.find_erase_self ..
    · exact (Sparse.find_erase_ne _ hk).trans h
  refine State.each_reaches (P := fun s => s.dict.vals.find (objKey d.idx c) = none) hd (fun s => ?_) (fun s e h => ?_) _
  · simp only [ho]
    exact Sparse.find_erase_self ..
  · split
    · exact hkeep _ _ _ h
    · exact hkeep _ _ _ h
    · exact h

/-- The lists of a cuvee's tiles and pseudo-channels are empty by default (R271). -/
theorem defaultOf_units {i : Nat} (hi : i = 0x3014 ∨ i = 0x3015) (c : Nat) : defaultOf i c = ⟨0, 0⟩ := by
  have hrows : ∀ d ∈ objects, d.idx ≤ 0x3014 ∧ 0x3014 ≤ d.idxHi ∨ d.idx ≤ 0x3015 ∧ 0x3015 ≤ d.idxHi → d.dflt = ⟨0, 0⟩ := by
    decide +kernel
  unfold defaultOf
  rw [if_neg (by simp; omega)]
  split
  · next d hd =>
    have hat := List.find?_some hd
    simp only [Bool.and_eq_true, decide_eq_true_eq] at hat
    refine hrows d (List.mem_of_find?_eq_some hd) ?_
    rcases hi with rfl | rfl <;> omega
  · rfl

/-- A cuvee whose objects are back at their defaults lists no units (R261). -/
theorem State.allDefaults_unlists (s : State) (c : Nat) :
    (s.allDefaults c).cvTiles c = [] ∧ (s.allDefaults c).cvPcs c = [] := by
  have hval : ∀ i, (i = 0x3014 ∨ i = 0x3015) → (∃ d ∈ objects, d.idx = i ∧ d.owner = .cuvee) →
      ((s.allDefaults c).val i c).elems 2 = [] := fun i hi ⟨d, hd, hidx, ho⟩ => by
    rw [State.val, ← hidx, s.allDefaults_unset c hd ho, hidx, defaultOf_units hi]
    rfl
  exact ⟨hval 0x3014 (.inl rfl) (by decide +kernel), hval 0x3015 (.inr rfl) (by decide +kernel)⟩

@[simp] theorem State.allDefaults_mem (s : State) (c : Nat) : (s.allDefaults c).mem = s.mem :=
  (State.each_frame (·.mem) _ _ _ fun s d => by split <;> rfl).trans rfl

/-- Inbound windows that name the cuvee are cleared (R230, R261). -/
def State.closeInbound (s : State) (c : Nat) : State :=
  s.each (List.range 4096) fun s i =>
    let idx := 0x5050 + i / 128
    let sub := i % 128 + 1
    match s.dict.vals.find (objKey idx sub) with
    | some b => if bits b.val 99 92 = c && bit b.val 127 then s.setVal idx sub ⟨16, b.val - 2 ^ 127⟩ else s
    | none => s

/-- Clearing inbound windows leaves every cuvee's life and the memory. -/
theorem State.closeInbound_stands (s : State) (c d : Nat) :
    (s.closeInbound c).life d = s.life d ∧ (s.closeInbound c).mem = s.mem := by
  refine Prod.mk.inj (State.each_frame (fun s => (s.life d, s.mem)) _ _ s fun s i => ?_)
  simp only []
  split
  · split <;> rfl
  · rfl

/-- The record of a cuvee that is gone: its resets, its last command and what its meter still owes (R261). -/
def State.closeRecord (s : State) (c : Nat) (ts : List Nat) : State :=
  let s := { s with obs := { s.obs with books := s.obs.books.erase c } }
  let old := s.cuvee c
  let s := s.setCuvee c { Cuvee.init with
    resets := old.resets, status := old.status
    meter := { (default : Meter) with due := old.meter.due, prevDigest := old.meter.prevDigest } }
  (s.cmdStatusIf c 0x0C 3 0 0).fenceLater ts

/-- A cuvee that is gone has no binding and keeps its resets. -/
theorem State.closeRecord_gone (s : State) (c : Nat) (ts : List Nat) :
    ((s.closeRecord c ts).cuvee c).state = .none ∧ ((s.closeRecord c ts).cuvee c).binding = none ∧
      ((s.closeRecord c ts).cuvee c).resets = (s.cuvee c).resets := by
  have hlife : (s.closeRecord c ts).life c = { Cuvee.init with resets := (s.cuvee c).resets } :=
    (State.fenceLater_life ..).trans ((State.cmdStatusIf_life ..).trans (congrArg Cuvee.life (State.cuvee_setCuvee ..)))
  rw [← State.state_life, ← State.binding_life, ← State.resets_life, hlife]
  exact ⟨rfl, rfl, rfl⟩

theorem State.closeRecord_contents (s : State) (c : Nat) (ts : List Nat) : (s.closeRecord c ts).contents = s.contents :=
  (State.fenceLater_contents ..).trans ((State.cmdStatusIf_contents ..).trans rfl)

/-- The end of a release, once its drain has ended (R261). -/
theorem State.releaseComplete_of_drained {s : State} {c : Nat} {q : ResetSeq} (hq : (s.cuvee c).seq = some q)
    (hr : q.release = true) (hd : q.drained = true) :
    s.releaseComplete c =
      (((((s.scrubCuvee c).dropNet c).unbind c).closeInbound c).allDefaults c).closeRecord c (s.cvTiles c) := by
  unfold State.releaseComplete
  simp -zeta only [hq]
  rw [if_neg (by simp [hr, hd])]
  lift_lets
  intro ts u v w
  change _ = w.closeRecord c ts
  clear_value w
  rfl

/-- A cuvee released is gone, and holds neither tiles nor pseudo-channels (R261). -/
theorem State.releaseComplete_frees {s : State} {c : Nat} {q : ResetSeq} (hq : (s.cuvee c).seq = some q)
    (hr : q.release = true) (hd : q.drained = true) :
    ((s.releaseComplete c).cuvee c).state = .none ∧ ((s.releaseComplete c).cuvee c).binding = none ∧
      ((s.releaseComplete c).cuvee c).resets = (s.cuvee c).resets ∧ (s.releaseComplete c).cvTiles c = [] ∧
      (s.releaseComplete c).cvPcs c = [] ∧ ∀ k ∈ s.cvPcs c, ((s.releaseComplete c).pc k).owner = none := by
  rw [State.releaseComplete_of_drained hq hr hd]
  obtain ⟨u, hu⟩ : ∃ u, u = (s.scrubCuvee c).dropNet c := ⟨_, rfl⟩
  have hulife : u.life c = s.life c := by rw [hu, State.dropNet_life, State.scrubCuvee_life]
  have hupcs : u.cvPcs c = s.cvPcs c := State.cvPcs_congr (by rw [hu, State.dropNet_dict, State.scrubCuvee_dict]) c
  rw [← hu]
  obtain ⟨hresets, howner⟩ := u.unbind_frees c
  obtain ⟨hvlife, hvmem⟩ := (u.unbind c).closeInbound_stands c c
  generalize (u.unbind c).closeInbound c = v at hvlife hvmem
  obtain ⟨hstate, hbinding, hkept⟩ := (v.allDefaults c).closeRecord_gone c (s.cvTiles c)
  have hend := (v.allDefaults c).closeRecord_contents c (s.cvTiles c)
  obtain ⟨htiles, hpcs⟩ := v.allDefaults_unlists c
  refine ⟨hstate, hbinding, ?_, ?_, ?_, fun k hk => ?_⟩
  · rw [hkept, ← State.resets_life, State.allDefaults_life, hvlife, State.resets_life, hresets, ← State.resets_life, hulife,
      State.resets_life]
  · rw [State.cvTiles_of_contents hend, htiles]
  · rw [State.cvPcs_of_contents hend, hpcs]
  · rw [State.pc_of_contents hend, State.pc, State.allDefaults_mem, hvmem]
    exact howner k (hupcs ▸ hk)

/-- Settles O26: the squash, the scrub and the return of the units come first, and the cuvee's own record is written last. -/
theorem resetSequence : Obligations.ResetSequence := by
  unfold Obligations.ResetSequence
  refine fun s c q hq => ⟨fun hs hat => ?_, fun tag hs ht => ?_, fun hr hd => ?_, fun hr hd => ?_⟩
  · obtain ⟨hseq, hidle⟩ := State.resetSquash_squashes hq hs hat
    exact ⟨s.resetSquash c, _, rfl, hseq, rfl, rfl, rfl, hidle⟩
  · obtain ⟨hseq, hreads⟩ := State.hostReadAbandon_forgets hq hs ht
    exact ⟨s.hostReadAbandon c tag, _, rfl, hseq, rfl, hreads⟩
  · exact ⟨s.resetComplete c, rfl, State.resetComplete_bound hq hr hd⟩
  · exact ⟨s.releaseComplete c, rfl, State.releaseComplete_frees hq hr hd⟩

end Sys2Proof.Machine

/-! # A write into a cuvee's memory and a hand-over that ends leave every cuvee's life (R224, R338, R344) -/

namespace Sys2Proof.Machine

section
variable (s : State) (d : Nat)

/-! ## Writes into a cuvee's memory -/

@[simp] theorem State.count_life (key n : Nat) : (s.count key n).life d = s.life d := rfl
@[simp] theorem State.hbmWrite_life (k off : Nat) (bs : List Byte) : (s.hbmWrite k off bs).life d = s.life d := rfl
@[simp] theorem State.unpoison_life (k off n : Nat) : (s.unpoison k off n).life d = s.life d := rfl
@[simp] theorem State.openSample_life (k l : Nat) : (s.openSample k l).life d = s.life d := rfl
@[simp] theorem State.countXFault_life (c : Nat) : (s.countXFault c).life d = s.life d := s.updCuvee_life c d fun _ => rfl
@[simp] theorem State.hostWrite_life (p : HostPort) (fn addr : Nat) (bs : List Byte) (noSnoop : Bool) (tee : Option Nat) :
    (s.hostWrite p fn addr bs noSnoop tee).life d = s.life d := by
  cases p <;> rfl

@[simp] theorem State.inject_life (p : Packet) : (s.inject p).life d = s.life d := by
  calc (s.inject p).life d
    _ = ((s.tally p.cuvee 12 (packetSize p)).tally p.cuvee 13 (packetSize p * crossings p.src p.dst)).life d := rfl
    _ = s.life d := by rw [State.tally_life, State.tally_life]

@[simp] theorem State.touchLine_life (k line c mask policy sectors : Nat) (write : Bool) :
    (s.touchLine k line c mask policy sectors write).2.life d = s.life d := by
  unfold State.touchLine
  simp only []
  (repeat' split) <;> rfl

@[simp] theorem State.memTraffic_life (k off n c label policy : Nat) (write : Bool) :
    (s.memTraffic k off n c label policy write).life d = s.life d := by
  unfold State.memTraffic
  extract_lets u v line secs r
  have hv : v.life d = s.life d := by
    unfold v
    split
    · rw [State.updCuvee_life _ c d fun _ => by rfl, State.tally_life, State.count_life]
    · rfl
  rw [State.life_ite, State.tally_life, ite_self, State.touchLine_life, hv]

@[simp] theorem State.memWrite_life (k off : Nat) (bs : List Byte) (c label policy : Nat) :
    (s.memWrite k off bs c label policy).life d = s.life d := by
  simp [State.memWrite]

@[simp] theorem State.walkCounted_life (c va k : Nat) : (s.walkCounted c va k).2.life d = s.life d := by
  unfold State.walkCounted
  extract_lets root r places u
  have hu : u.life d = s.life d := s.each_life _ d fun s p => by simp
  exact (u.updCuvee_life c d fun _ => by rfl).trans hu

@[simp] theorem State.resolved_life (c va len label : Nat) (write : Bool) (r : Except Nat Leaf × State) :
    (State.resolved c va len label write r).2.life d = r.2.life d := by
  unfold State.resolved
  (repeat' split) <;> simp

@[simp] theorem State.translate_life (c va len label : Nat) (write : Bool) :
    (s.translate c va len label write).2.life d = s.life d := by
  simp [State.translate]

@[simp] theorem State.hostTraffic_life (c n : Nat) : (s.hostTraffic c n).life d = s.life d :=
  (State.updCuvee_life _ c d fun _ => by rfl).trans (s.tally_life ..)

@[simp] theorem State.plainFault_life (c kind cls unit arg0 arg1 detail : Nat) :
    (s.plainFault c kind cls unit arg0 arg1 detail).life d = s.life d := s.logCuvee_life ..

theorem State.vaWriteChunks_life (c label : Nat) (l : List (Nat × Nat)) (bs : List Byte) :
    (s.vaWriteChunks c label l bs).2.life d = s.life d := by
  induction l generalizing s bs with
  | nil => rfl
  | cons e rest ih =>
    unfold State.vaWriteChunks
    simp only []
    split
    · exact s.translate_life ..
    · rw [ih, State.memWrite_life, State.translate_life]
    · rw [ih, State.life_ite, State.hostTraffic_life, State.hostWrite_life, ite_self, State.translate_life]
    · rw [ih, State.inject_life, State.translate_life]

@[simp] theorem State.coreWrite_life (c va : Nat) (bs : List Byte) : (s.coreWrite c va bs).life d = s.life d := by
  unfold State.coreWrite State.vaWrite
  simp only []
  split
  · exact s.vaWriteChunks_life ..
  · rw [State.plainFault_life, State.vaWriteChunks_life]

/-! ## Hand-overs -/

@[simp] theorem State.updServing_life (c : Nat) (f : Serving → Serving) : (s.updServing c f).life d = s.life d :=
  s.updCuvee_life c d fun _ => rfl
@[simp] theorem State.caskCount_life (c i : Nat) : (s.caskCount c i).life d = s.life d := s.updCuvee_life c d fun _ => rfl
@[simp] theorem State.updRing_life (c k : Nat) (f : Ring → Ring) : (s.updRing c k f).life d = s.life d :=
  s.updCuvee_life c d fun _ => rfl
@[simp] theorem State.dropXfer_life (k : Nat) (mine : Bool) (tag : Nat) : (s.dropXfer k mine tag).life d = s.life d := rfl
@[simp] theorem State.sendDone_life (k : Nat) (m : LinkRequest) (st len : Nat) : (s.sendDone k m st len).life d = s.life d := rfl
@[simp] theorem State.unfetch_life (c id : Nat) : (s.unfetch c id).life d = s.life d := s.updServing_life ..
@[simp] theorem State.freeCask_life (c id : Nat) : (s.freeCask c id).life d = s.life d := by simp [State.freeCask]

@[simp] theorem State.setCask_life (c id : Nat) (x : Cask) : (s.setCask c id x).life d = s.life d := by
  simp [State.setCask]

@[simp] theorem State.completeJob_life (c : Nat) (j : Job) (result units cask : Nat) :
    (s.completeJob c j result units cask).life d = s.life d := by
  unfold State.completeJob State.complete
  simp only []
  rw [State.updRing_life]
  split
  · exact s.updCuvee_life c d fun _ => rfl
  · rfl

@[simp] theorem State.loseCask_life (c id : Nat) : (s.loseCask c id).life d = s.life d :=
  (State.each_life _ _ d fun s j => s.completeJob_life d c j 2 0 noCask).trans (s.updServing_life ..)

@[simp] theorem State.sendCask_life (m : CaskMsg) : (s.sendCask m).life d = s.life d := by
  unfold State.sendCask State.forwardMsg
  split
  · split <;> rfl
  · rfl

@[simp] theorem State.logOutcome_life (c uid vintage outcome receiver device : Nat) :
    (s.logOutcome c uid vintage outcome receiver device).life d = s.life d := by
  unfold State.logOutcome
  split
  · rfl
  · rw [State.setLog, State.coreWrite_life, State.updServing_life]

@[simp] theorem State.dropStream_life (x : Cask) (st : Nat) : (s.dropStream x st).life d = s.life d := by
  unfold State.dropStream
  split
  · rfl
  · simp

@[simp] theorem State.refuseStream_life (k tag : Nat) : (s.refuseStream k tag).life d = s.life d := by
  unfold State.refuseStream
  split <;> rfl

/-- An offer that is withdrawn (R341). -/
@[simp] theorem State.withdraw_life (c id : Nat) (x : Cask) : (s.withdraw c id x).life d = s.life d := by
  unfold State.withdraw State.endOffer
  simp only []
  split <;> simp

/-- An incoming stream that is declined (R344). -/
@[simp] theorem State.declineIncoming_life (c id : Nat) (x : Cask) (code : Nat) :
    (s.declineIncoming c id x code).life d = s.life d := by
  simp [State.declineIncoming, State.dropIncoming]

/-- The hand-overs of the cuvees that have frozen end, and no cuvee's life changes. -/
@[simp] theorem State.casksCut_life : s.casksCut.life d = s.life d :=
  s.each_life _ d fun s c => by
    unfold State.caskCut
    split
    · rfl
    · exact s.each_life _ d fun s e => by simp

end

end Sys2Proof.Machine

/-! # The passes and the end of a re-binding (R252, R253, R256) -/

namespace Sys2Proof.Machine

/-! ## A pre-copy pass (R252) -/

/-- A pseudo-channel that a plan copies has a destination. -/
theorem State.copyTo_of_copied {s : State} {c k : Nat} (h : k ∈ s.copiedPcs c) : ∃ new, s.copyTo c k = some new := by
  unfold State.copiedPcs at h
  split at h
  · cases h
  · next p hp =>
    obtain ⟨e, he, rfl⟩ := List.mem_map.mp h
    obtain ⟨hmem, hcopy⟩ := List.mem_filter.mp he
    have hfind : (p.pcs.find? fun x => bit x 31 && peNum x == peNum e).isSome :=
      List.find?_isSome.mpr ⟨e, hmem, by simp [hcopy]⟩
    obtain ⟨x, hx⟩ := Option.isSome_iff_exists.mp hfind
    exact ⟨peNew x, by simp [State.copyTo, hp, hx]⟩

/-- A pass over a copied pseudo-channel counts, with the bytes of the regions written since it began; the dictionary stands. -/
theorem State.passEnd_counts {s : State} {c k : Nat} (h : k ∈ s.copiedPcs c) :
    ((s.passEnd c k).cuvee c).rebind.pcDirty.find k = some (65536 * ((s.pc ((s.cvPcs c).getD k 0)).dirty.getD []).length) ∧
      ((s.passEnd c k).cuvee c).rebind.pcPass.find k = some ((s.cuvee c).rebind.pcPass.getD k 0 + 1) ∧
      ((s.passEnd c k).cuvee c).rebindActive = (s.cuvee c).rebindActive ∧ (s.passEnd c k).dict = s.dict := by
  obtain ⟨new, hnew⟩ := State.copyTo_of_copied h
  unfold State.passEnd
  simp only [hnew]
  rw [State.cuvee_updCuvee]
  exact ⟨Sparse.find_insert_self .., Sparse.find_insert_self .., rfl, rfl⟩

/-- A pass that leaves no more than the plan's bound written does not end the plan (R252). -/
theorem State.precopyPassEnd_counts {s : State} {c k d : Nat} (ha : (s.cuvee c).rebindActive = true)
    (hp : (s.cuvee c).rebind.phase = 2) (hk : k ∈ s.copiedPcs c)
    (hd : d = 65536 * ((s.pc ((s.cvPcs c).getD k 0)).dirty.getD []).length) (hle : d ≤ s.num 0x301E 4) :
    ((s.precopyPassEnd c [k]).cuvee c).rebind.pcDirty.find k = some d ∧
      ((s.precopyPassEnd c [k]).cuvee c).rebind.pcPass.find k = some ((s.cuvee c).rebind.pcPass.getD k 0 + 1) ∧
      ((s.precopyPassEnd c [k]).cuvee c).rebindActive = true := by
  obtain ⟨hdirty, hpass, hactive, hdict⟩ := State.passEnd_counts hk
  have hmine : [k].dedup.filter (fun k => (s.copiedPcs c).contains k) = [k] := by simp [hk]
  have hnum : ∀ {t : State}, t.dict = s.dict → t.num 0x301E 4 = s.num 0x301E 4 := fun h => by
    simp only [State.num, State.val, h]
  unfold State.precopyPassEnd
  extract_lets v mine u w r
  rw [if_neg (by simp [v, ha, hp])]
  have hu : u = s.passEnd c k := by simp only [u, mine, hmine]; rfl
  obtain ⟨hrdirty, hrpass, hractive⟩ : (w.cuvee c).rebind.pcDirty.find k = some d ∧
      (w.cuvee c).rebind.pcPass.find k = some ((s.cuvee c).rebind.pcPass.getD k 0 + 1) ∧ (w.cuvee c).rebindActive = true := by
    rw [State.cuvee_updCuvee, hu]
    exact ⟨hd ▸ hdirty, hpass, hactive.trans ha⟩
  rw [if_neg]
  · exact ⟨hrdirty, hrpass, hractive⟩
  · have hw : w.dict = s.dict := by rw [← hdict, ← hu]; rfl
    have hgetD : r.pcDirty.getD k 0 = d := by rw [Sparse.getD, hrdirty]; rfl
    simp [mine, hmine, hgetD, hnum hw, hle]

/-! ## The end of the moves (R253, R256) -/

/-- A freeze changes of a cuvee's life its state, PRIOR and FREEZE_CAUSE. -/
theorem State.freezeCuvee_life (s : State) (c cause : Nat) (incomplete : Bool) :
    (s.freezeCuvee c cause incomplete).life c =
      { s.life c with state := .frozen, prior := (s.cuvee c).state.code, freezeCause := cause } := by
  unfold State.freezeCuvee
  extract_lets v u w x y z
  have hz : z.life c = u.life c := by
    simp only [z, y, x, w, State.life_ite, State.sendSquash_life, State.raiseFlare_life, State.logCuvee_life,
      State.cmdStatusIf_life, ite_self]
  rw [State.stopIfFrozen_life, hz, State.life_updCuvee]
  rfl

/-- Estate time is the clock's alone (R54). -/
theorem State.stamp_of_time {s u : State} (h : u.time = s.time) : u.stamp = s.stamp :=
  congrArg (fun t => State.stamp { s with time := t }) h

/-- The moves done, the plan has ended, RESUMED, and a fault or a freeze that joined it freezes the cuvee. -/
theorem State.rebindResume_ends (s : State) (c : Nat) :
    ((s.rebindResume c).cuvee c).rebindActive = false ∧ ((s.rebindResume c).cuvee c).rebind.phase = 5 ∧
      ((s.rebindResume c).cuvee c).rebind.resumed = s.stamp ∧
      ((s.cuvee c).live = true → (s.cuvee c).rebind.freezeAfter ≠ 0 → ((s.rebindResume c).cuvee c).state = .frozen ∧
        ((s.rebindResume c).cuvee c).freezeCause = (s.cuvee c).rebind.freezeAfter) := by
  rw [← State.rebindActive_life, ← State.rebind_life, ← State.state_life, ← State.freezeCause_life]
  unfold State.rebindResume
  extract_lets v bad cause stamp u w x y
  have hy : y.life c = u.life c := by
    have hx : x.life c = w.life c := by
      unfold x
      rw [State.life_ite, State.eachTile, State.each_life _ _ c fun s t => s.resumeTile_life c t, ite_self]
    have hyx : y.life c = x.life c := State.each_life _ _ c fun s t => State.logCuvee_life ..
    rw [hyx, hx, State.cmdStatusIf_life]
  have hu := s.life_updCuvee c fun v => { v with
    rebindActive := false, cntFlags := v.cntFlags ||| 8, quiesce := if v.state = .frozen then v.quiesce else none
    rebind := { v.rebind with phase := 5, resumed := stamp, freezeAfter := 0, todo := [], landed := [] } }
  rw [State.life_ite, State.freezeCuvee_life, hy]
  refine ⟨?_, ?_, ?_, fun hl hf => ?_⟩
  · split <;> rw [hu] <;> rfl
  · split <;> rw [hu] <;> rfl
  · split <;> rw [hu] <;> rfl
  · have hcause : cause = v.rebind.freezeAfter := if_pos hf
    rw [if_pos (by simp [v, hl, hcause, hf])]
    exact ⟨rfl, hcause⟩

theorem State.life_setDict (s : State) (d : DictSt) (c : Nat) : { s with dict := d }.life c = s.life c := rfl

/-- The moves change units and objects, and then the re-binding resumes. -/
theorem State.rebindMoves_resumes (s : State) (c : Nat) :
    ∃ u : State, s.rebindMoves c = u.rebindResume c ∧ u.life c = s.life c := by
  unfold State.rebindMoves
  split
  · exact ⟨s, rfl, rfl⟩
  · next p hp =>
    extract_lets oldT oldK newT newK ws recs copied zeroed dropped released placed written owned unbound dict
      unreserved trimmed relayed
    refine ⟨relayed, rfl, ?_⟩
    calc relayed.life c
      _ = trimmed.life c := (State.fenceLater_life ..).trans (trimmed.relayNet_life ..)
      _ = unreserved.life c :=
        (State.dropWalks_life ..).trans ((State.trimStash_life ..).trans (unreserved.trimUnits_life ..))
      _ = unbound.life c := unbound.life_setDict ..
      _ = owned.life c := by
        unfold unbound
        rw [State.life_ite, State.each_life _ _ c fun s t => s.bindTile_life c t 0 0, ite_self]
      _ = written.life c := State.each_life _ _ c fun _ _ => by rfl
      _ = placed.life c := State.each_life _ _ c fun s w => by
        simp only []
        rw [State.life_ite, State.cleanWays_life, State.setVal_life, ite_self]
      _ = released.life c := State.each_life _ _ c fun s e => by
        split
        · exact s.putRecord_life ..
        · rfl
      _ = dropped.life c := dropped.releaseUnits_life ..
      _ = zeroed.life c := zeroed.dropLines_life ..
      _ = copied.life c := State.each_life _ _ c fun s x => s.zeroPc_life ..
      _ = s.life c := State.each_life _ _ c fun s x => s.finalCopy_life ..

/-- Settles O25: the life of a cuvee stands while its units are copied and moved, and a pass or an end of the plan sets it last. -/
theorem rebindStages : Obligations.RebindStages := by
  unfold Obligations.RebindStages
  refine fun s c ha => ⟨fun k d hp hk hd hle => ?_, fun hp hready hflight => ?_⟩
  · exact ⟨s.precopyPassEnd c [k], rfl, State.precopyPassEnd_counts ha hp hk hd hle⟩
  · obtain ⟨u, hu, hlife⟩ := s.rebindMoves_resumes c
    have hkept : u.kept = s.kept := by rw [← u.rebindResume_kept c, ← hu, State.rebindMoves_kept]
    have hstamp : u.stamp = s.stamp := State.stamp_of_time (Prod.mk.inj (Prod.mk.inj hkept).2).1
    have hstate : (u.cuvee c).state = (s.cuvee c).state := by rw [← u.state_life, hlife, State.state_life]
    have hrebind : (u.cuvee c).rebind = (s.cuvee c).rebind := by rw [← u.rebind_life, hlife, State.rebind_life]
    have hdone : s.rebindMovesDone c = u.rebindResume c := by
      rw [← hu]
      exact if_pos (by simpa [ha, hp, hready] using hflight)
    have hcut : (s.rebindMovesDone c).casksCut.life c = (u.rebindResume c).life c := by rw [State.casksCut_life, hdone]
    obtain ⟨hactive, hphase, hresumed, hfroze⟩ := u.rebindResume_ends c
    rw [Cuvee.live, hstate, hrebind] at hfroze
    refine ⟨(s.rebindMovesDone c).casksCut, rfl, ?_⟩
    rw [← State.rebindActive_life, ← State.rebind_life, ← State.state_life, ← State.freezeCause_life, hcut]
    exact ⟨hactive, hphase, hresumed.trans hstamp, hfroze⟩

end Sys2Proof.Machine

/-! # What a cuvee's serving loop stands on (chapter 9)

The commands of the serving loop read and write memory, record what they do and complete requests before and after the one
change that a statement is about. All of that leaves the dictionary and the cuvee's serving records alone, and only a
completion touches a ring pair. -/

namespace Sys2Proof.Machine

/-- What a cuvee's serving loop stands on: the dictionary, its serving records and its ring pairs. -/
def State.desk (s : State) (d : Nat) : DictSt × Serving × Sparse Ring := (s.dict, (s.cuvee d).serving, (s.cuvee d).rings)

section
variable {s u : State} {d : Nat} (h : u.desk d = s.desk d)
include h

theorem State.dict_of_desk : u.dict = s.dict := (Prod.mk.inj h).1
theorem State.serving_of_desk : (u.cuvee d).serving = (s.cuvee d).serving := (Prod.mk.inj (Prod.mk.inj h).2).1
theorem State.model_of_desk (slot : Nat) : u.model d slot = s.model d slot := by
  simp only [State.model, State.serving_of_desk h]
theorem State.ring_of_desk (k : Nat) : u.ring d k = s.ring d k := by
  simp only [State.ring, (Prod.mk.inj (Prod.mk.inj h).2).2]
theorem State.completed_of_desk {j : Job} {result : Nat} (hc : s.completed d j result) : u.completed d j result := by
  simpa only [State.completed, State.ring_of_desk h] using hc

end

/-! ## Units, records and faults -/

/-- A change of one cuvee that keeps its serving records and rings keeps every cuvee's. -/
theorem State.updCuvee_desk (s : State) (c d : Nat) {f : Cuvee → Cuvee}
    (hf : ∀ v, (f v).serving = v.serving ∧ (f v).rings = v.rings) : (s.updCuvee c f).desk d = s.desk d := by
  by_cases h : d = c
  · subst h
    simp only [State.desk, State.cuvee_updCuvee, State.updCuvee_dict, hf]
  · simp only [State.desk, State.cuvee_updCuvee_ne s f h, State.updCuvee_dict]

@[simp] theorem State.desk_ite (p : Prop) [Decidable p] (s t : State) (d : Nat) :
    (if p then s else t).desk d = if p then s.desk d else t.desk d := apply_ite (State.desk · d) ..

theorem State.each_desk {α : Type} (s : State) (l : List α) (d : Nat) {f : State → α → State}
    (hf : ∀ s x, (f s x).desk d = s.desk d) : (s.each l f).desk d = s.desk d := State.each_frame (State.desk · d) f l s hf

section
variable (s : State) (d : Nat)

@[simp] theorem State.updTile_desk (t : Nat) (f : Tile → Tile) : (s.updTile t f).desk d = s.desk d := rfl
@[simp] theorem State.setTile_desk (t : Nat) (x : Tile) : (s.setTile t x).desk d = s.desk d := rfl
@[simp] theorem State.storePatch_desk (t : Nat) (l : List (Nat × Byte)) : (s.storePatch t l).desk d = s.desk d := rfl
@[simp] theorem State.storeWrite_desk (t off : Nat) (bs : List Byte) : (s.storeWrite t off bs).desk d = s.desk d := rfl
@[simp] theorem State.loadInto_desk (t : Nat) (p1 : Bool) (img : Nat) : (s.loadInto t p1 img).desk d = s.desk d := rfl
@[simp] theorem State.seedStreams_desk (t : Nat) (resumed : Bool) : (s.seedStreams t resumed).desk d = s.desk d := rfl
@[simp] theorem State.setBook_desk (c : Nat) (b : Daybook) : (s.setBook c b).desk d = s.desk d := rfl
@[simp] theorem State.logEstate_desk (b : Blob) : (s.logEstate b).desk d = s.desk d := rfl
@[simp] theorem State.fresh_desk : s.fresh.2.desk d = s.desk d := rfl
@[simp] theorem State.count_desk (key n : Nat) : (s.count key n).desk d = s.desk d := rfl
@[simp] theorem State.tendrilSend_desk (node kind payload : Nat) : (s.tendrilSend node kind payload).desk d = s.desk d := rfl

@[simp] theorem State.tally_desk (c k n : Nat) : (s.tally c k n).desk d = s.desk d := by
  unfold State.tally
  split
  · rfl
  · exact s.updCuvee_desk c d fun _ => ⟨rfl, rfl⟩

@[simp] theorem State.resumeTile_desk (t : Nat) : (s.resumeTile t).desk d = s.desk d := by
  unfold State.resumeTile
  rw [State.updTile_desk, State.desk_ite]
  split <;> rfl

@[simp] theorem State.updBarrier_desk (b : Nat) (f : Barrier → Barrier) : (s.updBarrier b f).desk d = s.desk d := by
  unfold State.updBarrier
  split <;> rfl

@[simp] theorem State.bookTrigger_desk (c src tag : Nat) : (s.bookTrigger c src tag).desk d = s.desk d := by
  unfold State.bookTrigger
  extract_lets
  split
  · rfl
  · split <;> rfl

@[simp] theorem State.daybook_desk (c kind engine unit code tag a0 a1 a2 : Nat) :
    (s.daybook c kind engine unit code tag a0 a1 a2).desk d = s.desk d := by
  unfold State.daybook State.bookOffer
  simp only []
  (repeat' split) <;> simp

@[simp] theorem State.jobBegin_desk (c engine code tag arg0 arg2 : Nat) :
    (s.jobBegin c engine code tag arg0 arg2).desk d = s.desk d := by
  simp [State.jobBegin]

@[simp] theorem State.jobEnd_desk (c engine code tag arg0 status arg2 : Nat) :
    (s.jobEnd c engine code tag arg0 status arg2).desk d = s.desk d := by
  simp [State.jobEnd]

@[simp] theorem State.vintnerTask_desk (c code slot items step : Nat) :
    (s.vintnerTask c code slot items step).desk d = s.desk d := by
  simp [State.vintnerTask]

@[simp] theorem State.cryptoJobs_desk (c code : Nat) (chunks : List (Nat × Nat)) :
    (s.cryptoJobs c code chunks).desk d = s.desk d := s.each_desk _ d fun s e => by simp

@[simp] theorem State.bottleJobs_desk (c content : Nat) (tags : Bool) : (s.bottleJobs c content tags).desk d = s.desk d := by
  simp [State.bottleJobs]

@[simp] theorem State.noteBottle_desk (c reason id : Nat) : (s.noteBottle c reason id).desk d = s.desk d :=
  s.updCuvee_desk c d fun _ => ⟨rfl, rfl⟩

@[simp] theorem State.logCuvee_desk (c kind cls flags unit arg0 arg1 detail : Nat) (tileUnit : Bool) :
    (s.logCuvee c kind cls flags unit arg0 arg1 detail tileUnit).desk d = s.desk d := by
  unfold State.logCuvee
  simp only []
  rw [State.logEstate_desk, s.updCuvee_desk c d fun _ => by exact ⟨rfl, rfl⟩]

@[simp] theorem State.plainFault_desk (c kind cls unit arg0 arg1 detail : Nat) :
    (s.plainFault c kind cls unit arg0 arg1 detail).desk d = s.desk d := s.logCuvee_desk ..

@[simp] theorem State.containedFault_desk (c kind cls unit arg0 arg1 detail : Nat) (tileUnit : Bool) :
    (s.containedFault c kind cls unit arg0 arg1 detail tileUnit).desk d = s.desk d := by
  unfold State.containedFault
  extract_lets v freezes u w x
  have hx : x.desk d = s.desk d := by simp [x, w, u]
  split
  · exact hx
  · refine (x.updCuvee_desk c d fun v => ?_).trans hx
    split
    · split <;> exact ⟨rfl, rfl⟩
    · exact ⟨rfl, rfl⟩

/-! ## Memory that is read and written (R218, R224, R225) -/

@[simp] theorem State.hbmWrite_desk (k off : Nat) (bs : List Byte) : (s.hbmWrite k off bs).desk d = s.desk d := rfl
@[simp] theorem State.unpoison_desk (k off n : Nat) : (s.unpoison k off n).desk d = s.desk d := rfl
@[simp] theorem State.openSample_desk (k l : Nat) : (s.openSample k l).desk d = s.desk d := rfl
@[simp] theorem State.countXFault_desk (c : Nat) : (s.countXFault c).desk d = s.desk d :=
  s.updCuvee_desk c d fun _ => ⟨rfl, rfl⟩
@[simp] theorem State.hostWrite_desk (p : HostPort) (fn addr : Nat) (bs : List Byte) (noSnoop : Bool) (tee : Option Nat) :
    (s.hostWrite p fn addr bs noSnoop tee).desk d = s.desk d := by
  cases p <;> rfl

@[simp] theorem State.inject_desk (p : Packet) : (s.inject p).desk d = s.desk d := by
  calc (s.inject p).desk d
    _ = ((s.tally p.cuvee 12 (packetSize p)).tally p.cuvee 13 (packetSize p * crossings p.src p.dst)).desk d := rfl
    _ = s.desk d := by rw [State.tally_desk, State.tally_desk]

@[simp] theorem State.touchLine_desk (k line c mask policy sectors : Nat) (write : Bool) :
    (s.touchLine k line c mask policy sectors write).2.desk d = s.desk d := by
  unfold State.touchLine
  simp only []
  (repeat' split) <;> rfl

@[simp] theorem State.memTraffic_desk (k off n c label policy : Nat) (write : Bool) :
    (s.memTraffic k off n c label policy write).desk d = s.desk d := by
  unfold State.memTraffic
  extract_lets u v line secs r
  have hv : v.desk d = s.desk d := by
    unfold v
    split
    · rw [State.updCuvee_desk _ c d fun _ => by exact ⟨rfl, rfl⟩, State.tally_desk, State.count_desk]
    · rfl
  rw [State.desk_ite, State.tally_desk, ite_self, State.touchLine_desk, hv]

@[simp] theorem State.memRead_desk (k off n c label policy : Nat) :
    (s.memRead k off n c label policy).2.2.desk d = s.desk d := s.memTraffic_desk ..

@[simp] theorem State.memWrite_desk (k off : Nat) (bs : List Byte) (c label policy : Nat) :
    (s.memWrite k off bs c label policy).desk d = s.desk d := by
  simp [State.memWrite]

@[simp] theorem State.walkCounted_desk (c va k : Nat) : (s.walkCounted c va k).2.desk d = s.desk d := by
  unfold State.walkCounted
  extract_lets root r places u
  have hu : u.desk d = s.desk d := s.each_desk _ d fun s p => by simp
  exact (u.updCuvee_desk c d fun _ => by exact ⟨rfl, rfl⟩).trans hu

@[simp] theorem State.resolved_desk (c va len label : Nat) (write : Bool) (r : Except Nat Leaf × State) :
    (State.resolved c va len label write r).2.desk d = r.2.desk d := by
  unfold State.resolved
  (repeat' split) <;> simp

@[simp] theorem State.translate_desk (c va len label : Nat) (write : Bool) :
    (s.translate c va len label write).2.desk d = s.desk d := by
  simp [State.translate]

@[simp] theorem State.hostTraffic_desk (c n : Nat) : (s.hostTraffic c n).desk d = s.desk d :=
  (State.updCuvee_desk _ c d fun _ => by exact ⟨rfl, rfl⟩).trans (s.tally_desk ..)

@[simp] theorem State.poisonRead_desk (c va : Nat) : (s.poisonRead c va).desk d = s.desk d := by
  simp [State.poisonRead]

theorem State.vaReadChunks_desk (c label : Nat) (l : List (Nat × Nat)) (ext : List Byte) :
    (s.vaReadChunks c label l ext).2.desk d = s.desk d := by
  induction l generalizing s ext with
  | nil => rfl
  | cons e rest ih =>
    unfold State.vaReadChunks
    simp only []
    (repeat' split) <;> simp [ih]

@[simp] theorem State.vaRead_desk (c va n label : Nat) (ext : List Byte) :
    (s.vaRead c va n label ext).2.desk d = s.desk d := s.vaReadChunks_desk ..

theorem State.vaWriteChunks_desk (c label : Nat) (l : List (Nat × Nat)) (bs : List Byte) :
    (s.vaWriteChunks c label l bs).2.desk d = s.desk d := by
  induction l generalizing s bs with
  | nil => rfl
  | cons e rest ih =>
    unfold State.vaWriteChunks
    simp only []
    (repeat' split) <;> simp [ih]

@[simp] theorem State.vaWrite_desk (c va : Nat) (bs : List Byte) (label : Nat) :
    (s.vaWrite c va bs label).2.desk d = s.desk d := s.vaWriteChunks_desk ..

@[simp] theorem State.coreRead_desk (c va n : Nat) (ext : List Byte) : (s.coreRead c va n ext).2.desk d = s.desk d := by
  unfold State.coreRead
  simp only []
  split <;> simp

@[simp] theorem State.coreWrite_desk (c va : Nat) (bs : List Byte) : (s.coreWrite c va bs).desk d = s.desk d := by
  unfold State.coreWrite
  simp only []
  split <;> simp

@[simp] theorem State.writePieces_desk (c label : Nat) (ps : List (Nat × List Byte)) :
    (s.writePieces c label ps).2.desk d = s.desk d := by
  induction ps generalizing s with
  | nil => rfl
  | cons p ps ih =>
    unfold State.writePieces
    simp only []
    split <;> simp [ih]

@[simp] theorem State.zeroPieces_desk (c label : Nat) (ps : List (Nat × List Byte)) :
    (s.zeroPieces c label ps).desk d = s.desk d := s.each_desk _ d fun s p => by simp

@[simp] theorem State.courierPages_desk (c label f src dst n : Nat) (ext : List Byte) :
    (State.courierPages c label f src dst n ext s).2.desk d = s.desk d := by
  induction f generalizing s src dst n ext with
  | zero => rfl
  | succ f ih =>
    unfold State.courierPages
    simp only []
    (repeat' split) <;> simp [ih]

@[simp] theorem State.courierCopy_desk (c label src dst n : Nat) (ext : List Byte) :
    (s.courierCopy c label src dst n ext).2.desk d = s.desk d := s.courierPages_desk ..

@[simp] theorem State.openBottle_desk (c : Nat) (j : Job) (b : BottleFindings) : (s.openBottle c j b).2.desk d = s.desk d := by
  unfold State.openBottle
  simp only []
  (repeat' split) <;> simp

@[simp] theorem State.coresArrive_desk (c : Nat) (m : Model) : (s.coresArrive c m).desk d = s.desk d := by
  unfold State.coresArrive
  simp only []
  split
  · rfl
  · exact (State.each_desk _ _ d fun s p => by simp).trans (s.updBarrier_desk ..)

end

/-! ## The serving records -/

@[simp] theorem State.serving_updServing (s : State) (c : Nat) (f : Serving → Serving) :
    ((s.updServing c f).cuvee c).serving = f (s.cuvee c).serving := by
  simp [State.updServing]

/-- What a change of one cuvee's serving records keeps of them it keeps of every cuvee's. -/
theorem State.updServing_keeps {β : Type} (g : Serving → β) (s : State) (c d : Nat) {f : Serving → Serving}
    (hf : ∀ v, g (f v) = g v) : g ((s.updServing c f).cuvee d).serving = g (s.cuvee d).serving := by
  by_cases h : d = c
  · subst h
    rw [State.serving_updServing, hf]
  · rw [State.updServing, State.cuvee_updCuvee_ne s _ h]

@[simp] theorem State.ring_updServing (s : State) (c d k : Nat) (f : Serving → Serving) :
    (s.updServing c f).ring d k = s.ring d k := by
  unfold State.ring State.updServing
  by_cases h : d = c
  · subst h
    rw [State.cuvee_updCuvee]
  · rw [State.cuvee_updCuvee_ne s _ h]

@[simp] theorem State.updServing_dict (s : State) (c : Nat) (f : Serving → Serving) : (s.updServing c f).dict = s.dict := rfl

@[simp] theorem State.stream_updServing (s : State) (c d k : Nat) (f : Serving → Serving) :
    (s.updServing c f).stream d k = s.stream d k := rfl

/-! ## Completions (R283) -/

theorem Blob.record_get_head (n x : Nat) (fs : List (Nat × Nat)) : (Blob.record ((n, x) :: fs)).get 0 n = x % 2 ^ (8 * n) := by
  simp [Blob.record, Blob.get, packFields, Nat.shiftLeft_eq]

theorem Blob.record_get_tail (n x o k : Nat) (fs : List (Nat × Nat)) :
    (Blob.record ((n, x) :: fs)).get (n + o) k = (Blob.record fs).get o k := by
  have hx : x % 2 ^ (8 * n) < 2 ^ (8 * n) := Nat.mod_lt _ (by positivity)
  simp only [Blob.record, Blob.get, packFields]
  rw [Nat.mul_add, Nat.shiftRight_add, Nat.shiftLeft_eq, Nat.shiftRight_eq_div_pow _ (8 * n),
    Nat.add_mul_div_right _ _ (by positivity), Nat.div_eq_of_lt hx, Nat.zero_add]

theorem jbRequest_lt (j : Job) : jbRequest j < 2 ^ (8 * 8) := Nat.mod_lt _ (by positivity)

/-- A request that finishes is counted beside the serving loop, and its completion joins its pair's; a pair that is disabled
only gives the slot back (R277). -/
theorem State.complete_eq (s : State) (c : Nat) (j : Job) (result flags outBytes units cask : Nat) :
    ∃ (u : State) (b : Blob), (∀ d, u.desk d = s.desk d) ∧ b.get 0 8 = jbRequest j ∧ b.get 9 1 = result % 2 ^ 8 ∧
      s.complete c j result flags outBytes units cask = u.updRing c j.pair fun r =>
        if r.state = 0 then { r with reserved := r.reserved - 1 } else { r with ready := r.ready ++ [b] } := by
  unfold State.complete
  extract_lets f b u
  refine ⟨u, b, fun d => ?_, ?_, ?_, rfl⟩
  · unfold u
    split
    · exact s.updCuvee_desk c d fun _ => ⟨rfl, rfl⟩
    · rfl
  · exact (Blob.record_get_head ..).trans (Nat.mod_eq_of_lt (jbRequest_lt j))
  · calc b.get 9 1
      _ = (Blob.record _).get 1 1 := Blob.record_get_tail 8 (jbRequest j) 1 1 _
      _ = (Blob.record _).get 0 1 := Blob.record_get_tail 1 (jbKind j) 0 1 _
      _ = result % 2 ^ 8 := Blob.record_get_head ..

theorem State.serving_updRing (s : State) (c k d : Nat) (f : Ring → Ring) :
    ((s.updRing c k f).cuvee d).serving = (s.cuvee d).serving := by
  by_cases h : d = c
  · subst h
    simp [State.updRing]
  · rw [State.updRing, State.cuvee_updCuvee_ne s _ h]

section
variable (s : State) (c : Nat) (j : Job) (result flags outBytes units cask : Nat)

@[simp] theorem State.serving_complete (d : Nat) :
    ((s.complete c j result flags outBytes units cask).cuvee d).serving = (s.cuvee d).serving := by
  obtain ⟨u, b, hu, -, -, he⟩ := s.complete_eq c j result flags outBytes units cask
  rw [he, State.serving_updRing, State.serving_of_desk (hu d)]

@[simp] theorem State.ring_state_complete :
    ((s.complete c j result flags outBytes units cask).ring c j.pair).state = (s.ring c j.pair).state := by
  obtain ⟨u, b, hu, -, -, he⟩ := s.complete_eq c j result flags outBytes units cask
  rw [he, State.ring_updRing, ← State.ring_of_desk (hu c)]
  split <;> rfl

variable {s c j result flags outBytes units cask}

/-- On a pair that is enabled a request that finishes has completed with its RESULT. -/
theorem State.completed_complete (h : (s.ring c j.pair).state ≠ 0) (hr : result < 2 ^ 8) :
    (s.complete c j result flags outBytes units cask).completed c j result := by
  obtain ⟨u, b, hu, hreq, hres, he⟩ := s.complete_eq c j result flags outBytes units cask
  refine ⟨b, ?_, hreq, hres.trans (Nat.mod_eq_of_lt hr)⟩
  rw [he, State.ring_updRing, State.ring_of_desk (hu c), if_neg h]
  exact List.getLast?_concat ..

theorem State.completed_completeJob (h : (s.ring c j.pair).state ≠ 0) (hr : result < 2 ^ 8) :
    (s.completeJob c j result units cask).completed c j result := State.completed_complete h hr

end

section
variable (s : State) (c : Nat) (j : Job) (result units cask : Nat)

@[simp] theorem State.serving_completeJob (d : Nat) :
    ((s.completeJob c j result units cask).cuvee d).serving = (s.cuvee d).serving := s.serving_complete ..

@[simp] theorem State.model_completeJob (d slot : Nat) : (s.completeJob c j result units cask).model d slot = s.model d slot := by
  simp only [State.model, State.serving_completeJob]

@[simp] theorem State.ring_state_completeJob :
    ((s.completeJob c j result units cask).ring c j.pair).state = (s.ring c j.pair).state := s.ring_state_complete ..

end

end Sys2Proof.Machine


/-! # Fetched entries and courier commands (R235, R236, R280, R292, R298) -/

namespace Sys2Proof.Machine

/-- An entry that is taken leaves the list of fetched ones. -/
theorem State.takeNew_eq {s u : State} {p : Job → Bool} {c : Nat} {j : Job} (h : s.takeNew p = some (c, j, u)) :
    u = s.updServing c fun v => { v with newJobs := v.newJobs.erase j } := by
  obtain ⟨d, -, hd⟩ := List.exists_of_findSome?_eq_some h
  split at hd
  · cases hd
  · obtain ⟨k, -, hk⟩ := Option.map_eq_some_iff.mp hd
    cases hk
    rfl

/-- A request that is taken goes to the end of the waiting ones. -/
theorem State.takeWaiting_waits {s u : State} {kind c : Nat} {j : Job}
    (h : s.takeNew (fun j => jbKind j == kind) = some (c, j, u)) :
    ((s.takeWaiting kind).cuvee c).serving.waiting = (s.cuvee c).serving.waiting ++ [j] ∧
      ((s.takeWaiting kind).cuvee c).serving.newJobs = (s.cuvee c).serving.newJobs.erase j := by
  unfold State.takeWaiting
  simp only [h, State.takeNew_eq h, State.serving_updServing, and_self]

section
variable {s u : State} {c : Nat} {j : Job} (h : s.takeNew (fun j => jbKind j == 2) = some (c, j, u))
include h

/-- A frame joins its stream's queue while there is room. -/
theorem State.takeFrame_queues
    (hq : ((s.cuvee c).serving.streamQ.getD (j.entry.get 28 2) []).length ≤ smDepth (s.stream c (j.entry.get 28 2))) :
    ((s.takeFrame).cuvee c).serving.streamQ.getD (j.entry.get 28 2) [] =
      (s.cuvee c).serving.streamQ.getD (j.entry.get 28 2) [] ++ [j] := by
  obtain rfl := State.takeNew_eq h
  unfold State.takeFrame
  simp only [h, State.serving_updServing, State.stream_updServing]
  rw [if_neg (by omega), State.serving_updServing]
  exact Sparse.getD_set_self ..

/-- A frame that finds its queue full completes OVERCOMMIT. -/
theorem State.takeFrame_overcommits (hring : (s.ring c j.pair).state ≠ 0)
    (hq : smDepth (s.stream c (j.entry.get 28 2)) < ((s.cuvee c).serving.streamQ.getD (j.entry.get 28 2) []).length) :
    s.takeFrame.completed c j 9 ∧ (s.takeFrame.cuvee c).serving.streamQ = (s.cuvee c).serving.streamQ := by
  obtain rfl := State.takeNew_eq h
  unfold State.takeFrame
  simp only [h, State.serving_updServing, State.stream_updServing]
  rw [if_pos (by omega), State.serving_completeJob, State.serving_updServing]
  exact ⟨State.completed_completeJob (by rwa [State.ring_updServing]) (by decide), rfl⟩

end

/-- A plain PREFETCH whose copy meets no fault is done. -/
theorem State.prefetchCommand_completes {s u : State} {c : Nat} {j : Job} {data : List Byte}
    (h : s.takeNew (fun j => jbKind j == 4 && jbSub j == 0x10) = some (c, j, u)) (hring : (s.ring c j.pair).state ≠ 0)
    (hopt : jbOpt j = 0)
    (hcopy : ((u.jobBegin c 2 0x10 0 (j.entry.get 40 8) (j.entry.get 24 8)).courierCopy c (j.entry.get 18 1) (j.entry.get 24 8)
      (j.entry.get 32 8) (j.entry.get 40 8) data).1 = none) : (s.prefetchCommand data).completed c j 0 := by
  unfold State.prefetchCommand
  simp only [h]
  refine State.completed_of_desk (State.jobEnd_desk ..) ?_
  unfold State.prefetchRun
  simp only [hopt, hcopy]
  refine State.completed_completeJob ?_ (by decide)
  rw [State.ring_of_desk (State.courierCopy_desk ..), State.ring_of_desk (State.jobBegin_desk ..), State.takeNew_eq h,
    State.ring_updServing]
  exact hring

/-- The advice of cuvee c that the range of an ADVISE does not meet (R236). -/
def State.adviceKept (s : State) (c : Nat) (j : Job) : List (Nat × Nat × Nat × Nat × Nat) :=
  (s.cuvee c).serving.advice.filter fun e => !adviceMeets (j.entry.get 24 8) (j.entry.get 40 8) e

/-- An ADVISE of a code that is kept takes the place of the advice that it meets, while the table has room. -/
theorem State.adviseRun_eq {s : State} {c : Nat} {j : Job} (hopt : jbOpt j = 3 ∨ jbOpt j = 4)
    (hroom : (s.adviceKept c j).length < 16) :
    s.adviseRun c j = (0, (s.updServing c fun v => { v with
      advice := s.adviceKept c j ++
        [(j.entry.get 24 8, j.entry.get 40 8, j.entry.get 32 8, jbOpt j, s.time.epochs + 1)] }).completeJob c j 0) := by
  obtain ⟨h5, h1, h2, h0⟩ : jbOpt j ≠ 5 ∧ jbOpt j ≠ 1 ∧ ¬ jbOpt j ≤ 2 ∧ jbOpt j ≠ 0 := by omega
  unfold State.adviseRun
  simp only [h5, h1, h2, h0, if_false]
  exact if_neg (Nat.not_le.mpr hroom)

theorem State.adviseCommand_advises {s u : State} {c : Nat} {j : Job}
    (h : s.takeNew (fun j => jbKind j == 4 && jbSub j == 0x11) = some (c, j, u)) (hring : (s.ring c j.pair).state ≠ 0)
    (hopt : jbOpt j = 3 ∨ jbOpt j = 4)
    (hroom : (s.adviceKept c j).length < 16) :
    s.adviseCommand.completed c j 0 ∧ (s.adviseCommand.cuvee c).serving.advice =
      s.adviceKept c j ++
        [(j.entry.get 24 8, j.entry.get 40 8, j.entry.get 32 8, jbOpt j, s.time.epochs + 1)] := by
  generalize hw : u.jobBegin c 2 0x11 0 (j.entry.get 40 8) (j.entry.get 24 8) = w
  have hu := State.takeNew_eq h
  have hdesk : w.desk c = u.desk c := by rw [← hw, State.jobBegin_desk]
  have hadvice : w.adviceKept c j = s.adviceKept c j := by
    simp only [State.adviceKept, State.serving_of_desk hdesk, hu, State.serving_updServing]
  have hkept : w.kept = s.kept := by rw [← hw, State.jobBegin_kept, State.takeNew_kept h]
  have hrun := State.adviseRun_eq (s := w) hopt (by rwa [hadvice])
  rw [hadvice, (Prod.mk.inj (Prod.mk.inj hkept).2).1] at hrun
  unfold State.adviseCommand State.courierJob
  simp only [h, hw, hrun]
  refine ⟨State.completed_of_desk (State.jobEnd_desk ..) (State.completed_completeJob ?_ (by decide)), ?_⟩
  · rwa [State.ring_updServing, State.ring_of_desk hdesk, hu, State.ring_updServing]
  · rw [State.serving_of_desk (State.jobEnd_desk ..), State.serving_completeJob, State.serving_updServing]

/-- Settles O38: an entry is taken out of the fetched ones, and what its command does to the serving records comes last but for
the daybook's record. -/
theorem fetchedEntriesAndCourier : Obligations.FetchedEntriesAndCourier := by
  unfold Obligations.FetchedEntriesAndCourier
  refine ⟨fun s u c j => ⟨fun h => ⟨_, rfl, State.takeWaiting_waits h⟩, fun h => ⟨_, rfl, State.takeWaiting_waits h⟩,
    fun h => ⟨fun hq => ⟨_, rfl, State.takeFrame_queues h hq⟩, fun hq hring => ⟨_, rfl, State.takeFrame_overcommits h hring hq⟩⟩⟩,
    fun s u c j hring => ⟨fun data h hopt hcopy => ⟨_, rfl, State.prefetchCommand_completes h hring hopt hcopy⟩,
      fun h hopt hroom => ⟨_, rfl, State.adviseCommand_advises h hring hopt hroom⟩⟩⟩

end Sys2Proof.Machine

/-! # HARVEST, RECONCILE and the harvest record (R301, R359, R404, R406, R407) -/

namespace Sys2Proof.Machine

/-! ## What forwarding, interim records and reconciliation leave of the almanac -/

section
variable (s : State)

@[simp] theorem State.daybookPair_still (c code payload : Nat) : (s.daybookPair c code payload).still = s.still := by
  simp [State.daybookPair]
@[simp] theorem State.logShortfall_still (x : Shortfall) (r duration : Nat) (continues : Bool) :
    (s.logShortfall x r duration continues).still = s.still := by
  simp [State.logShortfall]
@[simp] theorem State.interimShortfalls_still : s.interimShortfalls.still = s.still := by simp [State.interimShortfalls]
@[simp] theorem State.logThrottle_still (c w : Nat) : (s.logThrottle c w).still = s.still := by
  simp [State.logThrottle, State.updPower]

@[simp] theorem State.interimThrottles_still : s.interimThrottles.still = s.still := by
  unfold State.interimThrottles
  exact (State.each_still _ _ _ fun s c => by split <;> simp).trans (by simp)

@[simp] theorem State.bookClosing_still : s.bookClosing.still = s.still := by
  unfold State.bookClosing
  exact State.each_still _ _ _ fun s c => by simp only []; (repeat' split) <;> simp

@[simp] theorem State.forwardBlock_still (c stamp span flags : Nat) (marks : List (Nat × Nat)) :
    (s.forwardBlock c stamp span flags marks).still = s.still := by
  unfold State.forwardBlock
  simp only []
  (repeat' split) <;> simp

@[simp] theorem State.harvestRecordWrite_still : s.harvestRecordWrite.still = s.still := by
  unfold State.harvestRecordWrite
  split <;> simp

@[simp] theorem State.reconcileCuvee_still (c : Nat) : (s.reconcileCuvee c).still = s.still := by
  simp [State.reconcileCuvee, State.correctionUpdate, State.updLedger]

end

theorem State.issued_kept (s : State) (x : RowInst) (l : List RowInst) : (s.issued x l).kept = s.kept := by
  unfold State.issued
  rw [State.daybook_kept]
  rfl

theorem State.time_of_kept {s u : State} (h : u.kept = s.kept) : u.time = s.time := (Prod.mk.inj (Prod.mk.inj h).2).1

/-! ## The row's END record -/

theorem State.power_of_beyondCuvees {s t : State} (h : t.beyondCuvees = s.beyondCuvees) : t.power = s.power :=
  congrArg (·.power) h

/-- What is observed apart from the daybook's partitions. -/
def State.observed (s : State) : ObsSt := { s.obs with books := [] }

@[simp] theorem State.tally_observed (s : State) (c k n : Nat) : (s.tally c k n).observed = s.observed := by
  simp [State.observed]

@[simp] theorem State.setBook_observed (s : State) (c : Nat) (b : Daybook) : (s.setBook c b).observed = s.observed := rfl

@[simp] theorem State.bookTrigger_observed (s : State) (c src tag : Nat) :
    (s.bookTrigger c src tag).observed = s.observed := by
  unfold State.bookTrigger
  extract_lets
  split
  · rfl
  · split <;> rfl

theorem State.daybook_observed (s : State) (c kind engine unit code tag a0 a1 a2 : Nat) :
    (s.daybook c kind engine unit code tag a0 a1 a2).observed = s.observed := by
  unfold State.daybook State.bookOffer
  simp only []
  (repeat' split) <;> simp

/-- Of the cuvees' own records one that is offered to the daybook changes at most a count. -/
theorem State.daybook_cuvees (s : State) (c kind engine unit code tag a0 a1 a2 : Nat) :
    (s.daybook c kind engine unit code tag a0 a1 a2).cuvees = s.cuvees ∨
      ∃ k n, (s.daybook c kind engine unit code tag a0 a1 a2).cuvees = (s.tally c k n).cuvees := by
  have hbook : ∀ (b : Daybook) (k n : Nat), ((s.setBook c b).tally c k n).cuvees = (s.tally c k n).cuvees := fun b k n => by
    unfold State.tally
    split <;> rfl
  have htrigger : ∀ u : State, (u.bookTrigger c 1 0).cuvees = u.cuvees := fun u => by
    unfold State.bookTrigger
    extract_lets
    split
    · rfl
    · split <;> rfl
  unfold State.daybook State.bookOffer
  extract_lets b n ordinary gapped placed u setup
  split
  · exact .inl rfl
  · split
    · exact .inr ⟨21, n, hbook ..⟩
    · split
      · exact .inr ⟨21, n, hbook ..⟩
      · split
        · exact .inr ⟨20, n, (htrigger u).trans (hbook ..)⟩
        · exact .inr ⟨20, n, hbook ..⟩

/-! ## The cuvees that exist -/

theorem Sparse.mem_of_find {α : Type} {m : Sparse α} {k : Nat} {x : α} (h : Sparse.find m k = some x) : (k, x) ∈ m := by
  induction m with
  | nil => cases h
  | cons e m ih =>
    obtain ⟨j, y⟩ := e
    simp only [Sparse.find] at h
    split at h
    · next hj => cases h; exact hj ▸ List.mem_cons_self ..
    · exact List.mem_cons_of_mem _ (ih h)

theorem State.mem_existing {s : State} {c : Nat} : c ∈ s.existing ↔ ∃ v, (c, v) ∈ s.cuvees ∧ v.state ≠ .none := by
  simp [State.existing]

/-- No cuvee comes to exist by a change that keeps its state. -/
theorem State.mem_existing_of_updCuvee {s : State} {c d : Nat} {f : Cuvee → Cuvee} (hf : ∀ v, (f v).state = v.state)
    (h : c ∈ (s.updCuvee d f).existing) : c ∈ s.existing := by
  obtain ⟨v, hv, hstate⟩ := State.mem_existing.mp h
  change (c, v) ∈ Sparse.set Cuvee.init s.cuvees d (f (s.cuvee d)) at hv
  unfold Sparse.set at hv
  split at hv
  · exact State.mem_existing.mpr ⟨v, List.mem_of_mem_filter hv, hstate⟩
  · obtain he | hv := Sparse.mem_insert hv
    · obtain ⟨rfl, rfl⟩ := Prod.mk.inj he
      rw [hf] at hstate
      cases hc : s.cuvees.find c with
      | none => exact absurd (by simp [State.cuvee, Sparse.getD, hc, Cuvee.init]; rfl) hstate
      | some w =>
        rw [State.cuvee, Sparse.getD, hc] at hstate
        exact State.mem_existing.mpr ⟨w, Sparse.mem_of_find hc, hstate⟩
    · exact State.mem_existing.mpr ⟨v, hv, hstate⟩

theorem State.mem_existing_of_cuvees {s u : State} {c : Nat} (h : u.cuvees = s.cuvees) (hc : c ∈ u.existing) : c ∈ s.existing := by
  rwa [State.existing, ← h]

theorem State.mem_existing_of_rowEnd {s : State} {x : RowInst} {how c : Nat} (h : c ∈ (s.rowEnd x how).existing) :
    c ∈ s.existing := by
  obtain hc | ⟨k, n, hc⟩ := s.daybook_cuvees x.seg 1 0 x.idx (rowAction x.row) (rowTag x.row) (x.dueE % 2 ^ 32) x.deferred how
  · exact State.mem_existing_of_cuvees hc h
  · have ht : c ∈ (s.tally x.seg k n).existing := State.mem_existing_of_cuvees hc h
    unfold State.tally at ht
    split at ht
    · exact ht
    · exact State.mem_existing_of_updCuvee (fun _ => by rfl) ht

/-! ## HARVEST (R301, R404) -/

/-- The clients' accounts of every cuvee that exists are latched (R301). -/
def State.latchAccounts (s : State) : State :=
  s.each s.existing fun s c => s.updServing c fun v => { v with accLatch := v.accounts }

theorem State.latchAccounts_frame (s : State) : s.latchAccounts.alm = s.alm ∧ s.latchAccounts.obs = s.obs :=
  ⟨State.each_frame State.alm _ _ _ fun _ _ => rfl, State.each_frame State.obs _ _ _ fun _ _ => rfl⟩

theorem State.latchAccounts_latched {s : State} {c : Nat} (h : c ∈ s.latchAccounts.existing) :
    (s.latchAccounts.cuvee c).serving.accLatch = (s.latchAccounts.cuvee c).serving.accounts := by
  have hc : c ∈ s.existing :=
    State.each_keeps (fun t : State => c ∈ t.existing → c ∈ s.existing) _ _
      (fun t d ht hm => ht (State.mem_existing_of_updCuvee (fun _ => by rfl) hm)) id h
  refine State.each_reaches (P := fun t : State => (t.cuvee c).serving.accLatch = (t.cuvee c).serving.accounts) hc
    (fun t => by simp) (fun t d ht => ?_) s
  by_cases hd : c = d
  · subst hd; simp
  · rw [State.updServing, State.cuvee_updCuvee_ne t _ hd]
    exact ht

/-- Every unit's counters are latched, stamped with the tick (R404). -/
theorem State.harvestLatch_latches (s : State) : ∃ f m, s.harvestLatch.obs.shadow = s.harvestLatch.obs.unit ∧
    s.harvestLatch.obs.latched = some (s.stamp, f, s.time.epochs, m) ∧ s.harvestLatch.obs.flags = 0 ∧
      s.harvestLatch.alm.issue = s.alm.issue ∧ s.harvestLatch.alm.lastHarvestEpoch = some s.time.epochs := by
  have htime : ∀ u : State, u.kept = s.kept → u.stamp = s.stamp ∧ u.time.epochs = s.time.epochs := fun u hu =>
    ⟨State.stamp_of_time (State.time_of_kept hu), congrArg TimeSt.epochs (State.time_of_kept hu)⟩
  unfold State.harvestLatch
  extract_lets u w flags marks x
  have hx : x.kept = s.kept := by simp [x, w, u]
  obtain ⟨hstamp, hepochs⟩ := htime x hx
  have halm : x.alm = s.alm := State.still_alm (by simp [x, w, u])
  clear_value x
  exact ⟨flags, marks, rfl, by simp only [hstamp, hepochs], rfl, (congrArg AlmanacSt.issue halm :),
    congrArg some hepochs⟩

theorem State.harvestRow_latches {s : State} {x : RowInst} {l : List RowInst} (hl : s.alm.issue = x :: l)
    (ha : rowAction x.row = 5) : ∃ f m, s.harvestRow.alm.issue = l ∧ s.harvestRow.obs.shadow = s.harvestRow.obs.unit ∧
      s.harvestRow.obs.latched = some (s.stamp, f, s.time.epochs, m) ∧ s.harvestRow.obs.flags = 0 ∧
      s.harvestRow.alm.lastHarvestEpoch = some s.time.epochs ∧
      ∀ c ∈ s.harvestRow.existing, (s.harvestRow.cuvee c).serving.accLatch = (s.harvestRow.cuvee c).serving.accounts := by
  have htime : (s.issued x l).harvestRecordWrite.time = s.time :=
    State.time_of_kept (by rw [State.harvestRecordWrite_kept, State.issued_kept])
  obtain ⟨f, m, hshadow, hlatched, hflags, hissue, hlast⟩ := (s.issued x l).harvestRecordWrite.harvestLatch_latches
  rw [State.stamp_of_time htime, htime] at hlatched
  rw [State.still_alm (State.harvestRecordWrite_still _), State.issued_alm] at hissue
  rw [htime] at hlast
  generalize hw : (s.issued x l).harvestRecordWrite.harvestLatch = w at hshadow hlatched hflags hissue hlast
  have hu : s.harvestRow = w.latchAccounts.rowEnd x 0 := by
    rw [← hw]
    simp only [State.harvestRow, State.issueRow_issued hl ha]
    rfl
  obtain ⟨hlalm, hlobs⟩ := w.latchAccounts_frame
  have hobs : s.harvestRow.observed = w.observed := by
    rw [hu, State.rowEnd, State.daybook_observed]
    simp only [State.observed, hlobs]
  have hrow : s.harvestRow.alm = w.alm := by rw [hu, State.rowEnd_alm, hlalm]
  refine ⟨f, m, by rw [hrow, hissue], ?_, ?_, ?_, by rw [hrow, hlast], fun c hc => ?_⟩
  · exact (congrArg ObsSt.shadow hobs).trans (hshadow.trans (congrArg ObsSt.unit hobs).symm)
  · exact (congrArg ObsSt.latched hobs).trans hlatched
  · exact (congrArg ObsSt.flags hobs).trans hflags
  · rw [hu] at hc ⊢
    have hserving : ((w.latchAccounts.rowEnd x 0).cuvee c).serving = (w.latchAccounts.cuvee c).serving :=
      State.serving_of_desk (State.daybook_desk ..)
    rw [hserving]
    exact State.latchAccounts_latched (State.mem_existing_of_rowEnd hc)

/-! ## RECONCILE (R359) and the record (R406, R407) -/

/-- The interval of the energy meter is closed at the tick. -/
theorem State.reconcileAct_closes (s : State) : s.reconcileAct.power.energyAcc = 0 ∧
    s.reconcileAct.power.reconciledAt = s.time.now ∧ s.reconcileAct.alm = s.alm := by
  unfold State.reconcileAct
  extract_lets cs before u after span r e w
  have hkept : u.kept = s.kept := by simp [u]
  have hstill : e.2.still = s.still := by simp [e, r, u]
  clear_value e
  refine ⟨rfl, congrArg TimeSt.now (State.time_of_kept hkept), State.still_alm hstill⟩

theorem State.reconcileRow_closes {s : State} {x : RowInst} {l : List RowInst} (hl : s.alm.issue = x :: l)
    (ha : rowAction x.row = 7) : s.reconcileRow.alm.issue = l ∧ s.reconcileRow.power.energyAcc = 0 ∧
      s.reconcileRow.power.reconciledAt = s.time.now := by
  have hu : s.reconcileRow = (s.issued x l).reconcileAct.rowEnd x 0 := by
    simp only [State.reconcileRow, State.issueRow_issued hl ha]
  obtain ⟨hacc, hat, halm⟩ := (s.issued x l).reconcileAct_closes
  have hpower : s.reconcileRow.power = (s.issued x l).reconcileAct.power := by
    rw [hu]
    exact State.power_of_beyondCuvees (State.daybook_beyondCuvees ..)
  have htime : (s.issued x l).time = s.time := State.time_of_kept (s.issued_kept x l)
  rw [hpower, hacc, hat, htime, hu, State.rowEnd_alm, halm, State.issued_alm]
  exact ⟨rfl, rfl, rfl⟩

/-- The record of the harvest that is latched takes its place in the ring, and the next is awaited. -/
theorem State.harvestRecordWrite_writes {s : State} {stamp flags epochs : Nat} {marks : List (Nat × Nat)}
    (h : s.obs.latched = some (stamp, flags, epochs, marks)) : s.harvestRecordWrite.obs.latched = none ∧
      s.harvestRecordWrite.obs.harvestWritten = (s.obs.harvestWritten + 1) % 2 ^ 32 ∧
      s.harvestRecordWrite.obs.records.find (s.obs.harvestWritten % max 1 (s.num 0x8000 3)) =
        some (s.harvestRecord stamp flags epochs marks) ∧ s.harvestRecordWrite.obs.prevStamp = stamp := by
  unfold State.harvestRecordWrite
  simp only [h]
  exact ⟨trivial, trivial, Sparse.find_insert_self .., trivial⟩

/-- Settles O22: what a harvest latches, and the close of the meter's interval, stand beside the daybook's records of the row. -/
theorem harvestAndReconcile : Obligations.HarvestAndReconcile := by
  unfold Obligations.HarvestAndReconcile
  refine ⟨fun s x l hl => ⟨fun ha => ?_, fun ha => ⟨_, rfl, State.reconcileRow_closes hl ha⟩⟩,
    fun s stamp flags epochs marks h => ⟨_, rfl, State.harvestRecordWrite_writes h⟩⟩
  obtain ⟨f, m, hlatched⟩ := State.harvestRow_latches hl ha
  exact ⟨_, f, m, rfl, hlatched⟩

end Sys2Proof.Machine

/-! # Models, casks and sequences of the serving loop (R159, R287–R295)

What installs, changes or removes one model of a cuvee, and what leaves the cuvee's models and ring pairs alone. -/

namespace Sys2Proof.Machine

/-! ## Ring pairs and models -/

theorem Sparse.find_map_key {α : Type} (m : Sparse α) (k : Nat) (f : α → α) :
    Sparse.find (m.map fun e => if e.1 = k then (e.1, f e.2) else e) k = (Sparse.find m k).map f := by
  induction m with
  | nil => rfl
  | cons e m ih =>
    obtain ⟨j, y⟩ := e
    by_cases h : j = k
    · simp [Sparse.find, h]
    · simpa [Sparse.find, h] using ih

theorem State.model_updServing (s : State) (c d slot : Nat) {f : Serving → Serving} (hf : ∀ v, (f v).models = v.models) :
    (s.updServing c f).model d slot = s.model d slot := by
  simp only [State.model, State.updServing_keeps Serving.models s c d hf]

section
variable (s : State) (c : Nat)

@[simp] theorem State.controlDone_serving :
    ((s.controlDone c).cuvee c).serving = { (s.cuvee c).serving with control := (s.cuvee c).serving.control.tail } :=
  State.serving_updServing ..
@[simp] theorem State.controlDone_ring (d k : Nat) : (s.controlDone c).ring d k = s.ring d k := State.ring_updServing ..
@[simp] theorem State.controlDone_model (d slot : Nat) : (s.controlDone c).model d slot = s.model d slot :=
  s.model_updServing c d slot fun _ => rfl

@[simp] theorem State.model_updModel (slot : Nat) (f : Model → Model) :
    (s.updModel c slot f).model c slot = (s.model c slot).map f := by
  unfold State.updModel State.model
  rw [State.serving_updServing]
  cases h : (s.cuvee c).serving.models.find slot with
  | none => exact h
  | some m => exact Sparse.find_insert_self ..

@[simp] theorem State.ring_updModel (slot d k : Nat) (f : Model → Model) : (s.updModel c slot f).ring d k = s.ring d k :=
  State.ring_updServing ..

@[simp] theorem State.model_updSeqs (slot : Nat) (f : List Seq → List Seq) :
    (s.updSeqs c slot f).model c slot = (s.model c slot).map fun m => { m with seqs := f m.seqs } := s.model_updModel ..

@[simp] theorem State.writeNet_desk (slot : Nat) (m : Model) (d : Nat) : (s.writeNet c slot m).desk d = s.desk d := rfl
@[simp] theorem State.dropMcast_desk (slot d : Nat) : (s.dropMcast c slot).desk d = s.desk d := rfl
@[simp] theorem State.writeGroups_ring (m : Model) (d k : Nat) : (s.writeGroups c m).ring d k = s.ring d k :=
  State.ring_updServing ..
@[simp] theorem State.writeGroups_model (m : Model) (d slot : Nat) : (s.writeGroups c m).model d slot = s.model d slot :=
  s.model_updServing c d slot fun _ => rfl

/-! ## Casks and sequences (R293–R295) -/

@[simp] theorem State.setCask_model (id : Nat) (x : Cask) (d slot : Nat) : (s.setCask c id x).model d slot = s.model d slot := by
  unfold State.setCask
  extract_lets u list v w
  have hw : w.model d slot = s.model d slot :=
    calc w.model d slot
      _ = u.model d slot := State.model_of_desk (by simp [w, v]) slot
      _ = s.model d slot := s.model_updServing c d slot fun _ => rfl
  split
  · exact hw
  · exact (State.model_of_desk (State.coreWrite_desk ..) slot).trans hw

@[simp] theorem State.freeCask_model (id d slot : Nat) : (s.freeCask c id).model d slot = s.model d slot :=
  (State.model_of_desk (State.coreWrite_desk ..) slot).trans (s.model_updServing c d slot fun _ => rfl)

@[simp] theorem State.writeTokens_desk (d : Nat) (q : Seq) (first gen : Nat) :
    (s.writeTokens c q first gen).2.desk d = s.desk d := s.writePieces_desk ..

@[simp] theorem State.model_complete (j : Job) (result flags outBytes units cask d slot : Nat) :
    (s.complete c j result flags outBytes units cask).model d slot = s.model d slot := by
  simp only [State.model, State.serving_complete]

/-- A sequence that leaves is taken out of its model, which is otherwise as it was. -/
theorem State.leaveSeq_model (slot : Nat) (q : Seq) (result leave : Nat) (keep : Bool) :
    (s.leaveSeq c slot q result leave keep).model c slot =
      (s.model c slot).map fun m => { m with seqs := m.seqs.filter fun x => x.slot != q.slot } := by
  unfold State.leaveSeq
  extract_lets w u v x
  have hw : w.2.model c slot = s.model c slot := State.model_of_desk (by unfold w; split <;> simp) slot
  have hu : u.model c slot = (s.model c slot).map fun m => { m with seqs := m.seqs.filter fun x => x.slot != q.slot } := by
    rw [← hw]
    exact State.model_updSeqs ..
  have hv : v.model c slot = u.model c slot :=
    u.model_updServing c c slot (f := fun v => { v with counters := bump 64 v.counters 2 1 }) fun _ => rfl
  have hx : x.model c slot = v.model c slot := by
    unfold x
    split
    · split <;> simp
    · simp
  rw [← hu, ← hv, ← hx]
  split
  · rw [State.model_complete, State.model_of_desk (State.plainFault_desk ..)]
  · rw [State.model_complete]

/-! ## Models that are removed, installed and placed (R159, R282, R287, R289) -/

theorem State.uninstall_model (slot : Nat) : (s.uninstall c slot).model c slot = none := by
  unfold State.uninstall
  split
  · next h => exact h
  · rw [State.model, State.serving_updServing]
    exact Sparse.find_erase_self ..

@[simp] theorem State.uninstall_ring (slot k : Nat) : (s.uninstall c slot).ring c k = s.ring c k := by
  unfold State.uninstall
  split
  · rfl
  · rw [State.ring_updServing]
    exact State.ring_of_desk ((State.each_desk _ _ c fun _ _ => by rfl).trans rfl) k

end

/-- A recipe that is installed stands in its slot, LOADING for the command that brought it. -/
theorem State.install_loading {s : State} {c slot : Nat} {r : Recipe} {j : Job} (h : (s.install c slot r j).1 = 0) :
    ∃ m, (s.install c slot r j).2.model c slot = some m ∧ m.state = 1 ∧ m.recipe = r ∧ m.loadJob = some j := by
  have hput : ∀ m : Model, (((s.updServing c fun v => { v with models := v.models.insert slot m }).writeGroups c m).writeNet c
      slot m).model c slot = some m := fun m => by
    rw [State.model_of_desk (State.writeNet_desk ..), State.writeGroups_model, State.model, State.serving_updServing]
    exact Sparse.find_insert_self ..
  generalize hq : s.install c slot r j = q at h ⊢
  unfold State.install at hq
  simp only [] at hq
  split at hq
  · subst hq; cases h
  · split at hq
    · subst hq; cases h
    · split at hq
      · split at hq
        · subst hq; cases h
        · subst hq
          exact ⟨_, hput _, rfl, rfl, rfl⟩
      · subst hq; cases h

/-- A placement that is chosen is in force at once, or waits while a step of the model runs. -/
theorem State.placeNow_placed {s : State} {c slot p base : Nat} {m : Model} (hm : s.model c slot = some m)
    (hnext : m.nextPlace = some (p, base)) : ∃ n, (s.placeNow c slot).model c slot = some n ∧
      (n.nextPlace = some (p, base) ∨ (n.placement = p ∧ n.base = base ∧ n.nextPlace = none)) := by
  unfold State.placeNow
  simp only [hm, hnext]
  split
  · exact ⟨m, hm, .inl hnext⟩
  · refine ⟨{ m with placement := p, base := base, nextPlace := none }, ?_, .inr ⟨rfl, rfl, rfl⟩⟩
    rw [State.eachTile, State.model_of_desk (State.each_desk _ _ c fun _ _ => by simp), State.model_updServing _ _ _ _ fun _ => by rfl,
      State.model_of_desk (State.writeNet_desk ..), State.model_of_desk (State.dropMcast_desk ..), State.writeGroups_model,
      State.model_updModel, hm]
    rfl

@[simp] theorem State.placeNow_ring (s : State) (c slot k : Nat) : (s.placeNow c slot).ring c k = s.ring c k := by
  unfold State.placeNow
  split
  · rfl
  · split
    · rfl
    · split
      · rfl
      · rw [State.eachTile, State.ring_of_desk (State.each_desk _ _ c fun _ _ => by simp), State.ring_updServing,
          State.ring_of_desk (State.writeNet_desk ..), State.ring_of_desk (State.dropMcast_desk ..), State.writeGroups_ring,
          State.ring_updModel]

end Sys2Proof.Machine

/-! # CONTROL entries, model loads and exhausted staves (R281, R282, R287, R289, R295, R391, R392) -/

namespace Sys2Proof.Machine

/-! ## CONTROL entries at a boundary -/

section
variable {s : State} {c : Nat} {j : Job} (hring : (s.ring c j.pair).state ≠ 0)
include hring

/-- A CANCEL of the first request that waits completes it, and then itself. -/
theorem State.controlCancel_waiting (hdue : s.controlDue 1 = some (c, j)) {q : Job} {l : List Job}
    (hnew : (s.cuvee c).serving.newJobs = []) (hwait : (s.cuvee c).serving.waiting = q :: l)
    (hit : isTarget j.pair (j.entry.get 24 8) q = true) :
    (s.controlCancel.cuvee c).serving.waiting = l ∧ s.controlCancel.completed c j 0 := by
  have hpair : q.pair = j.pair := by
    simp only [isTarget, Bool.and_eq_true, beq_iff_eq] at hit
    exact hit.1.1
  unfold State.controlCancel
  simp only [hdue, State.controlDone_serving, hnew, hwait, List.nil_append, List.cons_append, List.find?_cons, hit]
  constructor
  · rw [State.serving_completeJob, State.serving_completeJob, State.serving_updServing, State.controlDone_serving]
    simp [hwait]
  · refine State.completed_completeJob ?_ (by decide)
    rw [← hpair, State.ring_state_completeJob, State.ring_updServing, State.controlDone_ring, hpair]
    exact hring

/-- A CANCEL that finds nothing completes NOT_FOUND. -/
theorem State.controlCancel_notFound (hdue : s.controlDue 1 = some (c, j)) (hmodels : (s.cuvee c).serving.models = [])
    (hnew : (s.cuvee c).serving.newJobs = []) (hwait : (s.cuvee c).serving.waiting = [])
    (hstream : (s.cuvee c).serving.streamQ = []) (hstep : (s.cuvee c).serving.stepJobs = [])
    (hout : (s.cuvee c).serving.outputs = []) : s.controlCancel.completed c j 0x0A := by
  unfold State.controlCancel
  simp only [hdue, State.controlDone_serving, hmodels, hnew, hwait, hstream, hstep, hout, List.nil_append, List.flatMap_nil,
    List.map_nil, List.find?_nil, List.any_nil, Bool.not_false, if_true]
  exact State.completed_completeJob (by rwa [State.controlDone_ring]) (by decide)

section
variable {b : BottleFindings} {reason : Nat} {h : Blob} (hdue : s.controlDue 2 = some (c, j)) (hslot : s.model c (jbOpt j) = none)
  (hopen : ((s.controlDone c).openBottle c j b).1 = .ok (reason, h))
include hdue hslot hopen

/-- A bottle that fails a check is rejected. -/
theorem State.loadModel_rejects (hreason : reason ≠ 0) :
    (s.loadModel b).completed c j 0x0B ∧ (s.loadModel b).model c (jbOpt j) = none := by
  have hdesk := State.openBottle_desk (s.controlDone c) c c j b
  unfold State.loadModel
  simp only [hdue, State.controlDone_model, hslot, hopen, Option.isSome_none, Bool.false_eq_true, if_false, ne_eq, hreason,
    not_false_eq_true, if_true]
  constructor
  · refine State.completed_completeJob ?_ (by decide)
    rwa [State.ring_of_desk (State.noteBottle_desk ..), State.ring_of_desk hdesk, State.controlDone_ring]
  · rw [State.model_completeJob, State.model_of_desk (State.noteBottle_desk ..), State.model_of_desk hdesk,
      State.controlDone_model, hslot]

omit hring in
/-- A bottle that passes installs its recipe, LOADING, and its BOTTLE_ID is kept. -/
theorem State.loadModel_loads (hreason : reason = 0)
    (hinstall : (((s.controlDone c).openBottle c j b).2.install c (jbOpt j) b.recipe j).1 = 0) :
    ∃ m, (s.loadModel b).model c (jbOpt j) = some m ∧ m.state = 1 ∧ m.recipe = b.recipe ∧ m.loadJob = some j ∧
      m.bottle = boId h := by
  obtain ⟨m, hm, hstate, hrecipe, hjob⟩ := State.install_loading hinstall
  unfold State.loadModel
  simp only [hdue, State.controlDone_model, hslot, hopen, Option.isSome_none, Bool.false_eq_true, if_false, ne_eq, hreason,
    not_true_eq_false, hinstall]
  refine ⟨{ m with bottle := boId h, content := boContent h }, ?_, hstate, hrecipe, hjob, rfl⟩
  rw [State.model, State.serving_updServing]
  exact (Sparse.find_map_key _ _ fun m => { m with bottle := boId h, content := boContent h }).trans (congrArg (Option.map _) hm)

end

/-- UNLOAD_MODEL of an idle model empties its slot. -/
theorem State.unloadModel_empties {m : Model} (hdue : s.controlDue 3 = some (c, j)) (hm : s.model c (jbOpt j) = some m)
    (hidle : (s.controlDone c).modelBusy c (jbOpt j) m = false) :
    s.unloadModel.model c (jbOpt j) = none ∧ s.unloadModel.completed c j 0 := by
  unfold State.unloadModel
  simp only [hdue, State.controlDone_model, hm, hidle, Bool.false_eq_true, if_false]
  rw [State.model_completeJob]
  exact ⟨State.uninstall_model .., State.completed_completeJob (by rwa [State.uninstall_ring, State.controlDone_ring]) (by decide)⟩

/-- PLACE of a placement that fits stands, or waits for its boundary. -/
theorem State.placeModel_places {m : Model} {p : Nat} (hdue : s.controlDue 4 = some (c, j)) (hm : s.model c (jbOpt j) = some m)
    (hp : firstIdx (fun (q : Placement) => q.tiles == bits (j.entry.get 24 8) 27 16) m.recipe.placements = some p)
    (hfit : bits (j.entry.get 24 8) 10 0 + bits (j.entry.get 24 8) 27 16 ≤ (s.cvTiles c).length)
    (hin : groupBeyond (m.recipe.placements.getD p default) (bits (j.entry.get 24 8) 10 0) (s.cvTiles c).length = false) :
    ∃ n, s.placeModel.model c (jbOpt j) = some n ∧ s.placeModel.completed c j 0 ∧
      (n.nextPlace = some (p, bits (j.entry.get 24 8) 10 0) ∨
        (n.placement = p ∧ n.base = bits (j.entry.get 24 8) 10 0 ∧ n.nextPlace = none)) := by
  have htiles : (s.controlDone c).cvTiles c = s.cvTiles c := rfl
  have hchosen : ((s.controlDone c).updModel c (jbOpt j) fun m =>
      { m with nextPlace := some (p, bits (j.entry.get 24 8) 10 0) }).model c (jbOpt j) =
        some { m with nextPlace := some (p, bits (j.entry.get 24 8) 10 0) } := by
    rw [State.model_updModel, State.controlDone_model, hm]
    rfl
  obtain ⟨n, hn, hplaced⟩ := State.placeNow_placed hchosen rfl
  unfold State.placeModel
  simp only [hdue, State.controlDone_model, hm, hp, htiles, hin, Bool.or_false, decide_eq_true_eq, Nat.not_lt.mpr hfit, if_false]
  refine ⟨n, by rw [State.model_completeJob, hn], State.completed_completeJob ?_ (by decide), hplaced⟩
  rwa [State.placeNow_ring, State.ring_updModel, State.controlDone_ring]

end

/-! ## The end of a load (R391, R392) -/

section
variable {s : State} {c slot : Nat} {m : Model} {b : BottleFindings} {j : Job} (hm : s.model c slot = some m)
  (hlive : (s.cuvee c).live = true) (hstate : m.state = 1) (hjob : m.loadJob = some j) (hring : (s.ring c j.pair).state ≠ 0)
include hm hlive hstate hjob hring

/-- A bottle of which a tag or the signature fails leaves its slot EMPTY. -/
theorem State.bottleLoadDone_rejects (hbad : b.tags = false ∨ b.signed = false) :
    (s.bottleLoadDone c slot b).model c slot = none ∧ (s.bottleLoadDone c slot b).completed c j 0x0B := by
  have hbad' : (!b.tags || !b.signed) = true := by simpa using hbad
  unfold State.bottleLoadDone
  simp only [hm, hjob, hstate, hlive, hbad', ne_eq, not_true_eq_false, decide_false, Bool.not_true, Bool.or_self,
    Bool.false_eq_true, if_false, if_true]
  constructor
  · rw [State.model_completeJob, State.model_of_desk (State.noteBottle_desk ..), State.uninstall_model]
  · refine State.completed_completeJob ?_ (by decide)
    rwa [State.ring_of_desk (State.noteBottle_desk ..), State.uninstall_ring, State.ring_of_desk (State.zeroPieces_desk ..),
      State.ring_of_desk (State.bottleJobs_desk ..)]

/-- One whose weights are all written leaves the model READY. -/
theorem State.bottleLoadDone_readies (htags : b.tags = true) (hsigned : b.signed = true)
    (hwritten : ((s.bottleJobs c m.content true).writePieces c (j.entry.get 18 1) m.recipe.weights).1 = none) :
    ∃ n, (s.bottleLoadDone c slot b).model c slot = some n ∧ n.state = 2 ∧ n.loadJob = none ∧
      (s.bottleLoadDone c slot b).completed c j 0 := by
  have hdesk : ((s.bottleJobs c m.content true).writePieces c (j.entry.get 18 1) m.recipe.weights).2.desk c = s.desk c := by simp
  unfold State.bottleLoadDone
  simp only [hm, hjob, hstate, hlive, htags, hsigned, hwritten, ne_eq, not_true_eq_false, decide_false, Bool.not_true, Bool.or_self,
    Bool.false_eq_true, if_false]
  generalize ((s.bottleJobs c m.content true).writePieces c (j.entry.get 18 1) m.recipe.weights).2 = w at hdesk
  generalize hv : (if (switchArea m.recipe).isEmpty = true then w
    else w.coreWrite c (m.recipe.buffers.getD 5 0) (switchArea m.recipe)) = v
  have hvdesk : v.desk c = s.desk c := by rw [← hv]; simp [hdesk]
  generalize hu : ((v.updModel c slot fun m => { m with state := 2, loadJob := none }).noteBottle c 0 m.bottle).completeJob c j 0 = u
  have hmodel : u.model c slot = some { m with state := 2, loadJob := none } := by
    rw [← hu, State.model_completeJob, State.model_of_desk (State.noteBottle_desk ..), State.model_updModel,
      State.model_of_desk hvdesk, hm]
    rfl
  have hdone : u.completed c j 0 := by
    rw [← hu]
    refine State.completed_completeJob ?_ (by decide)
    rwa [State.ring_of_desk (State.noteBottle_desk ..), State.ring_updModel, State.ring_of_desk hvdesk]
  refine ⟨_, (State.model_of_desk ?_ slot).trans hmodel, rfl, rfl, State.completed_of_desk ?_ hdone⟩
  all_goals split <;> simp

end

/-! ## Exhausted staves (R295) -/

/-- The sequences of a model whose staves are exhausted: those left out of eight steps are counted anew. -/
def waitAnew (l : List Seq) : List Seq := l.map fun q => if 8 ≤ q.leftOut then { q with leftOut := 0 } else q

theorem leftOut_of_waitAnew {l : List Seq} {q : Seq} (hq : q ∈ waitAnew l) : q.leftOut < 8 := by
  obtain ⟨x, -, rfl⟩ := List.mem_map.mp hq
  split
  · exact Nat.zero_lt_succ 7
  · next h => exact Nat.not_le.mp h

/-- No sequence is left out of eight steps any longer. -/
theorem State.stavesExhausted_resets {s : State} {c slot : Nat} {m : Model} (hm : s.model c slot = some m)
    (hlive : (s.cuvee c).live = true) (hout : ∃ q ∈ m.seqs, q.prompt = [] ∧ 8 ≤ q.leftOut) :
    ∃ n, (s.stavesExhausted c slot).model c slot = some n ∧ ∀ q ∈ n.seqs, q.leftOut < 8 := by
  have hany : (m.seqs.any fun q => q.prompt == [] && decide (8 ≤ q.leftOut)) = true := by
    obtain ⟨q, hq, hprompt, hleft⟩ := hout
    exact List.any_eq_true.mpr ⟨q, hq, by simp [hprompt, hleft]⟩
  have hmodel : (s.updSeqs c slot waitAnew).model c slot = some { m with seqs := waitAnew m.seqs } := by
    rw [State.model_updSeqs, hm]
    rfl
  unfold State.stavesExhausted
  simp only [hm, hany, hlive, Bool.not_true, Bool.or_self, Bool.false_eq_true, if_false]
  split
  · exact ⟨_, hmodel, fun q => leftOut_of_waitAnew⟩
  · rw [State.leaveSeq_model, State.model_updServing _ _ _ _ fun _ => by rfl]
    exact ⟨_, congrArg (Option.map _) hmodel, fun q hq => leftOut_of_waitAnew (List.mem_of_mem_filter hq)⟩

/-- Settles O39: each command's outcome, its model's change and its completion, from the lemma of its case. -/
theorem controlEntriesAndLoads : Obligations.ControlEntriesAndLoads := by
  unfold Obligations.ControlEntriesAndLoads
  refine ⟨fun s c j hring => ⟨fun hdue => ⟨fun q l hnew hwait hit => ?_, fun hmodels hnew hwait hstream hstep hout => ?_⟩,
      fun b reason h hdue hslot hopen => ⟨fun hreason => ?_, fun hreason hinstall => ?_⟩, fun m hdue hm hidle => ?_,
      fun m p hdue hm hp hfit hin => ?_⟩,
    fun s c slot m hm hlive => ⟨fun b j hstate hjob hring => ⟨fun hbad => ?_, fun htags hsigned hwritten => ?_⟩, fun hout => ?_⟩⟩
  · exact ⟨_, rfl, State.controlCancel_waiting hring hdue hnew hwait hit⟩
  · exact ⟨_, rfl, State.controlCancel_notFound hring hdue hmodels hnew hwait hstream hstep hout⟩
  · exact ⟨_, rfl, State.loadModel_rejects hring hdue hslot hopen hreason⟩
  · obtain ⟨m, hm⟩ := State.loadModel_loads hdue hslot hopen hreason hinstall
    exact ⟨_, m, rfl, hm⟩
  · exact ⟨_, rfl, State.unloadModel_empties hring hdue hm hidle⟩
  · obtain ⟨n, hn⟩ := State.placeModel_places hring hdue hm hp hfit hin
    exact ⟨_, n, rfl, hn⟩
  · exact ⟨_, rfl, State.bottleLoadDone_rejects hm hlive hstate hjob hring hbad⟩
  · obtain ⟨n, hn⟩ := State.bottleLoadDone_readies hm hlive hstate hjob hring htags hsigned hwritten
    exact ⟨_, n, rfl, hn⟩
  · obtain ⟨n, hn⟩ := State.stavesExhausted_resets hm hlive hout
    exact ⟨_, n, rfl, hn⟩

end Sys2Proof.Machine

/-! # Steps, outputs and pages of the serving loop (R69, R286, R291, R298) -/

namespace Sys2Proof.Machine

/-! ## A model apart from its sequences

The end of a text model's step samples, frees and joins sequences; what it leaves of the model is everything but these. -/

/-- The model in a slot, apart from its sequences. -/
def State.resident (s : State) (c slot : Nat) : Option Model := (s.model c slot).map fun m => { m with seqs := [] }

theorem State.resident_of_model {s u : State} {c slot : Nat} (h : u.model c slot = s.model c slot) :
    u.resident c slot = s.resident c slot := congrArg (Option.map _) h

theorem State.resident_of_desk {s u : State} {c : Nat} (h : u.desk c = s.desk c) (slot : Nat) :
    u.resident c slot = s.resident c slot := State.resident_of_model (State.model_of_desk h slot)

section
variable (s : State) (c slot : Nat)

@[simp] theorem State.fresh_resident : s.fresh.2.resident c slot = s.resident c slot := rfl
@[simp] theorem State.plainFault_resident (d kind cls unit arg0 arg1 detail : Nat) :
    (s.plainFault d kind cls unit arg0 arg1 detail).resident c slot = s.resident c slot :=
  State.resident_of_desk (s.plainFault_desk ..) slot
@[simp] theorem State.vaRead_resident (d va n label : Nat) (ext : List Byte) :
    (s.vaRead d va n label ext).2.resident c slot = s.resident c slot := State.resident_of_desk (s.vaRead_desk ..) slot
@[simp] theorem State.writeTokens_resident (d : Nat) (q : Seq) (first gen : Nat) :
    (s.writeTokens d q first gen).2.resident c slot = s.resident c slot := State.resident_of_desk (s.writeTokens_desk ..) slot
@[simp] theorem State.complete_resident (d : Nat) (j : Job) (result flags outBytes units cask : Nat) :
    (s.complete d j result flags outBytes units cask).resident c slot = s.resident c slot :=
  State.resident_of_model (s.model_complete ..)
@[simp] theorem State.completeJob_resident (d : Nat) (j : Job) (result units cask : Nat) :
    (s.completeJob d j result units cask).resident c slot = s.resident c slot := State.resident_of_model (s.model_completeJob ..)
@[simp] theorem State.setCask_resident (d id : Nat) (x : Cask) : (s.setCask d id x).resident c slot = s.resident c slot :=
  State.resident_of_model (s.setCask_model ..)
@[simp] theorem State.freeCask_resident (d id : Nat) : (s.freeCask d id).resident c slot = s.resident c slot :=
  State.resident_of_model (s.freeCask_model ..)

theorem State.updServing_resident (d : Nat) {f : Serving → Serving} (hf : ∀ v, (f v).models = v.models) :
    (s.updServing d f).resident c slot = s.resident c slot := State.resident_of_model (s.model_updServing d c slot hf)

@[simp] theorem State.updSeqs_resident (f : List Seq → List Seq) :
    (s.updSeqs c slot f).resident c slot = s.resident c slot := by
  rw [State.resident, State.model_updSeqs, Option.map_map]
  rfl

@[simp] theorem State.putSeq_resident (q : Seq) : (s.putSeq c slot q).resident c slot = s.resident c slot :=
  s.updSeqs_resident ..

@[simp] theorem State.leaveSeq_resident (q : Seq) (result leave : Nat) (keep : Bool) :
    (s.leaveSeq c slot q result leave keep).resident c slot = s.resident c slot := by
  rw [State.resident, State.leaveSeq_model, Option.map_map]
  rfl

@[simp] theorem State.stepSeq_resident (cands : List Candidates) (q : Seq) :
    (s.stepSeq c slot cands q).resident c slot = s.resident c slot := by
  unfold State.stepSeq
  split
  · rfl
  · split
    · split <;> simp
    · simp only []
      (repeat' split) <;> simp

theorem State.giveStaves_resident {s : State} {c id len : Nat} {t : State} (h : s.giveStaves c id len = some t) (slot : Nat) :
    t.resident c slot = s.resident c slot := by
  unfold State.giveStaves at h
  split at h
  · cases h
  · simp only [] at h
    split at h
    · cases h
      rfl
    · obtain ⟨got, -, rfl⟩ := Option.map_eq_some_iff.mp h
      simp

@[simp] theorem State.enrol_resident (q : Seq) (count : Nat) (tokens : List Nat) (pre sample : Bool) :
    (s.enrol c slot q count tokens pre sample).2.resident c slot = s.resident c slot := by
  unfold State.enrol
  split
  · next h => rw [State.putSeq_resident, State.giveStaves_resident h]
  · rw [State.putSeq_resident]

@[simp] theorem State.batchSeq_resident (m : Model) (budget : Nat) (q : Seq) :
    (s.batchSeq c slot m budget q).2.resident c slot = s.resident c slot := by
  unfold State.batchSeq
  simp only []
  (repeat' split) <;> simp

@[simp] theorem State.batchAll_resident (m : Model) (l : List Seq) (n : Nat) (bs : List BatchRec) :
    (State.batchAll c slot m l n bs s).2.2.resident c slot = s.resident c slot := by
  induction l generalizing s n bs with
  | nil => rfl
  | cons q rest ih =>
    unfold State.batchAll
    simp only []
    split <;> rw [ih, State.batchSeq_resident]

@[simp] theorem State.join_resident (j : Job) (at_ id : Nat) (x : Cask) (ext : List Byte) :
    (s.join c slot j at_ id x ext).2.resident c slot = s.resident c slot := by
  unfold State.join
  simp only []
  split
  · simp [State.updServing_resident]
  · simp [State.updServing_resident]

@[simp] theorem State.joinAll_resident (prompts : List (Nat × List Nat)) (l : List Job) (n : Nat) (bs : List BatchRec) :
    (State.joinAll c slot prompts l n bs s).2.resident c slot = s.resident c slot := by
  induction l generalizing s n bs with
  | nil => rfl
  | cons j rest ih =>
    unfold State.joinAll
    simp only []
    (repeat' split) <;> simp [ih, State.updServing_resident]

@[simp] theorem State.nextBatch_resident (prompts : List (Nat × List Nat)) :
    (s.nextBatch c slot prompts).resident c slot = s.resident c slot := by
  unfold State.nextBatch
  split
  · rfl
  · simp only []
    rw [State.resident_of_desk (State.coresArrive_desk ..), State.resident_of_desk (State.vintnerTask_desk ..),
      State.resident_of_desk (State.coreWrite_desk ..)]
    simp

end

theorem State.readCandidates_desk (c d n va : Nat) (ext : List Byte) (s : State) :
    (State.readCandidates c n va ext s).2.desk d = s.desk d := by
  induction n generalizing s va ext with
  | zero => rfl
  | succ n ih =>
    unfold State.readCandidates
    simp only []
    (repeat' split) <;> simp [ih]

@[simp] theorem State.candidatesOf_desk (s : State) (c d : Nat) (m : Model) (host : List Candidates) :
    (s.candidatesOf c m host).2.desk d = s.desk d := State.readCandidates_desk ..

/-! ## The end of a step (R286, R291) -/

/-- A finished job without a policy of its own goes to the courier. -/
theorem State.stepOutput_outputs (s : State) (c : Nat) (j : Job) :
    ((s.stepOutput c j 0).cuvee c).serving.outputs = (s.cuvee c).serving.outputs ++ [j] ∧
      ∀ slot, (s.stepOutput c j 0).model c slot = s.model c slot := by
  unfold State.stepOutput
  simp only [Nat.zero_ne_one, decide_false, Bool.and_false, Bool.false_eq_true, if_false]
  constructor
  · rw [State.serving_updServing]
    split
    · rw [State.serving_updServing]
    · rfl
  · intro slot
    rw [State.model_updServing _ _ _ _ fun _ => by rfl]
    split
    · exact s.model_updServing c c slot fun _ => rfl
    · rfl

theorem State.updModel_outputs (s : State) (c slot : Nat) (f : Model → Model) :
    ((s.updModel c slot f).cuvee c).serving.outputs = (s.cuvee c).serving.outputs :=
  State.updServing_keeps Serving.outputs s c c fun v => by split <;> rfl

theorem State.countStep_outputs (s : State) (c slot : Nat) :
    ((s.countStep c slot).cuvee c).serving.outputs = (s.cuvee c).serving.outputs :=
  (State.updModel_outputs ..).trans (State.updServing_keeps Serving.outputs s c c fun _ => rfl)

theorem State.countStep_model (s : State) (c slot : Nat) :
    (s.countStep c slot).model c slot = (s.model c slot).map fun m => { m with steps := m.steps + 1 } := by
  rw [State.countStep, State.model_updModel, State.model_updServing _ _ _ _ fun _ => by rfl]

section
variable {s : State} {c slot : Nat} {m : Model} (hm : s.model c slot = some m) (hlive : (s.cuvee c).live = true)
  (hran : 0 < m.unsampled)
  (hover : s.stepOver c (onCuvee m.groupBase (btGroup m)) (decide (2 ≤ m.unsampled)) = true)

/-- The model as the end of a step counts it. -/
def Model.counted (m : Model) : Model := { m with unsampled := m.unsampled - 1, steps := m.steps + 1 }

/-- The state in which the end of a step is counted. -/
def State.stepCounted (s : State) (c slot : Nat) : State :=
  (s.updModel c slot fun m => { m with unsampled := m.unsampled - 1 }).countStep c slot

theorem State.stepCounted_model (s : State) (c slot : Nat) :
    (s.stepCounted c slot).model c slot = (s.model c slot).map Model.counted := by
  rw [State.stepCounted, State.countStep_model, State.model_updModel, Option.map_map]
  rfl

theorem State.stepCounted_outputs (s : State) (c slot : Nat) :
    ((s.stepCounted c slot).cuvee c).serving.outputs = (s.cuvee c).serving.outputs :=
  (State.countStep_outputs ..).trans (State.updModel_outputs ..)

include hm hlive hran hover

/-- A text model's step samples its sequences and builds the next batch once it is counted. -/
theorem State.stepComplete_text (htext : m.recipe.kind = 1) (cands : List Candidates) (prompts : List (Nat × List Nat)) :
    (s.stepComplete c slot cands prompts).resident c slot = some { m.counted with seqs := [] } := by
  unfold State.stepComplete
  simp only [hm, hlive, hover, Nat.ne_of_gt hran, htext, Bool.not_true, Bool.false_eq_true, decide_false, Bool.or_self,
    if_false, if_true, OfNat.one_ne_ofNat]
  rw [State.nextBatch_resident, State.each_frame (State.resident · c slot) _ _ _ fun s q => s.stepSeq_resident ..,
    State.resident_of_desk (State.candidatesOf_desk ..), State.resident_of_desk (State.vintnerTask_desk ..)]
  exact (congrArg (Option.map _) (s.stepCounted_model c slot)).trans (by rw [hm]; rfl)

/-- A tensor model's step sends the job that it ran to the courier once it is counted. -/
theorem State.stepComplete_tensor (hkind : m.recipe.kind ≠ 2) (htext : m.recipe.kind ≠ 1) (cands : List Candidates)
    (prompts : List (Nat × List Nat)) : s.stepComplete c slot cands prompts =
      (m.current.find? Job.started).elim (s.stepCounted c slot) fun j =>
        ((s.stepCounted c slot).updModel c slot fun m => { m with current := m.current.erase j }).stepOutput c j 0 := by
  unfold State.stepComplete
  simp only [hm, hlive, hkind, hover, Nat.ne_of_gt hran, htext, Bool.not_true, Bool.false_eq_true, decide_false, Bool.or_self,
    if_false]
  cases m.current.find? Job.started <;> rfl

/-- A step that is over is counted, and no longer unsampled; a tensor model's job goes on to its output. -/
theorem State.stepComplete_counts (hkind : m.recipe.kind ≠ 2) (cands : List Candidates) (prompts : List (Nat × List Nat)) :
    ∃ n, (s.stepComplete c slot cands prompts).model c slot = some n ∧ n.steps = m.steps + 1 ∧ n.unsampled = m.unsampled - 1 ∧
      ∀ j, m.recipe.kind = 3 → m.current.find? Job.started = some j → n.current = m.current.erase j ∧
        ((s.stepComplete c slot cands prompts).cuvee c).serving.outputs = (s.cuvee c).serving.outputs ++ [j] := by
  have hcounted : (s.stepCounted c slot).model c slot = some m.counted := by rw [State.stepCounted_model, hm]; rfl
  by_cases htext : m.recipe.kind = 1
  · obtain ⟨n, hn, heq⟩ := Option.map_eq_some_iff.mp (State.stepComplete_text hm hlive hran hover htext cands prompts)
    have hsteps : n.steps = m.steps + 1 := (congrArg Model.steps heq :)
    have hunsampled : n.unsampled = m.unsampled - 1 := (congrArg Model.unsampled heq :)
    exact ⟨n, hn, hsteps, hunsampled, fun j h3 => absurd (htext.symm.trans h3) (by decide)⟩
  · rw [State.stepComplete_tensor hm hlive hran hover hkind htext]
    cases hj : m.current.find? Job.started with
    | none => exact ⟨_, hcounted, rfl, rfl, fun j _ h => nomatch h⟩
    | some j =>
      rw [Option.elim_some]
      obtain ⟨houtputs, hmodel⟩ := ((s.stepCounted c slot).updModel c slot fun m =>
        { m with current := m.current.erase j }).stepOutput_outputs c j
      refine ⟨{ m.counted with current := m.current.erase j }, ?_, rfl, rfl, fun k _ hk => ?_⟩
      · rw [hmodel, State.model_updModel, hcounted]
        rfl
      · obtain rfl := Option.some.inj hk
        exact ⟨rfl, by rw [houtputs, State.updModel_outputs, State.stepCounted_outputs]⟩

end

/-! ## Outputs (R286) -/

@[simp] theorem State.courierFault_serving (s : State) (c : Nat) (j : Job) (f : XFault) (d : Nat) :
    ((s.courierFault c j f).cuvee d).serving = (s.cuvee d).serving :=
  (State.serving_completeJob ..).trans (State.serving_of_desk (s.plainFault_desk ..))

theorem State.courierJob_serving (s : State) (c kind bytes va : Nat) {run : State → Nat × State} {d : Nat}
    (hrun : ∀ u, ((run u).2.cuvee d).serving = (u.cuvee d).serving) :
    ((s.courierJob c kind bytes va run).cuvee d).serving = (s.cuvee d).serving := by
  rw [State.courierJob, State.serving_of_desk (State.jobEnd_desk ..), hrun, State.serving_of_desk (State.jobBegin_desk ..)]

/-- The oldest output goes, whatever its copy comes to. -/
theorem State.outputCopyDone_outputs {s : State} {c : Nat} {j : Job} {l : List Job}
    (hout : (s.cuvee c).serving.outputs = j :: l) (hlive : (s.cuvee c).live = true) :
    ((s.outputCopyDone c).cuvee c).serving.outputs = l := by
  have hrest : ((s.updServing c fun v => { v with outputs := l }).cuvee c).serving.outputs = l := by
    rw [State.serving_updServing]
  unfold State.outputCopyDone
  simp only [hout, hlive, Bool.not_true, Bool.false_eq_true, if_false]
  split
  · rwa [State.serving_completeJob]
  · split
    · rwa [State.courierFault_serving, State.serving_of_desk (State.vaRead_desk ..)]
    · rwa [State.courierJob_serving _ _ _ _ _ fun u => ?_, State.serving_of_desk (State.vaRead_desk ..)]
      split
      · rw [State.courierFault_serving, State.serving_of_desk (State.courierCopy_desk ..)]
      · rw [State.serving_complete, State.serving_of_desk (State.courierCopy_desk ..)]

/-! ## The close of a page (R298) -/

/-- The epoch in which a cuvee's page was closed last. -/
def State.closedAt (s : State) (c : Nat) : Option Nat := (s.cuvee c).serving.closedAt

section
variable (s : State) (c d : Nat)

theorem State.updServing_closedAt {f : Serving → Serving} (hf : ∀ v, (f v).closedAt = v.closedAt) :
    (s.updServing c f).closedAt d = s.closedAt d := State.updServing_keeps Serving.closedAt s c d hf

@[simp] theorem State.completeJob_closedAt (j : Job) (result units cask : Nat) :
    (s.completeJob c j result units cask).closedAt d = s.closedAt d := congrArg Serving.closedAt (s.serving_completeJob ..)

@[simp] theorem State.planRow_closedAt (r : Nat) : (s.planRow c r).closedAt d = s.closedAt d :=
  s.updServing_closedAt c d fun _ => rfl

@[simp] theorem State.updModel_closedAt (slot : Nat) (f : Model → Model) :
    (s.updModel c slot f).closedAt d = s.closedAt d := s.updServing_closedAt c d fun v => by split <;> rfl

@[simp] theorem State.stepRow_closedAt (m : Model) (entry : Nat) : (s.stepRow c m entry).closedAt d = s.closedAt d :=
  State.planRow_closedAt ..

@[simp] theorem State.returnFrames_closedAt : (s.returnFrames c).closedAt d = s.closedAt d :=
  State.each_frame (State.closedAt · d) _ _ _ fun s e => by
    simp only []
    split <;> simp [State.updServing_closedAt]

@[simp] theorem State.closeStream_closedAt (k : Nat) : (s.closeStream c k).closedAt d = s.closedAt d := by
  have hstale : ∀ stale : List Job, (s.each stale fun s j =>
      (s.updServing c fun v => { v with counters := bump 64 v.counters 8 1 }).completeJob c j 4).closedAt d = s.closedAt d :=
    fun stale => State.each_frame (State.closedAt · d) _ _ _ fun s j => by simp [State.updServing_closedAt]
  unfold State.closeStream
  simp only []
  split
  · rfl
  · split
    · rfl
    · split
      · rw [State.updServing_closedAt _ _ _ fun _ => by rfl, hstale]
      · rw [State.planRow_closedAt, State.updServing_closedAt _ _ _ fun _ => by rfl]
        exact hstale _

@[simp] theorem State.closeModel_closedAt (slot : Nat) : (s.closeModel c slot).closedAt d = s.closedAt d := by
  unfold State.closeModel
  simp only []
  (repeat' split) <;> simp [State.updServing_closedAt]

end

/-- The page is closed, once in the epoch. -/
theorem State.pageClose_closes {s : State} {c : Nat} (hlive : (s.cuvee c).live = true) (hslot : s.pageCloseSlot c ≤ s.time.slot)
    (honce : (s.cuvee c).serving.closedAt ≠ some s.time.epochs) :
    ((s.pageClose c).cuvee c).serving.closedAt = some s.time.epochs := by
  unfold State.pageClose
  simp only [hlive, Nat.not_lt.mpr hslot, honce, Bool.not_true, decide_false, Bool.or_self, Bool.false_eq_true, if_false]
  change State.closedAt _ c = _
  rw [State.each_frame (State.closedAt · c) _ _ _ fun s m => s.closeModel_closedAt ..,
    State.each_frame (State.closedAt · c) _ _ _ fun s k => s.closeStream_closedAt .., State.returnFrames_closedAt,
    State.closedAt, State.serving_updServing]

/-! ## The next page (R69) -/

@[simp] theorem State.row_setRow (s : State) (i r : Nat) : (s.setRow i r).row i = r := Sparse.getD_set_self ..
theorem State.row_setRow_ne (s : State) {i k : Nat} (r : Nat) (h : k ≠ i) : (s.setRow i r).row k = s.row k :=
  Sparse.getD_set_ne _ _ _ _ h

/-- Rows outside those that are written stand. -/
theorem State.row_each_setRow {l : List Nat} {base k : Nat} (r : Nat → Nat) (h : ∀ i ∈ l, k ≠ base + i) (s : State) :
    (s.each l fun s i => s.setRow (base + i) (r i)).row k = s.row k := by
  unfold State.each
  induction l generalizing s with
  | nil => rfl
  | cons i l ih =>
    rw [List.foldl_cons, ih fun j hj => h j (List.mem_cons_of_mem _ hj),
      State.row_setRow_ne _ _ (h i (List.mem_cons_self ..))]

/-- A row that is written among others, none of which reaches a bound, stays below it. -/
theorem State.row_each_setRow_lt {l : List Nat} {base i bound : Nat} {r : Nat → Nat} (hr : ∀ i, r i < bound) (hi : i ∈ l)
    (s : State) : (s.each l fun s i => s.setRow (base + i) (r i)).row (base + i) < bound := by
  refine State.each_reaches (P := fun t : State => t.row (base + i) < bound) hi (fun t => by simp [hr]) (fun t j ht => ?_) s
  by_cases h : base + i = base + j
  · rw [h, State.row_setRow]
    exact hr j
  · rwa [State.row_setRow_ne _ _ h]

/-- The two pages of a segment share no row. -/
theorem Segment.current_ne_nextPage {g : Segment} {i k : Nat} (hi : i < g.length) (hk : k < g.length) :
    g.current + i ≠ g.nextPage + k := by
  unfold Segment.current Segment.nextPage
  split <;> omega

@[simp] theorem State.vintnerTask_alm (s : State) (c code slot items step : Nat) :
    (s.vintnerTask c code slot items step).alm = s.alm :=
  State.still_alm (by simp [State.vintnerTask, State.jobBegin, State.jobEnd])

theorem State.row_of_alm {s u : State} (h : u.alm = s.alm) (i : Nat) : u.row i = s.row i := by
  simp only [State.row, h]

/-- The state with a page's rows in the next page of cuvee c's segment. -/
def State.withNextPage (s : State) (c : Nat) (page : List Nat) : State :=
  s.each (List.range (s.seg c).length) fun u i => u.setRow ((s.seg c).nextPage + i) (page.getD i 0 % 2 ^ 128)

theorem State.withNextPage_seg (s : State) (c : Nat) (page : List Nat) : (s.withNextPage c page).seg c = s.seg c :=
  State.each_frame (State.seg · c) _ _ _ fun _ _ => rfl

theorem State.withNextPage_current (s : State) (c : Nat) (page : List Nat) {i : Nat} (hi : i < (s.seg c).length) :
    (s.withNextPage c page).row ((s.seg c).current + i) = s.row ((s.seg c).current + i) :=
  State.row_each_setRow (fun k => page.getD k 0 % 2 ^ 128) (fun _ hk => Segment.current_ne_nextPage hi (List.mem_range.mp hk)) s

theorem State.withNextPage_lt (s : State) (c : Nat) (page : List Nat) {i : Nat} (hi : i < (s.seg c).length) :
    (s.withNextPage c page).row ((s.seg c).nextPage + i) < 2 ^ 128 :=
  State.row_each_setRow_lt (r := fun k => page.getD k 0 % 2 ^ 128) (fun _ => Nat.mod_lt _ (by decide)) (List.mem_range.mpr hi) s

theorem State.updServing_updSeg_alm (s : State) (c d : Nat) (f : Serving → Serving) (g : Segment → Segment) :
    ((s.updServing c f).updSeg d g).alm = (s.updSeg d g).alm := rfl

/-- The next page is written row by row and marked ready; of the almanac it is all that changes. -/
theorem State.nextPageComplete_alm {s : State} {c : Nat} {rows : List Nat} (hlen : (s.seg c).length ≠ 0)
    (hready : (s.seg c).ready = false) (hstate : (s.cuvee c).state = .bound ∨ (s.cuvee c).live = true) :
    ∃ page : List Nat, (s.nextPageComplete c rows).alm =
      ((s.withNextPage c page).updSeg c fun g => { g with ready := true }).alm := by
  have hstate' : ((s.cuvee c).state == .bound || (s.cuvee c).live) = true := by simpa using hstate
  unfold State.nextPageComplete
  simp only [hlen, hready, hstate', Bool.not_true, decide_false, Bool.or_self, Bool.false_eq_true, if_false]
  refine ⟨((s.cuvee c).serving.pageRows.foldl (fun l r => putRow r l) rows).take (s.seg c).length, ?_⟩
  rw [State.vintnerTask_alm, State.updServing_updSeg_alm]
  rfl

theorem State.nextPageComplete_writes {s : State} {c : Nat} {rows : List Nat} (hlen : (s.seg c).length ≠ 0)
    (hready : (s.seg c).ready = false) (hstate : (s.cuvee c).state = .bound ∨ (s.cuvee c).live = true) :
    ((s.nextPageComplete c rows).seg c).ready = true ∧ ((s.nextPageComplete c rows).seg c).curPage = (s.seg c).curPage ∧
      (∀ i < (s.seg c).length, (s.nextPageComplete c rows).row ((s.seg c).current + i) = s.row ((s.seg c).current + i)) ∧
      ∀ i < (s.seg c).length, (s.nextPageComplete c rows).row ((s.seg c).nextPage + i) < 2 ^ 128 := by
  obtain ⟨page, halm⟩ := State.nextPageComplete_alm (rows := rows) hlen hready hstate
  have hrow : ∀ k, (s.nextPageComplete c rows).row k = (s.withNextPage c page).row k := fun k => State.row_of_alm halm k
  simp only [State.seg_of_alm halm, State.seg_updSeg, State.withNextPage_seg, hrow, true_and]
  exact ⟨fun i hi => s.withNextPage_current c page hi, fun i hi => s.withNextPage_lt c page hi⟩

/-- Settles O40: a step is counted before its sequences or outputs are worked on, which leave the counts; a page's close and the
next page's rows stand apart from what goes on beside them. -/
theorem stepsOutputsAndPages : Obligations.StepsOutputsAndPages := by
  unfold Obligations.StepsOutputsAndPages
  refine ⟨⟨fun s c slot m cands prompts hm hlive hkind hran hover => ?_, fun s c j l hout hlive => ?_⟩,
    fun s c hlive hslot honce => ⟨_, rfl, State.pageClose_closes hlive hslot honce⟩,
    fun s c rows hlen hready hstate => ⟨_, rfl, State.nextPageComplete_writes hlen hready hstate⟩⟩
  · obtain ⟨n, hn, hsteps, hunsampled, hjob⟩ := State.stepComplete_counts hm hlive hran hover hkind cands prompts
    exact ⟨_, n, rfl, hn, hsteps, hunsampled, fun j h3 hj _ => hjob j h3 hj⟩
  · exact ⟨_, rfl, State.outputCopyDone_outputs hout hlive⟩

end Sys2Proof.Machine

/-! # Model switches and pre-emption (R299, R300)

A tile that changes models saves and loads through the switch area. Of the serving records that touches only what is saved, so
the switches and pre-emptions under way stay as their commands leave them. -/

namespace Sys2Proof.Machine

/-! ## The serving records apart from what is saved -/

/-- The dictionary and a cuvee's serving records, apart from the live state saved of its models. -/
def State.unsaved (s : State) (d : Nat) : DictSt × Serving := (s.dict, { (s.cuvee d).serving with saved := [] })

theorem State.unsaved_of_desk {s u : State} {d : Nat} (h : u.desk d = s.desk d) : u.unsaved d = s.unsaved d := by
  simp only [State.unsaved, State.dict_of_desk h, State.serving_of_desk h]

theorem State.updServing_unsaved (s : State) (c d : Nat) {f : Serving → Serving}
    (hf : ∀ v, { f v with saved := [] } = { v with saved := [] }) : (s.updServing c f).unsaved d = s.unsaved d :=
  congrArg (Prod.mk s.dict) (State.updServing_keeps (fun v => { v with saved := [] }) s c d hf)

section
variable {s u : State} {c : Nat} (h : u.unsaved c = s.unsaved c)
include h

theorem State.groupTiles_of_unsaved (g : Nat) : u.groupTiles c g = s.groupTiles c g := by
  obtain ⟨hdict, hserving⟩ := Prod.mk.inj h
  have hgroups : (u.cuvee c).serving.groups = (s.cuvee c).serving.groups := (congrArg Serving.groups hserving :)
  simp only [State.groupTiles, State.cvTiles, State.val, State.groupEntry, hdict, hgroups]

theorem State.preempts_of_unsaved : (u.cuvee c).serving.preempts = (s.cuvee c).serving.preempts :=
  (congrArg Serving.preempts (Prod.mk.inj h).2 :)

end

section
variable (s : State) (d : Nat)

@[simp] theorem State.switchRead_desk (c va n : Nat) : (s.switchRead c va n).2.desk d = s.desk d := by
  unfold State.switchRead
  simp only []
  split <;> simp

@[simp] theorem State.loadResident_desk (t : Nat) (m : Model) : (s.loadResident t m).desk d = s.desk d := by
  unfold State.loadResident
  extract_lets c n base images rows u v
  have hu : u.desk d = s.desk d := s.each_desk _ d fun s e => by
    simp only []
    split <;> simp
  refine (v.each_desk _ d fun s e => ?_).trans hu
  simp only []
  split <;> simp

theorem State.saveLive_unsaved (t : Nat) : (s.saveLive t).unsaved d = s.unsaved d := by
  unfold State.saveLive
  simp only []
  split
  · rfl
  · exact s.updServing_unsaved _ d fun _ => rfl

theorem State.switchTile_unsaved (t slot : Nat) (m : Model) : (s.switchTile t slot m).unsaved d = s.unsaved d := by
  refine Eq.trans (State.unsaved_of_desk ?_) (s.saveLive_unsaved d t)
  simp [State.switchTile]

theorem State.resumeSaved_unsaved (t slot : Nat) (m : Model) : (s.resumeSaved t slot m).unsaved d = s.unsaved d := by
  unfold State.resumeSaved
  simp only []
  split
  · rfl
  · split
    · exact s.updServing_unsaved _ d fun _ => rfl
    · refine (State.updServing_unsaved _ _ d fun _ => by rfl).trans (Eq.trans (State.unsaved_of_desk ?_) (s.saveLive_unsaved d t))
      simp

end

/-! ## Tiles that change models stay clear of FAULTED -/

/-- What every tile does. -/
def State.acts (s : State) (q : Nat) : TileAct := (s.tile q).act

theorem State.acts_of_tiles {s u : State} (h : u.tiles = s.tiles) : u.acts = s.acts :=
  funext fun q => congrArg Tile.act (State.tile_of_tiles h q)

theorem State.updTile_acts (s : State) (t : Nat) {f : Tile → Tile} (hf : ∀ x, (f x).act = x.act) :
    (s.updTile t f).acts = s.acts := by
  funext q
  by_cases h : q = t
  · subst h
    simp only [State.acts, State.tile_updTile, hf]
  · simp only [State.acts, State.tile_updTile_ne s f h]

@[simp] theorem State.loadInto_acts (s : State) (t : Nat) (p1 : Bool) (img : Nat) : (s.loadInto t p1 img).acts = s.acts :=
  s.updTile_acts t fun x => by split <;> rfl

@[simp] theorem State.saveLive_acts (s : State) (t : Nat) : (s.saveLive t).acts = s.acts := by
  unfold State.saveLive
  simp only []
  split
  · rfl
  · exact State.acts_of_tiles (State.still_tiles (State.updServing_still ..))

@[simp] theorem State.switchRead_acts (s : State) (c va n : Nat) : (s.switchRead c va n).2.acts = s.acts := by
  refine State.acts_of_tiles (State.still_tiles ?_)
  unfold State.switchRead
  simp only []
  split <;> simp

@[simp] theorem State.loadResident_acts (s : State) (t : Nat) (m : Model) : (s.loadResident t m).acts = s.acts := by
  unfold State.loadResident
  extract_lets c n base images rows u v
  have hu : u.acts = s.acts := State.each_frame State.acts _ _ _ fun s e => by
    simp only []
    split
    · exact (State.acts_of_tiles rfl).trans (s.switchRead_acts ..)
    · exact s.switchRead_acts ..
  have hv : v.acts = u.acts := u.updTile_acts t fun _ => rfl
  refine (State.each_frame State.acts _ _ v fun s e => ?_).trans (hv.trans hu)
  simp only []
  split
  · rw [State.updTile_acts _ t fun _ => by rfl, State.switchRead_acts]
  · exact s.switchRead_acts ..

theorem State.switchTile_acts (s : State) (t slot : Nat) (m : Model) {q : Nat} (h : s.acts q ≠ .faulted) :
    (s.switchTile t slot m).acts q ≠ .faulted := by
  unfold State.switchTile
  extract_lets x u key r bytes v old cells w
  have hv : v.acts = s.acts := (State.acts_of_tiles rfl).trans ((State.loadResident_acts ..).trans (s.saveLive_acts t))
  rw [← hv] at h
  rw [State.loadInto_acts, State.loadInto_acts]
  by_cases hq : q = t
  · subst hq
    have hact : (v.tile q).act ≠ .faulted := h
    simp only [w, State.acts, State.tile_updTile, if_neg hact]
    exact nofun
  · simpa only [w, State.acts, State.tile_updTile_ne v _ hq] using h

/-! ## SWITCH_DONE (R299) -/

/-- Every tile of a group that another model stands on, or that is HELD, switches. -/
def State.switchGroup (s : State) (c g : Nat) (h : SwitchIn) (m : Model) : State :=
  s.each (s.groupTiles c g) fun s t =>
    let x := s.tile t
    if x.lastModel ≠ some h.model || x.act = .held then s.switchTile t h.model m else s

section
variable (s : State) (c g : Nat) (h : SwitchIn) (m : Model)

theorem State.switchGroup_unsaved (d : Nat) : (s.switchGroup c g h m).unsaved d = s.unsaved d :=
  State.each_frame (State.unsaved · d) _ _ _ fun s t => by
    simp only []
    split
    · exact s.switchTile_unsaved ..
    · rfl

theorem State.switchGroup_acts {q : Nat} (hq : s.acts q ≠ .faulted) : (s.switchGroup c g h m).acts q ≠ .faulted :=
  State.each_keeps (fun u => u.acts q ≠ .faulted) _ _ (fun s t hs => by
    simp only []
    split
    · exact s.switchTile_acts t h.model m hs
    · exact hs) hq

end

/-- The tiles, and the switches of cuvee d under way. -/
def State.turning (s : State) (d : Nat) : Sparse Tile × Sparse SwitchIn := (s.tiles, (s.cuvee d).serving.switching)

theorem State.updServing_turning (s : State) (c d : Nat) {f : Serving → Serving} (hf : ∀ v, (f v).switching = v.switching) :
    (s.updServing c f).turning d = s.turning d :=
  congrArg₂ Prod.mk (State.still_tiles (State.updServing_still ..)) (State.updServing_keeps Serving.switching s c d hf)

section
variable (s : State) (c d : Nat)

@[simp] theorem State.noteStart_turning (j : Job) : (s.noteStart c j).turning d = s.turning d := by
  unfold State.noteStart State.account
  split
  · rfl
  · split
    · rfl
    · exact s.updServing_turning c d (f := fun v => { v with accounts := v.accounts.set (0, 0, 0) (jbClient j) _ }) fun _ => rfl

@[simp] theorem State.updModel_turning (slot : Nat) (f : Model → Model) : (s.updModel c slot f).turning d = s.turning d :=
  s.updServing_turning c d fun v => by split <;> rfl

@[simp] theorem State.updSeqs_turning (slot : Nat) (f : List Seq → List Seq) : (s.updSeqs c slot f).turning d = s.turning d :=
  s.updModel_turning ..

/-- The beginning of a step is noted in requests, accounts and models, not on the tiles or among the switches under way. -/
theorem State.stepBegins_turning (g row : Nat) : (s.stepBegins c g row).turning d = s.turning d := by
  unfold State.stepBegins
  simp only []
  split
  · rfl
  · split
    · rfl
    · split
      · split
        · rfl
        · rw [State.updServing_turning _ c d fun _ => by rfl, State.noteStart_turning]
      · split
        · rfl
        · split
          · rw [State.updSeqs_turning, State.each_frame (State.turning · d) _ _ _ fun _ _ => by simp, State.updModel_turning]
          · split <;> simp

end

section
variable {s : State} {c g : Nat} {h : SwitchIn} {m : Model} (hlive : (s.cuvee c).live = true) (hq : (s.cuvee c).quiesce = none)
  (hs : (s.cuvee c).serving.switching.find g = some h) (hm : s.model c h.model = some m)
  (hstop : ∀ k ∈ s.groupTiles c g, (s.tile k).switchable = true ∧ (s.tile k).act ≠ .faulted)
include hlive hq hs hm hstop

/-- When every tile of the group has stopped the switch is taken away, and the group starts under its held entry and tag. -/
theorem State.switchDone_eq : ∃ (counters : List Nat) (row : Nat), s.switchDone c g =
    ((((s.switchGroup c g h m).updServing c fun v => { v with
      switching := Sparse.erase v.switching g, counters := counters }).startGroup c g h.entry h.tag).stepBegins c g row) := by
  have hall : ((s.groupTiles c g).all fun t => (s.tile t).switchable) = true :=
    List.all_eq_true.mpr fun k hk => (hstop k hk).1
  unfold State.switchDone
  simp only [hs, hm, hlive, hq, hall, Bool.not_true, Option.isSome_none, Bool.or_self, Bool.false_eq_true, if_false]
  exact ⟨_, _, rfl⟩

theorem State.switchDone_starts : ((s.switchDone c g).cuvee c).serving.switching.find g = none ∧
    ∀ k ∈ s.groupTiles c g, ((s.switchDone c g).tile k).Started h.entry h.tag := by
  obtain ⟨counters, row, he⟩ := State.switchDone_eq hlive hq hs hm hstop
  rw [he]
  generalize hw : ((s.switchGroup c g h m).updServing c fun v => { v with
    switching := Sparse.erase v.switching g, counters := counters }) = w
  have hstep : ((w.startGroup c g h.entry h.tag).stepBegins c g row).turning c = (w.startGroup c g h.entry h.tag).turning c :=
    State.stepBegins_turning ..
  obtain ⟨htiles, hswitching⟩ := Prod.mk.inj hstep
  constructor
  · rw [hswitching, State.serving_of_grouping (w.startGroup_frame ..).1, ← hw, State.serving_updServing]
    exact Sparse.find_erase_self ..
  · intro k hk
    have hgroup : w.groupTiles c g = s.groupTiles c g :=
      calc w.groupTiles c g
        _ = (s.switchGroup c g h m).groupTiles c g := by
            simp only [← hw, State.groupTiles, State.cvTiles, State.val, State.groupEntry, State.serving_updServing,
              State.updServing_dict]
        _ = s.groupTiles c g := State.groupTiles_of_unsaved (s.switchGroup_unsaved ..) g
    have hact : (w.tile k).act ≠ .faulted := by
      rw [← hw]
      exact s.switchGroup_acts c g h m (hstop k hk).2
    rw [State.tile_of_tiles htiles]
    exact State.each_startTile_started h.entry h.tag g _ w k (.inr ⟨hgroup ▸ hk, hact⟩)

end

/-! ## PREEMPTED_RESUME (R300) -/

/-- The pre-empted group l gets its tiles back, those of `shared` from what was saved of them. -/
def State.resumeGroup (s : State) (c l : Nat) (shared : List Nat) : State :=
  match s.groupModel c l with
  | none => s
  | some slot =>
    match s.model c slot with
    | none => s
    | some m =>
      s.each (s.groupTiles c l) fun s t =>
        let s := if shared.contains t then s.resumeSaved t slot m else s.updTile t fun x => { x with preempted := false }
        if (s.tile t).act = .held then s.resumeTile t else s

theorem State.resumeGroup_unsaved (s : State) (c l : Nat) (shared : List Nat) (d : Nat) :
    (s.resumeGroup c l shared).unsaved d = s.unsaved d := by
  unfold State.resumeGroup
  split
  · rfl
  · split
    · rfl
    · refine State.each_frame (State.unsaved · d) _ _ _ fun s t => ?_
      extract_lets u
      have hu : u.unsaved d = s.unsaved d := by
        unfold u
        split
        · exact s.resumeSaved_unsaved ..
        · exact State.unsaved_of_desk (s.updTile_desk ..)
      split
      · exact (State.unsaved_of_desk (u.resumeTile_desk ..)).trans hu
      · exact hu

/-- The record of the groups pre-empted goes, and they get their tiles back one after another. -/
theorem State.preemptedResume_eq {s : State} {c g : Nat} {lows : List Nat} (hlive : (s.cuvee c).live = true)
    (hq : (s.cuvee c).quiesce = none) (hl : (s.cuvee c).serving.preempts.find g = some lows) (hbusy : s.groupBusy c g = false)
    (hs : (s.cuvee c).serving.switching.find g = none) : s.preemptedResume c g =
      (s.updServing c fun v => { v with preempts := Sparse.erase v.preempts g, counters := bump 64 v.counters 3 1 }).each lows
        fun u l => u.resumeGroup c l (s.groupTiles c g) := by
  unfold State.preemptedResume
  simp only [hl, hbusy, hs, hlive, hq, Bool.not_true, Option.isSome_none, Bool.or_self, Bool.false_eq_true, if_false]
  rfl

/-- Settles O41: what a switch saves and loads leaves the switches and pre-emptions under way to the command that ends them. -/
theorem switching : Obligations.Switching := by
  unfold Obligations.Switching
  intro s c g hlive hq
  refine ⟨fun h m hs hm hstop _ => ⟨_, rfl, ?_⟩, fun lows hl hbusy hs => ⟨_, rfl, ?_⟩⟩
  · obtain ⟨hfind, hstart⟩ := State.switchDone_starts hlive hq hs hm hstop
    exact ⟨hfind, fun k hk => ⟨(hstart k hk).running, (hstart k hk).entered, (hstart k hk).tagged⟩⟩
  · rw [State.preemptedResume_eq hlive hq hl hbusy hs, State.preempts_of_unsaved
      (State.each_frame (State.unsaved · c) _ _ _ fun u l => u.resumeGroup_unsaved c l (s.groupTiles c g) c),
      State.serving_updServing]
    exact Sparse.find_erase_self ..

end Sys2Proof.Machine

/-! # What a link port's events leave alone (R309–R318, R329, R331)

A port's events change its own record, and of other ports, cuvees and the trellis only what rides on its transfers: never the
dictionary, the almanac, the power loops or the state of another port. -/

namespace Sys2Proof.Machine

/-- What stands beside port k: the dictionary, the almanac, the power loops, the cadence's state, the rest of the cadence
where its reference does not come by port k (R43), and the states of the other ports. -/
def State.beside (s : State) (k : Nat) : DictSt × AlmanacSt × PowerSt × CadState × Option CadenceSt × (Nat → Nat) :=
  (s.dict, s.alm, s.power, s.cad.state, if k = s.num 0x2000 7 then none else some s.cad,
    fun j => if j = k then 0 else (s.port j).state)

section
variable {s t : State} {k : Nat}

theorem State.beside_of_eq (hd : t.dict = s.dict) (ha : t.alm = s.alm) (hp : t.power = s.power) (hc : t.cad = s.cad)
    (hl : t.links = s.links) : t.beside k = s.beside k := by
  have hnum : t.num 0x2000 7 = s.num 0x2000 7 := by simp only [State.num, State.val, hd]
  simp only [State.beside, hnum, State.port, hd, ha, hp, hc, hl]

theorem State.beside_of_beyondCuvees (h : t.beyondCuvees = s.beyondCuvees) : t.beside k = s.beside k :=
  State.beside_of_eq (congrArg (·.dict) h) (congrArg (·.alm) h) (congrArg (·.power) h) (congrArg (·.cad) h)
    (congrArg (·.links) h)

section
variable (h : t.beside k = s.beside k)
include h

theorem State.dict_of_beside : t.dict = s.dict := congrArg (·.1) h
theorem State.alm_of_beside : t.alm = s.alm := congrArg (·.2.1) h
theorem State.power_of_beside : t.power = s.power := congrArg (·.2.2.1) h
theorem State.cadState_of_beside : t.cad.state = s.cad.state := congrArg (·.2.2.2.1) h
theorem State.cad_of_beside (hk : k ≠ s.num 0x2000 7) : t.cad = s.cad := by
  have hnum : t.num 0x2000 7 = s.num 0x2000 7 := by simp only [State.num, State.val, State.dict_of_beside h]
  have hc : (if k = t.num 0x2000 7 then none else some t.cad) = if k = s.num 0x2000 7 then none else some s.cad :=
    congrArg (·.2.2.2.2.1) h
  rw [hnum, if_neg hk, if_neg hk] at hc
  exact Option.some.inj hc
theorem State.portState_of_beside {j : Nat} (hj : j ≠ k) : (t.port j).state = (s.port j).state := by
  have hs : (if j = k then 0 else (t.port j).state) = if j = k then 0 else (s.port j).state :=
    congrFun (congrArg (·.2.2.2.2.2) h) j
  rwa [if_neg hj, if_neg hj] at hs

end

@[simp] theorem State.beside_ite (p : Prop) [Decidable p] (s t : State) (k : Nat) :
    (if p then s else t).beside k = if p then s.beside k else t.beside k := apply_ite (State.beside · k) ..

end

section
variable (s : State) (k : Nat)

/-! ## Ports, units and records -/

@[simp] theorem State.updPort_beside_self (f : LinkPort → LinkPort) : (s.updPort k f).beside k = s.beside k := by
  have h : (fun j => if j = k then 0 else ((s.updPort k f).port j).state) = fun j => if j = k then 0 else (s.port j).state :=
    funext fun j => by
      split
      · rfl
      · rw [State.port_updPort_ne s f ‹_›]
  unfold State.beside
  rw [h]
  rfl

theorem State.updPort_beside (j : Nat) {f : LinkPort → LinkPort} (hf : ∀ p, (f p).state = p.state) :
    (s.updPort j f).beside k = s.beside k := by
  have h : (fun i => if i = k then 0 else ((s.updPort j f).port i).state) = fun i => if i = k then 0 else (s.port i).state :=
    funext fun i => by
      by_cases hi : i = j
      · rw [hi, State.port_updPort, hf]
      · rw [State.port_updPort_ne s f hi]
  unfold State.beside
  rw [h]
  rfl

@[simp] theorem State.updCuvee_beside (c : Nat) (f : Cuvee → Cuvee) : (s.updCuvee c f).beside k = s.beside k := rfl
@[simp] theorem State.count_beside (key n : Nat) : (s.count key n).beside k = s.beside k := rfl
@[simp] theorem State.tally_beside (c i n : Nat) : (s.tally c i n).beside k = s.beside k :=
  State.beside_of_beyondCuvees (s.tally_beyondCuvees c i n)
@[simp] theorem State.jobBegin_beside (c engine code tag arg0 arg2 : Nat) :
    (s.jobBegin c engine code tag arg0 arg2).beside k = s.beside k := by
  rw [State.jobBegin, State.beside_ite, State.beside_of_beyondCuvees (State.daybook_beyondCuvees ..), ite_self]
@[simp] theorem State.jobEnd_beside (c engine code tag arg0 status arg2 : Nat) :
    (s.jobEnd c engine code tag arg0 status arg2).beside k = s.beside k := by
  rw [State.jobEnd, State.beside_ite, State.beside_of_beyondCuvees (State.daybook_beyondCuvees ..), ite_self]
@[simp] theorem State.logCorrected_beside (key unit source n : Nat) :
    (s.logCorrected key unit source n).beside k = s.beside k := by
  unfold State.logCorrected
  split <;> rfl
@[simp] theorem State.answer_beside (p : Packet) (ty status : Nat) (data : List Byte) :
    (s.answer p ty status data).beside k = s.beside k :=
  calc (s.answer p ty status data).beside k
    _ = ((s.tally _ 12 _).tally _ 13 _).beside k := rfl
    _ = s.beside k := by rw [State.tally_beside, State.tally_beside]

@[simp] theorem State.linkCount_beside (j i n : Nat) : (s.linkCount j i n).beside k = s.beside k :=
  s.updPort_beside k j fun _ => rfl
@[simp] theorem State.portCount_beside (j i n : Nat) : (s.portCount j i n).beside k = s.beside k := rfl
@[simp] theorem State.xferError_beside (c i : Nat) : (s.xferError c i).beside k = s.beside k := rfl
@[simp] theorem State.linkSend_beside (j : Nat) (m : LinkMsg) : (s.linkSend j m).beside k = s.beside k :=
  s.updPort_beside k j fun _ => rfl
@[simp] theorem State.sendDone_beside (j : Nat) (m : LinkRequest) (st len : Nat) :
    (s.sendDone j m st len).beside k = s.beside k := s.linkSend_beside ..
@[simp] theorem State.updXfer_beside (j : Nat) (mine : Bool) (tag : Nat) (f : LinkXfer → LinkXfer) :
    (s.updXfer j mine tag f).beside k = s.beside k := s.updPort_beside k j fun _ => rfl
@[simp] theorem State.dropXfer_beside (j : Nat) (mine : Bool) (tag : Nat) :
    (s.dropXfer j mine tag).beside k = s.beside k := s.updPort_beside k j fun _ => rfl
@[simp] theorem State.landData_beside (j : Nat) (owed : Bool) (f : Flit) : (s.landData j owed f).beside k = s.beside k :=
  s.updPort_beside k j fun _ => rfl

@[simp] theorem State.answerXfer_beside (x : LinkXfer) (st : Nat) (data : List Byte) :
    (s.answerXfer x st data).beside k = s.beside k := by
  unfold State.answerXfer
  refine (State.each_frame (State.beside · k) _ _ _ fun s e => ?_).trans ?_
  · simp
  · simp

/-! ## Port states (R309–R311, R326, R447) -/

@[simp] theorem State.markTaken_beside (c : Nat) : (s.markTaken k c).beside k = s.beside k := by
  simp [State.markTaken, State.updQuiesce]
@[simp] theorem State.endRecording_beside : (s.endRecording k).beside k = s.beside k := by
  unfold State.endRecording
  refine (State.each_frame (State.beside · k) _ _ _ fun s c => ?_).trans
    (State.each_frame (State.beside · k) _ _ _ fun s c => s.markTaken_beside k c)
  rfl

/-- A change of the cadence that keeps its state, where its reference comes by port k. -/
theorem State.updCad_beside {s : State} {k : Nat} (hk : k = s.num 0x2000 7) {f : CadenceSt → CadenceSt}
    (hf : ∀ c, (f c).state = c.state) : (s.updCad f).beside k = s.beside k := by
  have hnum : (s.updCad f).num 0x2000 7 = s.num 0x2000 7 := rfl
  unfold State.beside
  rw [hnum, if_pos hk, if_pos hk, show (s.updCad f).cad.state = s.cad.state from hf s.cad]
  rfl

@[simp] theorem State.peerGone_beside : (s.peerGone k).beside k = s.beside k := by
  unfold State.peerGone
  split
  · rfl
  · next h =>
    have hk : k = s.num 0x2000 7 := not_not.mp h
    have hpeer := State.updCad_beside hk (f := fun c => { c with peerBoundary := none, peerLen := none }) fun _ => rfl
    simp only []
    split
    · exact (State.updCad_beside (s := s.updCad _) hk (f := fun c =>
        { c with present := false, state := if false && !c.present && c.state == .flywheel then .slewing else c.state })
        fun _ => rfl).trans hpeer
    · exact hpeer

@[simp] theorem State.endPort_beside : (s.endPort k).beside k = s.beside k := by
  unfold State.endPort
  refine (State.each_frame (State.beside · k) _ _ _ fun s e => ?_).trans
    ((State.each_frame (State.beside · k) _ _ _ fun s x => s.answerXfer_beside ..).trans (by simp))
  simp only []
  split
  · rfl
  · split <;> simp
@[simp] theorem State.portTo_beside (st cause : Nat) : (s.portTo k st cause).beside k = s.beside k := by simp [State.portTo]
@[simp] theorem State.portTrain_beside : (s.portTrain k).beside k = s.beside k := by simp [State.portTrain]
@[simp] theorem State.portRetrain_beside (cause : Nat) : (s.portRetrain k cause).beside k = s.beside k := by
  simp [State.portRetrain]
@[simp] theorem State.signalDetect_beside : (s.signalDetect k).beside k = s.beside k := by
  simp [State.signalDetect]
@[simp] theorem State.signalLoss_beside : (s.signalLoss k).beside k = s.beside k := by
  simp [State.signalLoss]
@[simp] theorem State.laneFailure_beside (lane : Nat) : (s.laneFailure k lane).beside k = s.beside k := by
  simp [State.laneFailure]

/-! ## Keying (R310, R329, R331) -/

@[simp] theorem State.sendKey_beside (step : Nat) : (s.sendKey k step).beside k = s.beside k :=
  State.linkSend_beside { s with free := s.free + 1 } ..
@[simp] theorem State.portKeying_beside : (s.portKeying k).beside k = s.beside k := by
  simp [State.portKeying]
@[simp] theorem State.trainingDone_beside (good : Nat) : (s.trainingDone k good).beside k = s.beside k := by
  simp [State.trainingDone]
@[simp] theorem State.portRekey_beside : (s.portRekey k).beside k = s.beside k := by
  simp [State.portRekey]
@[simp] theorem State.rekeyDue_beside : (s.rekeyDue k).beside k = s.beside k := by
  simp [State.rekeyDue]
@[simp] theorem State.keyFail_beside : (s.keyFail k).beside k = s.beside k := by
  simp [State.keyFail]
@[simp] theorem State.keyUp_beside : (s.keyUp k).beside k = s.beside k := by simp [State.keyUp]
@[simp] theorem State.rekeyed_beside : (s.rekeyed k).beside k = s.beside k := by simp [State.rekeyed]
theorem State.takeMsg_beside {s t : State} {k : Nat} {m : LinkMsg} (h : s.takeMsg k m = some t) :
    t.beside k = s.beside k := by
  rw [State.eq_of_takeMsg h, State.updPort_beside_self]
@[simp] theorem State.keyMessage_beside (m : KeyMsg) : (s.keyMessage k m).beside k = s.beside k := by
  unfold State.keyMessage
  split
  · rfl
  · next h =>
    rw [← State.takeMsg_beside h]
    simp only []
    (repeat' split) <;> simp

/-! ## Flits (R312–R319) -/

@[simp] theorem State.emitFlit_beside (f : Flit) : (s.emitFlit k f).beside k = s.beside k := by simp [State.emitFlit]
@[simp] theorem State.putFlit_beside (f : Flit) : (s.putFlit k f).beside k = s.beside k := by simp [State.putFlit]
@[simp] theorem State.idleSlot_beside (slot : Nat) : (s.idleSlot k slot).beside k = s.beside k := by simp [State.idleSlot]
@[simp] theorem State.controlSlot_beside (slot : Nat) (ready : List LinkMsg) :
    (s.controlSlot k slot ready).beside k = s.beside k := by
  simp [State.controlSlot]
@[simp] theorem State.sendData_beside (slot : Nat) (x : LinkXfer) : (s.sendData k slot x).beside k = s.beside k := by
  unfold State.sendData
  (repeat' split) <;> simp
@[simp] theorem State.dataSlot_beside (slot : Nat) : (s.dataSlot k slot).beside k = s.beside k := by
  simp only [State.dataSlot]
  (repeat' split) <;> simp
@[simp] theorem State.controlFlitSend_beside : (s.controlFlitSend k).beside k = s.beside k := by
  unfold State.controlFlitSend
  simp only []
  split
  · rfl
  · rw [State.updPort_beside_self, State.each_frame (State.beside · k) _ _ _ fun s i => s.dataSlot_beside k i]
    split <;> simp
@[simp] theorem State.timeSend_beside : (s.timeSend k).beside k = s.beside k := by simp [State.timeSend]
@[simp] theorem State.linkFec_beside (good bad : Nat) : (s.linkFec k good bad).beside k = s.beside k := by
  simp [State.linkFec]
@[simp] theorem State.replayFrom_beside : (s.replayFrom k).beside k = s.beside k := by
  simp [State.replayFrom]
@[simp] theorem State.openIncoming_beside (m : LinkMsg) : (s.openIncoming k m).beside k = s.beside k := by
  unfold State.openIncoming
  split <;> simp
@[simp] theorem State.acceptMsgs_beside (l : List LinkMsg) : (s.acceptMsgs k l).beside k = s.beside k :=
  State.each_frame (State.beside · k) _ _ _ fun s m => by simp
@[simp] theorem State.acceptData_beside (f : Flit) : (s.acceptData k f).beside k = s.beside k := by
  simp only [State.acceptData]
  (repeat' split) <;> simp
@[simp] theorem State.flitReceive_beside (f : Flit) : (s.flitReceive k f).beside k = s.beside k := by
  simp [State.flitReceive]

end

/-! ## Where no hand-over rides on a port (R340, R344) -/

/-- No cask of a cuvee that exists is OFFERED or RECEIVING. -/
structure State.NoHandOver (s : State) : Prop where
  casks : ∀ c ∈ s.existing, ∀ e ∈ (s.cuvee c).serving.casks, e.2.state ≠ 2 ∧ e.2.state ≠ 3

namespace State.NoHandOver

variable {s : State} (h : s.NoHandOver)
include h

theorem of_cuvees {t : State} (ht : t.cuvees = s.cuvees) : t.NoHandOver where
  casks c hc := by
    have hcuvee : t.cuvee c = s.cuvee c := congrArg (Sparse.getD · c Cuvee.init) ht
    rw [hcuvee]
    exact h.casks c (State.mem_existing_of_cuvees ht hc)

theorem updCuvee {d : Nat} {f : Cuvee → Cuvee} (hf : ∀ v, (f v).state = v.state ∧ (f v).serving = v.serving) :
    (s.updCuvee d f).NoHandOver where
  casks c hc := by
    have hserving : ((s.updCuvee d f).cuvee c).serving = (s.cuvee c).serving := by
      by_cases hcd : c = d
      · rw [hcd, State.cuvee_updCuvee, (hf _).2]
      · rw [State.cuvee_updCuvee_ne s f hcd]
    rw [hserving]
    exact h.casks c (State.mem_existing_of_updCuvee (fun v => (hf v).1) hc)

theorem updPort {k : Nat} {f : LinkPort → LinkPort} : (s.updPort k f).NoHandOver := h.of_cuvees rfl
theorem portCount {k i n : Nat} : (s.portCount k i n).NoHandOver := h.of_cuvees rfl
theorem linkCount {k i n : Nat} : (s.linkCount k i n).NoHandOver := h.of_cuvees rfl
theorem logCorrected {key unit source n : Nat} : (s.logCorrected key unit source n).NoHandOver :=
  h.of_cuvees (by unfold State.logCorrected; split <;> rfl)

theorem tally {c i n : Nat} : (s.tally c i n).NoHandOver := by
  unfold State.tally
  split
  · exact h
  · exact h.updCuvee fun _ => ⟨rfl, rfl⟩

theorem jobEnd {c engine code tag arg0 status arg2 : Nat} :
    (s.jobEnd c engine code tag arg0 status arg2).NoHandOver := by
  unfold State.jobEnd
  split
  · exact h
  · obtain hc | ⟨i, n, hc⟩ := s.daybook_cuvees c 1 engine 0 code tag (arg0 % 2 ^ 32) status arg2
    · exact h.of_cuvees hc
    · exact h.tally.of_cuvees hc

theorem answer {p : Packet} {ty status : Nat} {data : List Byte} : (s.answer p ty status data).NoHandOver :=
  (h.tally.tally (c := p.cuvee)).of_cuvees rfl

theorem answerXfer {x : LinkXfer} {st : Nat} {data : List Byte} : (s.answerXfer x st data).NoHandOver := by
  unfold State.answerXfer
  extract_lets t bad u v w
  have hu : u.NoHandOver := by
    unfold u
    split
    · exact h
    · exact h.jobEnd
  have hv : v.NoHandOver := by
    unfold v
    split
    · exact hu.updCuvee fun _ => ⟨rfl, rfl⟩
    · split
      · exact hu.updCuvee fun _ => ⟨rfl, rfl⟩
      · split
        · exact hu.updCuvee fun _ => ⟨rfl, rfl⟩
        · exact hu
  have hw : w.NoHandOver := by
    unfold w
    split
    · exact hv.updCuvee fun _ => ⟨rfl, rfl⟩
    · exact hv
  refine State.each_keeps State.NoHandOver _ _ (fun s e hs => ?_) hw
  simp only []
  (repeat' split) <;> exact hs.answer

theorem markTaken {k c : Nat} : (s.markTaken k c).NoHandOver := by
  unfold State.markTaken State.updQuiesce
  refine State.NoHandOver.updCuvee (State.NoHandOver.updCuvee h.updPort ?_) ?_ <;> exact fun _ => ⟨rfl, rfl⟩

theorem endRecording {k : Nat} : (s.endRecording k).NoHandOver := by
  unfold State.endRecording
  refine State.each_keeps State.NoHandOver _ _ (fun s c hs => ?_)
    (State.each_keeps State.NoHandOver _ _ (fun s c hs => hs.markTaken) h)
  exact hs.updCuvee fun _ => ⟨rfl, rfl⟩

theorem peerGone {k : Nat} : (s.peerGone k).NoHandOver := by
  refine h.of_cuvees ?_
  unfold State.peerGone
  split
  · rfl
  · simp only []
    split <;> rfl

theorem endPort {k : Nat} : (s.endPort k).NoHandOver := by
  unfold State.endPort
  refine State.each_keeps State.NoHandOver _ _ (fun s e hs => ?_)
    (State.each_keeps State.NoHandOver _ _ (fun s x hs => hs.answerXfer) h.peerGone.endRecording.updPort)
  simp only []
  split
  · exact hs
  · split <;> exact hs.of_cuvees rfl

theorem portTo {k st cause : Nat} : (s.portTo k st cause).NoHandOver := h.endPort.updPort

theorem portRetrain {k cause : Nat} : (s.portRetrain k cause).NoHandOver := by
  unfold State.portRetrain
  extract_lets now recent u v
  have hv : v.NoHandOver := by
    unfold v
    split <;> exact h.linkCount.portCount.portTo
  exact hv.updPort

theorem signalLoss {k : Nat} : (s.signalLoss k).NoHandOver := by
  unfold State.signalLoss
  extract_lets u
  split
  · exact h.updPort
  · exact h.updPort.portTo

theorem laneFailure {k lane : Nat} : (s.laneFailure k lane).NoHandOver := by
  unfold State.laneFailure
  split
  · exact h
  · exact h.portRetrain.updPort

theorem replayFrom {k : Nat} : (s.replayFrom k).NoHandOver := by
  unfold State.replayFrom
  extract_lets p again
  split
  · exact h
  · split
    · exact h.portRetrain
    · exact h.updPort.linkCount.portCount

theorem linkFec {k good bad : Nat} : (s.linkFec k good bad).NoHandOver := by
  unfold State.linkFec
  extract_lets u
  split
  · exact h.linkCount.linkCount.portCount
  · exact h.linkCount.linkCount.portCount.logCorrected

theorem acceptMsgs {k : Nat} {l : List LinkMsg} : (s.acceptMsgs k l).NoHandOver :=
  State.each_keeps State.NoHandOver _ _ (fun s m hs => by
    have hopen : (s.openIncoming k m).NoHandOver := by
      unfold State.openIncoming
      split
      · exact hs.updPort
      · exact hs
    simp only []
    split <;> exact hopen.updPort) h

theorem acceptData {k : Nat} {f : Flit} : (s.acceptData k f).NoHandOver := by
  unfold State.acceptData
  simp only []
  (repeat' split) <;> exact h.of_cuvees rfl

theorem flitReceive {k : Nat} {f : Flit} : (s.flitReceive k f).NoHandOver := by
  unfold State.flitReceive
  extract_lets p u left v w x y z good v' w'
  have hv : v.NoHandOver := h.portCount.linkFec.updPort
  have hw : w.NoHandOver := by
    unfold w
    split
    · exact hv.replayFrom
    · exact hv
  have hx : x.NoHandOver := by
    unfold x
    split
    · exact hw.linkCount.portCount
    · exact hw
  split
  · exact h
  · split
    · exact hw
    · split
      · split
        · exact hx
        · exact hx.updPort.linkCount.portCount.logCorrected
      · split
        · split
          · exact State.NoHandOver.acceptData hw.updPort
          · exact hw.updPort
        · have hw' : w'.NoHandOver := by
            unfold w'
            split
            · exact hw.updPort.updPort.linkCount.updPort
            · exact hw.updPort.updPort.linkCount
          exact hw'.acceptMsgs

end State.NoHandOver

/-- A run of which no step changes anything. -/
theorem State.each_fixed {α : Type} {s : State} {f : State → α → State} {l : List α} (h : ∀ x ∈ l, f s x = s) :
    s.each l f = s := by
  induction l with
  | nil => rfl
  | cons x l ih =>
    rw [State.each, List.foldl_cons, h x List.mem_cons_self]
    exact ih fun y hy => h y (List.mem_cons_of_mem x hy)

/-- Without an offer there is none to withdraw. -/
theorem State.allBroken_of_noHandOver {s : State} (h : s.NoHandOver) : s.allBroken = s :=
  State.each_fixed fun c hc => State.each_fixed fun e he => by simp [(h.casks c hc e he).1]

/-- Without an incoming cask no stream is taken in. -/
theorem State.caskStreams_of_noHandOver {s : State} (h : s.NoHandOver) (k : Nat) : s.caskStreams k = s :=
  State.each_fixed fun c hc => by
    have hnone : ((s.cuvee c).serving.casks.filter fun e => e.2.state == 3 && e.2.port == k) = [] :=
      List.filter_eq_nil_iff.mpr fun e he => by simp [(h.casks c hc e he).2]
    rw [hnone]
    rfl

/-- The frame of an event that changes nothing beside its port, no byte of memory and not estate time. -/
theorem State.linkPortFrame {s t : State} {k : Nat} (hb : t.beside k = s.beside k) (hm : t.memory = s.memory)
    (hk : t.kept = s.kept) :
    t.mem.hbm = s.mem.hbm ∧ t.mem.store = s.mem.store ∧ t.dict.vals = s.dict.vals ∧ t.dict.pend = s.dict.pend ∧
      t.alm = s.alm ∧ t.power = s.power ∧ t.time = s.time ∧
      t.cad.state = s.cad.state ∧ (k ≠ s.num 0x2000 7 → t.cad = s.cad) ∧ ∀ j, j ≠ k → (t.port j).state = (s.port j).state :=
  have hdict := State.dict_of_beside hb
  ⟨congrArg (·.1) hm, congrArg (·.2) hm, congrArg (·.vals) hdict, congrArg (·.pend) hdict, State.alm_of_beside hb,
    State.power_of_beside hb, congrArg (·.2.1) hk, State.cadState_of_beside hb, State.cad_of_beside hb,
    fun _ => State.portState_of_beside hb⟩

/-- Settles O60: each event leaves what stands beside its port, and without a hand-over the casks have nothing to do after it. -/
theorem linkPortEventsFrame : Obligations.LinkPortEventsFrame := by
  unfold Obligations.LinkPortEventsFrame
  rintro s t k i (rfl | ⟨g, rfl⟩ | ⟨m, rfl⟩ | rfl | rfl | rfl | ⟨hi, hcasks⟩) ht
  on_goal 7 =>
    have h : s.NoHandOver := ⟨hcasks⟩
    obtain rfl | ⟨l, rfl⟩ | ⟨f, rfl⟩ := hi <;> cases ht
    · rw [State.allBroken_of_noHandOver h.signalLoss]
      exact State.linkPortFrame (by simp) (by simp) (by simp)
    · rw [State.allBroken_of_noHandOver h.laneFailure]
      exact State.linkPortFrame (by simp) (by simp) (by simp)
    · rw [State.caskStreams_of_noHandOver h.flitReceive, State.allBroken_of_noHandOver h.flitReceive]
      exact State.linkPortFrame (by simp) (by simp) (by simp)
  all_goals
    cases ht
    exact State.linkPortFrame (by simp) (by simp) (by simp)

end Sys2Proof.Machine

/-! # Port states (R309–R311, R326, R349)

What a port's record is once its transfers have ended, and what the commands and events that end them make of it. -/

namespace Sys2Proof.Machine

/-- A port whose transfers have ended (R326): nothing waits on it, and its sequence and credits stand at their start. -/
def LinkPort.ended (p : LinkPort) : LinkPort :=
  { p with
    xfers := [], ctl := [], replay := [], inbox := [], credits := [0, 0, 0, 0], owed := [0, 0, 0, 0], nak := false
    nextRx := 0, nextTx := 0, rekeying := false, keyStep := 0, recording := false, recorded := [], recData := [], replays := 0 }

@[simp] theorem State.port_updCuvee (s : State) (c : Nat) (f : Cuvee → Cuvee) (k : Nat) :
    (s.updCuvee c f).port k = s.port k := rfl

@[simp] theorem State.port_peerGone (s : State) (j k : Nat) : (s.peerGone j).port k = s.port k := by
  unfold State.peerGone
  split
  · rfl
  · simp only []
    split <;> rfl

/-- A marker takes from a port only what it recorded. -/
theorem State.ended_markTaken (s : State) (k c : Nat) : ((s.markTaken k c).port k).ended = (s.port k).ended := by
  unfold State.markTaken State.updQuiesce
  extract_lets g mine data u v
  rw [State.port_updCuvee, State.port_updCuvee, State.port_updPort]
  rfl

theorem State.ended_endRecording (s : State) (k : Nat) : ((s.endRecording k).port k).ended = (s.port k).ended := by
  unfold State.endRecording
  refine (State.each_frame (fun s => (s.port k).ended) _ _ _ fun s c => ?_).trans
    (State.each_frame (fun s => (s.port k).ended) _ _ _ fun s c => s.ended_markTaken k c)
  rfl

theorem State.port_endPort (s : State) (k : Nat) : (s.endPort k).port k = (s.port k).ended := by
  unfold State.endPort
  extract_lets xs u v
  have hu : u.port k = (s.port k).ended := by
    rw [← State.port_peerGone s k k, ← State.ended_endRecording]
    exact State.port_updPort ..
  have hv : v.port k = u.port k := State.port_of_linkSide (State.each_linkSide _ _ _ fun s x => by simp) k
  refine State.each_keeps (fun t => t.port k = (s.port k).ended) _ _ (fun t e ht => ?_) (hv.trans hu)
  simp only []
  split
  · exact ht
  · next y hy =>
    have hk : k ≠ e.2.1 := by
      rintro rfl
      rw [State.linkXfer, ht] at hy
      cases hy
    split
    · rw [State.sendDone, State.linkSend, State.port_updPort_ne _ _ hk, State.dropXfer, State.port_updPort_ne _ _ hk, ht]
    · rw [State.dropXfer, State.port_updPort_ne _ _ hk, ht]

theorem State.port_portTo (s : State) (k st cause : Nat) : (s.portTo k st cause).port k =
    { (s.port k).ended with state := st, cause := if st = 4 || st = 5 then cause else (s.port k).cause } := by
  unfold State.portTo
  rw [State.port_updPort, State.port_endPort]
  rfl

/-- A port that trains has a signal, and one without is DOWN. -/
theorem State.port_portTrain (s : State) (k : Nat) :
    (s.portTrain k).port k = { (s.port k).ended with state := if (s.port k).signal then 1 else 0 } := by
  unfold State.portTrain
  rw [State.port_portTo]
  split <;> rfl

/-! ## Writes of the link objects (R349, R462, R468) -/

section
variable {s : State} {a : Access} {i sub : Nat} {b : Blob} {d : ObjDesc}

/-- A link object of the estate is checked for its Range and for the state that it meets. -/
theorem State.writeCode_links (hi : 0x6000 ≤ i) (hi' : i < 0x7000) (ho : d.owner = .estate)
    (hsize : ∀ v, sizeOk v d sub b = true) (hr : d.outside b.val = false) (hl : listBad d b = false) :
    s.writeCode .manager 2 true (refOf .manager i sub d) b default = (s.chkLinks i sub b).code := by
  have hdenied : s.valueDenied .manager i sub b = false := by
    unfold State.valueDenied
    split
    · omega
    · omega
    · omega
    · rfl
  have hobject : ∀ v, s.chkObject .manager v i sub b default = s.chkLinks i sub b := fun v => by
    unfold State.chkObject
    simp only [show ¬ i < 0x2000 by omega, show ¬ i < 0x2010 by omega, show ¬ i < 0x3000 by omega, show ¬ i < 0x3080 by omega,
      show ¬ i < 0x4000 by omega, show ¬ i < 0x5000 by omega, show ¬ i < 0x5040 by omega, show ¬ i < 0x6000 by omega, hi',
      if_false, if_true]
  have hi3 : i ≠ 0x3012 := by omega
  simp [State.writeCode, refOf, hsize, hdenied, hi3, State.valueStatus, hobject, hr, hl, ObjDesc.cuveeOf, ho]

section
variable (hh : s.hears a = true) (hp : a.path = .pf s.dict.steward) (hi : 0x6000 ≤ i) (hi' : i < 0x7000) (hsub : sub < 2 ^ 8)
  (hb : b.size ≤ 65536) (hv : b.val < 2 ^ (8 * b.size)) (hd : objAt i sub = some d) (hw : bit d.mgr 1 = true)
  (hepoch : d.epoch = false) (ho : d.owner = .estate) (hsize : ∀ v, sizeOk v d sub b = true) (hr : d.outside b.val = false)
  (hl : listBad d b = false)
include hh hp hi hi' hsub hb hv hd hw hepoch ho hsize hr hl

/-- The manager's write of a link object that acts at once: a value in its Range acts, unless the state it meets refuses it,
and the window holds the answer. -/
theorem State.commandWrite_links : ∃ y, y.status = (s.chkLinks i sub b).code ∧ y.tag = a.tag ∧
    s.commandWrite a i sub b default =
      (if (s.chkLinks i sub b).code = stOk then (s.filled (writingTo a i sub b) 2).actWrite .manager ⟨i, sub, b⟩ default
        else s.filled (writingTo a i sub b) 2).answerWindow a.path (reqGen a) y := by
  have hcl : s.classOf a.path = some .manager := by rw [hp]; exact congrArg some (if_pos rfl)
  obtain ⟨u, size, hu, hw⟩ := s.commandWrite_heard a i sub b default .manager d hh (by omega) hsub hb hv hcl (by simp) hd hw
  have hchk : u.chkLinks i sub b = s.chkLinks i sub b := by rw [hu]; rfl
  have hcode := State.writeCode_links (s := u) hi hi' ho hsize hr hl
  have hq : u.writeValue .manager 2 true (refOf .manager i sub d) b default = ((s.chkLinks i sub b).code, false,
      if (s.chkLinks i sub b).code = stOk then u.actWrite .manager ⟨i, sub, b⟩ default else u) := by
    have h1 : i ≠ 0x2003 := by omega
    have h2 : i ≠ 0x3012 := by omega
    have h3 : i ≠ 0xB021 := by omega
    have h4 : i ≠ 0x1020 := by omega
    unfold State.writeValue
    simp only [hcode, hchk]
    by_cases hok : (s.chkLinks i sub b).code = stOk
    · simp [hok, refOf, h1, State.acceptWrite, h2, h3, h4, hepoch]
    · simp [hok, refOf, h1]
  rw [hq] at hw
  exact ⟨(accessReq (writingTo a i sub b) 2 (reqGen a)).response s.stamp ⟨(s.chkLinks i sub b).code, d.ty.code, ⟨0, 0⟩, size⟩,
    rfl, rfl, by rw [← hu]; simpa using hw⟩

end

/-- The answer is in the window where what acted left the windows alone. -/
theorem State.answered_of_windows {u : State} {y : Response} {st : Nat}
    (hwin : u.dict.windows = (s.filled (writingTo a i sub b) 2).dict.windows) (hy : y.status = st) (ht : y.tag = a.tag) :
    (u.answerWindow a.path (reqGen a) y).answered a st = true := by
  refine State.answerWindow_answered ?_ hy ht
  have hw : u.window a.path = (s.filled (writingTo a i sub b) 2).window a.path := by unfold State.window; rw [hwin]
  rw [hw]
  exact s.filled_inFlight ..

end

@[simp] theorem State.answerWindow_links (s : State) (p : Path) (g : Nat) (y : Response) :
    (s.answerWindow p g y).links = s.links := by
  unfold State.answerWindow
  simp only []
  split <;> rfl
@[simp] theorem State.port_answerWindow (s : State) (p : Path) (g : Nat) (y : Response) (k : Nat) :
    (s.answerWindow p g y).port k = s.port k := by
  unfold State.port
  rw [State.answerWindow_links]

/-! ## PortCommand (R311) -/

/-- The table's row of PortCommand. -/
def portCommandRow : ObjDesc :=
  ⟨0x6004, 0x6004, 0x01, 0x0C, "PortCommand[k]", .u8, 2, 0, 2, false, .estate, true, 1, 1, 1, ⟨1, 0⟩, some (1, 3)⟩

theorem objAt_portCommand {k : Nat} (hk : k < 12) : objAt 0x6004 (k + 1) = some portCommandRow := by
  revert k
  decide +kernel

@[simp] theorem State.filled_port (s : State) (a : Access) (op k : Nat) : (s.filled a op).port k = s.port k := rfl

section
variable {s : State} {a : Access} {k code : Nat} (hh : s.hears a = true) (hp : a.path = .pf s.dict.steward) (hk : k < 12)
  (hcode : 1 ≤ code) (hcode' : code ≤ 3)
include hh hp hk hcode hcode'

/-- A PortCommand acts where the port's state accepts it and is refused where it does not. -/
theorem State.portCommand_heard : ∃ y, y.status = (if s.portCommandOk k code then stOk else stConflict) ∧ y.tag = a.tag ∧
    s.codeWrite a 0x6004 (k + 1) code =
      (if s.portCommandOk k code then (s.filled (writingTo a 0x6004 (k + 1) (Blob.scalar 1 code)) 2).portCommand k code
        else s.filled (writingTo a 0x6004 (k + 1) (Blob.scalar 1 code)) 2).answerWindow a.path (reqGen a) y := by
  have hval : (Blob.scalar 1 code).val = code := Nat.mod_eq_of_lt (by omega)
  have hchk : (s.chkLinks 0x6004 (k + 1) (Blob.scalar 1 code)).code = if s.portCommandOk k code then stOk else stConflict := by
    simp only [State.chkLinks, hval, Nat.add_sub_cancel]
    cases s.portCommandOk k code <;> rfl
  have hact : ∀ u : State, u.actWrite .manager ⟨0x6004, k + 1, Blob.scalar 1 code⟩ default = u.portCommand k code := fun u => by
    simp only [State.actWrite, objAt_portCommand hk, portCommandRow, if_true, State.actCommand, hval, Nat.add_sub_cancel]
  obtain ⟨y, hy, htag, hw⟩ := State.commandWrite_links (s := s) (a := a) (i := 0x6004) (sub := k + 1) (b := Blob.scalar 1 code)
    hh hp (by decide) (by decide) (by omega) (by simp [Blob.scalar]) (Nat.mod_lt _ (by decide)) (objAt_portCommand hk) rfl rfl rfl
    (fun _ => rfl) (by simp [ObjDesc.outside, portCommandRow, hval, within]; omega) rfl
  refine ⟨y, hy.trans hchk, htag, ?_⟩
  rw [State.codeWrite, hw, hchk, hact]
  cases s.portCommandOk k code <;> rfl

/-- One that is accepted answers OK in the window, and its action is done to a port that stands as it stood. -/
theorem State.portCommand_acts (hok : s.portCommandOk k code = true)
    (hdict : ∀ u : State, (u.portCommand k code).dict = u.dict) :
    ∃ u : State, u.port k = s.port k ∧ (s.codeWrite a 0x6004 (k + 1) code).answered a 0 = true ∧
      (s.codeWrite a 0x6004 (k + 1) code).port k = (u.portCommand k code).port k := by
  obtain ⟨y, hy, htag, hw⟩ := State.portCommand_heard hh hp hk hcode hcode'
  rw [if_pos hok] at hy hw
  rw [hw, State.port_answerWindow]
  exact ⟨_, State.filled_port .., State.answered_of_windows (congrArg (·.windows) (hdict _)) hy htag, rfl⟩

/-- One that is refused answers STATE_CONFLICT and changes neither the links nor what waits for a boundary. -/
theorem State.portCommand_refused (hok : s.portCommandOk k code = false) :
    (s.codeWrite a 0x6004 (k + 1) code).answered a 6 = true ∧ (s.codeWrite a 0x6004 (k + 1) code).links = s.links ∧
      (s.codeWrite a 0x6004 (k + 1) code).dict.pend = s.dict.pend := by
  obtain ⟨y, hy, htag, hw⟩ := State.portCommand_heard hh hp hk hcode hcode'
  rw [if_neg (by simp [hok])] at hy hw
  rw [hw, (State.answerWindow_pend ..).1]
  exact ⟨State.answered_of_windows rfl hy htag, State.answerWindow_links .., rfl⟩

end

theorem State.portTrain_dict (s : State) (k : Nat) : (s.portTrain k).dict = s.dict :=
  State.dict_of_beside (s.portTrain_beside k)
theorem State.portRekey_dict (s : State) (k : Nat) : (s.portRekey k).dict = s.dict :=
  State.dict_of_beside (s.portRekey_beside k)

theorem State.port_sendKey (s : State) (k step : Nat) : (s.sendKey k step).port k = { s.port k with
    ctl := (s.port k).ctl ++ [.key ⟨step, true, 0, s.deviceId, k, true, 0, true, Config.keyData step s.free⟩] } :=
  State.port_updPort ..

/-- A rekey that begins, or one under way, leaves the port where it is. -/
theorem State.port_portRekey (s : State) (k : Nat) : ((s.portRekey k).port k).rekeying = true ∧
    ((s.portRekey k).port k).state = (s.port k).state := by
  unfold State.portRekey
  split
  · exact ⟨‹_›, rfl⟩
  · rw [State.port_sendKey, State.port_updPort]
    exact ⟨rfl, rfl⟩

/-- RESET trains the port anew (R310, R311). -/
theorem State.portCommand_reset (s : State) (k : Nat) : (s.portCommand k 3).dict = s.dict ∧
    ((s.portCommand k 3).port k).state = if (s.port k).signal then 1 else 0 := by
  have h : s.portCommand k 3 = (s.updPort k fun p => { p with keyFails := 0, recent := [] }).portTrain k := rfl
  rw [h, State.portTrain_dict, State.port_portTrain, State.port_updPort]
  exact ⟨rfl, rfl⟩

/-- A PortCommand is accepted in the states that R311 gives. -/
theorem State.portCommandOk_iff (s : State) (k code : Nat) : s.portCommandOk k code = true ↔
    ((code = 1 ∨ code = 2) ∧ (s.port k).state = 3) ∨ (code = 3 ∧ ((s.port k).state = 5 ∨ (s.port k).state = 4)) := by
  unfold State.portCommandOk
  split <;> simp_all
  grind

/-- Settles O48: the port's state decides whether a command is accepted, and its action is what the port's record says. -/
theorem portCommands : Obligations.PortCommands := by
  unfold Obligations.PortCommands
  intro s a k hh hp hk
  refine ⟨fun hup => ⟨⟨_, rfl, ?_⟩, ⟨_, rfl, ?_⟩⟩, fun hst => ⟨_, rfl, ?_⟩, fun i hi => ?_⟩
  · obtain ⟨u, hu, hans, hport⟩ := State.portCommand_acts hh hp hk (code := 1) (by decide) (by decide)
      ((s.portCommandOk_iff k 1).mpr (.inl ⟨.inl rfl, hup⟩)) fun u => u.portTrain_dict k
    refine ⟨hans, ?_⟩
    rw [hport, ← hu]
    exact congrArg LinkPort.state (u.port_portTrain k)
  · obtain ⟨u, hu, hans, hport⟩ := State.portCommand_acts hh hp hk (code := 2) (by decide) (by decide)
      ((s.portCommandOk_iff k 2).mpr (.inl ⟨.inr rfl, hup⟩)) fun u => u.portRekey_dict k
    obtain ⟨hrekey, hstate⟩ := u.port_portRekey k
    refine ⟨hans, ?_⟩
    rw [hport]
    exact ⟨hrekey, hstate.trans ((congrArg LinkPort.state hu).trans hup)⟩
  · obtain ⟨u, hu, hans, hport⟩ := State.portCommand_acts hh hp hk (code := 3) (by decide) (by decide)
      ((s.portCommandOk_iff k 3).mpr (.inr ⟨rfl, hst⟩)) fun u => (u.portCommand_reset k).1
    refine ⟨hans, ?_⟩
    rw [hport, ← hu]
    exact (u.portCommand_reset k).2
  · have hrefused : ∀ {code}, 1 ≤ code → code ≤ 3 → ¬s.portCommandOk k code = true → _ := fun h1 h3 hno =>
      State.portCommand_refused hh hp hk h1 h3 (Bool.eq_false_iff.mpr hno)
    obtain ⟨hup, rfl | rfl⟩ | ⟨hfail, hretrain, rfl⟩ := hi
    · exact ⟨_, rfl, hrefused (by decide) (by decide) (by simp [State.portCommandOk_iff, hup])⟩
    · exact ⟨_, rfl, hrefused (by decide) (by decide) (by simp [State.portCommandOk_iff, hup])⟩
    · exact ⟨_, rfl, hrefused (by decide) (by decide) (by simp [State.portCommandOk_iff, hfail, hretrain])⟩

end Sys2Proof.Machine

/-! # Events of a link port (R309–R311, R316, R329, R331, R349) -/

namespace Sys2Proof.Machine

/-! ## PortEnable (R349) -/

/-- The table's row of PortEnable. -/
def portEnableRow : ObjDesc :=
  ⟨0x6001, 0x6001, 0x01, 0x0C, "PortEnable[k]", .bool, 3, 1, 3, false, .estate, false, 1, 1, 1, ⟨1, 0⟩, some (0, 1)⟩

theorem objAt_portEnable {k : Nat} (hk : k < 12) : objAt 0x6001 (k + 1) = some portEnableRow := by
  revert k
  decide +kernel

theorem State.num_of_dict {s t : State} (h : t.dict = s.dict) (i sub : Nat) : t.num i sub = s.num i sub := by
  simp only [State.num, State.val, h]

@[simp] theorem State.num_answerWindow (s : State) (p : Path) (g : Nat) (y : Response) (i sub : Nat) :
    (s.answerWindow p g y).num i sub = s.num i sub := by
  unfold State.answerWindow
  dsimp only
  split <;> rfl

/-- PortEnable 0 is in force and the port is DOWN. -/
theorem State.portEnable_off (s : State) (k : Nat) : ((s.portEnable k false).port k).state = 0 ∧
    (s.portEnable k false).num 0x6001 (k + 1) = 0 ∧ (s.portEnable k false).dict.windows = s.dict.windows := by
  generalize hu : s.setVal 0x6001 (k + 1) (Blob.scalar 1 (b2n false)) = u
  have hoff : s.portEnable k false = u.portTo k 0 0 := by subst hu; rfl
  have hdict : (u.portTo k 0 0).dict = u.dict := State.dict_of_beside (u.portTo_beside k 0 0)
  have hnum : u.num 0x6001 (k + 1) = 0 := by
    subst hu
    simp only [State.num, State.val, State.setVal, Sparse.find_insert_self]
    rfl
  rw [hoff, State.port_portTo, hdict]
  exact ⟨rfl, (State.num_of_dict hdict 0x6001 (k + 1)).trans hnum, by subst hu; rfl⟩

section
variable {s : State} {a : Access} {k : Nat} (hh : s.hears a = true) (hp : a.path = .pf s.dict.steward) (hk : k < 12)
include hh hp hk

/-- The manager's write of PortEnable 0 takes the port DOWN and is answered OK. -/
theorem State.portEnable_heard : (s.codeWrite a 0x6001 (k + 1) 0).answered a 0 = true ∧
    ((s.codeWrite a 0x6001 (k + 1) 0).port k).state = 0 ∧ (s.codeWrite a 0x6001 (k + 1) 0).num 0x6001 (k + 1) = 0 := by
  have hact : ∀ u : State, u.actWrite .manager ⟨0x6001, k + 1, Blob.scalar 1 0⟩ default =
      (u.portEnable k false).setDomain (163 + (k + 1)) 0 := fun u => by
    simp only [State.actWrite, objAt_portEnable hk, portEnableRow]
    rfl
  obtain ⟨y, hy, htag, hw⟩ := State.commandWrite_links (s := s) (a := a) (i := 0x6001) (sub := k + 1) (b := Blob.scalar 1 0)
    hh hp (by decide) (by decide) (by omega) (by simp [Blob.scalar]) (by decide) (objAt_portEnable hk) rfl rfl rfl
    (fun _ => rfl) rfl rfl
  have hchk : (s.chkLinks 0x6001 (k + 1) (Blob.scalar 1 0)).code = stOk := rfl
  rw [if_pos hchk, hact] at hw
  obtain ⟨hstate, hnum, hwin⟩ := (s.filled (writingTo a 0x6001 (k + 1) (Blob.scalar 1 0)) 2).portEnable_off k
  rw [State.codeWrite, hw, State.port_answerWindow, State.num_answerWindow]
  exact ⟨State.answered_of_windows hwin hy htag, hstate, hnum⟩

end

/-! ## Signal, training, lanes and keys -/

/-- A port that is enabled and DOWN trains when it has a signal. -/
theorem State.signalDetect_trains {s : State} {k : Nat} (hon : s.num 0x6001 (k + 1) = 1) (hdown : (s.port k).state = 0) :
    ((s.signalDetect k).port k).state = 1 ∧ ((s.signalDetect k).port k).signal = true := by
  have hon' : (s.updPort k fun p => { p with signal := true }).num 0x6001 (k + 1) = 1 := hon
  unfold State.signalDetect
  simp only [hon', State.port_updPort, hdown]
  simp [State.port_portTrain, LinkPort.ended]

theorem State.signalLoss_down {s : State} {k : Nat} (hst : (s.port k).state ≠ 5) :
    (s.signalLoss k).port k = { (s.port k).ended with signal := false, state := 0 } := by
  unfold State.signalLoss
  simp only [State.port_updPort, if_neg hst]
  rw [State.port_portTo, State.port_updPort]
  rfl

theorem State.portKeying_state {s : State} {k : Nat} (hid : s.deviceId ≠ 0) : ((s.portKeying k).port k).state = 2 := by
  unfold State.portKeying
  rw [if_neg hid, State.port_sendKey, State.port_updPort]

section
variable {s : State} {k good : Nat} (hst : (s.port k).state = 1 ∨ (s.port k).state = 4)
include hst

theorem State.trainingDone_keys (hgood : 4 ≤ ((List.range 5).filter good.testBit).length) (hid : s.deviceId ≠ 0) :
    ((s.trainingDone k good).port k).state = 2 := by
  have hst' : ((s.port k).state ≠ 1 && (s.port k).state ≠ 4) = false := by rcases hst with h | h <;> simp [h]
  unfold State.trainingDone
  simp only [hst', Bool.false_eq_true, if_false, Nat.not_lt.mpr hgood]
  exact State.portKeying_state hid

theorem State.trainingDone_fails (hgood : ((List.range 5).filter good.testBit).length < 4) :
    ((s.trainingDone k good).port k).state = 5 ∧ ((s.trainingDone k good).port k).cause = 1 := by
  have hst' : ((s.port k).state ≠ 1 && (s.port k).state ≠ 4) = false := by rcases hst with h | h <;> simp [h]
  unfold State.trainingDone
  simp only [hst', Bool.false_eq_true, if_false, hgood, if_true]
  rw [State.port_portTo]
  exact ⟨rfl, rfl⟩

end

@[simp] theorem State.port_linkCount (s : State) (k i n : Nat) :
    (s.linkCount k i n).port k = { s.port k with counters := bump 64 (s.port k).counters i n } := State.port_updPort ..

@[simp] theorem State.port_portCount (s : State) (k i n j : Nat) : (s.portCount k i n).port j = s.port j := rfl

/-- The first retrain within 60 s takes the port RETRAINING, and is counted. -/
theorem State.port_portRetrain {s : State} {k : Nat} (hrecent : (s.port k).recent = []) (cause : Nat) :
    ((s.portRetrain k cause).port k).state = 4 ∧ ((s.portRetrain k cause).port k).cause = cause ∧
      ((s.portRetrain k cause).port k).retrains = ((s.port k).retrains + 1) % 65536 := by
  unfold State.portRetrain
  simp only [hrecent, List.filter_nil, List.nil_append, List.length_singleton]
  rw [State.port_updPort, if_neg (by decide), State.port_portTo, State.port_portCount, State.port_linkCount]
  exact ⟨rfl, rfl, rfl⟩

/-- An active lane that fails while the port is UP retrains it. -/
theorem State.laneFailure_retrains {s : State} {k lane : Nat} (hup : (s.port k).state = 3) (hlane : lane ≠ (s.port k).spare)
    (hrecent : (s.port k).recent = []) : ((s.laneFailure k lane).port k).state = 4 ∧
      ((s.laneFailure k lane).port k).cause = 1 ∧
      ((s.laneFailure k lane).port k).retrains = ((s.port k).retrains + 1) % 65536 := by
  unfold State.laneFailure
  rw [if_neg (by simp [LinkPort.up, hup, hlane]), State.port_updPort]
  exact State.port_portRetrain hrecent 1

/-- The last step of keying, verified, brings the port UP with full credit (R310, R318, R330). -/
theorem State.keyMessage_up {s : State} {k : Nat} {m : KeyMsg} (hm : (.key m) ∈ (s.port k).inbox) (hst : (s.port k).state = 2)
    (hstep : (s.port k).keyStep = 5) (h5 : m.step = 5) (hlast : m.last = true) (hver : m.verifies = true) :
    ((s.keyMessage k m).port k).state = 3 ∧ ((s.keyMessage k m).port k).credits = [256, 256, 256, 256] ∧
      ((s.keyMessage k m).port k).keyCount = 0 ∧ ((s.keyMessage k m).port k).keyFails = 0 := by
  generalize hu : (s.updPort k fun p => { p with inbox := p.inbox.erase (.key m) }) = u
  have hport : u.port k = { s.port k with inbox := (s.port k).inbox.erase (.key m) } := by rw [← hu, State.port_updPort]
  have hwrong : u.peerWrong k m = false := by simp [State.peerWrong, h5]
  have hkey : s.keyMessage k m = u.keyUp k := by
    unfold State.keyMessage
    rw [State.takeMsg_of_mem hm, hu]
    simp [hport, LinkPort.up, hst, hstep, h5, hlast, hver, hwrong]
  rw [hkey, State.keyUp, State.port_updPort]
  exact ⟨rfl, rfl, rfl, rfl⟩

/-- A key at its limit is replaced while the port stays UP (R331). -/
theorem State.rekeyDue_rekeys {s : State} {k : Nat} (hup : (s.port k).state = 3)
    (hdue : 2 ^ 32 - 2 ^ 16 ≤ (s.port k).keyCount ∨ 600000000000 ≤ s.time.now - (s.port k).keyAge) :
    ((s.rekeyDue k).port k).rekeying = true ∧ ((s.rekeyDue k).port k).state = 3 := by
  obtain ⟨hrekey, hstate⟩ := s.port_portRekey k
  unfold State.rekeyDue
  rw [if_pos (by simpa [LinkPort.up, hup] using hdue)]
  exact ⟨hrekey, hstate.trans hup⟩

end Sys2Proof.Machine

/-! # What the casks' side of a link does to its ports (R340, R341, R344)

What ends an offer or takes a stream's data may end transfers, queue messages and count, and leaves the rest of a port. -/

namespace Sys2Proof.Machine

/-- A port without its transfers, its queue of messages and its counters. -/
def LinkPort.core (p : LinkPort) : LinkPort := { p with ctl := [], xfers := [], counters := [] }

/-- The port `q` is `p` but for transfers that ended, messages queued and counts. -/
structure LinkPort.Continues (p q : LinkPort) : Prop where
  core : q.core = p.core
  xfers : q.xfers ⊆ p.xfers
  ctl : p.ctl ⊆ q.ctl

/-- Every port of `t` continues that of `s`. -/
structure State.PortsContinue (s t : State) : Prop where
  port : ∀ k, (s.port k).Continues (t.port k)

theorem LinkPort.Continues.refl (p : LinkPort) : p.Continues p := ⟨rfl, List.Subset.refl _, List.Subset.refl _⟩

theorem LinkPort.Continues.trans {p q r : LinkPort} (h : p.Continues q) (h' : q.Continues r) : p.Continues r :=
  ⟨h'.core.trans h.core, List.Subset.trans h'.xfers h.xfers, List.Subset.trans h.ctl h'.ctl⟩

namespace State.PortsContinue

theorem refl (s : State) : s.PortsContinue s := ⟨fun _ => .refl _⟩

theorem trans {s t u : State} (h : s.PortsContinue t) (h' : t.PortsContinue u) : s.PortsContinue u :=
  ⟨fun k => (h.port k).trans (h'.port k)⟩

theorem of_ports {s t : State} (h : ∀ k, t.port k = s.port k) : s.PortsContinue t := ⟨fun k => by
  rw [h]
  exact .refl _⟩

theorem of_linkSide {s t : State} (h : t.linkSide = s.linkSide) : s.PortsContinue t := of_ports (State.port_of_linkSide h)

theorem each {α : Type} {f : State → α → State} (hf : ∀ (u : State) x, u.PortsContinue (f u x)) (s : State) (l : List α) :
    s.PortsContinue (s.each l f) :=
  State.each_keeps (fun t => s.PortsContinue t) f l (fun u x h => h.trans (hf u x)) (refl s)

/-- A port's own change that continues it. -/
theorem updPort {f : LinkPort → LinkPort} (hf : ∀ p : LinkPort, p.Continues (f p)) (s : State) (k : Nat) :
    s.PortsContinue (s.updPort k f) := ⟨fun j => by
  by_cases h : k = j
  · subst h
    rw [State.port_updPort]
    exact hf _
  · rw [State.port_updPort_ne _ _ (Ne.symm h)]
    exact .refl _⟩

/-! ## Transfers and messages -/

theorem dropXfer (s : State) (k : Nat) (mine : Bool) (tag : Nat) : s.PortsContinue (s.dropXfer k mine tag) := by
  unfold State.dropXfer
  refine updPort (fun p => ?_) s k
  exact ⟨rfl, List.filter_subset_self _, List.Subset.refl _⟩

theorem linkSend (s : State) (k : Nat) (m : LinkMsg) : s.PortsContinue (s.linkSend k m) := by
  unfold State.linkSend
  refine updPort (fun p => ?_) s k
  exact ⟨rfl, List.Subset.refl _, List.subset_append_left _ _⟩

theorem linkCount (s : State) (k i n : Nat) : s.PortsContinue (s.linkCount k i n) := by
  unfold State.linkCount
  refine updPort (fun p => ?_) s k
  exact ⟨rfl, List.Subset.refl _, List.Subset.refl _⟩

theorem sendDone (s : State) (k : Nat) (m : LinkRequest) (st len : Nat) : s.PortsContinue (s.sendDone k m st len) :=
  linkSend ..

theorem forwardMsg (s : State) (dst hops : Nat) (m : LinkMsg) : s.PortsContinue (s.forwardMsg dst hops m) := by
  unfold State.forwardMsg
  split
  · split
    · exact of_ports fun _ => rfl
    · exact linkSend ..
  · exact of_ports fun _ => rfl

theorem sendCask (s : State) (m : CaskMsg) : s.PortsContinue (s.sendCask m) := forwardMsg ..

theorem dropStream (s : State) (x : Cask) (st : Nat) : s.PortsContinue (s.dropStream x st) := by
  unfold State.dropStream
  split
  · exact refl s
  · extract_lets u
    split
    · exact dropXfer ..
    · exact (dropXfer ..).trans (of_linkSide (State.jobEnd_linkSide ..))

theorem refuseStream (s : State) (k tag : Nat) : s.PortsContinue (s.refuseStream k tag) := by
  unfold State.refuseStream
  split
  · exact (dropXfer ..).trans (sendDone ..)
  · exact refl s

/-! ## An offer that ends (R341, R344) -/

theorem endOffer (s : State) (c id : Nat) (x : Cask) (v : Nat) : s.PortsContinue (s.endOffer c id x v) := by
  unfold State.endOffer
  split
  · exact (dropStream s x 3).trans (of_linkSide (by simp))
  · exact (dropStream s x 3).trans (of_linkSide (by simp))

theorem withdraw (s : State) (c id : Nat) (x : Cask) : s.PortsContinue (s.withdraw c id x) :=
  (of_linkSide (by simp)).trans (endOffer ..)

theorem allBroken (s : State) : s.PortsContinue s.allBroken :=
  each (fun u c => each (fun w e => by
    split
    · exact withdraw ..
    · exact refl w) u _) s _

end State.PortsContinue

/-! ## A stream that comes in (R340) -/

@[simp] theorem State.updServing_linkSide (s : State) (c : Nat) (f : Serving → Serving) :
    (s.updServing c f).linkSide = s.linkSide := rfl

@[simp] theorem State.freeCask_linkSide (s : State) (c id : Nat) : (s.freeCask c id).linkSide = s.linkSide := by
  simp [State.freeCask]

@[simp] theorem State.unfetch_linkSide (s : State) (c id : Nat) : (s.unfetch c id).linkSide = s.linkSide := rfl

@[simp] theorem State.loseCask_linkSide (s : State) (c id : Nat) : (s.loseCask c id).linkSide = s.linkSide :=
  State.each_linkSide _ _ _ fun _ _ => State.completeJob_linkSide ..

theorem State.giveStaves_linkSide {s t : State} {c id len : Nat} (h : s.giveStaves c id len = some t) : t.linkSide = s.linkSide := by
  unfold State.giveStaves at h
  split at h
  · exact absurd h (by simp)
  · simp only [] at h
    split at h
    · rw [Option.some_inj.mp h]
    · obtain ⟨got, -, rfl⟩ := Option.map_eq_some_iff.mp h
      exact State.setCask_linkSide ..

theorem State.takeStaves_linkSide (c id : Nat) (m : Model) (data : List Byte) (n : Nat) :
    ∀ (s : State) (k : Nat), (s.takeStaves c id m data n k).2.linkSide = s.linkSide := by
  induction n with
  | zero => exact fun _ _ => rfl
  | succ n ih =>
    intro s k
    unfold State.takeStaves
    extract_lets size at_
    split
    · rfl
    · split
      · rfl
      · next u hu =>
        have hgive := State.giveStaves_linkSide hu
        split
        · exact hgive
        · dsimp only
          split
          · exact hgive
          · rw [ih, State.updServing_linkSide, State.coreWrite_linkSide, hgive]

namespace State.PortsContinue

theorem dropIncoming (s : State) (c id : Nat) (x : Cask) : s.PortsContinue (s.dropIncoming c id x) :=
  (dropXfer s x.port false x.xtag).trans (of_linkSide (by simp [State.dropIncoming]))

theorem declineIncoming (s : State) (c id : Nat) (x : Cask) (code : Nat) : s.PortsContinue (s.declineIncoming c id x code) :=
  (((refuseStream ..).trans (dropIncoming ..)).trans (of_linkSide (State.loseCask_linkSide ..))).trans (sendCask ..)

theorem acceptIncoming (s : State) (c id : Nat) : s.PortsContinue (s.acceptIncoming c id) := by
  unfold State.acceptIncoming
  split
  · exact refl s
  · extract_lets u
    have hu : s.PortsContinue u := by
      unfold u
      split
      · exact ((dropXfer ..).trans (sendDone ..)).trans (of_linkSide (State.linkTraffic_linkSide ..))
      · exact refl s
    exact (hu.trans (of_linkSide (State.setCask_linkSide ..))).trans (sendCask ..)

theorem caskData (s : State) (c id : Nat) : s.PortsContinue (s.caskData c id) := by
  unfold State.caskData
  split
  · exact refl s
  · split
    · exact refl s
    · split
      · next y m _ _ =>
        extract_lets total r
        have hr : s.PortsContinue r.2 := of_linkSide (State.takeStaves_linkSide ..)
        split
        · exact hr.trans (declineIncoming ..)
        · split
          · exact hr
          · split
            · exact hr.trans (declineIncoming ..)
            · exact hr.trans (acceptIncoming ..)
      · exact refl s

theorem caskStreams (s : State) (k : Nat) : s.PortsContinue (s.caskStreams k) := by
  unfold State.caskStreams
  refine each (fun u c => ?_) s _
  exact each (fun w (e : Nat × Cask) => caskData w c e.1) u _

end State.PortsContinue

end Sys2Proof.Machine

/-! # Flits of a link port (R312–R318, R332, R340) -/

namespace Sys2Proof.Machine

/-! ## What a flit received leaves of the port's sequence -/

/-- Where a port's reception stands: the next sequence number and whether it asks for a replay. -/
def State.reception (s : State) (k : Nat) : Nat × Bool := ((s.port k).nextRx, (s.port k).nak)

@[simp] theorem State.reception_updPort (s : State) (j k : Nat) {f : LinkPort → LinkPort}
    (hf : ∀ p, (f p).nextRx = p.nextRx ∧ (f p).nak = p.nak) : (s.updPort j f).reception k = s.reception k := by
  by_cases h : j = k
  · subst h
    obtain ⟨hrx, hnak⟩ := hf (s.port j)
    simp only [State.reception, State.port_updPort, hrx, hnak]
  · simp only [State.reception, State.port_updPort_ne _ _ (Ne.symm h)]

theorem State.reception_acceptMsgs (s : State) (k : Nat) (l : List LinkMsg) : (s.acceptMsgs k l).reception k = s.reception k := by
  unfold State.acceptMsgs
  refine State.each_frame (·.reception k) _ l s fun u m => ?_
  have hopen : (u.openIncoming k m).reception k = u.reception k := by
    unfold State.openIncoming
    split <;> simp
  dsimp only
  split <;> simp [hopen]

theorem State.reception_acceptData (s : State) (k : Nat) (f : Flit) : (s.acceptData k f).reception k = s.reception k := by
  unfold State.acceptData
  extract_lets mine tag
  split
  · rfl
  · extract_lets back
    have hback : ∀ p, (back p).nextRx = p.nextRx ∧ (back p).nak = p.nak := fun _ => ⟨rfl, rfl⟩
    split
    · simp [State.updXfer, hback]
    · split
      · refine s.reception_updPort k k fun p => ?_
        split <;> exact ⟨rfl, rfl⟩
      · simp [State.landData]

@[simp] theorem State.port_logCorrected (s : State) (key unit source n k : Nat) :
    (s.logCorrected key unit source n).port k = s.port k := by
  unfold State.logCorrected
  split <;> rfl

theorem State.port_linkFec (s : State) (k good bad : Nat) : (s.linkFec k good bad).port k =
    { s.port k with counters := bump 64 (bump 64 (s.port k).counters 0 good) 1 bad } := by
  unfold State.linkFec
  dsimp only
  split <;> simp

section
variable {s : State} {k : Nat} {f : Flit} (hup : (s.port k).state = 3) (hnak : f.nak = false) (hkind : f.kind = 0 ∨ f.kind = 1)
  (hacc : (s.port k).accepts f = true)
include hup hnak hkind hacc

/-- A flit that is whole and in order moves the sequence on by one. -/
theorem State.flitReceive_inOrder (hseq : f.seq = (s.port k).nextRx) :
    (s.flitReceive k f).reception k = (((s.port k).nextRx + 1) % 1024, false) := by
  unfold State.flitReceive
  extract_lets p u left v w x y z good v' w'
  have hw : w = v := if_neg (by simp [hnak])
  have hv : (v.port k).state = 3 := by
    simp only [v, u, State.port_updPort, State.port_linkFec, State.port_portCount, hup]
  have hy : y.reception k = (((s.port k).nextRx + 1) % 1024, false) := by
    simp only [y, hw, v, u, State.reception, State.port_updPort, State.port_linkFec, State.port_portCount]
  have h2 : f.kind ≠ 2 := by rcases hkind with h | h <;> simp [h]
  have h3 : f.kind ≠ 3 := by rcases hkind with h | h <;> simp [h]
  rw [if_neg (by simp [p, hup]), if_neg (by simp [hw, hv, h2]), if_neg (by simp [p, h3, hacc, hseq])]
  split
  · split
    · rw [State.reception_acceptData, hy]
    · exact hy
  · have hz : z.reception k = y.reception k := by simp [z]
    have hv' : v'.reception k = z.reception k := by simp [v', State.linkCount]
    have hw' : w'.reception k = v'.reception k := by
      unfold w'
      split <;> simp
    rw [State.reception_acceptMsgs, hw', hv', hz, hy]

/-- A flit out of order is not accepted and asks for a replay. -/
theorem State.flitReceive_outOfOrder (hseq : f.seq ≠ (s.port k).nextRx) :
    (s.flitReceive k f).reception k = ((s.port k).nextRx, true) ∧ ((s.flitReceive k f).port k).inbox = (s.port k).inbox := by
  unfold State.flitReceive
  extract_lets p u left v w x y z good v' w'
  have hw : w = v := if_neg (by simp [hnak])
  have hv : (v.port k).state = 3 ∧ (v.port k).nextRx = (s.port k).nextRx ∧ (v.port k).nak = (s.port k).nak ∧
      (v.port k).inbox = (s.port k).inbox := by
    simp only [v, u, State.port_updPort, State.port_linkFec, State.port_portCount, hup, and_self]
  obtain ⟨hstate, hrx, hnak', hin⟩ := hv
  have hx : x = v := (if_neg (by simp [p, hacc])).trans hw
  have h2 : f.kind ≠ 2 := by rcases hkind with h | h <;> simp [h]
  rw [if_neg (by simp [p, hup]), if_neg (by simp [hw, hstate, h2]), if_pos (by simp [p, hseq]), hx]
  split
  · next hp => exact ⟨Prod.ext hrx (hnak'.trans hp), hin⟩
  · simp [State.reception, hrx, hin]

end

/-! ## A frame that goes out (R313, R314, R318)

The control flit of slot 0 enters the replay buffer first, and the data slots only add to its end. -/

/-- The flit of a port that a replay would send first. -/
def State.firstReplay (s : State) (k : Nat) : Option Flit := (s.port k).replay.head?

@[simp] theorem State.firstReplay_updPort (s : State) (k : Nat) {f : LinkPort → LinkPort} (hf : ∀ p, (f p).replay = p.replay) :
    (s.updPort k f).firstReplay k = s.firstReplay k := by
  simp only [State.firstReplay, State.port_updPort, hf]

@[simp] theorem State.firstReplay_linkCount (s : State) (k i n : Nat) : (s.linkCount k i n).firstReplay k = s.firstReplay k := by
  simp [State.linkCount]

@[simp] theorem State.firstReplay_portCount (s : State) (k i n : Nat) : (s.portCount k i n).firstReplay k = s.firstReplay k := rfl

@[simp] theorem State.firstReplay_updXfer (s : State) (k : Nat) (mine : Bool) (tag : Nat) (f : LinkXfer → LinkXfer) :
    (s.updXfer k mine tag f).firstReplay k = s.firstReplay k := by simp [State.updXfer]

@[simp] theorem State.firstReplay_emitFlit (s : State) (k : Nat) (f : Flit) : (s.emitFlit k f).firstReplay k = s.firstReplay k := by
  simp [State.emitFlit]

@[simp] theorem State.firstReplay_idleSlot (s : State) (k i : Nat) : (s.idleSlot k i).firstReplay k = s.firstReplay k := by
  simp [State.idleSlot]

theorem State.port_putFlit (s : State) (k : Nat) (f : Flit) :
    ((s.putFlit k f).port k).replay = (s.port k).replay ++ [((s.emitFlit k f).port k).seal k f] := by
  simp [State.putFlit, State.emitFlit]

section
variable {s : State} {k : Nat} {g : Flit} (h : s.firstReplay k = some g)
include h

theorem State.firstReplay_putFlit (f : Flit) : (s.putFlit k f).firstReplay k = some g := by
  rw [State.firstReplay, State.port_putFlit, List.head?_append, ← State.firstReplay, h]
  rfl

theorem State.firstReplay_controlSlot (i : Nat) (l : List LinkMsg) : (s.controlSlot k i l).firstReplay k = some g := by
  simp [State.controlSlot, State.firstReplay_putFlit h]

theorem State.firstReplay_sendData (i : Nat) (x : LinkXfer) : (s.sendData k i x).firstReplay k = some g := by
  unfold State.sendData
  extract_lets bs u v w y
  have hy : y.firstReplay k = some g := by simp [y, w, v, State.firstReplay_putFlit h]
  split
  · split
    · simp [State.sendDone, State.linkSend, State.dropXfer, hy]
    · exact hy
  · exact hy

theorem State.firstReplay_dataSlot (i : Nat) : (s.dataSlot k i).firstReplay k = some g := by
  unfold State.dataSlot
  extract_lets p x u
  have hu : u.firstReplay k = some g := by
    unfold u
    generalize x = y
    split
    · exact State.firstReplay_sendData h ..
    · split
      · exact (State.firstReplay_idleSlot ..).trans h
      · exact State.firstReplay_controlSlot h ..
  simpa using hu

end

/-- The frame's control flit joins an empty replay buffer first and returns the credits owed. -/
theorem State.controlFlitSend_replay {s : State} {k : Nat} (hup : (s.port k).state = 3) (hempty : (s.port k).replay = []) :
    ∃ f, (s.controlFlitSend k).firstReplay k = some f ∧ f.kind = 0 ∧ f.seq = (s.port k).nextTx ∧ f.slot = 0 ∧
      f.frame = (s.port k).frame ∧ f.ack = (s.port k).nextRx ∧ f.credits = (s.port k).owed := by
  generalize hf : { (s.port k).header 0 0 with msgs := fitMsgs 14 (s.port k).ready, credits := (s.port k).owed } = f
  refine ⟨((s.emitFlit k f).port k).seal k f, ?_, by rw [← hf]; exact ⟨rfl, rfl, rfl, rfl, rfl, rfl⟩⟩
  have hslot : (s.controlSlot k 0 (s.port k).ready).firstReplay k = some (((s.emitFlit k f).port k).seal k f) := by
    unfold State.controlSlot
    dsimp only
    refine (State.firstReplay_updPort _ _ fun _ => ?_).trans ?_
    · rfl
    · rw [hf, State.firstReplay, State.port_putFlit, hempty]
      rfl
  unfold State.controlFlitSend
  dsimp only
  rw [if_neg (by simp [hup]), if_neg (by simp [hempty])]
  refine (State.firstReplay_updPort _ _ fun _ => ?_).trans ?_
  · rfl
  exact State.each_keeps (fun t => t.firstReplay k = some _) _ _ (fun u i hu => State.firstReplay_dataSlot hu i) hslot

/-- A TIME message carries E (R332). -/
theorem State.port_timeSend {s : State} {k : Nat} (hup : (s.port k).state = 3) (hcycle : 0 < s.cycle) :
    ∃ m : TimeMsg, ((s.timeSend k).port k).ctl = (s.port k).ctl ++ [.time m] ∧ m.e = s.time.e % 2 ^ 40 ∧
      ((s.timeSend k).port k).sentAt = s.time.now := by
  unfold State.timeSend
  dsimp only
  rw [if_neg (by simp [LinkPort.up, hup, hcycle]), State.port_updPort, State.linkSend, State.port_updPort]
  exact ⟨_, rfl, rfl, rfl⟩

/-! ## The obligation -/

/-- A field of a port that neither its transfers, its messages nor its counters are. -/
theorem LinkPort.Continues.field {α : Type} {p q : LinkPort} (h : p.Continues q) (g : LinkPort → α)
    (hg : ∀ p, g p.core = g p) : g q = g p := by
  rw [← hg q, h.core, hg]

/-- A lost signal takes a port DOWN and ends its transfers, offers on it included. -/
theorem State.signalLoss_allBroken {s : State} {k : Nat} (hst : (s.port k).state ≠ 5) :
    ((s.signalLoss k).allBroken.port k).state = 0 ∧ ((s.signalLoss k).allBroken.port k).signal = false ∧
      ((s.signalLoss k).allBroken.port k).xfers = [] := by
  have h := (State.PortsContinue.allBroken (s.signalLoss k)).port k
  have hdown := State.signalLoss_down hst
  refine ⟨(h.field LinkPort.state fun _ => rfl).trans ?_, (h.field LinkPort.signal fun _ => rfl).trans ?_,
    List.subset_nil.mp (List.Subset.trans h.xfers ?_)⟩
  · rw [hdown]
  · rw [hdown]
  · rw [hdown]
    exact List.Subset.refl _

/-- A flit's cask streams and the offers that it breaks leave the port's reception alone. -/
theorem State.port_afterFlit (s : State) (k : Nat) : (s.caskStreams k).allBroken.reception k = s.reception k ∧
    ((s.caskStreams k).allBroken.port k).inbox = (s.port k).inbox := by
  have h := (((State.PortsContinue.caskStreams s k).trans (State.PortsContinue.allBroken _)).port k)
  exact ⟨h.field (fun p => (p.nextRx, p.nak)) fun _ => rfl, h.field LinkPort.inbox fun _ => rfl⟩

/-- Settles O44: each event of the port by its own lemma, and the casks' side, which follows some of them, continues the port. -/
theorem portEventsAndFlits : Obligations.PortEventsAndFlits := by
  unfold Obligations.PortEventsAndFlits
  refine ⟨fun s k => ⟨fun a hh hp hk => ⟨_, rfl, State.portEnable_heard hh hp hk⟩,
    fun hon hdown => ⟨_, rfl, State.signalDetect_trains hon hdown⟩, fun hst => ⟨_, rfl, State.signalLoss_allBroken hst⟩,
    fun good hst => ⟨fun hgood hid => ⟨_, rfl, State.trainingDone_keys hst hgood hid⟩,
      fun hgood => ⟨_, rfl, State.trainingDone_fails hst hgood⟩⟩, fun lane hup hlane hrecent => ⟨_, rfl, ?_⟩,
    fun m hm hst hstep h5 hlast hver => ⟨_, rfl, State.keyMessage_up hm hst hstep h5 hlast hver⟩,
    fun hup _ hdue => ⟨_, rfl, State.rekeyDue_rekeys hup hdue⟩⟩,
    fun s k hup => ⟨fun f hnak hkind hacc => ⟨fun hseq => ⟨_, rfl, ?_⟩, fun hseq => ⟨_, rfl, ?_⟩⟩, fun hempty => ?_, fun hcycle => ?_⟩⟩
  · have h := (State.PortsContinue.allBroken (s.laneFailure k lane)).port k
    obtain ⟨hstate, hcause, hretrains⟩ := State.laneFailure_retrains hup hlane hrecent
    exact ⟨(h.field LinkPort.state fun _ => rfl).trans hstate, (h.field LinkPort.cause fun _ => rfl).trans hcause,
      (h.field LinkPort.retrains fun _ => rfl).trans hretrains⟩
  · have h := (State.port_afterFlit (s.flitReceive k f) k).1.trans (State.flitReceive_inOrder hup hnak hkind hacc hseq)
    exact ⟨congrArg Prod.fst h, congrArg Prod.snd h⟩
  · obtain ⟨hrx, hin⟩ := State.port_afterFlit (s.flitReceive k f) k
    obtain ⟨hrx', hin'⟩ := State.flitReceive_outOfOrder hup hnak hkind hacc hseq
    have h := hrx.trans hrx'
    exact ⟨congrArg Prod.fst h, congrArg Prod.snd h, hin.trans hin'⟩
  · obtain ⟨f, hfirst, hf⟩ := State.controlFlitSend_replay hup hempty
    obtain ⟨l, hl⟩ := List.head?_eq_some_iff.mp hfirst
    exact ⟨_, f, l, rfl, hl, hf⟩
  · obtain ⟨m, hm⟩ := State.port_timeSend hup hcycle
    exact ⟨_, m, rfl, hm⟩

end Sys2Proof.Machine

/-! # Casks, their requests and the rings, as a hand-over leaves them (R337–R346) -/

namespace Sys2Proof.Machine

/-! ## What messages and streams leave of a cuvee's serving records -/

section
variable (s : State) (c d : Nat)

@[simp] theorem State.updPort_desk (k : Nat) (f : LinkPort → LinkPort) : (s.updPort k f).desk d = s.desk d := rfl
@[simp] theorem State.dropXfer_desk (k : Nat) (mine : Bool) (tag : Nat) : (s.dropXfer k mine tag).desk d = s.desk d := rfl
@[simp] theorem State.linkSend_desk (k : Nat) (m : LinkMsg) : (s.linkSend k m).desk d = s.desk d := rfl
@[simp] theorem State.limboRecord_desk (id : Nat) (x : Cask) : (s.limboRecord c id x).desk d = s.desk d := rfl
@[simp] theorem State.caskCount_desk (i : Nat) : (s.caskCount c i).desk d = s.desk d :=
  s.updCuvee_desk c d fun _ => ⟨rfl, rfl⟩

@[simp] theorem State.forwardMsg_desk (dst hops : Nat) (m : LinkMsg) : (s.forwardMsg dst hops m).desk d = s.desk d := by
  unfold State.forwardMsg
  split
  · split <;> rfl
  · rfl
@[simp] theorem State.sendCask_desk (m : CaskMsg) : (s.sendCask m).desk d = s.desk d := s.forwardMsg_desk ..

@[simp] theorem State.linkTraffic_desk (n : Nat) : (s.linkTraffic c n).desk d = s.desk d := by
  unfold State.linkTraffic
  split
  · rfl
  · rw [State.updCuvee_desk _ c d fun _ => by exact ⟨rfl, rfl⟩, State.tally_desk]

@[simp] theorem State.dropStream_desk (x : Cask) (st : Nat) : (s.dropStream x st).desk d = s.desk d := by
  unfold State.dropStream
  split
  · rfl
  · dsimp only
    split
    · rfl
    · simp

@[simp] theorem State.staveBytes_desk (m : Model) (n label : Nat) : (s.staveBytes c m n label).2.desk d = s.desk d := by
  unfold State.staveBytes
  dsimp only
  split <;> simp

theorem State.streamStaves_desk (m : Model) (v label : Nat) (ns : List Nat) :
    ∀ (s : State) (k : Nat), (s.streamStaves c m v label ns k).2.2.desk d = s.desk d := by
  induction ns with
  | nil => exact fun _ _ => rfl
  | cons n ns ih => exact fun s k => (ih _ _).trans (s.staveBytes_desk ..)

@[simp] theorem State.caskStream_desk (rm label : Nat) (m : Model) (x : Cask) : (s.caskStream c rm label m x).2.desk d = s.desk d :=
  State.streamStaves_desk ..

end

theorem State.cask_of_desk {s t : State} {d : Nat} (h : t.desk d = s.desk d) (id : Nat) : t.cask d id = s.cask d id := by
  simp only [State.cask, State.serving_of_desk h]

section
variable (s : State) (c d id : Nat)

@[simp] theorem State.cask_updPort (k : Nat) (f : LinkPort → LinkPort) : (s.updPort k f).cask d id = s.cask d id := rfl
@[simp] theorem State.cask_linkSend (k : Nat) (m : LinkMsg) : (s.linkSend k m).cask d id = s.cask d id := rfl
@[simp] theorem State.cask_sendCask (m : CaskMsg) : (s.sendCask m).cask d id = s.cask d id :=
  State.cask_of_desk (s.sendCask_desk d m) id
@[simp] theorem State.cask_linkTraffic (n : Nat) : (s.linkTraffic c n).cask d id = s.cask d id :=
  State.cask_of_desk (s.linkTraffic_desk c d n) id
@[simp] theorem State.cask_jobBegin (engine code tag arg0 arg2 : Nat) :
    (s.jobBegin c engine code tag arg0 arg2).cask d id = s.cask d id := State.cask_of_desk (s.jobBegin_desk ..) id
@[simp] theorem State.cask_limboRecord (i : Nat) (x : Cask) : (s.limboRecord c i x).cask d id = s.cask d id := rfl
@[simp] theorem State.cask_caskCount (i : Nat) : (s.caskCount c i).cask d id = s.cask d id :=
  State.cask_of_desk (s.caskCount_desk c d i) id
@[simp] theorem State.cask_dropStream (x : Cask) (st : Nat) : (s.dropStream x st).cask d id = s.cask d id :=
  State.cask_of_desk (s.dropStream_desk d x st) id

end

/-! ## What a write of the tables leaves (R335, R337) -/

section
variable (s : State) (c : Nat)

@[simp] theorem State.cask_updServing_insert (id : Nat) (x : Cask) :
    (s.updServing c fun v => { v with casks := v.casks.insert id x }).cask c id = some x := by
  simp [State.cask]

theorem State.setCask_desk_updServing (id : Nat) (x : Cask) (d : Nat) :
    (s.setCask c id x).desk d = (s.updServing c fun v => { v with casks := v.casks.insert id x }).desk d := by
  simp [State.setCask]

@[simp] theorem State.cask_setCask (id : Nat) (x : Cask) : (s.setCask c id x).cask c id = some x :=
  (State.cask_of_desk (s.setCask_desk_updServing c id x c) id).trans (s.cask_updServing_insert ..)

@[simp] theorem State.ring_setCask (id : Nat) (x : Cask) (d k : Nat) : (s.setCask c id x).ring d k = s.ring d k :=
  (State.ring_of_desk (s.setCask_desk_updServing c id x d) k).trans (State.ring_updServing ..)

theorem State.fetches_setCask (id : Nat) (x : Cask) :
    ((s.setCask c id x).cuvee c).serving.fetches = (s.cuvee c).serving.fetches := by
  rw [State.serving_of_desk (s.setCask_desk_updServing c id x c), State.serving_updServing]

theorem State.freeCask_desk_updServing (id d : Nat) :
    (s.freeCask c id).desk d = (s.updServing c fun v => { v with casks := Sparse.erase v.casks id }).desk d := by
  simp [State.freeCask]

@[simp] theorem State.cask_freeCask (id : Nat) : (s.freeCask c id).cask c id = none := by
  rw [State.cask_of_desk (s.freeCask_desk_updServing c id c)]
  simp [State.cask]

@[simp] theorem State.ring_freeCask (id d k : Nat) : (s.freeCask c id).ring d k = s.ring d k :=
  (State.ring_of_desk (s.freeCask_desk_updServing c id d) k).trans (State.ring_updServing ..)

/-! ### The hand-over log (R337) -/

theorem State.setLog_desk_updServing (i : Nat) (h : HandLog) (d : Nat) :
    (s.setLog c i h).desk d = (s.updServing c fun v => { v with handLog := v.handLog.insert i h }).desk d := by
  simp [State.setLog]

@[simp] theorem State.cask_setLog (i : Nat) (h : HandLog) (id : Nat) : (s.setLog c i h).cask c id = s.cask c id := by
  rw [State.cask_of_desk (s.setLog_desk_updServing c i h c)]
  simp [State.cask]

@[simp] theorem State.cask_clearLog (i id : Nat) : (s.clearLog c i).cask c id = s.cask c id := by
  have h : (s.clearLog c i).desk c = (s.updServing c fun v => { v with handLog := Sparse.erase v.handLog i }).desk c := by
    simp [State.clearLog]
  rw [State.cask_of_desk h]
  simp [State.cask]

@[simp] theorem State.cask_logOutcome (uid v o r dev id : Nat) : (s.logOutcome c uid v o r dev).cask c id = s.cask c id := by
  unfold State.logOutcome
  split
  · rfl
  · exact s.cask_setLog ..

/-! ### Requests that end (R283, R338) -/

@[simp] theorem State.cask_completeJob (j : Job) (result units cask id : Nat) :
    (s.completeJob c j result units cask).cask c id = s.cask c id := by
  simp [State.cask]

/-- A request that finishes leaves every pair's state as it is. -/
theorem State.ring_state_completeJob_any (j : Job) (result units cask k : Nat) :
    ((s.completeJob c j result units cask).ring c k).state = (s.ring c k).state := by
  by_cases h : k = j.pair
  · rw [h, State.ring_state_completeJob]
  · obtain ⟨u, b, hu, -, -, he⟩ := s.complete_eq c j result 0 0 units cask
    rw [State.completeJob, he, ← State.ring_of_desk (hu c)]
    simp [State.ring, State.updRing, Sparse.getD_set_ne _ _ _ _ h]

theorem State.ring_state_loseCask (id k : Nat) : ((s.loseCask c id).ring c k).state = (s.ring c k).state := by
  refine (State.each_frame (fun t => (t.ring c k).state) _ _ _ fun t j => ?_).trans ?_
  · exact State.ring_state_completeJob_any ..
  · simp

theorem State.casks_loseCask (id : Nat) : ((s.loseCask c id).cuvee c).serving.casks = (s.cuvee c).serving.casks := by
  refine (State.each_frame (fun t => (t.cuvee c).serving.casks) _ _ _ fun t j => ?_).trans ?_
  · simp
  · simp

@[simp] theorem State.cask_loseCask (id : Nat) : (s.loseCask c id).cask c id = s.cask c id := by
  simp only [State.cask, State.casks_loseCask]

@[simp] theorem State.cask_endFetch (f : Fetching) (result cask id : Nat) :
    (s.endFetch c f result cask).cask c id = s.cask c id := by
  simp [State.endFetch, State.cask]

@[simp] theorem State.cask_unfetch (i id : Nat) : (s.unfetch c i).cask c id = s.cask c id := by
  simp [State.unfetch, State.cask]

end

end Sys2Proof.Machine

/-! # FlareCommand and LimboCommand (R346, R347) -/

namespace Sys2Proof.Machine

/-! ## A FLARE on every UP port (R347) -/

/-- Port k has a FLARE of the device d about group g to send. -/
def State.flares (s : State) (k g d : Nat) : Prop := ∃ m ∈ (s.port k).ctl, ∃ h, m = .flare h ∧ h.group = g ∧ h.origin = d

theorem State.flares_of_continues {s t : State} {k g d : Nat} (hs : s.flares k g d) (h : s.PortsContinue t) : t.flares k g d := by
  obtain ⟨m, hm, hflare⟩ := hs
  exact ⟨m, (h.port k).ctl hm, hflare⟩

theorem State.flares_raiseFlare {s : State} {k : Nat} (hk : k ∈ s.upPorts) (g : Nat) : (s.raiseFlare g).flares k g s.deviceId := by
  unfold State.raiseFlare
  extract_lets id l u
  have hdict : ∀ t : State, t.dict = s.dict → t.deviceId = s.deviceId := fun t h => State.num_of_dict h ..
  refine State.each_reaches (P := fun t => t.dict = s.dict → t.flares k g s.deviceId) hk (fun t ht => ?_) (fun t j h ht => ?_) u
    (State.each_frame State.dict _ _ _ fun _ _ => rfl)
  · refine ⟨.flare ⟨t.num 0x6012 2, t.deviceId, g, id⟩, ?_, _, rfl, rfl, hdict t ht⟩
    rw [State.linkSend, State.port_updPort]
    exact List.mem_append_right _ List.mem_cons_self
  · exact State.flares_of_continues (h ht) (State.PortsContinue.linkSend ..)

theorem State.sendSquash_continues (s : State) (c reason : Nat) : s.PortsContinue (s.sendSquash c reason) :=
  State.PortsContinue.each (fun _ _ => State.PortsContinue.linkSend ..) ..

theorem State.flares_flareAct {s : State} {k : Nat} (hk : k ∈ s.upPorts) (g : Nat) : (s.flareAct g).flares k g s.deviceId := by
  have h := State.flares_raiseFlare hk g
  unfold State.flareAct
  dsimp only
  split
  · exact State.flares_of_continues h (State.sendSquash_continues ..)
  · exact h

theorem State.flareAct_dict (s : State) (g : Nat) : (s.flareAct g).dict = s.dict := by
  have hraise : (s.raiseFlare g).dict = s.dict := State.each_frame State.dict _ _ _ fun _ _ => rfl
  unfold State.flareAct
  dsimp only
  split
  · refine (State.each_frame State.dict _ _ _ fun _ _ => ?_).trans hraise
    rfl
  · exact hraise

/-- A group of a cuvee of this estate has a number from 1 to 4,095. -/
theorem State.groupCuvee_range {s : State} {g c : Nat} (h : s.groupCuvee g = some c) : 1 ≤ g ∧ g ≤ 4095 := by
  unfold State.groupCuvee at h
  split at h
  · exact absurd h (by simp)
  · have hg : s.group c = g := by simpa using List.find?_some h
    have hlt : s.group c < 4096 := Nat.mod_lt _ (by decide)
    omega

/-- The table's row of FlareCommand. -/
def flareCommandRow : ObjDesc :=
  ⟨0x6012, 0x6012, 0x01, 0x01, "FlareCommand", .u16, 2, 0, 2, false, .estate, true, 2, 2, 1, ⟨2, 0⟩, some (1, 4095)⟩

/-- A LimboCommand leaves the links and the windows alone. -/
theorem limboCommand_linkSide (u : State) (op c id : Nat) :
    (if op = 1 then u.limboAssign c id else u.limboDiscard c id).linkSide = u.linkSide := by
  split
  · unfold State.limboAssign
    split
    · exact State.setCask_linkSide ..
    · rfl
  · exact (State.loseCask_linkSide ..).trans (State.freeCask_linkSide ..)

/-- The table's row of LimboCommand. -/
def limboCommandRow : ObjDesc :=
  ⟨0x6021, 0x6021, 0x01, 0x01, "LimboCommand", .blob, 2, 0, 2, false, .estate, true, 8, 8, 1, ⟨8, 0⟩, none⟩

section
variable {s : State} {a : Access} (hh : s.hears a = true) (hp : a.path = .pf s.dict.steward)
include hh hp

/-- FlareCommand about a group of this estate answers OK and puts a FLARE on every UP port. -/
theorem State.flareCommand_flares {g c : Nat} (hg : g < 2 ^ 16) (hc : s.groupCuvee g = some c) :
    (s.commandWrite a 0x6012 1 (Blob.scalar 2 g) default).answered a 0 = true ∧
      ∀ k ∈ s.upPorts, (s.commandWrite a 0x6012 1 (Blob.scalar 2 g) default).flares k g s.deviceId := by
  obtain ⟨hlo, hhi⟩ := State.groupCuvee_range hc
  have hval : (Blob.scalar 2 g).val = g := Nat.mod_eq_of_lt hg
  have hd : objAt 0x6012 1 = some flareCommandRow := by decide +kernel
  have hchk : (s.chkLinks 0x6012 1 (Blob.scalar 2 g)).code = stOk := by
    simp only [State.chkLinks, hval, hc]
    rfl
  have hact : ∀ u : State, u.actWrite .manager ⟨0x6012, 1, Blob.scalar 2 g⟩ default = u.flareAct g := fun u => by
    simp only [State.actWrite, hd, flareCommandRow, if_true, State.actCommand, hval]
  obtain ⟨y, hy, htag, hw⟩ := State.commandWrite_links (s := s) (a := a) (i := 0x6012) (sub := 1) (b := Blob.scalar 2 g)
    hh hp (by decide) (by decide) (by decide) (by simp [Blob.scalar]) (Nat.mod_lt _ (by decide)) hd rfl rfl rfl
    (fun _ => rfl) (by simp [ObjDesc.outside, flareCommandRow, hval, within]; omega) rfl
  rw [if_pos hchk, hact] at hw
  rw [hw]
  refine ⟨State.answered_of_windows (congrArg (·.windows) (State.flareAct_dict ..)) (hy.trans hchk) htag, fun k hk => ?_⟩
  have hflares : ((s.filled (writingTo a 0x6012 1 (Blob.scalar 2 g)) 2).flareAct g).flares k g s.deviceId :=
    State.flares_flareAct (s := s.filled (writingTo a 0x6012 1 (Blob.scalar 2 g)) 2) hk g
  exact State.flares_of_continues hflares (State.PortsContinue.of_ports fun j => State.port_answerWindow ..)

section
variable {c id : Nat} {x : Cask} (hc1 : 1 ≤ c) (hc2 : c ≤ 254) (hid : id < 2 ^ 32) (hx : s.cask c id = some x) (h5 : x.state = 5)
include hc1 hc2 hid hx h5

/-- LimboCommand about a cask in LIMBO acts and answers OK. -/
theorem limboCommand_acts {op : Nat} (ho1 : 1 ≤ op) (ho2 : op ≤ 2) : ∃ (u : State) (y : Response), u.cuvee c = s.cuvee c ∧
    s.commandWrite a 0x6021 1 (limboRecord c op id) default =
      (if op = 1 then u.limboAssign c id else u.limboDiscard c id).answerWindow a.path (reqGen a) y ∧
    (s.commandWrite a 0x6021 1 (limboRecord c op id) default).answered a 0 = true := by
  have hget0 : (limboRecord c op id).get 0 1 = c := (Blob.record_get_head ..).trans (Nat.mod_eq_of_lt (by omega))
  have hget1 : (limboRecord c op id).get 1 1 = op :=
    (Blob.record_get_tail 1 c 0 1 _).trans ((Blob.record_get_head ..).trans (Nat.mod_eq_of_lt (by omega)))
  have hget2 : (limboRecord c op id).get 2 2 = 0 :=
    (Blob.record_get_tail 1 c 1 2 _).trans ((Blob.record_get_tail 1 op 0 2 _).trans (Blob.record_get_head ..))
  have hget4 : (limboRecord c op id).get 4 4 = id :=
    (Blob.record_get_tail 1 c 3 4 _).trans ((Blob.record_get_tail 1 op 2 4 _).trans ((Blob.record_get_tail 2 0 0 4 _).trans
      ((Blob.record_get_head ..).trans (Nat.mod_eq_of_lt hid))))
  have hd : objAt 0x6021 1 = some limboCommandRow := by decide +kernel
  have hsize : (limboRecord c op id).size = 8 := rfl
  have hlt : (limboRecord c op id).val < 2 ^ (8 * (limboRecord c op id).size) := by
    rw [hsize]
    simp only [limboRecord, Blob.record, packFields, Nat.shiftLeft_eq]
    omega
  have hlimbo : s.inLimbo c id = true := by simp [State.inLimbo, hx, h5]
  have hchk : (s.chkLinks 0x6021 1 (limboRecord c op id)).code = stOk := by
    simp only [State.chkLinks, hget0, hget1, hget2, hget4, hlimbo]
    rw [show within c 1 254 = true by simp [within, hc1, hc2], show within op 1 2 = true by simp [within, ho1, ho2]]
    rfl
  have hact : ∀ u : State, u.actWrite .manager ⟨0x6021, 1, limboRecord c op id⟩ default =
      if op = 1 then u.limboAssign c id else u.limboDiscard c id := fun u => by
    simp only [State.actWrite, hd, limboCommandRow, if_true, State.actCommand, hget0, hget1, hget4]
  obtain ⟨y, hy, htag, hw⟩ := State.commandWrite_links (s := s) (a := a) (i := 0x6021) (sub := 1) (b := limboRecord c op id)
    hh hp (by decide) (by decide) (by decide) (by omega) hlt hd rfl rfl rfl (fun _ => by simp [sizeOk, limboCommandRow, hsize]) rfl rfl
  rw [if_pos hchk, hact] at hw
  refine ⟨s.filled (writingTo a 0x6021 1 (limboRecord c op id)) 2, y, rfl, hw, ?_⟩
  rw [hw]
  have hside := limboCommand_linkSide (s.filled (writingTo a 0x6021 1 (limboRecord c op id)) 2) op c id
  exact State.answered_of_windows (i := 0x6021) (sub := 1) (b := limboRecord c op id) (congrArg (·.2.windows) hside)
    (hy.trans hchk) htag

end
end

/-- ASSIGN makes the cask OWNED at the next vintage. -/
theorem State.limboAssign_owns {s : State} {c id : Nat} {x : Cask} (hx : s.cask c id = some x) :
    ∃ y, (s.limboAssign c id).cask c id = some y ∧ y.state = 1 ∧ y.vintage = x.vintage + 1 := by
  unfold State.limboAssign
  rw [hx]
  exact ⟨_, State.cask_setCask .., rfl, rfl⟩

/-- DISCARD frees the cask. -/
theorem State.limboDiscard_frees (s : State) (c id : Nat) : (s.limboDiscard c id).cask c id = none := by
  simp [State.limboDiscard]

theorem State.cask_of_cuvee {s t : State} {c : Nat} (h : t.cuvee c = s.cuvee c) (id : Nat) : t.cask c id = s.cask c id := by
  simp only [State.cask, h]

/-- Settles O4: the commands act where they are served, on a state that differs in the window alone. -/
theorem flareAndLimboCommandsAct : Obligations.FlareAndLimboCommandsAct := by
  unfold Obligations.FlareAndLimboCommandsAct
  refine ⟨fun s a g c hh hp hg hc => ⟨_, rfl, State.flareCommand_flares hh hp hg hc⟩,
    fun s a c id x hh hp hc1 hc2 hid hx h5 => ⟨?_, ?_⟩⟩
  · obtain ⟨u, r, hu, hw, ha⟩ := limboCommand_acts hh hp hc1 hc2 hid hx h5 (op := 1) (by decide) (by decide)
    obtain ⟨y, hy, hown⟩ := State.limboAssign_owns ((State.cask_of_cuvee hu id).trans hx)
    refine ⟨_, y, rfl, ha, ?_, hown⟩
    rw [hw, State.cask_of_cuvee (State.answerWindow_cuvee ..)]
    exact hy
  · obtain ⟨u, r, hu, hw, ha⟩ := limboCommand_acts hh hp hc1 hc2 hid hx h5 (op := 2) (by decide) (by decide)
    refine ⟨_, rfl, ha, ?_⟩
    rw [hw, State.cask_of_cuvee (State.answerWindow_cuvee ..)]
    exact u.limboDiscard_frees c id

end Sys2Proof.Machine

/-! # Cask commands and the timers of a hand-over (R338, R341, R344) -/

namespace Sys2Proof.Machine

/-! ## Where a cask would go -/

section
variable {s t : State} (h : t.linkSide = s.linkSide)
include h

theorem State.dict_of_linkSide : t.dict = s.dict := congrArg Prod.snd h

theorem State.num_of_linkSide (i sub : Nat) : t.num i sub = s.num i sub := State.num_of_dict (State.dict_of_linkSide h) i sub

theorem State.linkWindow_of_linkSide (c i : Nat) : t.linkWindow c i = s.linkWindow c i := by
  simp only [State.linkWindow, State.val, State.dict_of_linkSide h]

theorem State.routeEntry_of_linkSide (r : Nat) : t.routeEntry r = s.routeEntry r := by
  simp only [State.routeEntry, State.val, State.dict_of_linkSide h]

theorem State.egress_of_linkSide (e : Nat) : t.egress e = s.egress e := by
  simp only [State.egress, State.port_of_linkSide h]

theorem State.group_of_linkSide (c : Nat) : t.group c = s.group c := by
  simp only [State.group, State.num_of_linkSide h]

end

@[simp] theorem State.controlDone_linkSide (s : State) (c : Nat) : (s.controlDone c).linkSide = s.linkSide := rfl

/-! ## CASK_FREE and CASK_FETCH -/

section
variable {s : State} {c : Nat} {j : Job}

@[simp] theorem State.cask_controlDone (s : State) (c id : Nat) : (s.controlDone c).cask c id = s.cask c id := by
  simp [State.cask]

/-- CASK_FREE frees an OWNED cask that nothing holds. -/
theorem State.caskFree_frees {x : Cask} (hdue : s.controlDue 0x32 = some (c, j)) (hx : s.cask c (j.entry.get 24 4) = some x)
    (h1 : x.state = 1) (hheld : s.caskHeld c (j.entry.get 24 4) = false) (hring : (s.ring c j.pair).state ≠ 0) :
    s.caskFree.cask c (j.entry.get 24 4) = none ∧ s.caskFree.completed c j 0 := by
  have hheld' : (s.controlDone c).caskHeld c (j.entry.get 24 4) = false := by
    simpa only [State.caskHeld, State.controlDone_serving] using hheld
  unfold State.caskFree
  simp only [hdue, State.cask_controlDone, hx, h1, hheld']
  simp only [ne_eq, not_true_eq_false, decide_false, Bool.or_self, Bool.false_eq_true, if_false]
  refine ⟨by simp, State.completed_completeJob ?_ (by decide)⟩
  rwa [State.ring_state_loseCask, State.ring_freeCask, State.controlDone_ring]

/-- CASK_FETCH sends its FETCH to the window's peer and waits. -/
theorem State.caskFetch_waits {k : Nat} (hdue : s.controlDue 0x31 = some (c, j))
    (hw : bit (s.linkWindow c (j.entry.get 28 1)) 255 = true)
    (he : bit (s.routeEntry (bits (s.linkWindow c (j.entry.get 28 1)) 223 216)) 31 = true)
    (hpeer : bits (s.routeEntry (bits (s.linkWindow c (j.entry.get 28 1)) 223 216)) 11 0 =
      bits (s.linkWindow c (j.entry.get 28 1)) 215 204)
    (hgroup : s.group c ≠ 0) (hk : s.egress (s.routeEntry (bits (s.linkWindow c (j.entry.get 28 1)) 223 216)) = some k) :
    ∃ m : CaskMsg, (s.caskFetch.cuvee c).serving.fetches =
        (s.cuvee c).serving.fetches ++ [⟨j, j.entry.get 24 4, j.entry.get 28 1, j.entry.get 29 1, none⟩] ∧
      (s.caskFetch.port k).ctl = (s.port k).ctl ++ [.cask m] ∧ m.sub = 6 ∧
      m.dst = bits (s.linkWindow c (j.entry.get 28 1)) 215 204 := by
  have hdone := s.controlDone_linkSide c
  unfold State.caskFetch
  simp only [hdue, State.linkWindow_of_linkSide hdone, State.routeEntry_of_linkSide hdone, State.egress_of_linkSide hdone,
    State.group_of_linkSide hdone, hk, hw, he, hpeer, hgroup]
  simp only [Bool.not_true, ne_eq, not_true_eq_false, decide_false, Bool.or_self, Bool.false_eq_true, if_false]
  refine ⟨{ (s.controlDone c).caskMsg c 6 (j.entry.get 29 1) (bits (s.linkWindow c (j.entry.get 28 1)) 215 204) 0 0
    (j.entry.get 24 4 % 65536) none with window := bits (s.linkWindow c (j.entry.get 28 1)) 203 192 }, ?_, ?_, rfl, rfl⟩
  · rw [State.serving_of_desk (State.linkSend_desk ..), State.serving_updServing, State.controlDone_serving]
  · rw [State.linkSend, State.port_updPort]
    rfl

end

/-! ## CASK_OFFER -/

theorem State.logPlace_of_serving {s t : State} {c : Nat} (hlog : (t.cuvee c).serving.handLog = (s.cuvee c).serving.handLog)
    (hdict : t.dict = s.dict) (htime : t.time = s.time) : t.logPlace c = s.logPlace c := by
  unfold State.logPlace
  rw [hlog, State.num_of_dict hdict, htime]

section
variable {s : State} {c id w rm label k i : Nat} {x : Cask} {m : Model} {job : Option Job} (hx : s.cask c id = some x)
  (h1 : x.state = 1) (hheld : s.caskHeld c id = false) (hplace : s.logPlace c = some i) (hm : s.model c x.model = some m)
  (hw : bit (s.linkWindow c w) 255 = true) (he : bit (s.routeEntry (bits (s.linkWindow c w) 223 216)) 31 = true)
  (hpeer : bits (s.routeEntry (bits (s.linkWindow c w) 223 216)) 11 0 = bits (s.linkWindow c w) 215 204)
  (hgroup : s.group c ≠ 0) (hk : s.egress (s.routeEntry (bits (s.linkWindow c w) 223 216)) = some k)
include hx h1 hheld hplace hm hw he hpeer hgroup hk

/-- A cask that is offered through a valid window with a way to its peer is OFFERED there. -/
theorem State.offerCask_offers : (s.offerCask c id w rm label job).1 = 0 ∧
    ∃ y, (s.offerCask c id w rm label job).2.cask c id = some y ∧ y.state = 2 ∧ y.peer = bits (s.linkWindow c w) 215 204 ∧
      y.vintage = x.vintage ∧ y.port = k := by
  have hside : ∀ h, ((s.setLog c i h).caskCount c 0).linkSide = s.linkSide := fun h => by simp [State.setLog]
  unfold State.offerCask
  simp only [State.egress_of_linkSide (hside _), State.group_of_linkSide (hside _), hw, he, hpeer, hgroup, hk, hx, h1, hheld, hplace,
    hm, ne_eq, not_true_eq_false, decide_false, Bool.or_self, Bool.false_eq_true, if_false]
  rw [if_neg (by simp)]
  exact ⟨rfl, by simp⟩
end

theorem State.caskOffer_eq {s : State} {c : Nat} {j : Job} (hdue : s.controlDue 0x30 = some (c, j))
    (h : ((s.controlDone c).offerCask c (j.entry.get 24 4) (j.entry.get 28 1) (j.entry.get 29 1) (j.entry.get 30 1) (some j)).1 = 0) :
    s.caskOffer =
      ((s.controlDone c).offerCask c (j.entry.get 24 4) (j.entry.get 28 1) (j.entry.get 29 1) (j.entry.get 30 1) (some j)).2 := by
  unfold State.caskOffer
  simp only [hdue]
  exact if_pos h

/-! ## The timers (R341, R344) -/

/-- An offer that ends makes the cask OWNED again. -/
theorem State.endOffer_owns (s : State) (c id : Nat) (x : Cask) (v : Nat) :
    ∃ y, (s.endOffer c id x v).cask c id = some y ∧ y.state = 1 ∧ y.vintage = v := by
  unfold State.endOffer
  dsimp only
  split <;> simp

theorem State.offerTimeout_owns {s : State} {c id : Nat} {x : Cask} (hlive : (s.cuvee c).live = true) (hx : s.cask c id = some x)
    (h2 : x.state = 2) : ∃ y, (s.offerTimeout c id).cask c id = some y ∧ y.state = 1 ∧ y.vintage = x.vintage + 1 := by
  have he : s.offerTimeout c id = s.withdraw c id x := by
    unfold State.offerTimeout
    simp [hx, hlive, h2]
  rw [he]
  exact State.endOffer_owns ..

/-- A cask in LIMBO stands so in its entry, whether a fetch waited for it or not. -/
theorem State.toLimbo_limbo (s : State) (c id : Nat) (x : Cask) : ∃ y, (s.toLimbo c id x).cask c id = some y ∧ y.state = 5 := by
  unfold State.toLimbo
  dsimp only
  split <;> simp

section
variable {s : State} {c id : Nat} {x : Cask} (hlive : (s.cuvee c).live = true) (hx : s.cask c id = some x) (h4 : x.state = 4)
include hlive hx h4

theorem State.acceptTimer_queries (hq : x.queries < s.num 0x6010 4) :
    ∃ y, (s.acceptTimer c id).cask c id = some y ∧ y.state = 4 ∧ y.queries = x.queries + 1 := by
  unfold State.acceptTimer
  simp [hx, hlive, h4, Nat.not_le.mpr hq]

theorem State.acceptTimer_limbo (hq : s.num 0x6010 4 ≤ x.queries) :
    ∃ y, (s.acceptTimer c id).cask c id = some y ∧ y.state = 5 := by
  have he : s.acceptTimer c id = s.toLimbo c id x := by
    unfold State.acceptTimer
    simp [hx, hlive, h4, hq]
  rw [he]
  exact State.toLimbo_limbo ..

end

/-- A fetch that waits too long ends with CASK_LOST. -/
theorem State.fetchTimeout_ends {s : State} {c id : Nat} {f : Fetching} (hlive : (s.cuvee c).live = true)
    (hf : (s.cuvee c).serving.fetches.find? (fun f => f.cask.isNone && jbRequest f.job == id) = some f)
    (hring : (s.ring c f.job.pair).state ≠ 0) :
    ((s.fetchTimeout c id).cuvee c).serving.fetches = (s.cuvee c).serving.fetches.erase f ∧
      (s.fetchTimeout c id).completed c f.job 2 := by
  unfold State.fetchTimeout
  simp only [hf, hlive, if_true]
  unfold State.endFetch
  refine ⟨by simp, State.completed_completeJob ?_ (by decide)⟩
  rwa [State.ring_updServing]

/-- Settles O42: each command and each timer by its own lemma. -/
theorem caskCommandsAndTimers : Obligations.CaskCommandsAndTimers := by
  unfold Obligations.CaskCommandsAndTimers
  refine ⟨fun s c j hring hgroup => ⟨?_, ?_, ?_⟩, fun s c hlive => ⟨?_, ?_, ?_⟩⟩
  · intro x i m k hdue hx h1 hheld hplace hm hw he hpeer hk
    have hdone := s.controlDone_linkSide c
    have hwindow := State.linkWindow_of_linkSide hdone c (j.entry.get 28 1)
    have hroute := State.routeEntry_of_linkSide hdone
    have hlog : (s.controlDone c).logPlace c = s.logPlace c := State.logPlace_of_serving (by simp) rfl rfl
    obtain ⟨hzero, y, hy, h2, hpeer', hvintage, hport⟩ := State.offerCask_offers (s := s.controlDone c) (c := c)
      (id := j.entry.get 24 4) (w := j.entry.get 28 1) (rm := j.entry.get 29 1) (label := j.entry.get 30 1) (k := k) (i := i) (m := m)
      (job := some j) ((s.cask_controlDone ..).trans hx) h1
      (by simpa only [State.caskHeld, State.controlDone_serving] using hheld)
      (hlog.trans hplace) ((s.controlDone_model ..).trans hm) (by rw [hwindow]; exact hw)
      (by rw [hwindow, hroute]; exact he) (by rw [hwindow, hroute]; exact hpeer) (by rw [State.group_of_linkSide hdone]; exact hgroup)
      (by rw [hwindow, hroute, State.egress_of_linkSide hdone]; exact hk)
    refine ⟨_, y, rfl, ?_, h2, hpeer'.trans (by rw [hwindow]), hvintage, hport⟩
    rw [State.caskOffer_eq hdue hzero]
    exact hy
  · intro k hdue hw he hpeer hk
    obtain ⟨m, hm⟩ := State.caskFetch_waits hdue hw he hpeer hgroup hk
    exact ⟨_, m, rfl, hm⟩
  · intro x hdue hx h1 hheld
    exact ⟨_, rfl, State.caskFree_frees hdue hx h1 hheld hring⟩
  · intro id x hx h2
    obtain ⟨y, hy⟩ := State.offerTimeout_owns hlive hx h2
    exact ⟨_, y, rfl, hy⟩
  · intro id x hx h4
    refine ⟨fun hq => ?_, fun hq => ?_⟩
    · obtain ⟨y, hy⟩ := State.acceptTimer_queries hlive hx h4 hq
      exact ⟨_, y, rfl, hy⟩
    · obtain ⟨y, hy⟩ := State.acceptTimer_limbo hlive hx h4 hq
      exact ⟨_, y, rfl, hy⟩
  · intro f id hf hr
    exact ⟨_, rfl, State.fetchTimeout_ends hlive hf hr⟩

end Sys2Proof.Machine

/-! # Messages of a hand-over (R338, R341, R342) -/

namespace Sys2Proof.Machine

/-- A cask that becomes owned stands so in its entry, whether a fetch waited for it or not. -/
theorem State.ownCask_owns (s : State) (c id : Nat) (x : Cask) :
    ∃ y, (s.ownCask c id x).cask c id = some y ∧ y.state = 1 ∧ y.vintage = x.vintage := by
  unfold State.ownCask
  dsimp only
  split <;> simp

/-- An entry stands after a change of the serving records that leaves the casks. -/
theorem State.cask_setCask_updServing (s : State) {c : Nat} (id : Nat) (x : Cask) (f : Serving → Serving)
    (hf : ∀ v, (f v).casks = v.casks) : ((s.setCask c id x).updServing c f).cask c id = some x := by
  rw [← s.cask_setCask c id x, State.cask, State.serving_updServing, hf, State.cask]

theorem State.ctl_sendCask {s : State} {e : Nat} {a : CaskMsg} (hhops : a.hops = 0) (he : (s.routeTo a.dst).bind s.egress = some e) :
    ((s.sendCask a).port e).ctl = (s.port e).ctl ++ [.cask a] := by
  unfold State.sendCask State.forwardMsg
  rw [he]
  dsimp only
  rw [hhops, if_neg (by decide), State.linkSend, State.port_updPort]

/-- What the log answers to a QUERY (R341, R342). -/
theorem State.ctl_answerFromLog {s : State} {e : Nat} {m : CaskMsg} (c : Nat) (he : (s.routeTo m.src).bind s.egress = some e) :
    ∃ a : CaskMsg, ((s.answerFromLog c m).port e).ctl = (s.port e).ctl ++ [.cask a] ∧ a.sub = 5 ∧ a.dst = m.src ∧ a.uid = m.uid ∧
      a.vintage = m.vintage ∧ a.code = (match (s.logOf c m.uid m.vintage).map fun l => l.2.outcome with
        | some 2 => 0 | some 3 => 1 | some 1 => 3 | _ => 2) :=
  ⟨_, State.ctl_sendCask rfl he, rfl, rfl, rfl, rfl, rfl⟩

/-! ## A message that this device hears -/

/-- The state in which a cask message for cuvee c acts: it has left the inbox, and the vintner cores have had their task. -/
def State.heard (s : State) (k : Nat) (m : CaskMsg) (c : Nat) : State :=
  (s.updPort k fun p => { p with inbox := p.inbox.erase (.cask m) }).vintnerTask c 4 0 1 0

section
variable (s : State) (k : Nat) (m : CaskMsg) (c : Nat)

@[simp] theorem State.heard_desk (d : Nat) : (s.heard k m c).desk d = s.desk d := by
  simp [State.heard]

@[simp] theorem State.cask_heard (d id : Nat) : (s.heard k m c).cask d id = s.cask d id := State.cask_of_desk (s.heard_desk ..) id

@[simp] theorem State.serving_heard (d : Nat) : ((s.heard k m c).cuvee d).serving = (s.cuvee d).serving :=
  State.serving_of_desk (s.heard_desk ..)

theorem State.live_of_grouping {s t : State} (h : t.grouping = s.grouping) (d : Nat) :
    (t.cuvee d).live = (s.cuvee d).live := by
  have hd := congrFun (congrArg Prod.snd h) d
  simp only [Cuvee.live, show (t.cuvee d).state = (s.cuvee d).state from congrArg (·.2.2) hd]

@[simp] theorem State.live_heard (d : Nat) : ((s.heard k m c).cuvee d).live = (s.cuvee d).live := by
  refine State.live_of_grouping ?_ d
  have hport : (s.updPort k fun p => { p with inbox := p.inbox.erase (.cask m) }).grouping = s.grouping := rfl
  rw [← hport]
  unfold State.heard State.vintnerTask State.jobBegin State.jobEnd
  split
  · rfl
  · simp

theorem State.heard_dict : (s.heard k m c).dict = s.dict := State.dict_of_desk (s.heard_desk k m c c)

theorem State.heard_time : (s.heard k m c).time = s.time := by
  have h : (s.heard k m c).kept = s.kept := (State.vintnerTask_kept ..).trans rfl
  exact State.time_of_kept h

theorem State.port_heard (j : Nat) : ((s.heard k m c).port j).ctl = (s.port j).ctl ∧
    ((s.heard k m c).port j).up = (s.port j).up := by
  have h : (s.heard k m c).port j = (s.updPort k fun p => { p with inbox := p.inbox.erase (.cask m) }).port j :=
    State.port_of_linkSide (by simp [State.heard, State.vintnerTask]) j
  rw [h]
  by_cases hj : j = k
  · rw [hj, State.port_updPort]
    exact ⟨rfl, rfl⟩
  · rw [State.port_updPort_ne _ _ hj]
    exact ⟨rfl, rfl⟩

/-- A message leaves the ways out of the device as they are. -/
theorem State.ways_heard (dst : Nat) : ((s.heard k m c).routeTo dst).bind (s.heard k m c).egress = (s.routeTo dst).bind s.egress := by
  have hup : ∀ j, ((s.heard k m c).port j).up = (s.port j).up := fun j => (s.port_heard k m c j).2
  have hegress : (s.heard k m c).egress = s.egress := funext fun e => by simp only [State.egress, hup]
  have hroute : (s.heard k m c).routeEntry = s.routeEntry :=
    funext fun e => by simp only [State.routeEntry, State.val, s.heard_dict]
  simp only [State.routeTo, hegress, hroute]

@[simp] theorem State.incoming_heard : (s.heard k m c).incoming c m = s.incoming c m := by
  simp only [State.incoming, State.serving_heard]

variable {s k m c} (hm : (.cask m) ∈ (s.port k).inbox) (hdst : m.dst = s.deviceId) (hg : s.groupCuvee m.group = some c)
include hm hdst hg

/-- A cask message for this device acts for its group's cuvee. -/
theorem State.onCask_heard {sub : Nat} (hsub : m.sub = sub) (act : State → Nat → State) :
    s.onCask k m sub act = act (s.heard k m c) c := by
  have hdst' : m.dst = (s.updPort k fun p => { p with inbox := p.inbox.erase (.cask m) }).deviceId := hdst
  have hg' : (s.updPort k fun p => { p with inbox := p.inbox.erase (.cask m) }).groupCuvee m.group = some c := hg
  unfold State.onCask
  rw [if_neg (by simp [hsub]), State.takeMsg_of_mem hm]
  dsimp only
  rw [if_neg (by simpa using hdst'), hg']
  rfl

/-! ## ACCEPT and DECLINE of what is OFFERED -/

section
variable {x : Cask} (hlive : (s.cuvee c).live = true) (hx : s.cask c m.offerer = some x) (h2 : x.state = 2) (huid : x.uid = m.uid)
  (hv : x.vintage + 1 = m.vintage)
include hlive hx h2 huid hv

theorem State.acceptMessage_frees (hsub : m.sub = 1) : (s.acceptMessage k m).cask c m.offerer = none := by
  unfold State.acceptMessage
  rw [State.onCask_heard hm hdst hg hsub, State.cask_heard, hx]
  dsimp only
  rw [if_neg (by simp [h2, huid, hv, hlive])]
  split <;> simp

theorem State.declineMessage_owns (hsub : m.sub = 2) :
    ∃ y, (s.declineMessage k m).cask c m.offerer = some y ∧ y.state = 1 ∧ y.vintage = x.vintage := by
  unfold State.declineMessage
  rw [State.onCask_heard hm hdst hg hsub, State.ifLive, if_pos (by simpa using hlive), State.cask_heard, hx]
  dsimp only
  rw [if_pos (by simp [h2, huid, hv])]
  exact State.endOffer_owns ..

end

/-! ## RELEASE, ANSWER and QUERY -/

section
variable {id : Nat} {x : Cask} (hlive : (s.cuvee c).live = true) (hin : s.incoming c m = some (id, x))
include hlive hin

theorem State.releaseMessage_owns (hsub : m.sub = 3) :
    ∃ y, (s.releaseMessage k m).cask c id = some y ∧ y.state = 1 ∧ y.vintage = x.vintage := by
  unfold State.releaseMessage
  rw [State.onCask_heard hm hdst hg hsub, State.ifLive, if_pos (by simpa using hlive), State.incoming_heard, hin]
  exact State.ownCask_owns ..

theorem State.answerMessage_owns (hsub : m.sub = 5) (hcode : m.code = 0) :
    ∃ y, (s.answerMessage k m).cask c id = some y ∧ y.state = 1 ∧ y.vintage = x.vintage := by
  unfold State.answerMessage
  rw [State.onCask_heard hm hdst hg hsub, State.ifLive, if_pos (by simpa using hlive), State.incoming_heard, hin]
  dsimp only
  rw [hcode]
  exact State.ownCask_owns ..

end

/-- A QUERY is answered from the log. -/
theorem State.queryMessage_answers {e : Nat} (hsub : m.sub = 4) (he : (s.routeTo m.src).bind s.egress = some e) :
    ∃ a : CaskMsg, ((s.queryMessage k m).port e).ctl = (s.port e).ctl ++ [.cask a] ∧ a.sub = 5 ∧ a.dst = m.src ∧ a.uid = m.uid ∧
      a.vintage = m.vintage ∧ a.code = (match (s.logOf c m.uid m.vintage).map fun l => l.2.outcome with
        | some 2 => 0 | some 3 => 1 | some 1 => 3 | _ => 2) := by
  have hlog : (s.heard k m c).logOf c m.uid m.vintage = s.logOf c m.uid m.vintage := by
    simp only [State.logOf, State.serving_heard]
  unfold State.queryMessage
  rw [State.onCask_heard hm hdst hg hsub, ← (s.port_heard k m c e).1, ← hlog]
  exact State.ctl_answerFromLog c ((s.ways_heard k m c m.src).trans he)

/-- A FETCH waits for the boundary. -/
theorem State.fetchMessage_serves (hlive : (s.cuvee c).live = true) (hsub : m.sub = 6) :
    ((s.fetchMessage k m).cuvee c).serving.serves = (s.cuvee c).serving.serves ++ [(m.src, m.offerer, m.code, s.slotCount)] := by
  unfold State.fetchMessage
  rw [State.onCask_heard hm hdst hg hsub, State.ifLive, if_pos (by simpa using hlive), State.serving_updServing,
    State.serving_heard]
  simp only [State.slotCount, s.heard_time]

/-! ## An OFFER that nothing speaks against -/

theorem State.offer_receives {x : LinkXfer} (hlive : (s.cuvee c).live = true) (hx : s.linkXfer k false m.xtag = some x)
    (hw : s.offerWindowOk k c m = true) (hlen : 64 ≤ x.data.length) (hcode : s.offerCode c m ⟨64, ofBytes (x.data.take 64)⟩ = 0) :
    ∃ (u : State) (id : Nat) (y : Cask), s.offer k m = u.caskData c id ∧ u.cask c id = some y ∧ y.state = 3 ∧ y.uid = m.uid ∧
      y.vintage = m.vintage ∧ y.peer = m.src ∧ y.peerCask = m.offerer := by
  have hcode' : (s.heard k m c).offerCode c m ⟨64, ofBytes (x.data.take 64)⟩ = 0 := by
    have hmodel : (s.heard k m c).model c = s.model c := funext (State.model_of_desk (s.heard_desk ..))
    have hfree : (s.heard k m c).freeCaskId c = s.freeCaskId c := by rw [State.freeCaskId, State.serving_heard, State.freeCaskId]
    rw [← hcode]
    unfold State.offerCode
    rw [hmodel, hfree, State.serving_heard]
  unfold State.offer
  rw [hx]
  dsimp only
  rw [if_neg (by simp [hdst]), hg]
  dsimp only
  rw [if_neg (by simp; omega), State.takeMsg_of_mem hm]
  dsimp only
  rw [if_neg (by simp [hlive, hw]), ← State.heard, if_neg (by simpa using hcode')]
  exact ⟨_, _, _, rfl, State.cask_setCask_updServing _ _ _ _ fun _ => rfl, rfl, rfl, rfl, rfl, rfl⟩

end

/-- Settles O43: each message acts in the state that has heard it. -/
theorem handOverMessages : Obligations.HandOverMessages := by
  unfold Obligations.HandOverMessages
  intro s k c m hm hdst hg hlive
  refine ⟨fun x hsub hx h2 huid hv => ⟨_, rfl, State.acceptMessage_frees hm hdst hg hlive hx h2 huid hv hsub⟩,
    fun x hsub hx h2 huid hv => ?_, fun id x hin => ⟨fun hsub => ?_, fun hsub hcode => ?_⟩, fun e hsub he => ?_,
    fun hsub => ⟨_, rfl, State.fetchMessage_serves hm hdst hg hlive hsub⟩, fun x hx hw hlen hcode => ?_⟩
  · obtain ⟨y, hy⟩ := State.declineMessage_owns hm hdst hg hlive hx h2 huid hv hsub
    exact ⟨_, y, rfl, hy⟩
  · obtain ⟨y, hy⟩ := State.releaseMessage_owns hm hdst hg hlive hin hsub
    exact ⟨_, y, rfl, hy⟩
  · obtain ⟨y, hy, h1, -⟩ := State.answerMessage_owns hm hdst hg hlive hin hsub hcode
    exact ⟨_, y, rfl, hy, h1⟩
  · obtain ⟨a, ha⟩ := State.queryMessage_answers hm hdst hg hsub he
    exact ⟨_, a, rfl, ha⟩
  · obtain ⟨u, id, y, hu, hy⟩ := State.offer_receives hm hdst hg hlive hx hw hlen hcode
    exact ⟨u, id, y, congrArg _ hu, hy⟩

end Sys2Proof.Machine

/-! # Other messages of a link (R332–R335, R347, R348) -/

namespace Sys2Proof.Machine

/-! ## TIME (R332) -/

theorem State.port_at_ (s : State) (t : Instant) (k : Nat) : (s.at_ t).port k = s.port k := by
  simp [State.port]

theorem State.port_referenceBoundary (s : State) (t : Instant) (k : Nat) : (s.referenceBoundary t).port k = s.port k := by
  have h : (s.referenceBoundary t).links = s.links := congrArg (·.2.2.2.1) (s.referenceBoundary_beyondCadence t)
  simp only [State.port, h]

/-- A TIME message notes its phase and its arrival, whatever the cadence makes of it. -/
theorem State.port_timeMessage {s : State} {k : Nat} {m : TimeMsg} (arrival : Instant) (hm : (.time m) ∈ (s.port k).inbox) :
    ∃ d, (s.timeMessage k m arrival).port k = { s.port k with
      inbox := (s.port k).inbox.erase (.time m), delay := d, lastPhase := m.phase, lastPhaseAt := arrival } := by
  unfold State.timeMessage
  rw [State.takeMsg_of_mem hm]
  dsimp -zeta only
  extract_lets u p d v b gone fresh len w x
  have hv : v.port k = { s.port k with
      inbox := (s.port k).inbox.erase (.time m), delay := d, lastPhase := m.phase, lastPhaseAt := arrival } := by
    simp only [v, u, State.port_updPort, State.port_at_]
  have hx : x.port k = v.port k := rfl
  refine ⟨d, Eq.trans ?_ hv⟩
  split
  · rfl
  · split
    · rfl
    · split
      · rw [State.port_referenceBoundary, hx]
      · exact hx

/-! ## BARRIER (R348) -/

/-- A BARRIER for this device joins the arrivals of its barrier. -/
theorem State.barrierMessage_arrives {s : State} {k e : Nat} {m : GroupBarMsg} {r : Barrier} (hm : (.barrier m) ∈ (s.port k).inbox)
    (hdst : m.dst = s.deviceId) (he : s.groupBarrierOf m.group m.gbar = some e) (hdir : bit e 62 ≠ m.release)
    (hr : s.barrier (bits e 11 0) = some r) :
    (s.barrierMessage k m).barrier (bits e 11 0) = some { r with members := r.members ++ [(m.gen, m.src)] } := by
  generalize hu : (s.updPort k fun p => { p with inbox := p.inbox.erase (.barrier m) }) = u
  have hdst' : m.dst = u.deviceId := by subst hu; exact hdst
  have he' : u.groupBarrierOf m.group m.gbar = some e := by subst hu; exact he
  have hr' : u.barrier (bits e 11 0) = some r := by subst hu; exact hr
  unfold State.barrierMessage
  rw [State.takeMsg_of_mem hm, hu]
  dsimp only
  rw [if_neg (by simpa using hdst'), he']
  dsimp only
  rw [if_neg hdir, State.updBarrier, hr']
  exact Sparse.find_insert_self ..

/-! ## The estate's marker (R335) -/

/-- No holiday of cuvee c awaits a marker from port k. -/
def State.unmarked (s : State) (k c : Nat) : Prop := ∀ q, (s.cuvee c).quiesce = some q → k ∉ q.marks

@[simp] theorem State.cuvee_updPort (s : State) (k : Nat) (f : LinkPort → LinkPort) (c : Nat) :
    (s.updPort k f).cuvee c = s.cuvee c := rfl

theorem State.quiesce_markTaken (s : State) (k c : Nat) :
    ((s.markTaken k c).cuvee c).quiesce = (s.cuvee c).quiesce.map fun q => { q with marks := q.marks.filter (· != k) } := by
  simp [State.markTaken, State.updQuiesce]

theorem State.cuvee_markTaken_ne (s : State) (k : Nat) {c d : Nat} (h : d ≠ c) : (s.markTaken k c).cuvee d = s.cuvee d := by
  simp [State.markTaken, State.updQuiesce, State.cuvee_updCuvee_ne _ _ h]

theorem State.unmarked_markTaken_self (s : State) (k c : Nat) : (s.markTaken k c).unmarked k c := fun q hq hk => by
  rw [State.quiesce_markTaken, Option.map_eq_some_iff] at hq
  obtain ⟨q', -, rfl⟩ := hq
  simp at hk

theorem State.unmarked_markTaken {s : State} {k d : Nat} (h : s.unmarked k d) (c : Nat) : (s.markTaken k c).unmarked k d := by
  by_cases hd : d = c
  · rw [hd]
    exact s.unmarked_markTaken_self k c
  · unfold State.unmarked
    rw [State.cuvee_markTaken_ne s k hd]
    exact h

/-- Cuvees that take port k's marker leave each of them, and each that awaited none, without it. -/
theorem State.unmarked_each (s : State) {k c : Nat} {l : List Nat} (h : c ∈ l ∨ s.unmarked k c) :
    (s.each l fun s d => s.markTaken k d).unmarked k c := by
  have hkeep : ∀ (t : State) (d : Nat), t.unmarked k c → (t.markTaken k d).unmarked k c := fun t d ht =>
    State.unmarked_markTaken ht d
  rcases h with hc | hs
  · exact State.each_reaches (P := fun t => t.unmarked k c) hc (fun t => t.unmarked_markTaken_self k c) hkeep s
  · exact State.each_keeps (fun t => t.unmarked k c) _ l hkeep hs

/-- The estate's marker is taken by every cuvee that awaits it. -/
theorem State.linkMark_taken {s : State} {k c : Nat} {m : MarkMsg} (hm : (.mark m) ∈ (s.port k).inbox) (hscope : m.scope = 1)
    (hc : c ∈ s.existing) : (s.linkMark k m).unmarked k c := by
  generalize hw : (s.updPort k fun p => { p with inbox := p.inbox.erase (.mark m) }) = w
  have hcw : c ∈ w.existing := by subst hw; exact hc
  unfold State.linkMark
  rw [State.takeMsg_of_mem hm, hw]
  dsimp -zeta only
  extract_lets waiting u v
  have hu : u.unmarked k c := by
    refine w.unmarked_each ?_
    by_contra hnone
    obtain ⟨hout, hmarked⟩ := not_or.mp hnone
    refine hmarked fun q hq hk => hout (List.mem_filter.mpr ⟨hcw, ?_⟩)
    rw [hq]
    simp [hk, hscope]
  rw [if_neg (by simp [hscope]), if_neg (by simp [hscope])]
  unfold v
  split
  · exact hu
  · exact hu

/-! ## SQUASH (R347) -/

/-- None of the transfers that port j has of its own runs between the message's sender and its group. -/
def State.squashed (s : State) (m : SquashMsg) (j : Nat) : Prop :=
  ∀ x ∈ (s.port j).xfers, x.fwdPort = none → x.req.group = m.group →
    (x.mine = false → x.req.src ≠ m.src) ∧ (x.mine = true → x.req.dst ≠ m.src)

theorem State.squashed_of_continues {s t : State} {m : SquashMsg} {j : Nat} (h : s.PortsContinue t) (hs : s.squashed m j) :
    t.squashed m j := fun x hx => hs x ((h.port j).xfers hx)

/-- One port's transfers and requests between the sender and the group are given up. -/
def State.squashPort (s : State) (m : SquashMsg) (j : Nat) : State :=
  let theirs := fun (x : LinkXfer) => !x.mine && x.fwdPort.isNone && x.req.src == m.src && x.req.group == m.group
  let ours := fun (x : LinkXfer) => x.mine && x.fwdPort.isNone && x.req.dst == m.src && x.req.group == m.group
  let xs := (s.port j).xfers.filter ours
  let s := s.updPort j fun p => { p with
    xfers := p.xfers.filter fun x => !theirs x && !ours x
    inbox := p.inbox.filter fun q => match q with
      | .request r => !(r.src == m.src && r.group == m.group)
      | _ => true }
  s.each xs fun s x => s.answerXfer x 4 []

theorem State.xfers_squashPort (s : State) (m : SquashMsg) (j : Nat) : ((s.squashPort m j).port j).xfers =
    (s.port j).xfers.filter fun x =>
      !(!x.mine && x.fwdPort.isNone && x.req.src == m.src && x.req.group == m.group) &&
        !(x.mine && x.fwdPort.isNone && x.req.dst == m.src && x.req.group == m.group) := by
  unfold State.squashPort
  dsimp only
  rw [State.port_of_linkSide (State.each_linkSide _ _ _ fun _ _ => State.answerXfer_linkSide ..), State.port_updPort]

theorem State.port_squashPort_ne (s : State) (m : SquashMsg) {i j : Nat} (h : j ≠ i) : (s.squashPort m i).port j = s.port j := by
  unfold State.squashPort
  dsimp only
  rw [State.port_of_linkSide (State.each_linkSide _ _ _ fun _ _ => State.answerXfer_linkSide ..), State.port_updPort_ne _ _ h]

theorem State.squashed_squashPort_self (s : State) (m : SquashMsg) (j : Nat) : (s.squashPort m j).squashed m j :=
  fun x hx hfwd hgroup => by
    rw [State.xfers_squashPort, List.mem_filter] at hx
    obtain ⟨-, hkept⟩ := hx
    simp only [hfwd, hgroup, Option.isNone_none, Bool.and_true, beq_self_eq_true, Bool.and_eq_true, Bool.not_eq_true',
      Bool.and_eq_false_iff, beq_eq_false_iff_ne, Bool.not_eq_false'] at hkept
    refine ⟨fun hmine => ?_, fun hmine => ?_⟩
    · simpa [hmine] using hkept.1
    · simpa [hmine] using hkept.2

theorem State.squashed_squashPort {s : State} {m : SquashMsg} {j : Nat} (h : s.squashed m j) (i : Nat) :
    (s.squashPort m i).squashed m j := by
  by_cases hj : j = i
  · rw [hj]
    exact s.squashed_squashPort_self m i
  · unfold State.squashed
    rw [State.port_squashPort_ne s m hj]
    exact h

theorem State.squashMessage_eq {s : State} {k : Nat} {m : SquashMsg} (hm : (.squash m) ∈ (s.port k).inbox) (hdst : m.dst = s.deviceId)
    (hreason : m.reason ≠ 3) : s.squashMessage k m =
      (s.updPort k fun p => { p with inbox := p.inbox.erase (.squash m) }).each (List.range 12) fun s j => s.squashPort m j := by
  have hdst' : m.dst = (s.updPort k fun p => { p with inbox := p.inbox.erase (.squash m) }).deviceId := hdst
  unfold State.squashMessage
  rw [State.takeMsg_of_mem hm]
  dsimp only
  rw [if_neg (by simpa using hdst'), if_neg hreason]
  rfl

/-- A SQUASH for this device ends the transfers between its sender and the group. -/
theorem State.squashCasks_squashed {s : State} {k j : Nat} {m : SquashMsg} (hm : (.squash m) ∈ (s.port k).inbox)
    (hdst : m.dst = s.deviceId) (hreason : m.reason ≠ 3) (hj : j < 12) : (s.squashCasks k m).squashed m j := by
  have hmsg : (s.squashMessage k m).squashed m j := by
    rw [State.squashMessage_eq hm hdst hreason]
    exact State.each_reaches (P := fun t => t.squashed m j) (List.mem_range.mpr hj) (fun t => t.squashed_squashPort_self m j)
      (fun t i h => State.squashed_squashPort h i) _
  unfold State.squashCasks
  rw [if_neg (by simp [hdst, hreason, hm])]
  dsimp only
  split
  · exact hmsg
  · exact State.squashed_of_continues (State.PortsContinue.each (fun u e =>
      (State.PortsContinue.dropIncoming ..).trans (State.PortsContinue.of_linkSide (State.loseCask_linkSide ..))) _ _) hmsg

/-! ## FLARE (R347) -/

theorem State.callQuiesce_links (s : State) (c scope target cause : Nat) (limit : Instant) :
    (s.callQuiesce c scope target cause limit).links = s.links := by
  unfold State.callQuiesce
  dsimp only
  repeat' split
  all_goals rfl

/-- A FLARE not seen before is logged. -/
theorem State.flareMessage_logs {s : State} {k : Nat} {m : FlareMsg} (hm : (.flare m) ∈ (s.port k).inbox)
    (hnew : (m.origin, m.id) ∉ s.links.handled) : ∃ b : Blob, (s.flareMessage k m).links.flares = s.links.flares + 1 ∧
      (s.flareMessage k m).links.flareLog.find (s.links.flares % 16) = some b ∧ b.get 0 2 = m.origin % 65536 ∧
      b.get 2 2 = m.group % 65536 := by
  generalize hw : (s.updPort k fun p => { p with inbox := p.inbox.erase (.flare m) }) = w
  have hflares : w.links.flares = s.links.flares := by subst hw; rfl
  have hnew' : (m.origin, m.id) ∉ w.links.handled := by subst hw; exact hnew
  unfold State.flareMessage
  rw [State.takeMsg_of_mem hm, hw]
  dsimp -zeta only
  rw [if_neg (by simpa using hnew')]
  extract_lets l v u b l' x
  have hu : u.links.flares = s.links.flares := by
    unfold u
    split
    · exact hflares
    · refine (State.each_frame (fun t => t.links.flares) _ _ v fun _ _ => ?_).trans hflares
      rfl
  have hx : x.links.flares = s.links.flares + 1 ∧ x.links.flareLog.find (s.links.flares % 16) = some b := by
    rw [← hu]
    exact ⟨rfl, Sparse.find_insert_self ..⟩
  have hrecord : b.get 0 2 = m.origin % 65536 ∧ b.get 2 2 = m.group % 65536 :=
    ⟨Blob.record_get_head .., (Blob.record_get_tail 2 m.origin 0 2 _).trans (Blob.record_get_head ..)⟩
  split
  · exact ⟨b, hx.1, hx.2, hrecord⟩
  · rw [State.callQuiesce_links]
    exact ⟨b, hx.1, hx.2, hrecord⟩

/-- Settles O46: each message by its own lemma. -/
theorem linkMessages : Obligations.LinkMessages := by
  unfold Obligations.LinkMessages
  refine fun s k => ⟨fun m arrival hm => ?_, fun m e r hm hdst he hdir hr => ⟨_, rfl, State.barrierMessage_arrives hm hdst he hdir hr⟩,
    fun m hm hscope => ⟨_, rfl, fun c hc => State.linkMark_taken hm hscope hc⟩,
    fun m hm hdst hreason => ⟨_, rfl, fun j hj => State.squashCasks_squashed hm hdst hreason hj⟩, fun m hm hnew => ?_⟩
  · obtain ⟨d, hport⟩ := State.port_timeMessage arrival hm
    exact ⟨_, rfl, congrArg LinkPort.lastPhase hport, congrArg LinkPort.lastPhaseAt hport, congrArg LinkPort.inbox hport⟩
  · obtain ⟨b, hb⟩ := State.flareMessage_logs hm hnew
    exact ⟨_, b, rfl, hb⟩

end Sys2Proof.Machine

/-! # Power samples, the clock, sensors and the observation window (R361–R372, R394)

A limiter or a throttle episode takes nothing of a reading back, so what a reading sets is said apart from both. -/

namespace Sys2Proof.Machine

/-- The state apart from what the limiters move (R362) and the throttle episodes (R370). -/
def State.unlimited (s : State) : State :=
  { s with power := { s.power with limits := [], overRun := 0, underRun := 0, voltRun := 0, episodes := [] } }

@[simp] theorem State.setLimit_unlimited (s : State) (i v : Nat) : (s.setLimit i v).unlimited = s.unlimited := rfl
@[simp] theorem State.lowerLimit_unlimited (s : State) (i n : Nat) : (s.lowerLimit i n).unlimited = s.unlimited := rfl
@[simp] theorem State.raiseLimit_unlimited (s : State) (i n : Nat) : (s.raiseLimit i n).unlimited = s.unlimited := rfl

@[simp] theorem State.episodeNote_unlimited (s : State) (r sensor peak holds : Nat) (lowest : Bool) :
    (s.episodeNote r sensor peak holds lowest).unlimited = s.unlimited := by
  unfold State.episodeNote
  split <;> rfl

@[simp] theorem State.thermalLimiter_unlimited (s : State) (i st run ms : Nat) :
    (s.thermalLimiter i st run ms).unlimited = s.unlimited := by
  unfold State.thermalLimiter
  (repeat' split) <;> rfl

@[simp] theorem State.powerCapLimiter_unlimited (s : State) (milliW avg1ms : Nat) :
    (s.powerCapLimiter milliW avg1ms).unlimited = s.unlimited := by
  unfold State.powerCapLimiter
  extract_lets cap above below u v w
  have hu : u.unlimited = s.unlimited := rfl
  have hv : v.unlimited = s.unlimited := by simp only [v]; split <;> simp [hu]
  have hw : w.unlimited = s.unlimited := by simp only [w]; split <;> simp [hv]
  split <;> simp [hw]

@[simp] theorem State.voltageLimiter_unlimited (s : State) (tenthsV : Nat) :
    (s.voltageLimiter tenthsV).unlimited = s.unlimited := by
  unfold State.voltageLimiter
  simp only []
  (repeat' split) <;> rfl

/-! ## Power samples (R359, R362, R512) -/

/-- A sample is added to the meter and shown; the limiters and the episodes come after it. -/
theorem State.powerSample_unlimited (s : State) (milliW avg1ms tenthsV : Nat) :
    (s.powerSample milliW avg1ms tenthsV).unlimited = (s.updPower fun p =>
      { p with avg1ms := avg1ms, tenthsV := tenthsV, energyAcc := p.energyAcc + milliW }).unlimited := by
  simp [State.powerSample]

@[simp] theorem State.episodeNote_limits (s : State) (r sensor peak holds : Nat) (lowest : Bool) :
    (s.episodeNote r sensor peak holds lowest).power.limits = s.power.limits := by
  unfold State.episodeNote
  split <;> rfl

theorem State.setLimit_limit_ne (s : State) {i j : Nat} (h : i ≠ j) (v : Nat) :
    (s.setLimit i v).power.limits.getD j 16 = s.power.limits.getD j 16 := by
  simp [State.setLimit, State.updPower, List.getD_eq_getElem?_getD, List.getElem?_set_ne h]

theorem State.setLimit_limit (s : State) {i : Nat} (h : i < s.power.limits.length) (v : Nat) :
    (s.setLimit i v).power.limits.getD i 16 = max 4 (min 16 v) := by
  simp [State.setLimit, State.updPower, List.getD_eq_getElem?_getD, List.getElem?_set_self h]

/-- INPUT_VOLTAGE moves no limit but its own. -/
theorem State.voltageLimiter_limit_powerCap (s : State) (tenthsV : Nat) :
    (s.voltageLimiter tenthsV).power.limits.getD 0 16 = s.power.limits.getD 0 16 := by
  have hset : ∀ (u : State) (v : Nat), (u.setLimit 3 v).power.limits.getD 0 16 = u.power.limits.getD 0 16 := fun u v =>
    u.setLimit_limit_ne (by decide) v
  have hraise : ∀ (u : State) (n : Nat), (u.raiseLimit 3 n).power.limits.getD 0 16 = u.power.limits.getD 0 16 := fun u n =>
    hset u _
  unfold State.voltageLimiter
  extract_lets high u v
  have hv : v.power.limits.getD 0 16 = s.power.limits.getD 0 16 := by
    simp only [v]
    split
    · exact hset ..
    · split
      · exact hset ..
      · rfl
  split
  · exact (hraise ..).trans hv
  · exact hv

/-- A sample above 1,800 W whose 1 ms average is within the band moves POWER_CAP four steps down, and the average not at all. -/
theorem State.powerCapLimiter_limit_of_overload {s : State} {milliW avg1ms : Nat} (hl : s.power.limits ≠ [])
    (hw : 1800000 < milliW) (hlow : s.num 0x2010 1 * 95 ≤ avg1ms * 100) (hhigh : avg1ms ≤ s.num 0x2010 1) :
    (s.powerCapLimiter milliW avg1ms).power.limits.getD 0 16 = max 4 (min 16 (s.power.limits.getD 0 16 - 4)) := by
  unfold State.powerCapLimiter
  simp only [decide_eq_false (Nat.not_lt.mpr hlow), decide_eq_false (Nat.not_lt.mpr hhigh), hw, if_true, Bool.false_and,
    Bool.false_eq_true, if_false]
  exact State.setLimit_limit _ (List.length_pos_of_ne_nil hl) _

theorem State.powerSample_limit_of_overload {s : State} {milliW avg1ms : Nat} (tenthsV : Nat) (hl : s.power.limits ≠ [])
    (hw : 1800000 < milliW) (hlow : s.num 0x2010 1 * 95 ≤ avg1ms * 100) (hhigh : avg1ms ≤ s.num 0x2010 1) :
    (s.powerSample milliW avg1ms tenthsV).power.limits.getD 0 16 = max 4 (min 16 (s.power.limits.getD 0 16 - 4)) := by
  simp only [State.powerSample, State.episodeNote_limits, State.voltageLimiter_limit_powerCap]
  exact State.powerCapLimiter_limit_of_overload hl hw hlow hhigh

theorem exec_powerSample_of_withinRatings {v : Int} (h : withinRatings v = true) (milliW avg1ms : Nat) (s : State) :
    exec (.powerSample milliW avg1ms v) s = .next (s.powerSample milliW avg1ms v.toNat) := by
  simp only [withinRatings, Bool.and_eq_true, decide_eq_true_eq] at h
  exact if_neg (by omega)

theorem exec_powerSample_of_beyondRatings {v : Int} (h : withinRatings v = false) (milliW avg1ms : Nat) (s : State) :
    exec (.powerSample milliW avg1ms v) s = .fault .beyondAbsoluteRating := by
  simp only [withinRatings, Bool.and_eq_false_iff, decide_eq_false_iff_not] at h
  exact if_pos (by omega)

/-! ## The clock and φ (R361, R366, R367) -/

theorem State.clockStep_down {s : State} (h : s.clockTarget < s.power.clk) : s.clockStep.power.clk = s.power.clk - 1 := by
  simp [State.clockStep, h, State.updPower]

theorem State.clockStep_up {s : State} (h : s.power.clk < s.clockTarget) (hold : s.power.slopeHold = false) :
    s.clockStep.power.clk = s.power.clk + 1 := by
  simp [State.clockStep, h, Nat.not_lt.mpr h.le, hold, State.updPower]

theorem State.phiStep_up {s : State} {k slope : Nat} (h : (s.tile k).phi < 16) (hs : slope ≤ 400) :
    ((s.phiStep k true slope).tile k).phi = (s.tile k).phi + 1 := by
  have hu : ∀ f, (s.updPower f).tile k = s.tile k := fun _ => rfl
  have hold : ∀ f, (s.updPower f).power = f s.power := fun _ => rfl
  simp [State.phiStep, hu, hold, Nat.not_le.mpr h, Nat.not_lt.mpr hs]

theorem State.phiStep_down (s : State) (k slope : Nat) :
    ((s.phiStep k false slope).tile k).phi = (s.tile k).phi - 1 := by
  simp only [State.phiStep, Bool.false_eq_true, if_false, State.tile_updTile]
  rfl

/-! ## Die sensors (R368, R369, R455) -/

theorem State.dieSensorRead_trips {s : State} {ts : List Nat} (hp : s.boot.pwrGood = true) (h : 110 ≤ maxNat ts) :
    s.dieSensorRead ts = s.thermTrip ts := by
  simp [State.dieSensorRead, hp, h]

theorem State.dieSensorRead_reads {s : State} {ts : List Nat} (hp : s.boot.pwrGood = true) (h : maxNat ts < 110) :
    s.dieSensorRead ts = s.dieReading ts := by
  simp [State.dieSensorRead, hp, Nat.not_le.mpr h]

/-- A reading sets the readings shown and the die state; the limiter and the episode come after it. -/
theorem State.dieReading_unlimited (s : State) (ts : List Nat) : ∃ run, (s.dieReading ts).unlimited = (s.updPower fun p =>
    { p with dieTemps := ts, dieState := thermalState 95 100 105 p.dieState (maxNat ts), dieRun := run }).unlimited :=
  ⟨_, (State.episodeNote_unlimited ..).trans (State.thermalLimiter_unlimited ..)⟩

/-- A reading at the threshold of state 3 enters it. -/
theorem thermalState_highest {t1 t2 t3 cur reading : Nat} (h : t3 ≤ reading) : thermalState t1 t2 t3 cur reading = 3 := by
  simp [thermalState, h]

/-- A reading 3 °C below every threshold leaves every state. -/
theorem thermalState_zero {t1 t2 t3 cur reading : Nat} (h1 : reading + 3 ≤ t1) (h2 : reading + 3 ≤ t2)
    (h3 : reading + 3 ≤ t3) : thermalState t1 t2 t3 cur reading = 0 := by
  have hkeeps : ∀ k thr, reading + 3 ≤ thr →
      (decide (thr ≤ reading) || (decide (k ≤ cur) && decide (thr < reading + 3))) = false := fun k thr h => by
    rw [decide_eq_false (by omega : ¬ thr ≤ reading), decide_eq_false (Nat.not_lt.mpr h), Bool.and_false, Bool.or_false]
  simp only [thermalState, hkeeps _ _ h1, hkeeps _ _ h2, hkeeps _ _ h3, Bool.false_eq_true, if_false]

/-! ## Observation windows (R209, R372, R394) -/

/-- The flags that tenants see of the window ended. -/
def State.showWindow (s : State) (held : Bool) : State :=
  s.each s.existing fun s c => s.updCuvee c fun v => { v with shortSeen := s.mem.shortEnded.contains c, throttleSeen := held }

theorem State.showWindow_beyondCuvees (s : State) (held : Bool) : (s.showWindow held).beyondCuvees = s.beyondCuvees :=
  State.each_frame State.beyondCuvees _ _ _ fun _ _ => rfl

/-- Every cuvee that exists is shown the window's flags. -/
theorem State.showWindow_shows {s : State} {c : Nat} (hc : c ∈ s.existing) (held : Bool) :
    ((s.showWindow held).cuvee c).throttleSeen = held ∧
      ((s.showWindow held).cuvee c).shortSeen = s.mem.shortEnded.contains c := by
  have hmem : (s.showWindow held).mem = s.mem := congrArg (·.mem) (s.showWindow_beyondCuvees held)
  rw [← hmem]
  refine State.each_reaches (P := fun u => (u.cuvee c).throttleSeen = held ∧
    (u.cuvee c).shortSeen = u.mem.shortEnded.contains c) hc (fun u => by simp) (fun u d h => ?_) s
  by_cases hd : c = d
  · subst hd; simp
  · rw [State.cuvee_updCuvee_ne _ _ hd]; exact h

/-- OBSERVATION_WINDOW_END: the thermal state shown changes only once it has been held for its windows (R394). -/
theorem State.observationWindowEnd_shows {s : State} {held : Bool} {thermal : Nat}
    (h : s.power.windowEnded = some (held, thermal)) :
    s.observationWindowEnd.cuvees = (s.showWindow held).cuvees ∧ s.observationWindowEnd.power.windowEnded = none ∧
      (s.power.thermalHold ≤ 1 → s.observationWindowEnd.power.thermalView = thermal) ∧
      (1 < s.power.thermalHold → s.observationWindowEnd.power.thermalView = s.power.thermalView ∧
        s.observationWindowEnd.power.thermalHold = s.power.thermalHold - 1) := by
  have hpower : (s.showWindow held).power = s.power := congrArg (·.power) (s.showWindow_beyondCuvees held)
  unfold State.observationWindowEnd
  simp -zeta only [h]
  extract_lets u changes
  have hu : u = s.showWindow held := rfl
  rw [← hu] at hpower ⊢
  refine ⟨rfl, rfl, fun hold => ?_, fun hold => ?_⟩
  · simp only [State.updPower, changes, hpower, hold]
    by_cases hc : thermal = s.power.thermalView <;> simp [hc]
  · simp [State.updPower, changes, hpower, Nat.not_le.mpr hold]

/-- Settles O36: what a reading sets stands beside what the limiters and the episodes make of it. -/
theorem powerEvents : Obligations.PowerEvents := by
  unfold Obligations.PowerEvents
  refine ⟨⟨fun s milliW avg v hv => ?_, fun s => ⟨fun h => ?_, fun h hold => ?_⟩, fun s k slope h hs => ⟨?_, ?_⟩,
    fun s ts hp => ⟨fun h => ?_, fun h => ?_⟩, fun s held thermal h => ?_⟩,
    fun s milliW avg v hv => exec_powerSample_of_beyondRatings hv milliW avg s⟩
  · have hk := s.powerSample_unlimited milliW avg v.toNat
    exact ⟨_, exec_powerSample_of_withinRatings hv milliW avg s, congrArg (·.power.energyAcc) hk,
      congrArg (·.power.avg1ms) hk, congrArg (·.power.tenthsV) hk, congrArg (·.power.clk) hk,
      State.powerSample_limit_of_overload v.toNat⟩
  · exact ⟨_, rfl, State.clockStep_down h⟩
  · exact ⟨_, rfl, State.clockStep_up h hold⟩
  · exact ⟨_, rfl, State.phiStep_up h hs⟩
  · exact ⟨_, rfl, s.phiStep_down k slope⟩
  · refine ⟨_, rfl, ?_⟩
    rw [State.dieSensorRead_trips hp h]
    exact ⟨rfl, rfl, rfl, rfl, rfl⟩
  · obtain ⟨run, hk⟩ := s.dieReading_unlimited ts
    have hstate := congrArg (·.power.dieState) hk
    rw [← State.dieSensorRead_reads hp h] at hk hstate
    exact ⟨_, rfl, congrArg (·.power.dieTemps) hk, fun h105 => hstate.trans (thermalState_highest h105),
      fun h92 => hstate.trans (thermalState_zero (by omega) (by omega) (by omega)), congrArg (·.boot) hk⟩
  · obtain ⟨hcuvees, hended, hsettled, hheld⟩ := State.observationWindowEnd_shows h
    refine ⟨_, rfl, hended, hsettled, hheld, fun c hc => ?_⟩
    rw [State.cuvee, hcuvees]
    exact State.showWindow_shows hc held

end Sys2Proof.Machine

/-! # Admission at the defer limit, the correction and missed deadlines (R61, R357, R359) -/

namespace Sys2Proof.Machine

/-! ## DEFER_LIMIT (R357) -/

@[simp] theorem State.ledger_updLedger (s : State) (c : Nat) (f : LedgerC → LedgerC) :
    ((s.updLedger c f).cuvee c).ledger = f (s.cuvee c).ledger := by
  simp [State.updLedger]

/-- An admitted row joins the issue queue as it stands, but for the charge it bears. -/
theorem State.admitRow_queues (s : State) (x : RowInst) : ∃ y, (s.admitRow x).alm = { s.alm with issue := s.alm.issue ++ [y] } ∧
    y.seg = x.seg ∧ y.idx = x.idx ∧ y.row = x.row := ⟨_, rfl, rfl, rfl, rfl⟩

/-- What one bucket does not give of the charge the other does, whatever that makes of it (R357). -/
theorem State.admitRow_charges (s : State) (x : RowInst) :
    ((s.admitRow x).cuvee x.seg).ledger.gen + ((s.admitRow x).cuvee x.seg).ledger.res =
        (s.cuvee x.seg).ledger.gen + (s.cuvee x.seg).ledger.res - (s.charge x.seg x.row : Nat) * 256 ∧
      ((s.admitRow x).cuvee x.seg).ledger.overflow = (s.cuvee x.seg).ledger.overflow := by
  unfold State.admitRow
  extract_lets cost l fromR u
  have hl : ((u.queueRow { x with chargeR := fromR, chargeG := cost - fromR }).cuvee x.seg).ledger =
      { l with res := l.res - fromR, gen := l.gen - (cost - fromR), curE := l.curE + rowEnergy x.row } :=
    s.ledger_updLedger x.seg fun l =>
      { l with res := l.res - fromR, gen := l.gen - (cost - fromR), curE := l.curE + rowEnergy x.row }
  rw [hl]
  clear_value fromR
  exact ⟨by simp only [cost, l]; omega, rfl⟩

/-- The row at its limit is admitted, and none waits behind it; only a full table of deferred rows is counted. -/
theorem State.deferLimit_eq {s : State} {x : RowInst} (hx : s.limitDue = some x) (hp : s.alm.present = [x]) :
    s.deferLimit x.seg x.idx = if s.deferSpent x then s.popPresent.admitRow x
      else (s.popPresent.admitRow x).updLedger x.seg fun l => { l with overflow := (l.overflow + 1) % 2 ^ 32 } := by
  have hpop : s.popPresent.alm.present = [] := by simp [State.popPresent, hp]
  have hadmit : (s.popPresent.admitRow x).alm.present = [] := hpop
  have hcount : ∀ f, ((s.popPresent.admitRow x).updLedger x.seg f).alm.present = [] := fun _ => hpop
  unfold State.deferLimit
  cases hspent : s.deferSpent x <;> simp [hx, hspent, hadmit, hcount, State.presentAll]

theorem State.deferLimit_alm {s : State} {x : RowInst} (hx : s.limitDue = some x) (hp : s.alm.present = [x]) :
    (s.deferLimit x.seg x.idx).alm = (s.popPresent.admitRow x).alm := by
  rw [State.deferLimit_eq hx hp]
  split <;> rfl

theorem State.deferLimit_ledger {s : State} {x : RowInst} (hx : s.limitDue = some x) (hp : s.alm.present = [x]) :
    ((s.deferLimit x.seg x.idx).cuvee x.seg).ledger =
      { ((s.popPresent.admitRow x).cuvee x.seg).ledger with
        overflow := if s.deferSpent x then (s.cuvee x.seg).ledger.overflow
          else ((s.cuvee x.seg).ledger.overflow + 1) % 2 ^ 32 } := by
  have hover : ((s.popPresent.admitRow x).cuvee x.seg).ledger.overflow = (s.cuvee x.seg).ledger.overflow :=
    (s.popPresent.admitRow_charges x).2
  rw [State.deferLimit_eq hx hp, ← hover]
  split
  · rfl
  · exact State.ledger_updLedger ..

/-! ## CORRECTION_UPDATE (R359) -/

theorem State.correctionUpdate_corrects {s : State} {c : Nat} (h : (s.cuvee c).ledger.due = true) :
    ((s.correctionUpdate c).cuvee c).ledger = { (s.cuvee c).ledger with
      k := correctedK (s.cuvee c).ledger.k (s.cuvee c).ledger.sumA (s.cuvee c).ledger.sumE
      sumA := 0, sumE := 0, ticks := 0, due := false } := by
  simp [State.correctionUpdate, h]

/-! ## DEADLINE_MISS (R61) -/

/-- What stands when watched work ends: the segments and the tiles. -/
def State.unwatched (s : State) : Sparse Segment × Sparse Tile := (s.alm.segs, s.tiles)

@[simp] theorem State.workDone_unwatched (s : State) (w : Watch) : (s.workDone w).unwatched = s.unwatched := by
  simp [State.workDone, State.unwatched]

@[simp] theorem State.holidaysEnd_unwatched (s : State) : s.holidaysEnd.unwatched = s.unwatched :=
  State.each_frame State.unwatched _ _ _ fun u w => by
    simp only []
    split
    · rfl
    · exact u.workDone_unwatched w

theorem State.holidaysEnd_slotCount (s : State) : s.holidaysEnd.slotCount = s.slotCount := by
  rw [State.slotCount, State.time_of_kept s.holidaysEnd_kept]
  rfl

/-- A change of the watch that is found shows in it. -/
theorem State.watch_updWatch {s : State} {id : Nat} {w : Watch} (h : s.watch id = some w) {f : Watch → Watch}
    (hf : ∀ w, (f w).id = w.id) : (s.updWatch id f).watch id = some (f w) := by
  have hp : ((fun w : Watch => w.id == id) ∘ fun w => if w.id = id then f w else w) = fun w => w.id == id := by
    funext v
    by_cases hv : v.id = id <;> simp [hv, hf]
  have hid : w.id = id := by simpa using List.find?_some h
  unfold State.watch at h ⊢
  rw [State.updWatch, List.find?_map, hp, h]
  simp [hid]

/-- What a missed deadline is noted in beside its segment's count and its watch: the estate's counter, the daybook and the
signal. -/
def State.noteMiss (s : State) (w : Watch) : State :=
  let s := if w.row.seg = 0 then s.count (8 * 5100 + 7) 1 else s
  let s := s.daybook w.row.seg 2 7 0 1 w.tag 0 0 0
  let s := if w.row.seg = 0 then s else s.bookTrigger w.row.seg 3 w.tag
  s.signal flitDeadline (payDeadline w.cuvee w.tag)

@[simp] theorem State.noteMiss_still (s : State) (w : Watch) : (s.noteMiss w).still = s.still := by
  unfold State.noteMiss
  by_cases h : w.row.seg = 0 <;> simp [h]

@[simp] theorem State.stepLate_still (s : State) (c : Nat) (w : Watch) : (s.stepLate c w).still = s.still := by
  unfold State.stepLate State.stepRequests
  (repeat' split) <;> simp

theorem State.deadlineMiss_eq {s : State} {id d : Nat} {w : Watch} (hw : s.holidaysEnd.watch id = some w)
    (hd : w.deadline = some d) (hl : w.late = false) (hc : w.complete = false) (h : d ≤ s.slotCount) :
    s.deadlineMiss id = (((s.holidaysEnd.updSeg w.row.seg fun g => { g with dlMisses := (g.dlMisses + 1) % 2 ^ 64 }).noteMiss
      w).updWatch id fun w => { w with late := true }).stepLate w.cuvee w := by
  unfold State.deadlineMiss
  simp [hw, hd, hl, hc, Nat.not_lt.mpr h, State.holidaysEnd_slotCount, State.noteMiss]

/-- A missed deadline is counted against the segment, and its work goes on, marked late. -/
theorem State.deadlineMiss_late {s : State} {id d : Nat} {w : Watch} (hw : s.holidaysEnd.watch id = some w)
    (hd : w.deadline = some d) (hl : w.late = false) (hc : w.complete = false) (h : d ≤ s.slotCount) :
    (s.deadlineMiss id).watch id = some { w with late := true } ∧
      ((s.deadlineMiss id).seg w.row.seg).dlMisses = ((s.seg w.row.seg).dlMisses + 1) % 2 ^ 64 ∧
      (s.deadlineMiss id).tiles = s.tiles := by
  have hs := State.deadlineMiss_eq hw hd hl hc h
  obtain ⟨hsegs, htiles⟩ := Prod.mk.inj s.holidaysEnd_unwatched
  have hseg : s.holidaysEnd.seg w.row.seg = s.seg w.row.seg :=
    congrArg (Sparse.getD · w.row.seg default) hsegs
  generalize s.holidaysEnd = u at *
  generalize hv : u.updSeg w.row.seg _ = v at hs
  have hwatch : (v.noteMiss w).watch id = some w := by
    rw [State.watch, State.still_alm (v.noteMiss_still w), ← hv]
    exact hw
  have hlast := State.stepLate_still ((v.noteMiss w).updWatch id fun w => { w with late := true }) w.cuvee w
  rw [← hs] at hlast
  refine ⟨?_, ?_, ?_⟩
  · rw [State.watch, State.still_alm hlast]
    exact State.watch_updWatch hwatch fun _ => rfl
  · rw [State.seg_of_alm (State.still_alm hlast)]
    calc ((v.noteMiss w).seg w.row.seg).dlMisses = (v.seg w.row.seg).dlMisses := by
          rw [State.seg_of_alm (State.still_alm (v.noteMiss_still w))]
      _ = ((s.seg w.row.seg).dlMisses + 1) % 2 ^ 64 := by rw [← hv, State.seg_updSeg, hseg]
  · calc (s.deadlineMiss id).tiles
      _ = ((v.noteMiss w).updWatch id fun w => { w with late := true }).tiles := State.still_tiles hlast
      _ = (v.noteMiss w).tiles := rfl
      _ = v.tiles := State.still_tiles (v.noteMiss_still w)
      _ = s.tiles := by rw [← hv]; exact htiles

/-- Settles O19: the two buckets bear the whole charge between them, and what follows a missed deadline leaves the almanac and
the tiles. -/
theorem ledgerAndDeadlines : Obligations.LedgerAndDeadlines := by
  unfold Obligations.LedgerAndDeadlines
  refine ⟨fun s x hx hp => ?_, fun s c hdue => ?_, fun s id d w hw hd hl hc h => ?_⟩
  · obtain ⟨y, halm, hseg, hidx, hrow⟩ := s.popPresent.admitRow_queues x
    have hpop : s.popPresent.alm.present = [] := by simp [State.popPresent, hp]
    refine ⟨_, y, rfl, ?_⟩
    rw [State.deferLimit_alm hx hp, State.deferLimit_ledger hx hp, halm]
    exact ⟨hpop, rfl, hseg, hidx, hrow, (s.popPresent.admitRow_charges x).1, rfl⟩
  · have hl := State.correctionUpdate_corrects hdue
    exact ⟨_, rfl, by rw [hl], by rw [hl], by rw [hl], by rw [hl], by rw [hl]⟩
  · obtain ⟨hwatch, hmiss, htiles⟩ := State.deadlineMiss_late hw hd hl hc h
    exact ⟨_, _, rfl, hwatch, rfl, hmiss, htiles⟩

end Sys2Proof.Machine

/-! # Units return to the pool, the estate stops, a parcel reset ends (R238, R253, R364, R452, R454)

What is done to each unit of a list holds of each of them afterwards. A stop of the estate goes through what its cuvees go
through, and of all that only the freeze of a cuvee reaches the estate's state. -/

namespace Sys2Proof.Machine

/-! ## Tiles and pseudo-channels that are zeroed or retired -/

theorem State.tile_zeroTile (s : State) (t : Nat) : (s.zeroTile t).tile t = { Tile.init with retired := (s.tile t).retired } :=
  State.tile_setTile ..

theorem State.tile_zeroTile_ne (s : State) {t k : Nat} (h : k ≠ t) : (s.zeroTile t).tile k = s.tile k :=
  Sparse.getD_set_ne _ _ _ _ h

/-- Zeroing each tile of a list leaves each of them idle and held by no cuvee (R364). -/
theorem State.each_zeroTile_idle (s : State) {l : List Nat} {k : Nat} (hk : k ∈ l) :
    ((s.each l State.zeroTile).tile k).act = .idle ∧ ((s.each l State.zeroTile).tile k).cuvee = 0 :=
  State.each_reaches (P := fun u => (u.tile k).act = .idle ∧ (u.tile k).cuvee = 0) hk
    (fun u => by rw [State.tile_zeroTile]; exact ⟨rfl, rfl⟩)
    (fun u t h => by
      by_cases ht : k = t
      · subst ht; rw [State.tile_zeroTile]; exact ⟨rfl, rfl⟩
      · rwa [State.tile_zeroTile_ne _ ht]) s

theorem State.tile_retireTile (s : State) (t k : Nat) :
    (s.retireTile t).tile k = (s.updTile t fun x => { x with retired := true }).tile k := rfl

theorem State.retireTile_retired (s : State) (t : Nat) : ((s.retireTile t).tile t).retired = true := by
  rw [State.tile_retireTile, State.tile_updTile]

theorem State.each_retireTile_retired (s : State) {l : List Nat} {k : Nat} (hk : k ∈ l) :
    ((s.each l State.retireTile).tile k).retired = true :=
  State.each_reaches (P := fun u => (u.tile k).retired = true) hk (fun u => u.retireTile_retired k)
    (fun u t h => by
      by_cases ht : k = t
      · subst ht; exact u.retireTile_retired k
      · rwa [State.tile_retireTile, State.tile_updTile_ne _ _ ht]) s

theorem State.pc_retirePc (s : State) (j k : Nat) :
    (s.retirePc j).pc k = (s.updPc j fun x => { x with retired := true }).pc k := rfl

theorem State.retirePc_retired (s : State) (k : Nat) : ((s.retirePc k).pc k).retired = true := by
  rw [State.pc_retirePc, State.pc_updPc]

theorem State.each_retirePc_retired (s : State) {l : List Nat} {k : Nat} (hk : k ∈ l) :
    ((s.each l State.retirePc).pc k).retired = true :=
  State.each_reaches (P := fun u => (u.pc k).retired = true) hk (fun u => u.retirePc_retired k)
    (fun u j h => by
      by_cases hj : k = j
      · subst hj; exact u.retirePc_retired k
      · rwa [State.pc_retirePc, State.pc_updPc_ne _ _ hj]) s

/-! ## CLUSTER_POWER_UP (R364) and POOL_RETURN (R238, R253) -/

theorem State.clusterPowerUp_idle {s : State} {d : Nat} (hd : s.domain d = 1) {e : Nat × Nat} (he : e ∈ s.muster.tileMap)
    (hc : physCluster e.2 = d) :
    ((s.clusterPowerUp d).tile e.1).act = .idle ∧ ((s.clusterPowerUp d).tile e.1).cuvee = 0 := by
  unfold State.clusterPowerUp
  rw [if_neg (not_not.mpr hd)]
  exact s.each_zeroTile_idle (List.mem_map_of_mem (List.mem_filter.mpr ⟨he, beq_iff_eq.mpr hc⟩))

theorem State.clusterPowerUp_on {s : State} {d : Nat} (hd : s.domain d = 1) : (s.clusterPowerUp d).domain d = 2 := by
  unfold State.clusterPowerUp
  rw [if_neg (not_not.mpr hd)]
  exact Sparse.getD_set_self 0 _ d 2

/-- The unit is no longer awaited from its scrub. -/
def State.scrubbed (s : State) (isTile : Bool) (u : Nat) : State :=
  { s with dict := { s.dict with scrubbing := s.dict.scrubbing.filter (· != (isTile, u)) } }

theorem State.scrubbed_forgets (s : State) (isTile : Bool) (u : Nat) : (isTile, u) ∉ (s.scrubbed isTile u).dict.scrubbing := by
  simp [State.scrubbed]

/-- A unit whose scrub has ended: zeroed where it ended well, retired where it failed. -/
def State.unitBack (s : State) (isTile : Bool) (u : Nat) (ok : Bool) : State :=
  match isTile, ok with
  | true, true => s.zeroTile u
  | true, false => s.retireTile u
  | false, true => s.zeroPc u
  | false, false => s.retirePc u

section
variable {s : State} {isTile : Bool} {k : Nat} (hk : (isTile, k) ∈ s.dict.scrubbing)
  (hr : s.inReset (if isTile then tileParcel k else pcParcel k) = false) (ok : Bool)
include hk hr

theorem State.poolReturn_eq : s.poolReturn isTile k ok = (s.scrubbed isTile k).unitBack isTile k ok := by
  unfold State.poolReturn
  rw [if_neg (by simp [hr, hk])]
  cases isTile <;> cases ok <;> rfl

theorem State.poolReturn_forgets : (isTile, k) ∉ (s.poolReturn isTile k ok).dict.scrubbing := by
  have hforgets := s.scrubbed_forgets isTile k
  rw [State.poolReturn_eq hk hr]
  cases isTile <;> cases ok <;> exact hforgets

end

theorem State.readByte_zeroTile (s : State) {k off : Nat} (h : off < 2 ^ 20) :
    readByte (s.zeroTile k).mem.store (storeKey k off) = 0 :=
  readByte_zeroBytes _ _ _ (.inl (by unfold storeKey; omega))

theorem State.readByte_zeroPc (s : State) {k off : Nat} (h : off < 2 ^ 31) :
    readByte (s.zeroPc k).mem.hbm (hbmKey k off) = 0 :=
  readByte_zeroBytes _ _ _ (.inl (by unfold hbmKey; omega))

/-! ## PARCEL_RESET_DONE (R454) -/

theorem State.etime_of_time {s t : State} (h : t.time = s.time) : t.etime = s.etime := by
  unfold State.etime State.fraction State.slotStart State.slotLen
  rw [h]

theorem State.pc_of_pcs {s u : State} (h : u.mem.pcs = s.mem.pcs) (k : Nat) : u.pc k = s.pc k :=
  congrArg (fun m : Sparse Pc => m.getD k Pc.init) h

theorem State.mem_tiles_of_parcelUnits {s : State} {p k : Nat} (h : (true, k) ∈ s.parcelUnits p) :
    k ∈ ((s.parcelUnits p).filter fun u => u.1).map Prod.snd :=
  List.mem_map.mpr ⟨_, List.mem_filter.mpr ⟨h, rfl⟩, rfl⟩

theorem State.mem_pcs_of_parcelUnits {s : State} {p k : Nat} (h : (false, k) ∈ s.parcelUnits p) :
    k ∈ ((s.parcelUnits p).filter fun u => !u.1).map Prod.snd :=
  List.mem_map.mpr ⟨_, List.mem_filter.mpr ⟨h, rfl⟩, rfl⟩

theorem State.parcelResetDone_retires {s : State} {p : Nat} (h : s.inReset p = true) (tiles : List Nat) (r : TrainingResult) :
    (s.parcelResetDone p tiles r).faults.resetPhase = 2 ∧ (s.parcelResetDone p tiles r).faults.resetDone = s.etime ∧
      (∀ u ∈ s.parcelUnits p, u ∉ (s.parcelResetDone p tiles r).dict.scrubbing) ∧
      (∀ k ∈ tiles, (true, k) ∈ s.parcelUnits p → ((s.parcelResetDone p tiles r).tile k).retired = true) ∧
      ∀ k, (false, k) ∈ s.parcelUnits p → s.muster.pcMap.getD k 0 % 32 ∈ trainFailed r ++ testFailed r →
        ((s.parcelResetDone p tiles r).pc k).retired = true := by
  unfold State.parcelResetDone
  rw [if_neg (by simp [h])]
  extract_lets units ts pcs u v w phys bad margin margins x blank y stamp
  have hmap : w.muster.pcMap = s.muster.pcMap := by
    calc w.muster.pcMap
      _ = v.muster.pcMap := State.each_frame (·.muster.pcMap) State.retireTile _ v fun _ _ => rfl
      _ = u.muster.pcMap := State.each_frame (·.muster.pcMap) State.zeroPc _ u fun _ _ => rfl
      _ = s.muster.pcMap := State.each_frame (·.muster.pcMap) State.zeroTile _ s fun _ _ => rfl
  have htime : y.time = s.time := State.time_of_kept (by simp [y, x, w, v, u, State.each_kept])
  have htiles : x.tiles = w.tiles := State.each_frame State.tiles State.retirePc bad w fun _ _ => rfl
  refine ⟨rfl, ?_, fun a ha => ?_, fun k hk hu => ?_, fun k hk hbad => ?_⟩
  · exact State.etime_of_time htime
  · simp [units, ha]
  · have hw : (w.tile k).retired = true := v.each_retireTile_retired
      (List.mem_filter.mpr ⟨hk, List.contains_iff_mem.mpr (State.mem_tiles_of_parcelUnits hu)⟩)
    refine (congrArg Tile.retired (State.tile_of_tiles (s := w) ?_ k)).trans hw
    exact htiles
  · have hphys : phys k = s.muster.pcMap.getD k 0 % 32 := by simp only [phys, hmap]
    have hx : (x.pc k).retired = true := w.each_retirePc_retired
      (List.mem_filter.mpr ⟨State.mem_pcs_of_parcelUnits hk, List.contains_iff_mem.mpr (hphys ▸ hbad)⟩)
    refine (congrArg Pc.retired (State.pc_of_pcs (s := x) ?_ k)).trans hx
    rfl

/-! ## The estate's state and EstateFault (R452)

What a cuvee's work does on the way to a stop leaves both; only the freeze of a cuvee may go on to STOPPED. -/

/-- The estate's state and the record of the fault that stopped it. -/
def State.stopMark (s : State) : Nat × Blob := (s.faults.estateState, s.faults.estateFault)

theorem State.stopMark_of_beyondCuvees {s t : State} (h : t.beyondCuvees = s.beyondCuvees) : t.stopMark = s.stopMark :=
  (congrArg State.stopMark h :)

@[simp] theorem State.stopMark_ite (p : Prop) [Decidable p] (s t : State) :
    (if p then s else t).stopMark = if p then s.stopMark else t.stopMark := apply_ite ..

theorem State.each_stopMark {α : Type} (s : State) (l : List α) {f : State → α → State}
    (hf : ∀ s x, (f s x).stopMark = s.stopMark) : (s.each l f).stopMark = s.stopMark := State.each_frame State.stopMark f l s hf

/-! ### Records, memory and translation -/

section
variable (s : State) (c : Nat)

@[simp] theorem State.updCuvee_stopMark (f : Cuvee → Cuvee) : (s.updCuvee c f).stopMark = s.stopMark := rfl
@[simp] theorem State.updServing_stopMark (f : Serving → Serving) : (s.updServing c f).stopMark = s.stopMark := rfl
@[simp] theorem State.signal_stopMark (kind payload : Nat) : (s.signal kind payload).stopMark = s.stopMark := rfl
@[simp] theorem State.holidayRecord_stopMark (scope target : Nat) (incomplete : Bool) :
    (s.holidayRecord scope target incomplete).stopMark = s.stopMark := rfl
@[simp] theorem State.logCuvee_stopMark (kind cls flags unit arg0 arg1 detail : Nat) (tileUnit : Bool) :
    (s.logCuvee c kind cls flags unit arg0 arg1 detail tileUnit).stopMark = s.stopMark := rfl
@[simp] theorem State.plainFault_stopMark (kind cls unit arg0 arg1 detail : Nat) :
    (s.plainFault c kind cls unit arg0 arg1 detail).stopMark = s.stopMark := rfl

@[simp] theorem State.tally_stopMark (k n : Nat) : (s.tally c k n).stopMark = s.stopMark :=
  State.stopMark_of_beyondCuvees (s.tally_beyondCuvees ..)

@[simp] theorem State.inject_stopMark (p : Packet) : (s.inject p).stopMark = s.stopMark :=
  (State.tally_stopMark ..).trans (State.tally_stopMark ..)

@[simp] theorem State.daybook_stopMark (kind engine unit code tag a0 a1 a2 : Nat) :
    (s.daybook c kind engine unit code tag a0 a1 a2).stopMark = s.stopMark :=
  State.stopMark_of_beyondCuvees (s.daybook_beyondCuvees ..)

@[simp] theorem State.cmdStatusIf_stopMark (code phase result cause : Nat) :
    (s.cmdStatusIf c code phase result cause).stopMark = s.stopMark :=
  State.stopMark_of_beyondCuvees (s.cmdStatusIf_beyondCuvees ..)

@[simp] theorem State.jobEnd_stopMark (engine code tag arg0 status arg2 : Nat) :
    (s.jobEnd c engine code tag arg0 status arg2).stopMark = s.stopMark := by
  unfold State.jobEnd
  split
  · rfl
  · exact s.daybook_stopMark ..

@[simp] theorem State.hostWrite_stopMark (p : HostPort) (fn addr : Nat) (bs : List Byte) (noSnoop : Bool) (tee : Option Nat) :
    (s.hostWrite p fn addr bs noSnoop tee).stopMark = s.stopMark := by
  cases p <;> rfl

@[simp] theorem State.touchLine_stopMark (k line mask policy sectors : Nat) (write : Bool) :
    (s.touchLine k line c mask policy sectors write).2.stopMark = s.stopMark := by
  unfold State.touchLine
  simp only []
  (repeat' split) <;> rfl

@[simp] theorem State.memTraffic_stopMark (k off n label policy : Nat) (write : Bool) :
    (s.memTraffic k off n c label policy write).stopMark = s.stopMark := by
  unfold State.memTraffic
  extract_lets u v line secs r
  have hv : v.stopMark = s.stopMark := by
    unfold v
    split
    · exact (State.tally_stopMark ..).trans rfl
    · rfl
  rw [State.stopMark_ite, State.tally_stopMark, ite_self, State.touchLine_stopMark, hv]

@[simp] theorem State.memWrite_stopMark (k off : Nat) (bs : List Byte) (label policy : Nat) :
    (s.memWrite k off bs c label policy).stopMark = s.stopMark := (State.memTraffic_stopMark ..).trans rfl

@[simp] theorem State.openSample_stopMark (k l : Nat) : (s.openSample k l).stopMark = s.stopMark := rfl

@[simp] theorem State.resolved_stopMark (va len label : Nat) (write : Bool) (r : Except Nat Leaf × State) :
    (State.resolved c va len label write r).2.stopMark = r.2.stopMark := by
  unfold State.resolved
  (repeat' split) <;> rfl

@[simp] theorem State.translate_stopMark (va len label : Nat) (write : Bool) :
    (s.translate c va len label write).2.stopMark = s.stopMark := by
  unfold State.translate State.walkCounted
  extract_lets root r places u
  rw [State.resolved_stopMark, State.updCuvee_stopMark]
  exact s.each_stopMark _ fun s p => by rw [State.openSample_stopMark, State.memTraffic_stopMark]

theorem State.vaWriteChunks_stopMark (label : Nat) (l : List (Nat × Nat)) (bs : List Byte) :
    (s.vaWriteChunks c label l bs).2.stopMark = s.stopMark := by
  induction l generalizing s bs with
  | nil => rfl
  | cons e rest ih =>
    unfold State.vaWriteChunks
    simp only []
    split
    · exact s.translate_stopMark ..
    · rw [ih, State.memWrite_stopMark, State.translate_stopMark]
    · rw [ih, State.stopMark_ite, State.hostTraffic, State.updCuvee_stopMark, State.tally_stopMark, State.hostWrite_stopMark,
        ite_self, State.translate_stopMark]
    · rw [ih, State.inject_stopMark, State.translate_stopMark]

@[simp] theorem State.coreWrite_stopMark (va : Nat) (bs : List Byte) : (s.coreWrite c va bs).stopMark = s.stopMark := by
  unfold State.coreWrite State.vaWrite
  simp only []
  split
  · exact s.vaWriteChunks_stopMark ..
  · rw [State.plainFault_stopMark, State.vaWriteChunks_stopMark]

end

/-! ### Hand-overs -/

section
variable (s : State) (c : Nat)

@[simp] theorem State.completeJob_stopMark (j : Job) (result units cask : Nat) :
    (s.completeJob c j result units cask).stopMark = s.stopMark := by
  unfold State.completeJob State.complete
  simp only []
  split <;> rfl

@[simp] theorem State.setCask_stopMark (id : Nat) (x : Cask) : (s.setCask c id x).stopMark = s.stopMark := by
  simp [State.setCask]

@[simp] theorem State.dropStream_stopMark (x : Cask) (st : Nat) : (s.dropStream x st).stopMark = s.stopMark := by
  unfold State.dropStream
  split
  · rfl
  · simp only []
    split
    · rfl
    · exact State.jobEnd_stopMark ..

@[simp] theorem State.logOutcome_stopMark (uid vintage outcome receiver device : Nat) :
    (s.logOutcome c uid vintage outcome receiver device).stopMark = s.stopMark := by
  unfold State.logOutcome
  split
  · rfl
  · exact State.coreWrite_stopMark ..

@[simp] theorem State.withdraw_stopMark (id : Nat) (x : Cask) : (s.withdraw c id x).stopMark = s.stopMark := by
  have hcount : ((s.logOutcome c x.uid (x.vintage + 1) 3 0 x.peer).caskCount c 3).stopMark = s.stopMark :=
    s.logOutcome_stopMark ..
  unfold State.withdraw State.endOffer
  simp only []
  split <;> simp [hcount]

@[simp] theorem State.dropIncoming_stopMark (id : Nat) (x : Cask) : (s.dropIncoming c id x).stopMark = s.stopMark :=
  State.coreWrite_stopMark ..

@[simp] theorem State.refuseStream_stopMark (k tag : Nat) : (s.refuseStream k tag).stopMark = s.stopMark := by
  unfold State.refuseStream
  split <;> rfl

@[simp] theorem State.loseCask_stopMark (id : Nat) : (s.loseCask c id).stopMark = s.stopMark :=
  State.each_stopMark _ _ fun s _ => s.completeJob_stopMark ..

@[simp] theorem State.sendCask_stopMark (m : CaskMsg) : (s.sendCask m).stopMark = s.stopMark := by
  unfold State.sendCask State.forwardMsg
  split
  · split <;> rfl
  · rfl

/-- The hand-overs of frozen cuvees end. -/
@[simp] theorem State.casksCut_stopMark : s.casksCut.stopMark = s.stopMark :=
  s.each_stopMark _ fun s c => by
    unfold State.caskCut
    split
    · rfl
    · exact s.each_stopMark _ fun s e => by simp [State.declineIncoming]

/-! ### The halt of a cuvee's work -/

@[simp] theorem State.updTile_stopMark (t : Nat) (f : Tile → Tile) : (s.updTile t f).stopMark = s.stopMark := rfl

@[simp] theorem State.squashTile_stopMark (t : Nat) (act : TileAct) : (s.squashTile t act).stopMark = s.stopMark := by
  unfold State.squashTile
  simp only []
  rw [State.updTile_stopMark]
  split <;> simp

@[simp] theorem State.seedStreams_stopMark (t : Nat) (resumed : Bool) : (s.seedStreams t resumed).stopMark = s.stopMark := rfl

@[simp] theorem State.resumeTile_stopMark (t : Nat) : (s.resumeTile t).stopMark = s.stopMark := by
  unfold State.resumeTile
  extract_lets x u
  rw [State.updTile_stopMark]
  unfold u
  split
  · rw [State.seedStreams_stopMark, State.updTile_stopMark]
  · rfl

@[simp] theorem State.callQuiesce_stopMark (scope target cause : Nat) (limit : Instant) :
    (s.callQuiesce c scope target cause limit).stopMark = s.stopMark := by
  unfold State.callQuiesce
  simp only []
  (repeat' split) <;> rfl

@[simp] theorem State.abandonPlan_stopMark (cause : Nat) : (s.abandonPlan c cause).stopMark = s.stopMark := by
  unfold State.abandonPlan
  extract_lets v own u w dests dict x y
  have hx : x.stopMark = s.stopMark := State.each_stopMark _ _ fun _ _ => rfl
  have hy : y.stopMark = s.stopMark := by
    unfold y
    split
    · exact (State.each_stopMark _ _ fun s t => s.resumeTile_stopMark t).trans hx
    · exact hx
  split
  · exact hy
  · rw [State.cmdStatusIf_stopMark, hy]

@[simp] theorem State.sendSquash_stopMark (reason : Nat) : (s.sendSquash c reason).stopMark = s.stopMark :=
  State.each_stopMark _ _ fun _ _ => rfl

@[simp] theorem State.raiseFlare_stopMark (g : Nat) : (s.raiseFlare g).stopMark = s.stopMark :=
  State.each_stopMark _ _ fun _ _ => rfl

end

/-- The estate is STOPPING or STOPPED for the fault of record r. -/
def State.Halted (s : State) (r : Blob) : Prop :=
  (s.faults.estateState = 1 ∨ s.faults.estateState = 2) ∧ s.faults.estateFault = r

theorem State.Halted.of_stopMark {s t : State} {r : Blob} (h : t.stopMark = s.stopMark) (hs : s.Halted r) : t.Halted r := by
  obtain ⟨hstate, hfault⟩ := Prod.mk.inj h
  exact ⟨by rw [hstate]; exact hs.1, hfault.trans hs.2⟩

section
variable {s : State} {r : Blob} (h : s.Halted r)
include h

theorem State.Halted.stopIfFrozen : s.stopIfFrozen.Halted r := by
  unfold State.stopIfFrozen
  split
  · exact ⟨.inr rfl, h.2⟩
  · exact h

theorem State.Halted.freezeCuvee (c cause : Nat) (incomplete : Bool) : (s.freezeCuvee c cause incomplete).Halted r := by
  unfold State.freezeCuvee
  extract_lets v t u w x y
  have hw : w.stopMark = s.stopMark := by unfold w; split <;> simp [u, t]
  have hx : x.stopMark = s.stopMark := by
    unfold x
    split <;> simp [hw]
  have hy : y.stopMark = s.stopMark := by
    unfold y
    split <;> simp [hx]
  exact (h.of_stopMark hy).stopIfFrozen

theorem State.Halted.cutCuvee (c : Nat) (incomplete : Bool) : (s.cutCuvee c incomplete).Halted r := by
  unfold State.cutCuvee
  split
  · exact h
  · next q _ =>
    extract_lets stamp apply t u v w x
    have hx : x.Halted r := h.of_stopMark <| calc x.stopMark
      _ = w.stopMark := w.updCuvee_stopMark ..
      _ = v.stopMark := v.holidayRecord_stopMark ..
      _ = u.stopMark := u.signal_stopMark ..
      _ = t.stopMark := t.daybook_stopMark ..
      _ = s.stopMark := s.updCuvee_stopMark ..
    split
    · exact hx
    · exact hx.freezeCuvee ..

theorem State.Halted.stopNow (c : Nat) : (s.stopNow c).Halted r := by
  unfold State.stopNow
  extract_lets t u v w
  have ht : t.stopMark = s.stopMark := by unfold t; split <;> simp
  have hw : w.stopMark = s.stopMark := calc w.stopMark
    _ = v.stopMark := v.updCuvee_stopMark ..
    _ = u.stopMark := u.callQuiesce_stopMark ..
    _ = t.stopMark := t.each_stopMark _ fun s t => s.squashTile_stopMark ..
    _ = s.stopMark := ht
  split
  · exact (h.of_stopMark hw).cutCuvee ..
  · exact h.of_stopMark hw

end

/-! ### ESTATE_FATAL (R452) -/

theorem State.bookTrigger_cuvees (s : State) (c src tag : Nat) : (s.bookTrigger c src tag).cuvees = s.cuvees := by
  unfold State.bookTrigger
  extract_lets
  split
  · rfl
  · split <;> rfl

/-- The fault of record r is in force and in the logs; the cuvees still stand as they did. -/
def State.haltLogged (s : State) (r : Blob) : State :=
  (({ s with faults := { s.faults with estateState := 1, estateFault := r } }).logEstate r).bookTrigger 0 2 0

theorem State.haltLogged_stopMark (s : State) (r : Blob) : (s.haltLogged r).stopMark = (1, r) :=
  State.stopMark_of_beyondCuvees (State.bookTrigger_beyondCuvees ..)

theorem State.haltLogged_cuvees (s : State) (r : Blob) : (s.haltLogged r).cuvees = s.cuvees := State.bookTrigger_cuvees ..

/-- The cuvees given are marked as cut short. -/
def State.markIncomplete (s : State) (cs : List Nat) : State :=
  s.each cs fun s c => s.updCuvee c fun v => { v with cutIncomplete := true }

/-- The cuvees that run or are paused are stopped at once where the fault is in the machinery that would freeze them, and
quiesce otherwise. -/
def State.haltCuvees (s : State) (source : Nat) : State :=
  let live := s.existing.filter fun c => (s.cuvee c).live
  if suspectMachinery source then (s.each live State.stopNow).markIncomplete s.existing
  else s.each live fun s c => s.callQuiesce c 1 0 2 (s.time.now + 1000000)

theorem State.estateStop_eq {s : State} (h : s.faults.estateState = 0) (source : Nat) :
    s.estateStop source =
      ((s.haltLogged (faultRecord s.stamp 0x0D 3 0 0 0 source 0 0)).haltCuvees source).stopIfFrozen := by
  unfold State.estateStop
  rw [if_neg (not_not.mpr h)]
  rfl

theorem State.markIncomplete_stopMark (s : State) (cs : List Nat) : (s.markIncomplete cs).stopMark = s.stopMark :=
  s.each_stopMark cs fun _ _ => rfl

theorem State.Halted.haltCuvees {s : State} {r : Blob} (h : s.Halted r) (source : Nat) : (s.haltCuvees source).Halted r := by
  unfold State.haltCuvees
  extract_lets live
  split
  · exact (State.each_keeps (State.Halted · r) State.stopNow live (fun _ c hu => hu.stopNow c) h).of_stopMark
      (State.markIncomplete_stopMark ..)
  · exact h.of_stopMark (s.each_stopMark _ fun u c => u.callQuiesce_stopMark ..)

/-- No cuvee that exists is RUNNING or PAUSED. -/
def State.atRest (s : State) : Prop := ∀ c ∈ s.existing, (s.cuvee c).live = false

theorem State.atRest.updCuvee {s : State} (h : s.atRest) (c : Nat) {f : Cuvee → Cuvee} (hf : ∀ v, (f v).state = v.state) :
    (s.updCuvee c f).atRest := fun d hd => by
  have hlive := h d (State.mem_existing_of_updCuvee hf hd)
  by_cases hc : d = c
  · subst hc
    rw [State.cuvee_updCuvee]
    simpa [Cuvee.live, hf] using hlive
  · rwa [State.cuvee_updCuvee_ne _ _ hc]

/-- With every cuvee at rest there is none to stop. -/
theorem State.atRest.haltCuvees {s : State} (h : s.atRest) (source : Nat) :
    (s.haltCuvees source).atRest ∧ (s.haltCuvees source).stopMark = s.stopMark := by
  have hlive : (s.existing.filter fun c => (s.cuvee c).live) = [] := by
    simpa [List.filter_eq_nil_iff, State.atRest] using h
  have heach : ∀ f, s.each [] f = s := fun f : State → Nat → State => rfl
  unfold State.haltCuvees
  simp only [hlive, heach]
  split
  · exact ⟨State.each_keeps State.atRest _ _ (fun _ c hu => hu.updCuvee c fun _ => rfl) h, s.markIncomplete_stopMark _⟩
  · exact ⟨h, rfl⟩

theorem State.atRest.stopIfFrozen {s : State} (h : s.atRest) (hs : s.faults.estateState = 1) :
    s.stopIfFrozen.faults.estateState = 2 := by
  have hnone : (s.existing.any fun c => (s.cuvee c).live) = false := by
    simpa [State.atRest] using h
  simp [State.stopIfFrozen, hs, hnone]

theorem State.estateStop_halted {s : State} (h : s.faults.estateState = 0) (source : Nat) :
    (s.estateStop source).Halted (faultRecord s.stamp 0x0D 3 0 0 0 source 0 0) := by
  rw [State.estateStop_eq h]
  obtain ⟨hstate, hfault⟩ := Prod.mk.inj (s.haltLogged_stopMark (faultRecord s.stamp 0x0D 3 0 0 0 source 0 0))
  exact (State.Halted.haltCuvees ⟨.inl hstate, hfault⟩ source).stopIfFrozen

theorem State.estateStop_stopped {s : State} (h : s.faults.estateState = 0) (source : Nat) (hrest : s.atRest) :
    (s.estateStop source).faults.estateState = 2 := by
  rw [State.estateStop_eq h]
  have hmark := s.haltLogged_stopMark (faultRecord s.stamp 0x0D 3 0 0 0 source 0 0)
  have hcuvees := s.haltLogged_cuvees (faultRecord s.stamp 0x0D 3 0 0 0 source 0 0)
  generalize s.haltLogged _ = u at hmark hcuvees
  have hu : u.atRest := fun c hc => by
    rw [State.cuvee, hcuvees]
    exact hrest c (State.mem_existing_of_cuvees hcuvees hc)
  obtain ⟨hv, hvmark⟩ := hu.haltCuvees source
  exact hv.stopIfFrozen (Prod.mk.inj (hvmark.trans hmark)).1

/-! ## The obligation -/

/-- Settles O28: a scrub's end and a parcel's reset act on the units one by one; a stop leaves STOPPING or STOPPED whatever its
cuvees go through. -/
theorem unitsReturnAndEstateStop : Obligations.UnitsReturnAndEstateStop := by
  unfold Obligations.UnitsReturnAndEstateStop
  refine ⟨⟨fun s d hd => ⟨_, rfl, State.clusterPowerUp_on hd, fun e he hc => State.clusterPowerUp_idle hd he hc⟩,
    fun s k isTile hk hr => ⟨?_, ?_⟩⟩, fun s source h => ?_,
    fun s p tiles r h => ⟨_, rfl, State.parcelResetDone_retires h tiles r⟩⟩
  · refine ⟨_, rfl, State.poolReturn_forgets hk hr true, ?_⟩
    rw [State.poolReturn_eq hk hr]
    exact ⟨fun hpc off hoff => by subst hpc; exact State.readByte_zeroPc _ hoff,
      fun htile off hoff => by subst htile; exact State.readByte_zeroTile _ hoff⟩
  · refine ⟨_, rfl, State.poolReturn_forgets hk hr false, ?_⟩
    rw [State.poolReturn_eq hk hr]
    exact ⟨fun htile => by subst htile; exact State.retireTile_retired ..,
      fun hpc => by subst hpc; exact State.retirePc_retired ..⟩
  · obtain ⟨hstate, hfault⟩ := Prod.mk.inj (s.estateStop source).casksCut_stopMark
    obtain ⟨hhalt, hrecord⟩ := State.estateStop_halted h source
    refine ⟨_, rfl, ?_, hfault.trans hrecord, fun hrest => hstate.trans (State.estateStop_stopped h source hrest)⟩
    rw [hstate]
    exact hhalt

end Sys2Proof.Machine
/-! # What an FLR's cuvee leaves at the device's doors (R248, R256, R259)

The reset of a cuvee works on its units, its records and its plan. The windows, the staging sets and the host ports through
which requests come, and the command that waits for a cuvee, are none of these. -/

namespace Sys2Proof.Machine

/-- Where requests come in, and which command waits for cuvee d: the windows, the staging sets, both host ports, the staged
command. -/
def State.asked (s : State) (d : Nat) : List (Path × Window) × List (Acc × List ObjWrite) × HostSt × HostSt × Option Staged :=
  (s.dict.windows, s.dict.staging, s.hostA, s.hostB, (s.cuvee d).staged)

section
variable {s t : State} {d : Nat} (h : t.asked d = s.asked d)
include h

theorem State.window_of_asked (p : Path) : t.window p = s.window p := by
  simp only [State.window, (Prod.mk.inj h).1]
theorem State.staging_of_asked (a : Acc) : t.staging a = s.staging a := by
  simp only [State.staging, (Prod.mk.inj (Prod.mk.inj h).2).1]
theorem State.host_of_asked (p : HostPort) : t.host p = s.host p :=
  have hports := (Prod.mk.inj (Prod.mk.inj h).2).2
  State.host_of_hosts (Prod.mk.inj hports).1 (Prod.mk.inj (Prod.mk.inj hports).2).1 p
theorem State.staged_of_asked : (t.cuvee d).staged = (s.cuvee d).staged :=
  (Prod.mk.inj (Prod.mk.inj (Prod.mk.inj (Prod.mk.inj h).2).2).2).2

end

/-- A change of one cuvee that keeps its staged command keeps every cuvee's. -/
theorem State.updCuvee_asked (s : State) (c d : Nat) {f : Cuvee → Cuvee} (hf : ∀ v, (f v).staged = v.staged) :
    (s.updCuvee c f).asked d = s.asked d := by
  have hstaged : ((s.updCuvee c f).cuvee d).staged = (s.cuvee d).staged := by
    by_cases h : d = c
    · subst h; rw [State.cuvee_updCuvee, hf]
    · rw [State.cuvee_updCuvee_ne s f h]
  simp only [State.asked, hstaged, State.updCuvee_dict, State.updCuvee_hostA, State.updCuvee_hostB]

@[simp] theorem State.asked_ite (p : Prop) [Decidable p] (s t : State) (d : Nat) :
    (if p then s else t).asked d = if p then s.asked d else t.asked d := apply_ite (State.asked · d) ..

theorem State.each_asked {α : Type} (s : State) (l : List α) (d : Nat) {f : State → α → State}
    (hf : ∀ s x, (f s x).asked d = s.asked d) : (s.each l f).asked d = s.asked d := State.each_frame (State.asked · d) f l s hf

/-! ## Units and their contents -/

section
variable (s : State) (d : Nat)

@[simp] theorem State.zeroPc_asked (k : Nat) : (s.zeroPc k).asked d = s.asked d := rfl
@[simp] theorem State.updPc_asked (k : Nat) (f : Pc → Pc) : (s.updPc k f).asked d = s.asked d := rfl
@[simp] theorem State.copyRegions_asked (old new : Nat) (which : Option (List Nat)) :
    (s.copyRegions old new which).asked d = s.asked d := rfl
@[simp] theorem State.finalCopy_asked (c k new : Nat) : (s.finalCopy c k new).asked d = s.asked d := by
  simp [State.finalCopy]
@[simp] theorem State.setTile_asked (t : Nat) (x : Tile) : (s.setTile t x).asked d = s.asked d := rfl
@[simp] theorem State.bindTile_asked (t c n : Nat) : (s.bindTile t c n).asked d = s.asked d := rfl
@[simp] theorem State.zeroTile_asked (t : Nat) : (s.zeroTile t).asked d = s.asked d := rfl
@[simp] theorem State.storePatch_asked (t : Nat) (l : List (Nat × Byte)) : (s.storePatch t l).asked d = s.asked d := rfl
@[simp] theorem State.loadInto_asked (t : Nat) (p1 : Bool) (img : Nat) : (s.loadInto t p1 img).asked d = s.asked d := rfl
@[simp] theorem State.seedStreams_asked (t : Nat) (resumed : Bool) : (s.seedStreams t resumed).asked d = s.asked d := rfl
@[simp] theorem State.putRecord_asked (t c n : Nat) (r : SavedTile) : (s.putRecord t c n r).asked d = s.asked d := by
  simp [State.putRecord]
@[simp] theorem State.setVal_asked (i sub : Nat) (b : Blob) : (s.setVal i sub b).asked d = s.asked d := rfl
@[simp] theorem State.dropWalks_asked (ts : List Nat) : (s.dropWalks ts).asked d = s.asked d := rfl
@[simp] theorem State.fenceLater_asked (ts : List Nat) : (s.fenceLater ts).asked d = s.asked d := rfl
@[simp] theorem State.dropLines_asked (ks : List Nat) : (s.dropLines ks).asked d = s.asked d := s.each_asked _ d fun _ _ => rfl
@[simp] theorem State.cleanWays_asked (old new : Blob) : (s.cleanWays old new).asked d = s.asked d :=
  s.each_asked _ d fun _ _ => rfl
@[simp] theorem State.trimUnits_asked (c : Nat) : (s.trimUnits c).asked d = s.asked d := s.each_asked _ d fun _ _ => rfl
@[simp] theorem State.trimStash_asked (c : Nat) : (s.trimStash c).asked d = s.asked d :=
  s.each_asked _ d fun s _ => s.updCuvee_asked c d fun _ => rfl

@[simp] theorem State.releaseUnits_asked (ts ks : List Nat) : (s.releaseUnits ts ks).asked d = s.asked d := by
  calc (s.releaseUnits ts ks).asked d
    _ = (s.each ts fun s t => s.updTile t fun x => { x with cuvee := 0, ctile := 0, act := .idle, inEntry := false }).asked d :=
      State.each_asked _ _ d fun _ _ => rfl
    _ = s.asked d := s.each_asked _ d fun _ _ => rfl

@[simp] theorem State.updBarrier_asked (b : Nat) (f : Barrier → Barrier) : (s.updBarrier b f).asked d = s.asked d := by
  unfold State.updBarrier
  split <;> rfl

@[simp] theorem State.relayRound_asked (b gen : Nat) : (s.relayRound b gen).asked d = s.asked d := by
  unfold State.relayRound
  split
  · rfl
  · split
    · rfl
    · exact (State.each_asked _ _ d fun _ _ => by rfl).trans
        ((State.each_asked _ _ d fun _ _ => by rfl).trans (s.updBarrier_asked d b _))

@[simp] theorem State.relayNet_asked (c : Nat) : (s.relayNet c).asked d = s.asked d :=
  (State.each_asked _ _ d fun s b => by simp).trans rfl

@[simp] theorem State.resumeTile_asked (t : Nat) : (s.resumeTile t).asked d = s.asked d := by
  unfold State.resumeTile
  extract_lets x u
  have hu : u.asked d = s.asked d := by
    unfold u
    split <;> rfl
  exact hu

theorem State.asked_setReserved (l : List (Nat × Bool × Nat)) :
    { s with dict := { s.dict with reserved := l } }.asked d = s.asked d := rfl

/-! ## Records, links and the estate's stop -/

@[simp] theorem State.cmdStatus_asked (c phase result cause : Nat) : (s.cmdStatus c phase result cause).asked d = s.asked d :=
  s.updCuvee_asked c d fun _ => rfl

@[simp] theorem State.cmdStatusIf_asked (c code phase result cause : Nat) :
    (s.cmdStatusIf c code phase result cause).asked d = s.asked d := by
  simp [State.cmdStatusIf]

theorem State.asked_setFaults (f : FaultSt) : { s with faults := f }.asked d = s.asked d := rfl

@[simp] theorem State.logCuvee_asked (c kind cls flags unit arg0 arg1 detail : Nat) (tileUnit : Bool) :
    (s.logCuvee c kind cls flags unit arg0 arg1 detail tileUnit).asked d = s.asked d :=
  (State.asked_setFaults ..).trans (s.updCuvee_asked c d fun _ => by rfl)

@[simp] theorem State.sendSquash_asked (c reason : Nat) : (s.sendSquash c reason).asked d = s.asked d :=
  s.each_asked _ d fun _ _ => rfl

@[simp] theorem State.raiseFlare_asked (g : Nat) : (s.raiseFlare g).asked d = s.asked d :=
  (State.each_asked _ _ d fun _ _ => by rfl).trans rfl

@[simp] theorem State.stopIfFrozen_asked : s.stopIfFrozen.asked d = s.asked d := by
  unfold State.stopIfFrozen
  split <;> rfl

@[simp] theorem State.eraseSession_asked (id : Nat) : (s.eraseSession id).asked d = s.asked d := rfl
@[simp] theorem State.dropRows_asked (c : Nat) : (s.dropRows c).asked d = s.asked d := rfl

@[simp] theorem State.tdiError_asked (c : Nat) : (s.tdiError c).asked d = s.asked d :=
  s.updCuvee_asked c d fun v => by split <;> rfl

/-! ## Freezes, plans and images -/

@[simp] theorem State.freezeCuvee_asked (c cause : Nat) (incomplete : Bool) :
    (s.freezeCuvee c cause incomplete).asked d = s.asked d := by
  unfold State.freezeCuvee
  extract_lets v u w x y z
  have hu : u.asked d = s.asked d := s.updCuvee_asked c d fun _ => by rfl
  simp [z, y, x, w, hu]

/-- The moves done or given up, the plan's end is the cuvee's own affair. -/
@[simp] theorem State.rebindResume_asked (c : Nat) : (s.rebindResume c).asked d = s.asked d := by
  unfold State.rebindResume
  extract_lets v bad cause stamp u w x y
  have hu : u.asked d = s.asked d := s.updCuvee_asked c d fun _ => rfl
  have hx : x.asked d = w.asked d := by
    unfold x
    rw [State.asked_ite, State.eachTile, State.each_asked _ _ d fun s t => s.resumeTile_asked d t, ite_self]
  have hy : y.asked d = x.asked d := State.each_asked _ _ d fun s t => State.logCuvee_asked ..
  simp [hy, hx, w, hu]

@[simp] theorem State.rebindMoves_asked (c : Nat) : (s.rebindMoves c).asked d = s.asked d := by
  unfold State.rebindMoves
  split
  · simp
  · extract_lets oldT oldK newT newK ws recs copied zeroed dropped released placed written owned unbound dict
      unreserved trimmed relayed
    rw [State.rebindResume_asked]
    calc relayed.asked d
      _ = trimmed.asked d := (State.fenceLater_asked ..).trans (trimmed.relayNet_asked ..)
      _ = unreserved.asked d :=
        (State.dropWalks_asked ..).trans ((State.trimStash_asked ..).trans (unreserved.trimUnits_asked ..))
      _ = unbound.asked d := unbound.asked_setReserved ..
      _ = owned.asked d := by
        unfold unbound
        rw [State.asked_ite, State.each_asked _ _ d fun s t => s.bindTile_asked d t 0 0, ite_self]
      _ = written.asked d := State.each_asked _ _ d fun s k => by rfl
      _ = placed.asked d := State.each_asked _ _ d fun s w => by simp
      _ = released.asked d := State.each_asked _ _ d fun s e => by split <;> simp
      _ = dropped.asked d := dropped.releaseUnits_asked ..
      _ = zeroed.asked d := zeroed.dropLines_asked ..
      _ = copied.asked d := State.each_asked _ _ d fun s x => s.zeroPc_asked ..
      _ = s.asked d := State.each_asked _ _ d fun s x => s.finalCopy_asked ..

@[simp] theorem State.abandonPlan_asked (c cause : Nat) : (s.abandonPlan c cause).asked d = s.asked d := by
  unfold State.abandonPlan
  extract_lets v own u w dests dict x y
  have hw : w.asked d = s.asked d := (State.each_asked _ _ d fun _ _ => by rfl).trans (s.updCuvee_asked c d fun _ => by rfl)
  have hy : y.asked d = x.asked d := by
    unfold y
    rw [State.asked_ite, State.eachTile, State.each_asked _ _ d fun s t => s.resumeTile_asked d t, ite_self]
  have hx : x.asked d = w.asked d := rfl
  simp [hy, hx, hw]

@[simp] theorem State.endImage_asked (c cause : Nat) : (s.endImage c cause).asked d = s.asked d := by
  unfold State.endImage
  simp only []
  rw [State.updCuvee_asked _ c d fun _ => by rfl]
  simp

@[simp] theorem State.beginReset_asked (c : Nat) (release : Bool) : (s.beginReset c release).asked d = s.asked d := by
  unfold State.beginReset
  simp only []
  rw [State.dropRows_asked, State.tdiError_asked, State.updCuvee_asked _ c d fun _ => by rfl]
  simp

end

/-! ## The reset that an FLR begins -/

@[simp] theorem State.dropRows_life (s : State) (d c : Nat) : (s.dropRows d).life c = s.life c := rfl
@[simp] theorem State.tdiError_life (s : State) (d c : Nat) : (s.tdiError d).life c = s.life c := by
  refine s.updCuvee_life d c fun v => ?_
  split <;> rfl

/-- A reset begins with a sequence of its own, whatever the cuvee did before (R259). -/
theorem State.beginReset_begins (s : State) (c : Nat) (release : Bool) :
    ((s.beginReset c release).cuvee c).state = (if release then .releasing else .resetting) ∧
      ∃ q, ((s.beginReset c release).cuvee c).seq = some q := by
  rw [← State.state_life, ← State.seq_life]
  unfold State.beginReset
  simp only []
  rw [State.dropRows_life, State.tdiError_life, State.life_updCuvee]
  exact ⟨rfl, _, rfl⟩

/-- What an event drops is the staged command; windows, staging sets and host ports stand. -/
theorem State.dropStaged_asked (s : State) (c result cause : Nat) :
    (s.dropStaged c result cause).asked c = (s.dict.windows, s.dict.staging, s.hostA, s.hostB, none) := by
  unfold State.dropStaged
  split
  · next h => rw [State.asked, h]
  · have hdrop : (s.updCuvee c fun v => { v with staged := none }).asked c =
        (s.dict.windows, s.dict.staging, s.hostA, s.hostB, none) := by
      simp [State.asked]
    simp [hdrop]

/-- A cuvee that an FLR, or its interface's STOP, finds RUNNING or PAUSED is RESETTING, and its staged command is gone (R248). -/
theorem State.flrCuvee_resets {s : State} {c : Nat} (h : (s.cuvee c).state = .running ∨ (s.cuvee c).state = .paused) :
    ((s.flrCuvee c).cuvee c).state = .resetting ∧ (∃ q, ((s.flrCuvee c).cuvee c).seq = some q) ∧
      (s.flrCuvee c).asked c = (s.dict.windows, s.dict.staging, s.hostA, s.hostB, none) := by
  obtain ⟨u, hu, hasked⟩ : ∃ u : State, s.flrCuvee c = u.beginReset c false ∧
      u.asked c = (s.dict.windows, s.dict.staging, s.hostA, s.hostB, none) := by
    unfold State.flrCuvee
    rcases h with h | h
    all_goals
      rw [h]
      exact ⟨_, rfl, by simp [s.dropStaged_asked]⟩
  obtain ⟨hstate, hseq⟩ := u.beginReset_begins c false
  rw [hu]
  exact ⟨hstate, hseq, (u.beginReset_asked c c false).trans hasked⟩

end Sys2Proof.Machine

/-! # TDISP requests of a device interface (R385, R386) -/

namespace Sys2Proof.Machine

/-- A TDISP request that reaches a port acts for the cuvee that its VF carries. -/
theorem State.tdisp_eq {s : State} {p : HostPort} {vf c : Nat} (hp : s.portOpen p = true) (hc : s.vfCuvee (.vf p vf) = some c)
    (act : State → Nat → State) : s.tdisp p vf act = act s c := by
  simp [State.tdisp, hp, hc]

@[simp] theorem State.tdispSay_cuvee (s : State) (p : HostPort) (vf code : Nat) (b : Blob) (c : Nat) :
    (s.tdispSay p vf code b).cuvee c = s.cuvee c := rfl

theorem State.tdiLock_locks {s : State} {c : Nat} (ht : (s.cuvee c).tdi = 0)
    (hs : (s.cuvee c).state = .bound ∨ (s.cuvee c).state = .running) (hd : s.sec.debug = 0) (p : HostPort) (vf stream : Nat) :
    ((s.tdiLock p vf stream c).cuvee c).tdi = 1 ∧ ((s.tdiLock p vf stream c).cuvee c).tdiStream = stream := by
  have hin : s.isIn c [.bound, .running, .paused] = true := by
    rcases hs with hs | hs <;> simp [State.isIn, hs]
  simp [State.tdiLock, ht, hin, hd]

theorem State.tdiStart_starts {s : State} {c : Nat} (ht : (s.cuvee c).tdi = 1) (p : HostPort) (vf : Nat) :
    ((s.tdiStart p vf c).cuvee c).tdi = 2 := by
  simp [State.tdiStart, ht]

/-- A STOP resets the cuvee as an FLR does; its interface keeps its state until the reset's end answers (R385). -/
theorem State.tdiStop_resets {s : State} {c : Nat} (ht : (s.cuvee c).tdi = 2) (hs : (s.cuvee c).state = .running)
    (p : HostPort) (vf : Nat) :
    ((s.tdiStop p vf c).cuvee c).state = .resetting ∧ ((s.tdiStop p vf c).cuvee c).tdi = 2 ∧
      (((s.tdiStop p vf c).cuvee c).seq.map ResetSeq.tdiReply) = some true := by
  obtain ⟨hstate, ⟨q, hseq⟩, -⟩ := State.flrCuvee_resets (s := s) (c := c) (.inl hs)
  have hstop : s.tdiStop p vf c =
      (s.flrCuvee c).updCuvee c fun v => { v with tdi := 2, seq := v.seq.map fun q => { q with tdiReply := true } } := by
    simp [State.tdiStop, ht, State.isIn, hs]
  simp [hstop, hstate, hseq]

/-- The report after the BAR ranges: the counts of tiles and pseudo-channels (R386). -/
theorem Blob.report_get (x y z w v : Nat) :
    (Blob.record [(32, x), (4, y), (4, z), (4, w), (64, v)]).get 32 4 = y % 2 ^ 32 ∧
      (Blob.record [(32, x), (4, y), (4, z), (4, w), (64, v)]).get 36 4 = z % 2 ^ 32 :=
  ⟨(Blob.record_get_tail 32 x 0 4 _).trans (Blob.record_get_head ..),
    (Blob.record_get_tail 32 x 4 4 _).trans ((Blob.record_get_tail 4 y 0 4 _).trans (Blob.record_get_head ..))⟩

/-- Settles O14: each request acts for the VF's cuvee; LOCK, START and STOP change that cuvee's interface, and the others only
answer. -/
theorem deviceInterfaces : Obligations.DeviceInterfaces := by
  unfold Obligations.DeviceInterfaces
  intro s p vf c hp hc
  have hexec : ∀ act : State → Nat → State, (Host.Outcome.next (s.tdisp p vf act) : Result) = .next (act s c) :=
    fun act => congrArg Host.Outcome.next (State.tdisp_eq hp hc act)
  refine ⟨fun stream ht hs hd => ?_, fun ht => ?_, fun ht hs => ?_, ?_, ?_, ?_, ?_⟩
  · exact ⟨_, hexec _, State.tdiLock_locks ht hs hd p vf stream⟩
  · exact ⟨_, hexec _, State.tdiStart_starts ht p vf⟩
  · exact ⟨_, hexec _, State.tdiStop_resets ht hs p vf⟩
  · exact hexec _
  · exact ⟨_, _, hexec _, rfl, rfl⟩
  · obtain ⟨htiles, hpcs⟩ := Blob.report_get (Config.freeNat s.free) (s.cvTiles c).length (s.cvPcs c).length (s.ringPairs c)
      (s.configDigest c)
    exact ⟨_, _, hexec _, rfl, rfl, htiles, hpcs, rfl⟩
  · exact hexec _

end Sys2Proof.Machine

/-! # Resets of a host port and of a function (R384, R453, R473, R502, R508) -/

namespace Sys2Proof.Machine

/-! ## A function's window, class and configuration space -/

@[simp] theorem State.window_updHost (s : State) (p : HostPort) (f : HostSt → HostSt) (q : Path) :
    (s.updHost p f).window q = s.window q := by
  simp only [State.window, State.updHost_dict]
@[simp] theorem State.staging_updHost (s : State) (p : HostPort) (f : HostSt → HostSt) (a : Acc) :
    (s.updHost p f).staging a = s.staging a := by
  simp only [State.staging, State.updHost_dict]

theorem State.staging_putStaging_nil (s : State) (a : Acc) : (s.putStaging a []).staging a = [] := by
  have hfind : (s.dict.staging.filter fun e => e.1 != a).find? (fun e => e.1 == a) = none := by
    simp [List.find?_eq_none]
  simp [State.staging, State.putStaging, hfind]

/-- A write that will not act gives its units back; cuvees, requests and ports stand. -/
theorem State.endHold_stands (s : State) (w : ObjWrite) (d : Nat) :
    (s.endHold w).cuvees = s.cuvees ∧ (s.endHold w).asked d = s.asked d := by
  unfold State.endHold State.freeUnitsOf
  split
  · split <;> exact ⟨rfl, rfl⟩
  · exact ⟨rfl, rfl⟩

theorem State.noteStage_stands (s : State) (a : Acc) (result cause idx sub d : Nat) :
    (s.noteStage a result cause idx sub).cuvees = s.cuvees ∧ (s.noteStage a result cause idx sub).asked d = s.asked d :=
  ⟨rfl, rfl⟩

/-- A class loses its staging set; the cuvees, the windows and the ports stand. -/
theorem State.dropClass_stands (s : State) (a : Acc) (d : Nat) :
    (s.dropClass a).cuvees = s.cuvees ∧ (s.dropClass a).asked d = (s.putStaging a []).asked d := by
  unfold State.dropClass
  extract_lets gone u dict v w
  have hw : (w.cuvees, w.asked d) = (v.cuvees, v.asked d) :=
    State.each_frame (fun s => (s.cuvees, s.asked d)) _ _ _ fun s x => Prod.ext_iff.mpr (s.endHold_stands x d)
  obtain ⟨hcuvees, hasked⟩ := Prod.mk.inj hw
  split
  · exact ⟨hcuvees, hasked⟩
  · obtain ⟨hncuvees, hnasked⟩ := w.noteStage_stands a stOk 2 0 0 d
    exact ⟨hncuvees.trans hcuvees, hnasked.trans hasked⟩

/-- The registers of a window after its function's reset. -/
def Window.cleared (w : Window) : Prop := w.reqGen = 0 ∧ w.respGen = 0 ∧ w.inFlight = none

theorem State.resetWindow_clears (s : State) (p : Path) : ((s.resetWindow p).window p).cleared := by
  unfold State.resetWindow
  simp only [State.window_setWindow]
  exact ⟨rfl, rfl, rfl⟩

/-- What an FLR does to function n of a port, whose path is f, before its cuvee: window, class, configuration space. -/
def State.shutFunction (s : State) (f : Path) (a : Acc) (p : HostPort) (n : Nat) : State :=
  ((s.resetWindow f).dropClass a).resetConfig p n

theorem State.shutFunction_shuts (s : State) (f : Path) (a : Acc) (p : HostPort) (n : Nat) :
    ((s.shutFunction f a p n).window f).cleared ∧ (s.shutFunction f a p n).staging a = [] ∧
      n ∉ ((s.shutFunction f a p n).host p).busMaster ∧ (s.shutFunction f a p n).cuvees = s.cuvees := by
  obtain ⟨hcuvees, hasked⟩ := (s.resetWindow f).dropClass_stands a 0
  have hwindow : ((s.resetWindow f).dropClass a).window f = (s.resetWindow f).window f := State.window_of_asked hasked f
  have hstaging : ((s.resetWindow f).dropClass a).staging a = [] :=
    (State.staging_of_asked hasked a).trans (State.staging_putStaging_nil ..)
  unfold State.shutFunction State.resetConfig
  rw [State.window_updHost, hwindow, State.staging_updHost, hstaging, State.host_updHost, State.updHost_cuvees, hcuvees]
  exact ⟨s.resetWindow_clears f, rfl, by simp, rfl⟩

/-! ## FLR (R248, R453) -/

theorem exec_flrPf {s : State} {p : HostPort} (h : s.portOpen p = true) :
    exec (.flrPf p) s = .next (s.shutFunction (.pf p) (if p = s.dict.steward then .manager else .deputy) p 0) :=
  congrArg Host.Outcome.next (if_pos h)

theorem exec_flrVf {s : State} {p : HostPort} {vf c : Nat} (h : s.portOpen p = true) (h1 : 1 ≤ vf) (h127 : vf ≤ 127)
    (hc : s.classOf (.vf p vf) = some (.tenant c)) :
    exec (.flrVf p vf) s = .next ((s.shutFunction (.vf p vf) (.tenant c) p vf).flrCuvee c) := by
  have hfn : s.functionReset (.vf p vf) = (s.shutFunction (.vf p vf) (.tenant c) p vf).flrCuvee c := by
    unfold State.functionReset
    simp only [hc]
    rfl
  have hopen : (s.portOpen p && within vf 1 127) = true := by simp [h, within, h1, h127]
  exact congrArg Host.Outcome.next ((if_pos hopen).trans hfn)

/-- The FLR of a VF that carries a cuvee at work: the cuvee is RESETTING, its staged command gone. -/
theorem State.shutFunction_flrCuvee {s : State} {c : Nat} (f : Path) (p : HostPort) (n : Nat)
    (h : (s.cuvee c).state = .running ∨ (s.cuvee c).state = .paused) :
    ((((s.shutFunction f (.tenant c) p n).flrCuvee c).window f).cleared) ∧
      n ∉ (((s.shutFunction f (.tenant c) p n).flrCuvee c).host p).busMaster ∧
      (((s.shutFunction f (.tenant c) p n).flrCuvee c).cuvee c).state = .resetting ∧
      (((s.shutFunction f (.tenant c) p n).flrCuvee c).cuvee c).staged = none ∧
      ((s.shutFunction f (.tenant c) p n).flrCuvee c).staging (.tenant c) = [] := by
  obtain ⟨hwindow, hstaging, hmaster, hcuvees⟩ := s.shutFunction_shuts f (.tenant c) p n
  generalize s.shutFunction f (.tenant c) p n = u at hwindow hstaging hmaster hcuvees
  have hu : u.cuvee c = s.cuvee c := by rw [State.cuvee, hcuvees]; rfl
  obtain ⟨hstate, -, hasked⟩ := State.flrCuvee_resets (s := u) (c := c) (hu ▸ h)
  obtain ⟨v, hv⟩ : ∃ v, v = u.updCuvee c fun v => { v with staged := none } := ⟨_, rfl⟩
  have hflr : (u.flrCuvee c).asked c = v.asked c := by rw [hasked, hv]; simp [State.asked]
  refine ⟨?_, ?_, hstate, ?_, ?_⟩
  · rw [State.window_of_asked hflr, hv]; exact hwindow
  · rw [State.host_of_asked hflr, hv, State.updCuvee_host]; exact hmaster
  · rw [State.staged_of_asked hflr, hv, State.cuvee_updCuvee]
  · rw [State.staging_of_asked hflr, hv]; exact hstaging

/-! ## Resets of a port (R384, R387, R502) -/

/-- The link of a port is down, and with it go sessions, IDE keys and Bus Master Enable. -/
def HostSt.down (h : HostSt) : Prop := h.linkUp = false ∧ h.sessions = [] ∧ h.ideKeys = [] ∧ h.busMaster = []

theorem State.portReset_down (s : State) (p : HostPort) : (((s.portReset_ p).linkGone p).host p).down := by
  simp [State.portReset_, State.linkGone, HostSt.down]

/-- Settles O12: what a reset takes from a port is set last, and what it takes from a function its cuvee's reset leaves. -/
theorem hostPortAndFunctionResets : Obligations.HostPortAndFunctionResets := by
  unfold Obligations.HostPortAndFunctionResets
  refine ⟨fun s p i hi => ?_, fun s p => ⟨rfl, fun hs hp => ?_⟩, fun s p hp => ?_, fun s p vf c hp h1 h127 hc hv => ?_⟩
  · obtain ⟨hlink, hsessions, hkeys, hmaster⟩ := s.portReset_down p
    rcases hi with rfl | ⟨rfl, ho⟩ | ⟨rfl, hl⟩
    · exact ⟨((s.portReset_ p).linkGone p).updHost p fun h => { h with perst := true }, rfl, by
        rw [State.host_updHost]
        exact ⟨hlink, hsessions, hkeys, hmaster, fun _ => rfl⟩⟩
    · exact ⟨_, congrArg Host.Outcome.next (if_pos ho), hlink, hsessions, hkeys, hmaster, nofun⟩
    · exact ⟨_, congrArg Host.Outcome.next (if_pos hl), hlink, hsessions, hkeys, hmaster, nofun⟩
  · exact congrArg Host.Outcome.next (if_pos (by simp [hs, hp]))
  · obtain ⟨⟨hreq, hresp, hflight⟩, hstaging, hmaster, -⟩ :=
      s.shutFunction_shuts (.pf p) (if p = s.dict.steward then .manager else .deputy) p 0
    refine ⟨_, exec_flrPf hp, hreq, hresp, hflight, hmaster, fun h => ?_, fun h => ?_⟩
    · rwa [if_pos h] at hstaging ⊢
    · rwa [if_neg h] at hstaging ⊢
  · obtain ⟨⟨-, hresp, -⟩, hrest⟩ := State.shutFunction_flrCuvee (.vf p vf) p vf hv
    exact ⟨_, exec_flrVf hp h1 h127 hc, hresp, hrest⟩

end Sys2Proof.Machine

/-! # The cold boot and the steps of the muster (R20–R25, R185, R379, R462, R501) -/

namespace Sys2Proof.Machine

/-! ## Power domains (R363) -/

/-- Everything but the power record. -/
def State.beyondPower (s : State) : State := { s with power := default }

section
variable {s t : State} (h : t.beyondPower = s.beyondPower)
include h

theorem State.dict_of_beyondPower : t.dict = s.dict := congrArg (·.dict) h
theorem State.boot_of_beyondPower : t.boot = s.boot := congrArg (·.boot) h
theorem State.cuvees_of_beyondPower : t.cuvees = s.cuvees := congrArg (·.cuvees) h
theorem State.faults_of_beyondPower : t.faults = s.faults := congrArg (·.faults) h
theorem State.mem_of_beyondPower : t.mem = s.mem := congrArg (·.mem) h
theorem State.muster_of_beyondPower : t.muster = s.muster := congrArg (·.muster) h

end

@[simp] theorem State.setDomain_beyondPower (s : State) (d st : Nat) : (s.setDomain d st).beyondPower = s.beyondPower := rfl

theorem State.updBoot_dict (s : State) (g : BootSt → BootSt) : (s.updBoot g).dict = s.dict := rfl
theorem State.updBoot_muster (s : State) (g : BootSt → BootSt) : (s.updBoot g).muster = s.muster := rfl

theorem State.railsUp_beyondPower (s : State) : s.railsUp.beyondPower = s.beyondPower :=
  State.each_frame State.beyondPower _ _ _ fun s _ => s.setDomain_beyondPower ..

/-! ## The boot ROM and the start of a cold boot (R379, R499, R501) -/

/-- The boot ROM writes its own findings alone. -/
theorem State.bootRom_state (s : State) (f : BootFindings) : (s.bootRom f).2 = { s with sec := (s.bootRom f).2.sec } := by
  unfold State.bootRom
  simp only []
  split <;> rfl

/-- The security controller finds itself, the identity and both slots good. -/
def goodFindings (f : BootFindings) : Prop :=
  f.secSelfTest = true ∧ f.identity = 0 ∧ f.slotFailA = 0 ∧ f.slotFailB = 0

/-- With good findings the boot ROM goes on, from the slot of BootSlot. -/
theorem State.bootRom_boots {s : State} {f : BootFindings} (hf : goodFindings f) (hslot : s.num 0xA001 4 ≤ 1) :
    (s.bootRom f).1 = true ∧ (s.bootRom f).2.sec.booted = s.num 0xA001 4 := by
  obtain ⟨hself, hidentity, ha, hb⟩ := hf
  have hne : s.num 0xA001 4 ≠ 255 := by omega
  simp [State.bootRom, hself, hidentity, ha, hb, hne]

/-- A boot past its boot ROM: the stored dictionary is loaded, and self-test begins. -/
theorem State.startBoot_eq {s u : State} {f : BootFindings}
    (hu : u = s.estateLost.updBoot fun b => { b with pwrEn := true, pwrGood := true, warm := false, findings := some f })
    (h : (u.railsUp.bootRom f).1 = true) :
    ∃ (w : State) (d : DictSt) (x : FlashSt) (y : SidebandSt), w = (u.railsUp.bootRom f).2 ∧ s.startBoot f =
      { w with dict := d, flash := x, side := y, muster := { w.muster with state := 1 }, boot := { w.boot with step := .selfTest } } := by
  unfold State.startBoot
  simp only []
  rw [← hu, if_neg (by simp [h])]
  exact ⟨_, _, _, _, rfl, rfl⟩

/-- The estate as a cold boot leaves it at the beginning of self-test, the image of a slot having booted. -/
def State.coldBooted (t : State) (slot : Nat) : Prop :=
  t.boot.step = .selfTest ∧ t.boot.pwrGood = true ∧ t.muster.state = 1 ∧ t.cuvees = [] ∧ t.faults.estateState = 3 ∧
    t.sec.booted = slot ∧ t.mem.hbm = [] ∧ t.mem.store = []

/-- Everything of the estate is as at reset, but for what the boot writes. -/
theorem State.startBoot_coldBooted {s : State} {f : BootFindings} (hf : goodFindings f) (hslot : s.estateLost.num 0xA001 4 ≤ 1) :
    (s.startBoot f).coldBooted (s.estateLost.num 0xA001 4) := by
  obtain ⟨u, hu⟩ : ∃ u, u = s.estateLost.updBoot fun b =>
    { b with pwrEn := true, pwrGood := true, warm := false, findings := some f } := ⟨_, rfl⟩
  have hrails := u.railsUp_beyondPower
  have hdict : u.railsUp.dict = s.estateLost.dict :=
    (State.dict_of_beyondPower hrails).trans (hu ▸ State.updBoot_dict ..)
  have hnum : u.railsUp.num 0xA001 4 = s.estateLost.num 0xA001 4 := State.num_of_dict hdict ..
  obtain ⟨hgo, hbooted⟩ := State.bootRom_boots hf (hnum.trans_le hslot)
  obtain ⟨w, d, x, y, hw, hstart⟩ := State.startBoot_eq hu hgo
  have hrom := u.railsUp.bootRom_state f
  rw [← hw] at hrom hbooted
  obtain ⟨hgood, hcuvees, hfaults, hmem⟩ : w.boot.pwrGood = true ∧ w.cuvees = [] ∧ w.faults.estateState = 3 ∧
      w.mem = State.reset.mem := by
    rw [hrom, State.boot_of_beyondPower hrails, State.cuvees_of_beyondPower hrails, State.faults_of_beyondPower hrails,
      State.mem_of_beyondPower hrails, hu]
    exact ⟨rfl, rfl, rfl, rfl⟩
  rw [hstart]
  exact ⟨rfl, hgood, rfl, hcuvees, hfaults, hbooted.trans hnum, congrArg MemSt.hbm hmem, congrArg MemSt.store hmem⟩

theorem State.estateLost_num_updBoot (s : State) (g : BootSt → BootSt) (i sub : Nat) :
    (s.updBoot g).estateLost.num i sub = s.estateLost.num i sub := State.num_of_dict rfl ..

theorem exec_coldBoot {s : State} {v : Nat} (f : BootFindings) (hs : s.boot.standby = true) (hp : s.boot.pwrEn = false)
    (hv : 400 ≤ v) :
    exec (.coldBoot f v) s = .next ((s.updBoot fun b => { b with pwrEn := true, findings := some f }).startBoot f) := by
  refine congrArg Host.Outcome.next ?_
  simp [State.coldBoot, hp, Nat.not_lt.mpr hv, State.updBoot, hs]

theorem exec_mainInputInRange {s : State} {f : BootFindings} (hs : s.boot.standby = true) (hw : s.boot.step = .waitInput)
    (hf : s.boot.findings = some f) : exec .mainInputInRange s = .next (s.startBoot f) := by
  refine congrArg Host.Outcome.next ?_
  simp [State.mainInputInRange, hw, hf, hs]

/-! ## The muster (R20–R25, R185) -/

/-- A core muster that finds no cause to stop leads to the training of the stacks, none of which is trained. -/
theorem State.coreMuster_trains {s : State} (h : (s.muster.core s.exclusions).coreCause = 0) :
    s.coreMuster.boot.step = .training ∧ s.coreMuster.muster.trained = 0 := by
  unfold State.coreMuster
  extract_lets m cause on u v w
  rw [if_neg (not_not.mpr h)]
  have hv : v.beyondPower = u.beyondPower := State.each_frame State.beyondPower _ _ _ fun s d => s.setDomain_beyondPower ..
  have hw : w.beyondPower = v.beyondPower := State.each_frame State.beyondPower _ _ _ fun s k => s.setDomain_beyondPower ..
  rw [State.updBoot_muster, State.muster_of_beyondPower (hw.trans hv)]
  exact ⟨rfl, rfl⟩

theorem State.selfTestDone_eq {s : State} (h : s.boot.step = .selfTest) (v : SelfTest) :
    s.selfTestDone v = ({ s with muster := { s.muster with test := v } }).coreMuster := if_neg (not_not.mpr h)

/-- A pseudo-channel of stack p that is listed by its number is listed by its place in the device. -/
theorem mem_stackPcs {l : List Nat} (hl : ∀ k ∈ l, k < 32) (old : List Nat) (p : Nat) {k : Nat} (hk : k ∈ l) :
    32 * p + k ∈ (old ++ l.map fun k => 32 * p + k % 32).dedup := by
  rw [List.mem_dedup, List.mem_append, List.mem_map]
  exact .inr ⟨k, hk, by rw [Nat.mod_eq_of_lt (hl k hk)]⟩

theorem lt_of_mem_trainFailed {r : TrainingResult} : ∀ k ∈ trainFailed r, k < 32 :=
  fun _ hk => List.mem_range.mp (List.mem_filter.mp hk).1
theorem lt_of_mem_testFailed {r : TrainingResult} : ∀ k ∈ testFailed r, k < 32 :=
  fun _ hk => List.mem_range.mp (List.mem_filter.mp hk).1

/-- A stack whose turn it is has trained; what failed is bad, and what fails its memory test counts in a cold boot (R186). -/
theorem State.stackTrained_trains {s : State} (h : s.boot.step = .training) (h16 : s.muster.trained < 16) (r : TrainingResult) :
    (s.stackTrained s.muster.trained r).muster.trained = s.muster.trained + 1 ∧
      (s.stackTrained s.muster.trained r).boot = s.boot ∧
      (∀ k ∈ trainFailed r, 32 * s.muster.trained + k ∈ (s.stackTrained s.muster.trained r).muster.pcBad) ∧
      (s.boot.warm = false →
        ∀ k ∈ testFailed r, 32 * s.muster.trained + k ∈ (s.stackTrained s.muster.trained r).muster.pcTestBad) := by
  unfold State.stackTrained
  rw [if_neg (by simp [h, h16])]
  refine ⟨rfl, rfl, fun k hk => mem_stackPcs lt_of_mem_trainFailed _ _ hk, fun hw k hk => ?_⟩
  simp only [hw, Bool.false_eq_true, if_false]
  exact mem_stackPcs lt_of_mem_testFailed _ _ hk

theorem State.memoryMuster_leads {s : State} (h : s.boot.step = .training) (h16 : s.muster.trained = 16)
    (hm : s.muster.memory.state ≠ 4) : s.memoryMuster.boot.step = .vintner := by
  unfold State.memoryMuster
  rw [if_neg (by simp [h, h16])]
  extract_lets u v w
  rw [if_neg hm]
  rfl

theorem State.estateReady_opens {s : State} (h : s.boot.step = .vintner) :
    s.estateReady.boot.step = .ready ∧ s.estateReady.faults.estateState = 0 ∧ s.estateReady.dict.steward = s.firstSteward ∧
      s.estateReady.dict.beatFrom = s.time.now := by
  unfold State.estateReady
  rw [if_neg (not_not.mpr h)]
  exact ⟨rfl, rfl, rfl, rfl⟩

/-- Settles O16: a boot starts from the estate as reset leaves it, and each step of the muster sets the next one last. -/
theorem coldBootAndMuster : Obligations.ColdBootAndMuster := by
  unfold Obligations.ColdBootAndMuster
  refine ⟨fun s f v i hs hself hidentity ha hb hslot hi => ?_, fun s v h hc => ?_, fun s p r h hp h16 => ?_,
    fun s h h16 hm => ?_, fun s h => ?_⟩
  · have hf : goodFindings f := ⟨hself, hidentity, ha, hb⟩
    rcases hi with ⟨rfl, hp, hv⟩ | ⟨rfl, hw, hfound⟩
    · have hnum := s.estateLost_num_updBoot (fun b => { b with pwrEn := true, findings := some f }) 0xA001 4
      exact ⟨_, exec_coldBoot f hs hp hv, hnum ▸ State.startBoot_coldBooted hf (hnum ▸ hslot)⟩
    · exact ⟨_, exec_mainInputInRange hs hw hfound, State.startBoot_coldBooted hf hslot⟩
  · exact ⟨_, congrArg Host.Outcome.next (State.selfTestDone_eq h v), State.coreMuster_trains hc⟩
  · subst hp
    exact ⟨_, rfl, State.stackTrained_trains h h16 r⟩
  · exact ⟨_, rfl, State.memoryMuster_leads h h16 hm⟩
  · exact ⟨_, rfl, State.estateReady_opens h⟩

end Sys2Proof.Machine

/-! # DaybookControl (R415, R417, R418, R431) -/

namespace Sys2Proof.Machine

/-! ## The partition that a command leaves -/

@[simp] theorem State.book_setBook (s : State) (c : Nat) (b : Daybook) : (s.setBook c b).book c = b := by
  simp [State.book, State.setBook]

/-- ARM empties the partition and keeps its tokens. -/
theorem State.book_bookRestart {s : State} {c : Nat} (hm : s.bookMode c ≠ 0) :
    (s.bookRestart c).book c = { (default : Daybook) with state := 1, tokens := (s.book c).tokens } := by
  simp [State.bookRestart, hm]

/-- A record that is not the last of POST leaves the partition there; the last one stops it (R415). -/
theorem state_bookPlace_of_post {b : Daybook} (h : b.state = 2) (mode ordinary r : Nat) :
    (bookPlace mode ordinary b r).state = if b.post ≤ 1 then 3 else 2 := by
  unfold bookPlace
  by_cases hp : b.post ≤ 1 <;> simp [h, hp]

theorem trigPos_bookPlace (mode ordinary r : Nat) (b : Daybook) : (bookPlace mode ordinary b r).trigPos = b.trigPos := by
  unfold bookPlace
  dsimp only
  (repeat' split) <;> rfl

/-- A trigger that is taken notes where its record goes; the partition is in POST while records of it are to follow. -/
theorem State.book_bookTrigger {s : State} {c src : Nat} (hb : (s.book c).state = 1) (hm : s.bookMode c = 3)
    (ht : bit (s.bookTriggers c) src = true) (hp : 0 < s.bookPositions c) (tag : Nat) :
    ((s.bookTrigger c src tag).book c).state = (if (s.bookPositions c - 1) * (16 - s.bookPre c) / 16 ≤ 1 then 3 else 2) ∧
      ((s.bookTrigger c src tag).book c).trigPos = (s.book c).next % (s.bookPositions c - 1) := by
  unfold State.bookTrigger
  simp only [ht, hb, hm, hp, Bool.not_true, Bool.false_eq_true, if_false, decide_true, Bool.and_self, if_true,
    State.book_setBook, trigPos_bookPlace, and_true]
  exact state_bookPlace_of_post rfl ..

theorem State.bookControl_dict (s : State) (c code : Nat) : (s.bookControl c code).dict = s.dict := by
  unfold State.bookControl
  split
  · rfl
  · exact State.dict_of_beyondCuvees (s.bookTrigger_beyondCuvees ..)
  · rfl
  · rfl

@[simp] theorem State.answerWindow_book (s : State) (p : Path) (g : Nat) (y : Response) (c : Nat) :
    (s.answerWindow p g y).book c = s.book c := by
  unfold State.answerWindow
  dsimp only
  split <;> rfl

/-! ## The manager's write of DaybookControl -/

/-- The table's row of DaybookControl. -/
def daybookControlRow : ObjDesc :=
  ⟨0x9003, 0x9003, 0x01, 0xFF, "DaybookControl[c]", .u8, 2, 0, 2, false, .cuvee0, true, 1, 1, 1, ⟨1, 0⟩, some (1, 3)⟩

theorem objAt_daybookControl {c : Nat} (hc : c ≤ 254) : objAt 0x9003 (c + 1) = some daybookControlRow := by
  have h : ∀ k < 255, objAt 0x9003 (k + 1) = some daybookControlRow := by decide +kernel
  exact h c (by omega)

/-- The partition's state accepts the command (R418), and its cuvee is not RELEASING, where R431 refuses every write. -/
def State.daybookAccepts (s : State) (c code : Nat) : Bool := (s.cuvee c).state != .releasing && s.bookControlOk c code

section
variable {s : State} {a : Access} {c code : Nat}

/-- What a command of a cuvee's partition is checked for. -/
theorem State.writeCode_daybookControl (h1 : 1 ≤ c) (hn : (s.cuvee c).state ≠ .none) (hcode : 1 ≤ code)
    (hcode' : code ≤ 3) :
    s.writeCode .manager 2 true (refOf .manager 0x9003 (c + 1) daybookControlRow) (Blob.scalar 1 code) default =
      if s.daybookAccepts c code then stOk else stConflict := by
  have hval : (Blob.scalar 1 code).val = code := Nat.mod_eq_of_lt (by omega)
  have hrange : daybookControlRow.outside code = false := by simp [ObjDesc.outside, daybookControlRow, within, hcode, hcode']
  have hobject : ∀ v, s.chkObject .manager v 0x9003 (c + 1) (Blob.scalar 1 code) default =
      { conflict := !s.daybookAccepts c code } := fun v => by
    have hrel : s.isIn c [.releasing] = ((s.cuvee c).state == .releasing) := by
      simp [State.isIn, beq_eq_decide]
    simp [State.chkObject, State.chkObserve, hval, hrel, State.daybookAccepts, bne, show c ≠ 0 by omega]
  have hstatus : s.valueStatus .manager [] daybookControlRow ⟨0x9003, c + 1, Blob.scalar 1 code⟩ default =
      if s.daybookAccepts c code then stOk else stConflict := by
    have hnone : ((s.cuvee c).state == .none) = false := by simp [hn]
    simp only [State.valueStatus, hobject, hval, hrange, show daybookControlRow.cuveeOf (c + 1) = c from rfl, hnone,
      Bool.and_false]
    cases s.daybookAccepts c code <;> rfl
  exact hstatus

variable (hh : s.hears a = true) (hp : a.path = .pf s.dict.steward) (h1 : 1 ≤ c) (h2 : c ≤ 254)
  (hn : (s.cuvee c).state ≠ .none) (hcode : 1 ≤ code) (hcode' : code ≤ 3)
include hh hp h1 h2 hn hcode hcode'

/-- A command acts on the cycle on which its write is served, or is refused and not queued. -/
theorem State.daybookCommand_heard : ∃ u y, u = s.filled (writingTo a 0x9003 (c + 1) (Blob.scalar 1 code)) 2 ∧
    y.status = (if s.daybookAccepts c code then stOk else stConflict) ∧ y.tag = a.tag ∧
    s.daybookCommand a c code =
      (if s.daybookAccepts c code then u.bookControl c code else u).answerWindow a.path (reqGen a) y := by
  have hcl : s.classOf a.path = some .manager := by rw [hp]; exact congrArg some (if_pos rfl)
  have hval : (Blob.scalar 1 code).val = code := Nat.mod_eq_of_lt (by omega)
  have hcmd : s.daybookCommand a c code = s.commandWrite a 0x9003 (c + 1) (Blob.scalar 1 code) default := by
    unfold State.daybookCommand State.cuveeWrite
    rw [hp]
  obtain ⟨u, size, hu, hw⟩ := s.commandWrite_heard a 0x9003 (c + 1) (Blob.scalar 1 code) default .manager daybookControlRow hh
    (by decide) (by omega) (by simp [Blob.scalar]) (Nat.mod_lt _ (by decide)) hcl (by simp) (objAt_daybookControl h2) rfl
  have hact : u.actWrite .manager ⟨0x9003, c + 1, Blob.scalar 1 code⟩ default = u.bookControl c code := by
    simp only [State.actWrite, objAt_daybookControl h2, daybookControlRow, if_true, State.actCommand, hval, Nat.add_sub_cancel]
  have hcheck : u.writeCode .manager 2 true (refOf .manager 0x9003 (c + 1) daybookControlRow) (Blob.scalar 1 code) default =
      if s.daybookAccepts c code then stOk else stConflict := by
    subst hu
    exact State.writeCode_daybookControl (s := s.filled _ 2) h1 hn hcode hcode'
  have hq : u.writeValue .manager 2 true (refOf .manager 0x9003 (c + 1) daybookControlRow) (Blob.scalar 1 code) default =
      (if s.daybookAccepts c code then stOk else stConflict, false,
        if s.daybookAccepts c code then u.bookControl c code else u) := by
    unfold State.writeValue
    simp only [hcheck]
    cases s.daybookAccepts c code
    · rfl
    · simp [refOf, State.acceptWrite, hact, daybookControlRow]
  rw [hq] at hw
  exact ⟨u, (accessReq (writingTo a 0x9003 (c + 1) (Blob.scalar 1 code)) 2 (reqGen a)).response s.stamp
    ⟨if s.daybookAccepts c code then stOk else stConflict, daybookControlRow.ty.code, ⟨0, 0⟩, size⟩, hu, rfl, rfl,
    hcmd.trans (by simpa using hw)⟩

/-- The answer says whether the command was accepted. -/
theorem State.daybookCommand_answered :
    (s.daybookCommand a c code).answered a (if s.daybookAccepts c code then stOk else stConflict) = true := by
  obtain ⟨u, y, hu, hy, htag, hw⟩ := State.daybookCommand_heard hh hp h1 h2 hn hcode hcode'
  have hdict : (if s.daybookAccepts c code then u.bookControl c code else u).dict = u.dict := by
    split
    · exact u.bookControl_dict c code
    · rfl
  subst hu
  rw [hw]
  exact State.answered_of_windows (congrArg DictSt.windows hdict) hy htag

/-- One that is accepted is answered OK and done to a partition that stands as it stood. -/
theorem State.daybookCommand_acts (hok : s.daybookAccepts c code = true) : ∃ u : State, u.obs = s.obs ∧
    u.dict.vals = s.dict.vals ∧ (s.daybookCommand a c code).answered a 0 = true ∧
    (s.daybookCommand a c code).book c = (u.bookControl c code).book c := by
  have ha := State.daybookCommand_answered hh hp h1 h2 hn hcode hcode'
  obtain ⟨u, y, hu, -, -, hw⟩ := State.daybookCommand_heard hh hp h1 h2 hn hcode hcode'
  rw [if_pos hok] at ha hw
  refine ⟨u, by rw [hu]; rfl, by rw [hu]; rfl, ha, ?_⟩
  rw [hw, State.answerWindow_book]

end

/-! ## What holds of the commands, and where they are refused -/

/-- A request has one status. -/
theorem State.answered_inj {t : State} {a : Access} {m n : Nat} (hm : t.answered a m = true) (hn : t.answered a n = true) :
    m = n := by
  unfold State.answered at hm hn
  cases h : (t.window a.path).response with
  | none => simp [h] at hm
  | some y =>
    simp only [h, Bool.and_eq_true, beq_iff_eq] at hm hn
    exact hm.2.1.symm.trans hn.2.1

section
variable {s : State} {a : Access} {c : Nat} (hh : s.hears a = true) (hp : a.path = .pf s.dict.steward) (h1 : 1 ≤ c)
  (h2 : c ≤ 254) (hn : (s.cuvee c).state ≠ .none) (hr : (s.cuvee c).state ≠ .releasing)
include hh hp h1 h2 hn hr

/-- ARM of a partition that is STOPPED empties and arms it, while its cuvee is not RELEASING. -/
theorem exec_arm_of_not_releasing (hb : (s.book c).state = 3) (hm : s.bookMode c ≠ 0) :
    ∃ t, exec (.arm a c) s = .next t ∧ t.answered a 0 = true ∧
      t.book c = { (default : Daybook) with state := 1, tokens := (s.book c).tokens } := by
  obtain ⟨u, hobs, hvals, ha, ht⟩ := State.daybookCommand_acts hh hp h1 h2 hn (code := 1) (by decide) (by decide)
    (by simp [State.daybookAccepts, State.bookControlOk, hr, hb])
  have hmode : u.bookMode c = s.bookMode c := by simp only [State.bookMode, State.num, State.val, hvals]
  refine ⟨_, rfl, ha, ht.trans ((State.book_bookRestart (hmode ▸ hm)).trans ?_)⟩
  simp only [State.book, hobs]

/-- TRIGGER of a RUNNING partition in TRIGGERED notes its position and makes it POST, or STOPPED when PRE and SIZE leave nothing
to follow the trigger's record, while its cuvee is not RELEASING. -/
theorem exec_trigger_of_not_releasing (hb : (s.book c).state = 1) (hm : s.bookMode c = 3) (ht : bit (s.bookTriggers c) 0 = true)
    (hpos : 0 < s.bookPositions c) :
    ∃ t, exec (.trigger a c) s = .next t ∧ t.answered a 0 = true ∧
      (t.book c).state = (if (s.bookPositions c - 1) * (16 - s.bookPre c) / 16 ≤ 1 then 3 else 2) ∧
      (t.book c).trigPos = (s.book c).next % (s.bookPositions c - 1) := by
  obtain ⟨u, hobs, hvals, ha, hbook⟩ := State.daybookCommand_acts hh hp h1 h2 hn (code := 2) (by decide) (by decide)
    (by simp [State.daybookAccepts, State.bookControlOk, hr, hb, hm])
  have hnum : u.num = s.num := by funext i sub; simp only [State.num, State.val, hvals]
  have hu : u.book c = s.book c := by simp only [State.book, hobs]
  have h := State.book_bookTrigger (s := u) (c := c) (src := 0) (by rw [hu, hb]) (by rwa [State.bookMode, hnum])
    (by rwa [State.bookTriggers, hnum]) (by rwa [State.bookPositions, hnum]) 0
  simp only [State.bookPositions, State.bookPre, hnum, hu] at h
  refine ⟨_, rfl, ha, ?_⟩
  rw [hbook]
  exact h

/-- STOP of a RUNNING partition stops it where it stands, while its cuvee is not RELEASING. -/
theorem exec_stop_of_not_releasing (hb : (s.book c).state = 1) :
    ∃ t, exec (.stop a c) s = .next t ∧ t.answered a 0 = true ∧ t.book c = { s.book c with state := 3, post := 0 } := by
  obtain ⟨u, hobs, -, ha, hbook⟩ := State.daybookCommand_acts hh hp h1 h2 hn (code := 3) (by decide) (by decide)
    (by simp [State.daybookAccepts, State.bookControlOk, hr, hb])
  refine ⟨_, rfl, ha, hbook.trans ((State.book_setBook ..).trans ?_)⟩
  simp only [State.book, hobs]

end

/-- Port A is up and the estate in service; cuvee 1 is RELEASING, and its partition, in RING mode, is STOPPED. -/
def stoppedOfReleasing : State :=
  ((({ State.reset with
    boot := { State.reset.boot with standby := true }
    hostA := { State.reset.hostA with linkUp := true }
    faults := { State.reset.faults with estateState := 0 } }.updCuvee 1 fun v => { v with state := .releasing }).setVal 0x9001 2
      ⟨8, 16⟩).setVal 0x9002 2 ⟨32, 1⟩).setBook 1 { (default : Daybook) with state := 3 }

/-- Refutes O5: its cuvee may be in any state but NONE, and while it is RELEASING every write of a per-cuvee object of R431 is
answered STATE_CONFLICT, ARM of a STOPPED partition too. In the other states the commands act (`exec_arm_of_not_releasing`,
`exec_trigger_of_not_releasing`, `exec_stop_of_not_releasing`). -/
theorem not_daybookCommandsAct : ¬ Obligations.DaybookCommandsAct := by
  unfold Obligations.DaybookCommandsAct
  intro h
  have hh : stoppedOfReleasing.hears plainRequest = true := by decide +kernel
  have hn : (stoppedOfReleasing.cuvee 1).state ≠ .none := by decide +kernel
  have hrefused : stoppedOfReleasing.daybookAccepts 1 1 = false := by decide +kernel
  obtain ⟨harm, -, -⟩ := h stoppedOfReleasing plainRequest 1 hh rfl (by decide) (by decide) hn
  obtain ⟨t, ht, hok, -⟩ := harm (by decide +kernel) (by decide +kernel)
  have hconflict := State.daybookCommand_answered hh rfl (c := 1) (by decide) (by decide) hn (code := 1) (by decide) (by decide)
  rw [if_neg (by simp [hrefused])] at hconflict
  obtain rfl : stoppedOfReleasing.daybookCommand plainRequest 1 1 = t := by injection ht
  exact absurd (State.answered_inj hok hconflict) (by decide)

end Sys2Proof.Machine

/-! # The trip record, and what stops (R455, R512) -/

namespace Sys2Proof.Machine

/-- Settles O49: a trip is the one operation that takes the record further; every other command follows the state before it. -/
theorem tripRecordIsKept : Obligations.TripRecordIsKept := by
  unfold Obligations.TripRecordIsKept
  refine ⟨fun s ts hp h => ⟨_, rfl, ?_⟩, fun s t i hi h => ?_⟩
  · rw [State.dieSensorRead_trips hp h]
    exact ⟨rfl, rfl, rfl, rfl⟩
  · have htrip := (exec_follows hi h).trip
    simp only [FlashSt.trip, Prod.mk.injEq] at htrip
    exact htrip

/-- Settles O54: each command's arm answers with a next state, and a sample within the ratings is no exception. -/
theorem nothingElseStops : Obligations.NothingElseStops := by
  unfold Obligations.NothingElseStops
  intro s i hi
  cases i
  case powerSample w avg v => exact ⟨_, exec_powerSample_of_withinRatings (hi w avg v rfl) w avg s⟩
  all_goals exact ⟨_, rfl⟩

end Sys2Proof.Machine


/-! # Plain requests of the dictionary (R463–R468)

What the checks of R468 come to for a request without FLAGS, OFFSET, EPOCH and TYPE, by a window or by the side-band. -/

namespace Sys2Proof.Machine

/-- Steps 1 to 3 of R468 pass for a plain request, whose class is acc, and no fragment of a write waits on its path (R469). -/
structure State.Serves (s : State) (a : Access) (acc : Acc) : Prop where
  header : plainHeader a = true
  length : a.length ≤ pathLimit a.path
  estate : s.faults.estateState ≠ 3
  asm : s.asmOf a.path = none
  cls : s.classOf a.path = some acc

/-- The fields of a plain header. -/
theorem fields_of_plainHeader {a : Access} (h : plainHeader a = true) :
    a.flags = 0 ∧ a.ty = 255 ∧ a.offset = 0 ∧ a.epoch = 0 ∧ a.reserved = 0 ∧ a.tag < 2 ^ 16 := by
  simpa [plainHeader, and_assoc] using h

section
variable {s : State} {a : Access} {acc : Acc} {op g : Nat} {x : Extra} {d : ObjDesc}

theorem plain_flags {a : Access} (h : plainHeader a = true) (op g : Nat) :
    (accessReq a op g).more = false ∧ (accessReq a op g).named = false ∧ (accessReq a op g).pending = false := by
  obtain ⟨hf, -⟩ := fields_of_plainHeader h
  simp [Req.more, Req.named, Req.pending, accessReq, hf, bit]

namespace State.Serves

theorem wellFormed (h : s.Serves a acc) (ho : 1 ≤ op) (ho' : op ≤ 8) (g : Nat) : (accessReq a op g).malformed = false := by
  obtain ⟨hf, -, -, he, hr, -⟩ := fields_of_plainHeader h.header
  have hl := h.length
  simp only [Req.malformed, (plain_flags h.header op g).2.1]
  simp [accessReq, hf, he, hr]
  omega

/-- The checks of R468 down to the request's object. -/
theorem serve_checked (h : s.Serves a acc) (ho : 1 ≤ op) (ho' : op ≤ 8) (g : Nat) (x : Extra) :
    s.serve (accessReq a op g) x =
      if (accessReq a op g).whole then s.serveWhole acc (accessReq a op g)
      else if (match acc with | .tenant _ => !within a.index 0x4000 0x4FFF | _ => false) then (some (Reply.code stDenied), s)
      else match s.target acc a.index a.sub with
        | (st, none) => (some (Reply.code st), s)
        | (_, some t) => s.serveObject acc (accessReq a op g) t x := by
  have hserves : s.serves (accessReq a op g) = true := by simp [State.serves, h.estate]
  have hcls : s.classOf (accessReq a op g).path = some acc := h.cls
  have hasm : s.settleAsm (accessReq a op g) = s := by
    unfold State.settleAsm
    rw [show s.asmOf (accessReq a op g).path = none from h.asm]
  unfold State.serve
  simp only [h.wellFormed ho ho' g, hserves, Bool.not_true, Bool.false_eq_true, if_false, hcls, hasm]
  rfl

theorem serve_whole (h : s.Serves a acc) (ho : 1 ≤ op) (ho' : op ≤ 8) (hw : (accessReq a op g).whole = true) (x : Extra) :
    s.serve (accessReq a op g) x = s.serveWhole acc (accessReq a op g) := by
  rw [h.serve_checked ho ho', if_pos hw]

theorem serve_object (h : s.Serves a acc) (ho : 1 ≤ op) (ho' : op ≤ 8) (hw : (accessReq a op g).whole = false)
    (ht : ∀ c, acc ≠ .tenant c) (hd : objAt a.index a.sub = some d) (x : Extra) :
    s.serve (accessReq a op g) x = s.serveObject acc (accessReq a op g) (refOf acc a.index a.sub d) x := by
  rw [h.serve_checked ho ho', if_neg (by simp [hw]), s.target_estate acc a.index a.sub d ht hd]
  cases acc
  case tenant c => exact absurd rfl (ht c)
  all_goals rfl

/-- The data of a plain write is the whole value. -/
theorem assemble (h : s.Serves a acc) (op g : Nat) :
    s.assemble (accessReq a op g) = (.whole (carried op a.length a.data), s) := by
  obtain ⟨-, -, ho, -⟩ := fields_of_plainHeader h.header
  unfold State.assemble
  rw [show s.asmOf (accessReq a op g).path = none from h.asm]
  simp only [(plain_flags h.header op g).1, show (accessReq a op g).offset = 0 from ho]
  rfl

/-- A plain READ of an object that the class may read (R463). -/
theorem serve_read (h : s.Serves a acc) (ht : ∀ c, acc ≠ .tenant c) (hd : objAt a.index a.sub = some d)
    (hr : bit (d.rights acc) 0 = true) (g : Nat) (x : Extra) :
    s.serve (accessReq a 1 g) x =
      (some (s.readTarget acc (accessReq a 1 g) (refOf acc a.index a.sub d)).1,
        (s.readTarget acc (accessReq a 1 g) (refOf acc a.index a.sub d)).2) := by
  obtain ⟨-, hty, -⟩ := fields_of_plainHeader h.header
  rw [h.serve_object le_rfl (by decide) (by simp [Req.whole, accessReq]) ht hd]
  unfold State.serveObject
  simp [accessReq, refOf, hr, hty]

/-- A plain WRITE or STAGE of a whole value of an object that the class may write. -/
theorem serve_write (h : s.Serves a acc) (ho : op = 2 ∨ op = 3) (ht : ∀ c, acc ≠ .tenant c)
    (hd : objAt a.index a.sub = some d) (hw : bit (d.rights acc) 1 = true) (hs : a.data.size = a.length)
    (hv : a.data.val < 2 ^ (8 * a.length)) {st : Nat} {t : State}
    (hq : s.writeValue acc op true (refOf acc a.index a.sub d) a.data x = (st, false, t)) :
    ∃ size, s.serve (accessReq a op g) x = (some ⟨st, d.ty.code, ⟨0, 0⟩, size⟩, t) := by
  obtain ⟨-, hty, -⟩ := fields_of_plainHeader h.header
  have hdata : carried op a.length a.data = a.data := by
    obtain ⟨_, _, _, _, _, _, _, _, _, _, _, ⟨size, val⟩⟩ := a
    obtain rfl : size = _ := hs
    unfold carried Blob.get
    rcases ho with rfl | rfl <;> simp [Nat.mod_eq_of_lt hv]
  have hwhole : (accessReq a op g).whole = false := by rcases ho with rfl | rfl <;> simp [Req.whole, accessReq]
  have hasm := h.assemble op g
  rw [hdata] at hasm
  have hmore := (plain_flags h.header op g).1
  have hr : bit (refOf acc a.index a.sub d).rights 1 = true := hw
  have htyOk : ((accessReq a op g).ty == 255 || (accessReq a op g).ty == (refOf acc a.index a.sub d).ty) = true := by
    simp [accessReq, hty]
  have hop : (accessReq a op g).op = op := rfl
  rw [h.serve_object (by omega) (by omega) hwhole ht hd]
  refine ⟨(s.targetValue acc (refOf acc a.index a.sub d)).1.size, ?_⟩
  unfold State.serveObject
  rcases ho with rfl | rfl <;>
    simp only [hop, hr, hmore, htyOk, hasm, hq, Bool.not_true, Bool.false_eq_true, if_false, Bool.false_and] <;> rfl

end State.Serves

/-! ## By a window (R477, R478) -/

/-- A heard request is served with its window filled. -/
theorem State.serves_of_hears (h : s.hears a = true) (hl : a.length ≤ 65536) (hc : s.classOf a.path = some acc) (op : Nat) :
    (s.filled a op).Serves a acc := by
  simp only [State.hears, Bool.and_eq_true, bne_iff_ne, ne_eq] at h
  obtain ⟨⟨⟨⟨⟨⟨⟨⟨-, hp⟩, -⟩, -⟩, -⟩, -⟩, hplain⟩, hestate⟩, hasm⟩ := h
  have hlimit : pathLimit a.path = 65536 := by
    unfold hostPath at hp
    unfold pathLimit
    split at hp <;> simp_all
  exact ⟨hplain, hlimit ▸ hl, hestate, Option.isNone_iff_eq_none.mp hasm, hc⟩

theorem fits_of_hears (h : s.hears a = true) (hi : a.index < 2 ^ 16) (hsub : a.sub < 2 ^ 8) (hl : a.length ≤ 65536)
    (ho : op < 2 ^ 8) : (accessReq a op (reqGen a)).fits = true := by
  simp only [State.hears, Bool.and_eq_true] at h
  obtain ⟨⟨⟨-, hplain⟩, -⟩, -⟩ := h
  obtain ⟨hf, hty, hoff, hep, hres, htag⟩ := fields_of_plainHeader hplain
  simp only [Req.fits, accessReq, hf, hty, hoff, hep, hres, decide_eq_true_eq]
  omega

/-- What serving a heard request comes to is answered in its window, where what acted left the windows alone. -/
theorem State.request_answered (h : s.hears a = true) (hf : (accessReq a op (reqGen a)).fits = true) {y : Reply} {t : State}
    (hs : (s.filled a op).serve (accessReq a op (reqGen a)) x = (some y, t))
    (hwin : t.dict.windows = (s.filled a op).dict.windows) :
    s.request_ op a x = t.answerWindow a.path (reqGen a) ((accessReq a op (reqGen a)).response s.stamp y) ∧
      (s.request_ op a x).answered a y.status = true := by
  have hreq : s.request_ op a x = t.answerWindow a.path (reqGen a) ((accessReq a op (reqGen a)).response s.stamp y) := by
    rw [s.request_heard a op x h hf, hs]
  refine ⟨hreq, ?_⟩
  rw [hreq]
  refine State.answerWindow_answered ?_ rfl rfl
  have hw : t.window a.path = (s.filled a op).window a.path := by unfold State.window; rw [hwin]
  rw [hw]
  exact s.filled_inFlight a op

/-- The window of the answer holds it as it was given. -/
theorem State.answerWindow_response {p : Path} {y : Response} (hw : (s.window p).inFlight = some g) :
    ((s.answerWindow p g y).window p).response = some y := by
  unfold State.answerWindow
  simp only [hw, ne_eq, not_true_eq_false, if_false]
  exact congrArg Window.response (State.window_setWindow ..)

theorem State.answerWindow_vals (s : State) (p : Path) (g : Nat) (y : Response) :
    (s.answerWindow p g y).dict.vals = s.dict.vals := by
  unfold State.answerWindow
  dsimp only
  split <;> rfl

end

end Sys2Proof.Machine

/-! # READ (R463, R465, R469) -/

namespace Sys2Proof.Machine

/-- The manager's path is of the manager's class (R461). -/
theorem State.classOf_manager {s : State} {p : Path} (h : p = .pf s.dict.steward) : s.classOf p = some .manager := by
  rw [h]
  exact congrArg some (if_pos rfl)

/-- The answer to a plain READ of one of the table's objects: its bytes from the first on. -/
theorem State.readTarget_plain {s : State} {a : Access} (h : plainHeader a = true) (i sub : Nat) (d : ObjDesc) :
    s.readTarget .manager (accessReq a 1 (reqGen a)) (refOf .manager i sub d) =
      (⟨stOk, d.ty.code, ⟨min (if a.length = 0 then pathLimit a.path else a.length) (s.objValue .manager i sub).size,
          (s.objValue .manager i sub).get 0
            (min (if a.length = 0 then pathLimit a.path else a.length) (s.objValue .manager i sub).size)⟩,
        (s.objValue .manager i sub).size⟩, s) := by
  obtain ⟨-, -, ho, -⟩ := fields_of_plainHeader h
  unfold State.readTarget
  simp only [(plain_flags h 1 (reqGen a)).2.2, show (accessReq a 1 (reqGen a)).offset = 0 from ho]
  rfl

/-- Settles O8: the window holds the answer to the one object of the table at that address. -/
theorem readReturnsTheValue : Obligations.ReadReturnsTheValue := by
  unfold Obligations.ReadReturnsTheValue
  intro s a d hh hp hi hsub hl hd hr
  have hserves := State.serves_of_hears hh hl (State.classOf_manager hp) 1
  have hserve := hserves.serve_read (by simp) hd hr (reqGen a) default
  rw [State.readTarget_plain hserves.header] at hserve
  obtain ⟨hreq, hans⟩ := State.request_answered hh (fits_of_hears hh hi hsub hl (by decide)) hserve rfl
  have hlimit : pathLimit a.path = 65536 := by rw [hp]; rfl
  have hresponse := congrArg (fun t => (t.window a.path).response) hreq
  rw [State.answerWindow_response (s.filled_inFlight a 1), hlimit] at hresponse
  refine ⟨_, _, rfl, hans, hresponse, rfl, rfl, rfl, rfl, rfl, rfl, ?_, ?_⟩
  · rw [hreq, State.answerWindow_vals]
    rfl
  · rw [hreq, State.answerWindow_cuvees]
    rfl

end Sys2Proof.Machine

/-! # WRITE, STAGE, COMMIT and ABORT (R470, R471) -/

namespace Sys2Proof.Machine

/-! ## What becomes pending -/

/-- The dictionary apart from the units that accepted writes have reserved. -/
def State.unreserved (s : State) : DictSt := { s.dict with reserved := [] }

theorem State.wakeClusters_dict (s : State) (ts : List Nat) : (s.wakeClusters ts).dict = s.dict :=
  State.each_frame State.dict _ _ _ fun s d => by split <;> rfl

theorem State.holdUnits_unreserved (s : State) (w : ObjWrite) : (s.holdUnits w).unreserved = s.unreserved := by
  have hwake : ∀ (u : State) ts, (u.wakeClusters ts).unreserved = u.unreserved := fun u ts => by
    unfold State.unreserved
    rw [u.wakeClusters_dict]
  unfold State.holdUnits
  split
  · dsimp only
    split
    · exact hwake ..
    · rfl
  · split
    · split
      · exact hwake ..
      · rfl
    · rfl

/-- The pending write or commit that an accepted one becomes. -/
def State.posted (s : State) (a : Acc) (commit : Bool) (ws : List ObjWrite) (named : Option Nat) : Pending :=
  ⟨s.dict.nextSeq, a, commit, ws, s.nextDue, named⟩

/-- What is posted joins the writes that wait; its units are all it takes besides. -/
theorem State.post_unreserved (s : State) (a : Acc) (commit : Bool) (ws : List ObjWrite) (named : Option Nat) :
    (s.post a commit ws named).unreserved =
      { s.unreserved with pend := s.dict.pend ++ [s.posted a commit ws named], nextSeq := s.dict.nextSeq + 1 } :=
  State.each_frame State.unreserved _ _ _ State.holdUnits_unreserved

theorem State.post_leaves (s : State) (a : Acc) (commit : Bool) (ws : List ObjWrite) (named : Option Nat) :
    (s.post a commit ws named).dict.pend = s.dict.pend ++ [s.posted a commit ws named] ∧
      (s.post a commit ws named).dict.windows = s.dict.windows ∧ (s.post a commit ws named).dict.vals = s.dict.vals ∧
      (s.post a commit ws named).dict.staging = s.dict.staging := by
  have h := s.post_unreserved a commit ws named
  simp only [State.unreserved, DictSt.mk.injEq] at h
  obtain ⟨hvals, hstaging, hpend, -, -, -, hwindows, -⟩ := h
  exact ⟨hpend, hwindows, hvals, hstaging⟩

/-! ## What a class has staged -/

theorem State.staging_putStaging {ws : List ObjWrite} (h : ws ≠ []) (s : State) (a : Acc) :
    (s.putStaging a ws).staging a = ws := by
  have hfind : (s.dict.staging.filter fun e => e.1 != a).find? (fun e => e.1 == a) = none := by
    simp [List.find?_eq_none]
  simp [State.staging, State.putStaging, h, List.find?_append, hfind]

theorem State.staging_of_dict {s t : State} (h : t.dict.staging = s.dict.staging) (a : Acc) : t.staging a = s.staging a := by
  simp only [State.staging, h]

theorem sumNat_filter_le {α : Type} (f : α → Nat) (p : α → Bool) (l : List α) :
    sumNat ((l.filter p).map f) ≤ sumNat (l.map f) := by
  induction l with
  | nil => exact le_rfl
  | cons x l ih =>
    rw [List.filter_cons]
    split <;> simp only [List.map_cons, sumNat] <;> omega

/-- A write joins the set while its limits hold (R471). -/
theorem State.stageWrite_some {s : State} {a : Acc} {w : ObjWrite} (hn : (s.staging a).length < 256)
    (hb : sumNat ((s.staging a).map fun x => x.data.size) + w.data.size ≤ 65536) :
    s.stageWrite a w = some (s.putStaging a (((s.staging a).filter fun x => !x.same w.idx w.sub) ++ [w])) := by
  have hlen := (s.staging a).length_filter_le fun x => !x.same w.idx w.sub
  have hsum := sumNat_filter_le (fun x : ObjWrite => x.data.size) (fun x => !x.same w.idx w.sub) (s.staging a)
  unfold State.stageWrite
  dsimp only
  rw [if_neg]
  simp only [Bool.or_eq_true, decide_eq_true_eq]
  omega

/-! ## COMMIT and ABORT of a class's set -/

section
variable {s : State} {a : Acc} {r : Req} (hn : r.named = false)
include hn

theorem State.commitSet_posts (hset : s.staging a ≠ [])
    (hroom : (s.dict.pend.filter fun p => p.cls == a && p.commit).length < 8) :
    ∃ t, s.commitSet a r = (stStaged, t) ∧ t.dict.windows = s.dict.windows ∧
      t.dict.pend = s.dict.pend ++ [s.posted a true (s.staging a) none] ∧ t.staging a = [] := by
  obtain ⟨hpend, hwindows, -, hstaging⟩ := (s.putStaging a []).post_leaves a true (s.staging a) none
  unfold State.commitSet
  simp only [hn, Bool.false_and, Bool.false_eq_true, if_false, List.isEmpty_iff, hset, Nat.not_le.mpr hroom]
  exact ⟨_, rfl, hwindows, hpend, (State.staging_of_dict hstaging a).trans (s.staging_putStaging_nil a)⟩

theorem State.commitSet_empty (hset : s.staging a = []) : s.commitSet a r = (stConflict, s) := by
  simp [State.commitSet, hn, hset]

theorem State.commitSet_full (hset : s.staging a ≠ [])
    (hfull : 8 ≤ (s.dict.pend.filter fun p => p.cls == a && p.commit).length) : s.commitSet a r = (stBusy, s) := by
  simp [State.commitSet, hn, hset, hfull]

theorem State.abortSet_discards (hset : s.staging a ≠ []) : s.abortSet a r = (stOk, s.putStaging a []) := by
  simp [State.abortSet, hn, hset]

end

/-! ## The checks of a write -/

/-- A row that the table gives for an address lists it. -/
theorem objAt_some {i sub : Nat} {d : ObjDesc} (h : objAt i sub = some d) : d ∈ objects ∧ d.idx ≤ i ∧ i ≤ d.idxHi := by
  have hrow := List.find?_some h
  simp only [Bool.and_eq_true, decide_eq_true_eq] at hrow
  obtain ⟨⟨⟨hlo, hhi⟩, -⟩, -⟩ := hrow
  exact ⟨List.mem_of_find?_eq_some h, hlo, hhi⟩

/-- ResetCommand and FlashProgram act at once (R454, R489). -/
theorem index_of_epoch {i sub : Nat} {d : ObjDesc} (h : objAt i sub = some d) (he : d.epoch = true) : i ≠ 0xB021 ∧ i ≠ 0x1020 := by
  have hrows : ∀ d ∈ objects, d.epoch = true →
      ¬(d.idx ≤ 0xB021 ∧ 0xB021 ≤ d.idxHi) ∧ ¬(d.idx ≤ 0x1020 ∧ 0x1020 ≤ d.idxHi) := by decide +kernel
  obtain ⟨hmem, hlo, hhi⟩ := objAt_some h
  obtain ⟨hreset, hflash⟩ := hrows d hmem he
  exact ⟨fun hi => hreset (hi ▸ ⟨hlo, hhi⟩), fun hi => hflash (hi ▸ ⟨hlo, hhi⟩)⟩

/-- CuveeCommand is a command object (R245). -/
theorem index_of_not_cmd {i sub : Nat} {d : ObjDesc} (h : objAt i sub = some d) (hc : d.cmd = false) : i ≠ 0x3012 := by
  have hrows : ∀ d ∈ objects, d.cmd = false → ¬(d.idx ≤ 0x3012 ∧ 0x3012 ≤ d.idxHi) := by decide +kernel
  obtain ⟨hmem, hlo, hhi⟩ := objAt_some h
  exact fun hi => hrows d hmem hc (hi ▸ ⟨hlo, hhi⟩)

/-- An accepted write's object is one that the class may write. -/
theorem State.right_of_accepts {s : State} {acc : Acc} {i sub : Nat} {b : Blob} {x : Extra} {d : ObjDesc}
    (hd : objAt i sub = some d) (h : s.accepts acc i sub b x = true) : bit (d.rights acc) 1 = true := by
  simp only [State.accepts, hd, Bool.and_eq_true] at h
  exact h.1.1.1

/-- An accepted write passes the checks of R468 from its size on. -/
theorem State.writeCode_of_accepts {s : State} {acc : Acc} {i sub op : Nat} {b : Blob} {x : Extra} {d : ObjDesc}
    (hd : objAt i sub = some d) (h : s.accepts acc i sub b x = true) (hi : i ≠ 0x3012) (hop : op = 3 → d.cmd = false) :
    s.writeCode acc op true (refOf acc i sub d) b x = stOk := by
  simp only [State.accepts, hd, Bool.and_eq_true, beq_iff_eq, Bool.not_eq_true'] at h
  obtain ⟨⟨⟨-, hsize⟩, hdenied⟩, hstatus⟩ := h
  have hstage : (decide (op = 3) && d.cmd) = false := by
    by_cases ho : op = 3
    · simp [hop ho]
    · simp [ho]
  simp [State.writeCode, refOf, hsize, hdenied, hstage, hi, hstatus]

/-- What a request's window holds does not bear on the checks. -/
theorem State.accepts_filled (s : State) (a : Access) (op : Nat) (acc : Acc) (i sub : Nat) (b : Blob) (x : Extra) :
    (s.filled a op).accepts acc i sub b x = s.accepts acc i sub b x := rfl

/-- Nor do the free values that a WRITE uses up. -/
theorem State.accepts_free (s : State) (n : Nat) (acc : Acc) (i sub : Nat) (b : Blob) (x : Extra) :
    State.accepts { s with free := n } acc i sub b x = s.accepts acc i sub b x := rfl

/-! ## The answers -/

theorem State.answerWindow_staging (s : State) (p : Path) (g : Nat) (y : Response) (a : Acc) :
    (s.answerWindow p g y).staging a = s.staging a := by
  refine State.staging_of_dict ?_ a
  unfold State.answerWindow
  dsimp only
  split <;> rfl

theorem State.val_of_vals {s t : State} (h : t.dict.vals = s.dict.vals) (i sub : Nat) : t.val i sub = s.val i sub := by
  simp only [State.val, h]

theorem State.answerWindow_val (s : State) (p : Path) (g : Nat) (y : Response) (i sub : Nat) :
    (s.answerWindow p g y).val i sub = s.val i sub :=
  State.val_of_vals (s.answerWindow_vals ..) ..

section
variable {s : State} {a : Access} {d : ObjDesc} (hh : s.hears a = true) (hp : a.path = .pf s.dict.steward)
include hh hp

section
variable (hi : a.index < 2 ^ 16) (hsub : a.sub < 2 ^ 8) (hl : a.length ≤ 65536) (hsize : a.data.size = a.length)
  (hval : a.data.val < 2 ^ (8 * a.length)) (hd : objAt a.index a.sub = some d)
include hi hsub hl hsize hval hd

/-- An accepted WRITE of an Epoch object is posted for the boundary, and nothing of its value is in force before. -/
theorem State.write_posts (he : d.epoch = true) (hcmd : a.index ≠ 0x3012) (hrow : a.index ≠ 0x2003) {x : Extra}
    (hacc : s.accepts .manager a.index a.sub a.data x = true)
    (hroom : (s.dict.pend.filter fun p => !p.commit).length < 4096) :
    (s.request_ 2 a x).answered a stStaged = true ∧
      (s.request_ 2 a x).dict.pend = s.dict.pend ++ [s.posted .manager false [⟨a.index, a.sub, a.data⟩] none] ∧
      (s.request_ 2 a x).val a.index a.sub = s.val a.index a.sub := by
  obtain ⟨hreset, hflash⟩ := index_of_epoch hd he
  have hq := State.writeValue_staged (s := s.filled a 2)
    (State.writeCode_of_accepts (op := 2) hd ((s.accepts_filled a 2 ..).trans hacc) hcmd
      fun h => absurd h (by decide)) he
    ⟨hrow, hcmd, hreset, hflash⟩ hroom
  obtain ⟨hpend, hwindows, hvals, -⟩ := (s.filled a 2).post_leaves .manager false [⟨a.index, a.sub, a.data⟩] none
  obtain ⟨size, hserve⟩ := (State.serves_of_hears hh hl (State.classOf_manager hp) 2).serve_write (g := reqGen a) (.inl rfl)
    (by simp) hd (State.right_of_accepts hd hacc) hsize hval hq
  obtain ⟨hreq, hans⟩ := State.request_answered hh (fits_of_hears hh hi hsub hl (by decide)) hserve hwindows
  refine ⟨hans, ?_, ?_⟩
  · rw [hreq, (State.answerWindow_pend ..).1]
    exact hpend
  · rw [hreq, State.answerWindow_val]
    exact State.val_of_vals hvals ..

/-- An accepted STAGE joins the manager's set. -/
theorem State.stage_joins (hc : d.cmd = false) {x : Extra} (hacc : s.accepts .manager a.index a.sub a.data x = true)
    (hn : (s.staging .manager).length < 256)
    (hb : sumNat ((s.staging .manager).map fun w => w.data.size) + a.length ≤ 65536) :
    (s.request_ 3 a x).answered a stOk = true ∧
      (s.request_ 3 a x).staging .manager =
        ((s.staging .manager).filter fun w => !w.same a.index a.sub) ++ [⟨a.index, a.sub, a.data⟩] ∧
      (s.request_ 3 a x).dict.pend = s.dict.pend := by
  have hcode := State.writeCode_of_accepts (op := 3) hd ((s.accepts_filled a 3 ..).trans hacc) (index_of_not_cmd hd hc)
    fun _ => hc
  have hstage := State.stageWrite_some (s := s.filled a 3) (a := .manager) (w := ⟨a.index, a.sub, a.data⟩) hn (hsize ▸ hb)
  have hq : (s.filled a 3).writeValue .manager 3 true (refOf .manager a.index a.sub d) a.data x = (stOk, false,
      (s.filled a 3).putStaging .manager
        (((s.staging .manager).filter fun w => !w.same a.index a.sub) ++ [⟨a.index, a.sub, a.data⟩])) := by
    unfold State.writeValue
    rw [hcode]
    simp only [refOf, if_true, hstage]
    rfl
  obtain ⟨size, hserve⟩ := (State.serves_of_hears hh hl (State.classOf_manager hp) 3).serve_write (g := reqGen a) (.inr rfl)
    (by simp) hd (State.right_of_accepts hd hacc) hsize hval hq
  obtain ⟨hreq, hans⟩ := State.request_answered hh (fits_of_hears hh hi hsub hl (by decide)) hserve rfl
  refine ⟨hans, ?_, ?_⟩
  · rw [hreq, State.answerWindow_staging, State.staging_putStaging (by simp)]
  · rw [hreq, (State.answerWindow_pend ..).1]
    rfl

end

theorem State.named_of_hears (hl : a.length = 0) (op : Nat) : (accessReq a op (reqGen a)).named = false :=
  (plain_flags (State.serves_of_hears hh (hl ▸ Nat.zero_le _) (State.classOf_manager hp) op).header op (reqGen a)).2.1

section
variable (hi : a.index = 0) (hsub : a.sub = 0) (hl : a.length = 0)
include hi hsub hl

/-- A COMMIT or ABORT that names no object is the class's own. -/
theorem State.request_whole {op : Nat} (ho : op = 4 ∨ op = 5) {y : Reply} {t : State}
    (hs : (s.filled a op).serveWhole .manager (accessReq a op (reqGen a)) = (some y, t))
    (hwin : t.dict.windows = (s.filled a op).dict.windows) :
    s.request_ op a default = t.answerWindow a.path (reqGen a) ((accessReq a op (reqGen a)).response s.stamp y) ∧
      (s.request_ op a default).answered a y.status = true := by
  have hop : 1 ≤ op ∧ op ≤ 8 := by omega
  have hwhole : (accessReq a op (reqGen a)).whole = true := by
    rcases ho with rfl | rfl <;> simp [Req.whole, accessReq, hi, hsub]
  have hserve := (State.serves_of_hears hh (hl ▸ Nat.zero_le _) (State.classOf_manager hp) op).serve_whole (g := reqGen a)
    hop.1 hop.2 hwhole default
  exact State.request_answered hh (fits_of_hears hh (by omega) (by omega) (by omega) (by omega)) (hserve.trans hs) hwin

/-- COMMIT makes the set one pending commit, and the set is empty. -/
theorem State.commit_posts (hset : s.staging .manager ≠ [])
    (hroom : (s.dict.pend.filter fun p => p.cls == .manager && p.commit).length < 8) :
    (s.request_ 4 a default).answered a stStaged = true ∧
      (s.request_ 4 a default).dict.pend = s.dict.pend ++ [s.posted .manager true (s.staging .manager) none] ∧
      (s.request_ 4 a default).staging .manager = [] := by
  obtain ⟨t, hcommit, hwin, hpend, hstaging⟩ :=
    State.commitSet_posts (s := s.filled a 4) (State.named_of_hears hh hp hl 4) hset hroom
  obtain ⟨hreq, hans⟩ := State.request_whole hh hp hi hsub hl (.inl rfl)
    (congrArg (fun q : Nat × State => (some (Reply.code q.1), q.2)) hcommit) hwin
  refine ⟨hans, ?_, ?_⟩
  · rw [hreq, (State.answerWindow_pend ..).1, hpend]
    rfl
  · rw [hreq, State.answerWindow_staging, hstaging]

/-- A COMMIT that is refused changes neither the set nor what waits for a boundary. -/
theorem State.commit_refused {st : Nat}
    (hst : (s.filled a 4).commitSet .manager (accessReq a 4 (reqGen a)) = (st, s.filled a 4)) :
    (s.request_ 4 a default).answered a st = true ∧ (s.request_ 4 a default).dict.pend = s.dict.pend ∧
      (s.request_ 4 a default).staging .manager = s.staging .manager := by
  obtain ⟨hreq, hans⟩ := State.request_whole hh hp hi hsub hl (.inl rfl)
    (congrArg (fun q : Nat × State => (some (Reply.code q.1), q.2)) hst) rfl
  refine ⟨hans, ?_, ?_⟩
  · rw [hreq, (State.answerWindow_pend ..).1]
    rfl
  · rw [hreq, State.answerWindow_staging]
    rfl

/-- ABORT of the set discards it. -/
theorem State.abort_discards (hset : s.staging .manager ≠ []) :
    (s.request_ 5 a default).answered a stOk = true ∧ (s.request_ 5 a default).staging .manager = [] ∧
      (s.request_ 5 a default).dict.pend = s.dict.pend := by
  have habort := State.abortSet_discards (s := s.filled a 5) (State.named_of_hears hh hp hl 5) hset
  obtain ⟨hreq, hans⟩ := State.request_whole hh hp hi hsub hl (.inr rfl)
    (congrArg (fun q : Nat × State => (some (Reply.code q.1), q.2)) habort) rfl
  refine ⟨hans, ?_, ?_⟩
  · rw [hreq, State.answerWindow_staging, State.staging_putStaging_nil]
  · rw [hreq, (State.answerWindow_pend ..).1]
    rfl

end
end

/-- Settles O9: what is accepted is posted or staged, and the request's window holds the answer. -/
theorem writesAndSets : Obligations.WritesAndSets := by
  unfold Obligations.WritesAndSets
  refine ⟨⟨fun s a d hh hp hi hsub hl hsize hval hd he hcmd hrow hacc hroom => ?_,
    fun s a d hh hp hi hsub hl hsize hval hd hc hacc hn hb => ?_⟩,
    fun s a hh hp hi hsub hl hset hroom => ?_, fun s a hh hp hi hsub hl hset => ?_,
    fun s a hh hp hi hsub hl hset hfull => ?_, fun s a hh hp hi hsub hl hset => ?_⟩
  · obtain ⟨hans, hpend, hvalue⟩ := State.write_posts (s := { s with free := s.free + 8 }) hh hp hi hsub hl hsize hval hd he hcmd
      hrow ((s.accepts_free ..).trans hacc) hroom
    exact ⟨_, _, rfl, hans, hpend, rfl, rfl, rfl, rfl, hvalue⟩
  · exact ⟨_, rfl, State.stage_joins hh hp hi hsub hl hsize hval hd hc hacc hn hb⟩
  · obtain ⟨hans, hpend, hempty⟩ := State.commit_posts hh hp hi hsub hl hset hroom
    exact ⟨_, _, rfl, hans, hpend, rfl, rfl, rfl, rfl, rfl, hempty⟩
  · obtain ⟨hans, hpend, -⟩ := State.commit_refused hh hp hi hsub hl 
      (State.commitSet_empty (s := s.filled a 4) (State.named_of_hears hh hp hl 4) hset)
    exact ⟨_, rfl, hans, hpend⟩
  · exact ⟨_, rfl, State.commit_refused hh hp hi hsub hl 
      (State.commitSet_full (s := s.filled a 4) (State.named_of_hears hh hp hl 4) hset hfull)⟩
  · exact ⟨_, rfl, State.abort_discards hh hp hi hsub hl hset⟩

end Sys2Proof.Machine


/-! # Command objects by the windows and by the side-band (R465, R484) -/

namespace Sys2Proof.Machine

section
variable {s : State} {a : Access} {acc : Acc} {i sub : Nat} {b : Blob} {x : Extra} {d : ObjDesc}

theorem framed_of_hears (h : s.hears a = true) : framed a = true := by
  simp only [State.hears, Bool.and_eq_true, beq_iff_eq] at h
  obtain ⟨⟨⟨⟨⟨⟨⟨⟨hvia, -⟩, -⟩, -⟩, -⟩, -⟩, -⟩, -⟩, -⟩ := h
  unfold framed
  rw [hvia]

/-- A checked write of an object of Immediate effect acts (R470). -/
theorem State.writeValue_acts (hok : s.writeCode acc 2 true (refOf acc i sub d) b x = stOk) (he : d.epoch = false)
    (hi : i ≠ 0x2003 ∧ i ≠ 0x3012 ∧ i ≠ 0x1020) (hwarm : i = 0xB021 → b.get 0 1 ≠ 2) :
    s.writeValue acc 2 true (refOf acc i sub d) b x = (stOk, false, s.actWrite acc ⟨i, sub, b⟩ x) := by
  obtain ⟨h1, h2, h3⟩ := hi
  unfold State.writeValue
  simp only [hok]
  simp [refOf, State.acceptWrite, h1, h2, h3, he]
  exact fun h h2 => absurd h2 (hwarm (of_decide_eq_true h))

/-- One that is refused changes nothing. -/
theorem State.writeValue_refused {st : Nat} (hno : s.writeCode acc 2 true (refOf acc i sub d) b x = st) (hst : st ≠ stOk)
    (hi : i ≠ 0x2003) : s.writeValue acc 2 true (refOf acc i sub d) b x = (st, false, s) := by
  unfold State.writeValue
  simp only [hno]
  simp [refOf, hst, hi]

section
variable (hc : s.classOf a.path = some acc) (ht : ∀ c, acc ≠ .tenant c) (hi : i < 2 ^ 16) (hsub : sub < 2 ^ 8)
  (hv : b.val < 2 ^ (8 * b.size)) (hd : objAt i sub = some d) (hw : bit (d.rights acc) 1 = true)
include hc ht hi hsub hv hd hw

/-- A heard write of a command object that leaves the windows alone: what it comes to, and its answer in the window. -/
theorem State.commandWrite_answered (hh : s.hears a = true) (hb : b.size ≤ 65536) {st : Nat} {t : State}
    (hq : (s.filled (writingTo a i sub b) 2).writeValue acc 2 true (refOf acc i sub d) b x = (st, false, t))
    (hwin : t.dict.windows = (s.filled (writingTo a i sub b) 2).dict.windows) :
    ∃ y, s.commandWrite a i sub b x = t.answerWindow a.path (reqGen a) y ∧
      (s.commandWrite a i sub b x).answered a st = true := by
  have hheard : s.hears (writingTo a i sub b) = true := hh
  obtain ⟨size, hserve⟩ := (State.serves_of_hears hheard hb hc 2).serve_write (g := reqGen a) (.inl rfl) ht hd hw rfl hv hq
  obtain ⟨hreq, hans⟩ := State.request_answered hheard (fits_of_hears hheard hi hsub hb (by decide)) hserve hwin
  have hcmd : s.commandWrite a i sub b x = s.request_ 2 (writingTo a i sub b) x := if_pos (framed_of_hears hh)
  exact ⟨_, hcmd.trans hreq, hcmd ▸ hans⟩

end
end

end Sys2Proof.Machine

/-! # ResetCommand (R454) -/

namespace Sys2Proof.Machine

/-! ## An estate warm reset -/

/-- What the boot of an estate warm reset leaves alone: the faults' record, the windows and the boot's findings; no cuvee comes. -/
def State.warmed (s : State) : FaultSt × Sparse Cuvee × List (Path × Window) × Option BootFindings :=
  (s.faults, s.cuvees, s.dict.windows, s.boot.findings)

theorem State.bootRom_warmed (s : State) (f : BootFindings) : (s.bootRom f).2.warmed = s.warmed := by
  rw [s.bootRom_state f]
  rfl

theorem State.warmed_of_beyondPower {s t : State} (h : t.beyondPower = s.beyondPower) : t.warmed = s.warmed := by
  have hw := congrArg State.warmed h
  exact hw

theorem State.coreMuster_warmed (s : State) : s.coreMuster.warmed = s.warmed := by
  unfold State.coreMuster
  extract_lets m cause on u v w
  have hv : v.warmed = u.warmed :=
    State.warmed_of_beyondPower (State.each_frame State.beyondPower _ _ u fun u d => u.setDomain_beyondPower ..)
  have hw : w.warmed = v.warmed :=
    State.warmed_of_beyondPower (State.each_frame State.beyondPower _ _ v fun v k => v.setDomain_beyondPower ..)
  have hu : u.warmed = s.warmed := rfl
  clear_value u v w
  split
  · rfl
  · exact hw.trans (hv.trans hu)

/-- ESTATE_WARM: the estate is lost, and the boot that follows touches neither the windows nor the cuvees. -/
theorem State.warmReset_warmed (s : State) (f : BootFindings) : (s.warmReset f).warmed =
    ({ s.estateLost.faults with engines := keptEngines s.faults.engines, resetOp := 2, resetPhase := 1 }, [], s.dict.windows,
      some f) := by
  unfold State.warmReset
  dsimp only
  generalize hv : State.railsUp _ = v
  have hrails := congrArg State.warmed hv
  rw [State.warmed_of_beyondPower (State.railsUp_beyondPower _)] at hrails
  generalize hw : State.updBoot v _ = w
  have hwarmed : w.warmed = ({ s.estateLost.faults with engines := keptEngines s.faults.engines, resetOp := 2, resetPhase := 1 },
      [], s.dict.windows, some f) := by
    rw [← hw]
    exact congrArg (fun q : FaultSt × Sparse Cuvee × List (Path × Window) × Option BootFindings => (q.1, q.2.1, q.2.2.1, some f))
      hrails.symm
  have hr : (w.bootRom f).2.warmed = w.warmed := w.bootRom_warmed f
  rw [← hwarmed, ← hr]
  split
  · rfl
  · split
    · exact State.coreMuster_warmed _
    · rfl

/-! ## The manager's write of ResetCommand -/

/-- The table's row of ResetCommand. -/
def resetCommandRow : ObjDesc :=
  ⟨0xB021, 0xB021, 0x01, 0x01, "ResetCommand", .blob, 2, 0, 2, false, .estate, true, 8, 8, 1, ⟨8, 0⟩, none⟩

theorem objAt_resetCommand : objAt 0xB021 1 = some resetCommandRow := by decide +kernel

theorem resetRecord_get {op p : Nat} (ho : op < 2 ^ 8) (hp : p < 2 ^ 8) : (resetRecord op p).get 0 1 = op ∧
    (resetRecord op p).get 1 1 = p ∧ (resetRecord op p).get 2 6 = 0 ∧
      (resetRecord op p).val < 2 ^ (8 * (resetRecord op p).size) := by
  refine ⟨(Blob.record_get_head ..).trans (Nat.mod_eq_of_lt ho),
    (Blob.record_get_tail 1 op 0 1 _).trans ((Blob.record_get_head ..).trans (Nat.mod_eq_of_lt hp)),
    (Blob.record_get_tail 1 op 1 6 _).trans ((Blob.record_get_tail 1 p 0 6 _).trans (Blob.record_get_head ..)), ?_⟩
  rw [show (resetRecord op p).size = 8 from rfl]
  simp only [resetRecord, Blob.record, packFields, Nat.shiftLeft_eq]
  omega

/-- A reset is refused for its parcel's holders or while another one runs (R454). -/
theorem State.writeCode_resetCommand {s : State} {op p : Nat} (ho : 1 ≤ op) (ho' : op ≤ 2) (hp : p < 16)
    (hfree : op = 1 → s.parcelHeld p = false ∧ (s.obs.estate.any fun k => pcParcel k == p) = false)
    (hphase : s.faults.resetPhase ≠ 1) (x : Extra) :
    s.writeCode .manager 2 true (refOf .manager 0xB021 1 resetCommandRow) (resetRecord op p) x = stOk := by
  obtain ⟨h0, h1, h2, -⟩ := resetRecord_get (op := op) (p := p) (by omega) (by omega)
  have hchk : s.chkFaults 0xB021 1 (resetRecord op p) = {} := by
    have hconflict : (op == 1 && (s.parcelHeld p || s.obs.estate.any fun k => pcParcel k == p)) = false := by
      by_cases h : op = 1
      · simp [hfree h]
      · simp [h]
    simp only [State.chkFaults, h0, h1, h2, hconflict, beq_false_of_ne hphase]
    simp [within, ho, ho', Nat.lt_succ_iff.mp hp]
  have hobject : ∀ v, s.chkObject .manager v 0xB021 1 (resetRecord op p) x = {} := fun v => hchk
  have hsize : (resetRecord op p).size = 8 := rfl
  simp [State.writeCode, refOf, resetCommandRow, sizeOk, State.valueDenied, State.valueStatus, hobject, hsize,
    ObjDesc.outside, listBad, ObjDesc.cuveeOf, Chk.code, verdict]

theorem State.answerWindow_faults (s : State) (p : Path) (g : Nat) (y : Response) : (s.answerWindow p g y).faults = s.faults := by
  unfold State.answerWindow
  dsimp only
  split <;> rfl

theorem State.answerWindow_boot (s : State) (p : Path) (g : Nat) (y : Response) : (s.answerWindow p g y).boot = s.boot := by
  unfold State.answerWindow
  dsimp only
  split <;> rfl

theorem State.answerWindow_scrubbing (s : State) (p : Path) (g : Nat) (y : Response) :
    (s.answerWindow p g y).dict.scrubbing = s.dict.scrubbing := by
  unfold State.answerWindow
  dsimp only
  split <;> rfl

section
variable {s : State} {a : Access} (hh : s.hears a = true) (hp : a.path = .pf s.dict.steward) (hphase : s.faults.resetPhase ≠ 1)
include hh hp hphase

/-- PARCEL begins, and its parcel's units are out of the pool. -/
theorem State.parcel_begins {p : Nat} (h16 : p < 16) (hheld : s.parcelHeld p = false)
    (hestate : (s.obs.estate.any fun k => pcParcel k == p) = false) :
    ∃ t, exec (.parcel a p) s = .next t ∧ t.answered a 0 = true ∧ t.faults.resetOp = 1 ∧ t.faults.resetPhase = 1 ∧
      t.faults.resetParcel = p ∧ ∀ u ∈ s.parcelUnits p, u ∈ t.dict.scrubbing := by
  obtain ⟨h0, h1, -, hval⟩ := resetRecord_get (op := 1) (p := p) (by decide) (by omega)
  obtain ⟨u, hu⟩ : ∃ u, u = s.filled (writingTo a 0xB021 1 (resetRecord 1 p)) 2 := ⟨_, rfl⟩
  have hcode : u.writeCode .manager 2 true (refOf .manager 0xB021 1 resetCommandRow) (resetRecord 1 p) default = stOk := by
    subst hu
    exact State.writeCode_resetCommand (s := s.filled _ 2) le_rfl (by decide) h16 (fun _ => ⟨hheld, hestate⟩) hphase _
  have hq : u.writeValue .manager 2 true (refOf .manager 0xB021 1 resetCommandRow) (resetRecord 1 p) default =
      (stOk, false, u.parcelReset p) := by
    rw [State.writeValue_acts hcode rfl (by decide) fun _ => by rw [h0]; decide]
    simp only [State.actWrite, objAt_resetCommand, State.actCommand, h0, h1, if_true]
    rfl
  subst hu
  obtain ⟨y, hw, hans⟩ := State.commandWrite_answered (State.classOf_manager hp) (by simp) (by decide) (by decide) hval
    objAt_resetCommand rfl hh (show 8 ≤ 65536 by decide) hq rfl
  refine ⟨_, rfl, hans, ?_⟩
  rw [hw, State.answerWindow_faults, State.answerWindow_scrubbing]
  exact ⟨rfl, rfl, rfl, fun u hu => List.mem_dedup.mpr (List.mem_append_right _ hu)⟩

/-- ESTATE_WARM begins, and no cuvee is left. -/
theorem State.estateWarm_begins (boot : BootFindings) :
    ∃ t, exec (.estateWarm a boot) s = .next t ∧ t.answered a 0 = true ∧ t.faults.resetOp = 2 ∧ t.faults.resetPhase = 1 ∧
      t.faults.estateState = 3 ∧ t.cuvees = [] ∧ t.boot.findings = some boot := by
  obtain ⟨h0, -, -, hval⟩ := resetRecord_get (op := 2) (p := 0) (by decide) (by decide)
  obtain ⟨u, hu⟩ : ∃ u, u = s.filled (writingTo a 0xB021 1 (resetRecord 2 0)) 2 := ⟨_, rfl⟩
  have hcode : ∀ x, u.writeCode .manager 2 true (refOf .manager 0xB021 1 resetCommandRow) (resetRecord 2 0) x = stOk := by
    subst hu
    exact State.writeCode_resetCommand (s := s.filled _ 2) (by decide) le_rfl (by decide) (fun h => absurd h (by decide)) hphase
  have hq : u.writeValue .manager 2 true (refOf .manager 0xB021 1 resetCommandRow) (resetRecord 2 0)
      { (default : Extra) with boot := boot } = (stOk, false, u.warmReset boot) := by
    unfold State.writeValue
    rw [hcode]
    simp [refOf, State.acceptWrite, h0]
  have hwarmed := u.warmReset_warmed boot
  simp only [State.warmed, Prod.mk.injEq] at hwarmed
  obtain ⟨hfaults, hcuvees, hwin, hfound⟩ := hwarmed
  subst hu
  obtain ⟨y, hw, hans⟩ := State.commandWrite_answered (State.classOf_manager hp) (by simp) (by decide) (by decide) hval
    objAt_resetCommand rfl hh (show 8 ≤ 65536 by decide) hq hwin
  refine ⟨_, rfl, hans, ?_⟩
  rw [hw, State.answerWindow_faults, State.answerWindow_cuvees, State.answerWindow_boot, hfaults]
  exact ⟨rfl, rfl, rfl, hcuvees, hfound⟩

end

/-- Settles O6: a ResetCommand that its checks pass acts where it is served. -/
theorem resetCommandsBegin : Obligations.ResetCommandsBegin := by
  unfold Obligations.ResetCommandsBegin
  exact ⟨fun s a p hh hp h16 hheld hestate hphase => State.parcel_begins hh hp hphase h16 hheld hestate,
    fun s a boot hh hp hphase => State.estateWarm_begins hh hp hphase boot⟩

end Sys2Proof.Machine


/-! # The steward role (R462) -/

namespace Sys2Proof.Machine

/-! ## A request by the side-band (R484–R486) -/

/-- A heard frame is well-formed, is no repeat, and carries a plain request. -/
theorem State.hearsSide_iff {s : State} {a : Access} : s.hearsSide a = true ↔
    a.via = .wizor (wizorOf a) ∧ a.path = .sideband (wizorSource a) ∧ s.boot.standby = true ∧ s.sideKey = none ∧
      (wizorOf a).magic = 0x52573947 ∧ (wizorOf a).version = 1 ∧ (wizorOf a).node = s.side.node ∧ (wizorOf a).flags = 0 ∧
      (wizorOf a).lengthOk = true ∧ (s.side.kept.any fun e => e.1 == wizorSource a && e.2.1 == (wizorOf a).seq) = false ∧
      plainHeader a = true ∧ s.faults.estateState ≠ 3 ∧ s.asmOf a.path = none := by
  simp only [State.hearsSide, Bool.and_eq_true, beq_iff_eq, bne_iff_ne, ne_eq, Bool.not_eq_true', Option.isNone_iff_eq_none,
    and_assoc]

/-- A heard frame whose request fits is served once, and its answer is the latest thing sent. -/
theorem State.wizor_served {s t : State} {a : Access} {r : Req} {x : Extra} {y : Reply} (h : s.hearsSide a = true)
    (hl : r.length ≤ 1024) (hs : (s.acceptSeq (wizorOf a).seq).serve r x = (some y, t)) :
    s.wizor (wizorSource a) (wizorOf a) r x =
      (t.wizorCount 0).answerWizor (wizorSource a) (wizorOf a).seq (r.response (s.acceptSeq (wizorOf a).seq).stamp y) := by
  obtain ⟨-, -, hstandby, hkey, hmagic, hversion, hnode, hflags, hlength, hkept, -⟩ := State.hearsSide_iff.mp h
  have hdrop : s.wizorDrop (wizorOf a) r = none := by
    simp [State.wizorDrop, hmagic, hversion, hnode, hflags, hlength, hkey, Nat.not_lt.mpr hl, bit]
  have hnew : (s.side.kept.find? fun e => e.1 == wizorSource a && e.2.1 == (wizorOf a).seq) = none := by
    simpa [List.find?_eq_none] using hkept
  unfold State.wizor
  simp only [hstandby, Bool.not_true, Bool.false_eq_true, if_false, hdrop, hnew, hkey, Option.isSome_none, Bool.false_and, hs]

/-- A heard write of a command object by the side-band: what it comes to, and its answer on the way. -/
theorem State.commandWrite_answeredSide {s t : State} {a : Access} {i sub st : Nat} {b : Blob} {x : Extra} {d : ObjDesc}
    (h : s.hearsSide a = true) (hb : b.size ≤ 1024) (hv : b.val < 2 ^ (8 * b.size)) (hd : objAt i sub = some d)
    (hw : bit d.side 1 = true)
    (hq : (s.acceptSeq (wizorOf a).seq).writeValue .side 2 true (refOf .side i sub d) b x = (st, false, t)) :
    (s.commandWrite a i sub b x).answeredSide a st = true ∧ (s.commandWrite a i sub b x).dict = t.dict := by
  obtain ⟨hvia, hpath, hstandby, -, -, -, -, -, -, -, hplain, hestate, hasm⟩ := State.hearsSide_iff.mp h
  have hserves : (s.acceptSeq (wizorOf a).seq).Serves (writingTo a i sub b) .side := by
    refine ⟨hplain, ?_, hestate, hasm, ?_⟩
    · rw [show (writingTo a i sub b).path = .sideband (wizorSource a) from hpath]
      exact hb
    · rw [show (writingTo a i sub b).path = .sideband (wizorSource a) from hpath]
      rfl
  obtain ⟨size, hserve⟩ := hserves.serve_write (g := (wizorOf a).seq) (.inl rfl) (by simp) hd hw rfl hv hq
  have hframed : framed a = true := by unfold framed; rw [hvia]
  have hreach : s.reaches a.path = true := by rw [hpath]; exact hstandby
  have hreq : s.commandWrite a i sub b x =
      s.wizor (wizorSource a) (wizorOf a) (accessReq (writingTo a i sub b) 2 (wizorOf a).seq) x := by
    unfold State.commandWrite State.request_
    rw [if_pos hframed, show (writingTo a i sub b).path = a.path from rfl, show (writingTo a i sub b).via = a.via from rfl,
      hreach, hvia, hpath]
    rfl
  rw [hreq, State.wizor_served h hb hserve]
  refine ⟨?_, rfl⟩
  simp [State.answeredSide, State.answerWizor, State.emitWizor, State.emit, Req.response, accessReq, writingTo]

/-! ## StewardCommand and StewardHeartbeat -/

/-- The table's row of StewardCommand. -/
def stewardCommandRow : ObjDesc :=
  ⟨0x1001, 0x1001, 0x03, 0x03, "StewardCommand", .u8, 2, 2, 2, false, .estate, true, 1, 1, 1, ⟨1, 0⟩, some (1, 4)⟩

theorem objAt_stewardCommand : objAt 0x1001 3 = some stewardCommandRow := by decide +kernel

/-- The codes of each class (R462). -/
def stewardCodes : List (Acc × Nat) := [(.deputy, 1), (.manager, 2), (.side, 3), (.side, 4)]

section
variable {s : State} {acc : Acc} {code : Nat} (hc : (acc, code) ∈ stewardCodes)
include hc

theorem State.writeCode_stewardCommand {refused : Bool}
    (h : s.chkComm acc 0x1001 3 (Blob.scalar 1 code) = { conflict := refused }) :
    s.writeCode acc 2 true (refOf acc 0x1001 3 stewardCommandRow) (Blob.scalar 1 code) default =
      if refused then stConflict else stOk := by
  have hval : (Blob.scalar 1 code).val = code ∧ within code 1 4 = true ∧
      s.valueDenied acc 0x1001 3 (Blob.scalar 1 code) = false := by
    simp only [stewardCodes, List.mem_cons, Prod.mk.injEq, List.not_mem_nil, or_false] at hc
    obtain ⟨rfl, rfl⟩ | ⟨rfl, rfl⟩ | ⟨rfl, rfl⟩ | ⟨rfl, rfl⟩ := hc <;> exact ⟨rfl, rfl, rfl⟩
  obtain ⟨hval, hrange, hdenied⟩ := hval
  have hobject : ∀ v, s.chkObject acc v 0x1001 3 (Blob.scalar 1 code) default = { conflict := refused } := fun v => h
  have hsize : (Blob.scalar 1 code).size = 1 := rfl
  cases refused <;>
    simp [State.writeCode, refOf, stewardCommandRow, sizeOk, hsize, hdenied, State.valueStatus, hobject, hval, hrange,
      ObjDesc.outside, listBad, ObjDesc.cuveeOf, Chk.code, verdict]

/-- A StewardCommand acts on the cycle on which it is served, or is refused. -/
theorem State.writeValue_stewardCommand {refused : Bool}
    (h : s.chkComm acc 0x1001 3 (Blob.scalar 1 code) = { conflict := refused }) :
    s.writeValue acc 2 true (refOf acc 0x1001 3 stewardCommandRow) (Blob.scalar 1 code) default =
      (if refused then stConflict else stOk, false, if refused then s else s.stewardAct acc code) := by
  have hcode := State.writeCode_stewardCommand hc h
  cases refused
  · have hval : (Blob.scalar 1 code).val = code := by
      simp only [stewardCodes, List.mem_cons, Prod.mk.injEq, List.not_mem_nil, or_false] at hc
      obtain ⟨-, rfl⟩ | ⟨-, rfl⟩ | ⟨-, rfl⟩ | ⟨-, rfl⟩ := hc <;> rfl
    rw [State.writeValue_acts hcode rfl (by decide) fun h => absurd h (by decide)]
    simp only [State.actWrite, objAt_stewardCommand, stewardCommandRow, if_true, State.actCommand, hval]
    rfl
  · exact State.writeValue_refused hcode (by decide) (by decide)

end

/-- The role moves to another port: the former manager's staging set is gone. -/
theorem State.moveSteward_moves {s : State} {p : HostPort} (h : s.dict.steward ≠ p) :
    (s.moveSteward p).dict.steward = p ∧ (s.moveSteward p).staging .manager = [] := by
  have hfind : (s.dict.staging.filter fun e => e.1 != .manager).find? (fun e => e.1 == .manager) = none := by
    simp [List.find?_eq_none]
  simp [State.moveSteward, h, State.staging, hfind]

theorem State.moveSteward_steward (s : State) (p : HostPort) : (s.moveSteward p).dict.steward = p := by
  by_cases h : s.dict.steward = p
  · simp [State.moveSteward, h]
  · exact (State.moveSteward_moves h).1

theorem State.moveSteward_windows (s : State) (p : HostPort) : (s.moveSteward p).dict.windows = s.dict.windows := by
  unfold State.moveSteward
  split <;> rfl

theorem otherPort_ne (p : HostPort) : p ≠ otherPort p := by cases p <;> simp [otherPort]

theorem State.answerWindow_steward (s : State) (p : Path) (g : Nat) (y : Response) :
    (s.answerWindow p g y).dict.steward = s.dict.steward ∧ (s.answerWindow p g y).dict.beatFrom = s.dict.beatFrom := by
  unfold State.answerWindow
  dsimp only
  split <;> exact ⟨rfl, rfl⟩

section
variable {s : State} {a : Access} {acc : Acc} {code : Nat}

/-- TAKE or YIELD moves the role to the other port. -/
theorem State.stewardCommand_moves (hh : s.hears a = true) (hcls : s.classOf a.path = some acc) (ht : ∀ c, acc ≠ .tenant c)
    (hc : (acc, code) ∈ stewardCodes) (h : s.chkComm acc 0x1001 3 (Blob.scalar 1 code) = {})
    (hact : ∀ u : State, u.stewardAct acc code = u.moveSteward (otherPort u.dict.steward))
    (hright : bit (stewardCommandRow.rights acc) 1 = true) :
    (s.codeWrite a 0x1001 3 code).answered a stOk = true ∧
      (s.codeWrite a 0x1001 3 code).dict.steward = otherPort s.dict.steward ∧
      (s.codeWrite a 0x1001 3 code).staging .manager = [] := by
  obtain ⟨u, hu⟩ : ∃ u, u = s.filled (writingTo a 0x1001 3 (Blob.scalar 1 code)) 2 := ⟨_, rfl⟩
  have hq := State.writeValue_stewardCommand (s := u) (refused := false) hc (hu ▸ h)
  rw [if_neg (by decide), if_neg (by decide), hact] at hq
  obtain ⟨hsteward, hstaging⟩ := u.moveSteward_moves (otherPort_ne u.dict.steward)
  have hwin := u.moveSteward_windows (otherPort u.dict.steward)
  subst hu
  obtain ⟨y, hw, hans⟩ := State.commandWrite_answered hcls ht (by decide) (by decide) (Nat.mod_lt _ (by decide))
    objAt_stewardCommand hright hh (show 1 ≤ 65536 by decide) hq hwin
  refine ⟨hans, ?_, ?_⟩
  · rw [State.codeWrite, hw, (State.answerWindow_steward ..).1, hsteward]
    rfl
  · rw [State.codeWrite, hw, State.answerWindow_staging, hstaging]

/-- A TAKE that is refused leaves the role where it is. -/
theorem State.take_refused (hh : s.hears a = true) (hcls : s.classOf a.path = some .deputy)
    (h : s.chkComm .deputy 0x1001 3 (Blob.scalar 1 1) = { conflict := true }) :
    (s.codeWrite a 0x1001 3 1).answered a stConflict = true ∧ (s.codeWrite a 0x1001 3 1).dict.steward = s.dict.steward := by
  obtain ⟨u, hu⟩ : ∃ u, u = s.filled (writingTo a 0x1001 3 (Blob.scalar 1 1)) 2 := ⟨_, rfl⟩
  have hq := State.writeValue_stewardCommand (s := u) (acc := .deputy) (code := 1) (refused := true) (by decide) (hu ▸ h)
  subst hu
  obtain ⟨y, hw, hans⟩ := State.commandWrite_answered hcls (by simp) (by decide) (by decide) (Nat.mod_lt _ (by decide))
    objAt_stewardCommand rfl hh (show 1 ≤ 65536 by decide) hq rfl
  refine ⟨hans, ?_⟩
  rw [State.codeWrite, hw, (State.answerWindow_steward ..).1]
  rfl

/-- ASSIGN_A or ASSIGN_B gives the role to its port. -/
theorem State.assign_moves {p : HostPort} (hh : s.hearsSide a = true) (hc : (.side, code) ∈ stewardCodes)
    (h : s.chkComm .side 0x1001 3 (Blob.scalar 1 code) = {})
    (hact : ∀ u : State, u.stewardAct .side code = u.moveSteward p) :
    (s.codeWrite a 0x1001 3 code).answeredSide a stOk = true ∧ (s.codeWrite a 0x1001 3 code).dict.steward = p := by
  have hchk : (s.acceptSeq (wizorOf a).seq).chkComm .side 0x1001 3 (Blob.scalar 1 code) = { conflict := false } := h
  have hq := State.writeValue_stewardCommand hc hchk
  rw [if_neg (by decide), if_neg (by decide), hact] at hq
  obtain ⟨hans, hdict⟩ := State.commandWrite_answeredSide hh (show 1 ≤ 1024 by decide) (Nat.mod_lt _ (by decide))
    objAt_stewardCommand rfl hq
  refine ⟨hans, ?_⟩
  rw [State.codeWrite, hdict]
  exact State.moveSteward_steward ..

/-- The table's row of StewardHeartbeat. -/
def stewardHeartbeatRow : ObjDesc :=
  ⟨0x1001, 0x1001, 0x04, 0x04, "StewardHeartbeat", .u32, 2, 0, 0, false, .estate, false, 4, 4, 1, ⟨4, 0⟩, none⟩

theorem objAt_stewardHeartbeat : objAt 0x1001 4 = some stewardHeartbeatRow := by decide +kernel

/-- Any value of StewardHeartbeat counts from now. -/
theorem State.heartbeat_counts (hh : s.hears a = true) (hp : a.path = .pf s.dict.steward) (v : Nat) :
    (s.commandWrite a 0x1001 4 (Blob.scalar 4 v) default).answered a stOk = true ∧
      (s.commandWrite a 0x1001 4 (Blob.scalar 4 v) default).dict.beatFrom = s.time.now ∧
      (s.commandWrite a 0x1001 4 (Blob.scalar 4 v) default).dict.steward = s.dict.steward := by
  obtain ⟨u, hu⟩ : ∃ u, u = s.filled (writingTo a 0x1001 4 (Blob.scalar 4 v)) 2 := ⟨_, rfl⟩
  have hobject : ∀ w, u.chkObject .manager w 0x1001 4 (Blob.scalar 4 v) default = {} := fun _ => rfl
  have hdenied : u.valueDenied .manager 0x1001 4 (Blob.scalar 4 v) = false := rfl
  have hsize : (Blob.scalar 4 v).size = 4 := rfl
  have hcode : u.writeCode .manager 2 true (refOf .manager 0x1001 4 stewardHeartbeatRow) (Blob.scalar 4 v) default = stOk := by
    simp [State.writeCode, refOf, stewardHeartbeatRow, sizeOk, hsize, hdenied, State.valueStatus, hobject, ObjDesc.outside,
      listBad, ObjDesc.cuveeOf, Chk.code, verdict]
  have hact : u.actWrite .manager ⟨0x1001, 4, Blob.scalar 4 v⟩ default = u.heartbeatAct := by
    simp only [State.actWrite, objAt_stewardHeartbeat]
    rfl
  have hq := State.writeValue_acts hcode rfl (by decide) fun h => absurd h (by decide)
  rw [hact] at hq
  subst hu
  obtain ⟨y, hw, hans⟩ := State.commandWrite_answered (State.classOf_manager hp) (by simp) (by decide) (by decide)
    (Nat.mod_lt _ (by decide)) objAt_stewardHeartbeat rfl hh (show 4 ≤ 65536 by decide) hq rfl
  obtain ⟨hsteward, hbeat⟩ := State.answerWindow_steward ((s.filled (writingTo a 0x1001 4 (Blob.scalar 4 v)) 2).heartbeatAct)
    a.path (reqGen a) y
  rw [hw] at hans ⊢
  exact ⟨hans, hbeat, hsteward⟩

end

/-- Settles O3: the holder's port, the heartbeat and the ports that are present decide what a StewardCommand comes to. -/
theorem stewardRole : Obligations.StewardRole := by
  unfold Obligations.StewardRole
  have hdeputy : ∀ (s : State) (a : Access), a.path = .pf (otherPort s.dict.steward) → s.classOf a.path = some .deputy :=
    fun s a hp => by
      rw [hp]
      exact congrArg some (if_neg (otherPort_ne _).symm)
  refine ⟨⟨fun s a hh hp hgone => ⟨_, rfl, ?_⟩, fun s a hh hp hhost => ⟨_, rfl, ?_⟩, fun s a hh hhost => ⟨_, rfl, ?_⟩,
    fun s a hh hhost => ⟨_, rfl, ?_⟩, fun s a v hh hp => ⟨_, rfl, s.heartbeat_counts hh hp v⟩⟩,
    fun s a hh hp hperst hlink hbeat => ⟨_, rfl, ?_⟩⟩
  · refine State.stewardCommand_moves hh (hdeputy s a hp) (by simp) (by decide) ?_ (fun _ => rfl) rfl
    rcases hgone with hperst | hlink
    · simp [State.chkComm, Blob.scalar, hperst]
    · simp [State.chkComm, Blob.scalar, hlink]
  · refine State.stewardCommand_moves hh (State.classOf_manager hp) (by simp) (by decide) ?_ (fun _ => rfl) rfl
    simp [State.chkComm, Blob.scalar, hhost]
  · refine State.assign_moves hh (by decide) ?_ fun _ => rfl
    simp [State.chkComm, Blob.scalar, portNo, hhost]
  · refine State.assign_moves hh (by decide) ?_ fun _ => rfl
    simp [State.chkComm, Blob.scalar, portNo, hhost]
  · refine State.take_refused hh (hdeputy s a hp) ?_
    have hsilent : (s.num 0x1001 5 != 0 && decide (s.dict.beatFrom + (s.num 0x1001 5 : Nat) ≤ s.time.now)) = false := by
      rcases hbeat with h0 | hlate
      · simp [h0]
      · simp [not_le.mpr hlate]
    simp [State.chkComm, Blob.scalar, hperst, hlink, hsilent]

end Sys2Proof.Machine


/-! # The standby domain and the loss of power (R483, R485, R499, R501) -/

namespace Sys2Proof.Machine

/-- Standby power alone starts the always-on domain: its straps, and the sequence mark past every accepted one (R485). -/
theorem State.standbyStart_starts {s : State} (strap : Nat) (hs : s.boot.standby = false) (he : s.boot.pwrEn = false)
    (hw : s.boot.step ≠ .waitInput) :
    (s.standbyStart strap).boot.standby = true ∧ (s.standbyStart strap).boot.step = .standby ∧
      (s.standbyStart strap).side.node = strap % 16 ∧ (s.standbyStart strap).side.highSeq = s.flash.wizorSeq + 65536 ∧
      (s.standbyStart strap).flash = s.flash := by
  have hwait : (s.boot.step == .waitInput) = false := beq_false_of_ne hw
  unfold State.standbyStart
  rw [if_neg (by simp [hs])]
  dsimp only [State.updBoot, State.setDomain]
  rw [he, hwait]
  exact ⟨rfl, rfl, rfl, rfl, rfl⟩

theorem State.plcaBeacon_counts {s : State} (hs : s.boot.standby = true) (b : Bool) : s.plcaBeacon b =
    { s with side := { s.side with
      plca := b, counters := if b then s.side.counters else bump 64 s.side.counters 5 1 } } := by
  simp [State.plcaBeacon, hs]

/-- What the loss of main power leaves: the estate as `estateLost` does, flash and the always-on domain as they were. -/
theorem State.powerGone_loses (s : State) : s.powerGone.cuvees = [] ∧ s.powerGone.faults.estateState = 3 ∧
    s.powerGone.boot.pwrGood = false ∧ s.powerGone.flash = s.flash ∧ s.powerGone.side = s.side :=
  ⟨rfl, rfl, rfl, rfl, rfl⟩

/-- Settles O15: the standby input and main power act where they come and go. -/
theorem standbyAndPower : Obligations.StandbyAndPower := by
  unfold Obligations.StandbyAndPower
  refine ⟨⟨fun s strap hs he hw => ⟨_, rfl, s.standbyStart_starts strap hs he hw⟩, fun s => rfl, fun s b hs => ⟨_, rfl, ?_⟩⟩,
    fun s => ?_⟩
  · rw [State.plcaBeacon_counts hs]
    exact ⟨rfl, fun hb => if_pos hb, fun hb => if_neg (by simp [hb])⟩
  · obtain ⟨hcuvees, hestate, hgood, hflash, hside⟩ := s.powerGone_loses
    refine ⟨⟨_, rfl, rfl, hgood, rfl, rfl, hcuvees, hestate, hflash, hside⟩, fun hp => ⟨_, rfl, ?_⟩⟩
    rw [State.mainInputFault, if_neg (by simp [hp])]
    exact ⟨hgood, rfl, hcuvees, hestate, hflash, hside⟩

end Sys2Proof.Machine

/-! # A HOLIDAY row (R441) -/

namespace Sys2Proof.Machine

/-- A RUNNING or PAUSED cuvee without a quiesce takes the one it is called for. -/
theorem State.callQuiesce_fresh {s : State} {c : Nat} (hlive : (s.cuvee c).live = true) (hq : (s.cuvee c).quiesce = none)
    (scope target cause : Nat) (limit : Instant) :
    s.callQuiesce c scope target cause limit = s.updCuvee c fun v =>
      { v with quiesce := some ⟨scope, target, cause, some limit, false, none, none, false, [], false⟩, faultNext := false } := by
  simp [State.callQuiesce, hlive, hq]

section
variable {s : State} {x : RowInst} {l : List RowInst} (hl : s.alm.issue = x :: l) (ha : rowAction x.row = 6)
  (hscope : bits (rowOperand x.row) 1 0 = 0)
include hl ha hscope

theorem State.holidayRow_live (hlive : (s.cuvee (rowCuvee x.row)).live = true) :
    s.holidayRow = ((s.issued x l).watchRow x false).callQuiesce (rowCuvee x.row) 0 (rowCuvee x.row) 1
      ((s.issued x l).watchRow x false).quiesceBy := by
  have hissued : ((s.issued x l).cuvee (rowCuvee x.row)).live = true := by
    rw [State.live_of_grouping (s.issued_grouping x l), hlive]
  simp [State.holidayRow, State.issueRow_issued hl ha, holidayScope, hscope, State.scopeLive, hissued, Scope.code, State.each]

theorem State.holidayRow_skipped (hlive : (s.cuvee (rowCuvee x.row)).live = false) :
    s.holidayRow = ((s.issued x l).countSkip x.seg).rowEnd x 1 := by
  have hissued : ((s.issued x l).cuvee (rowCuvee x.row)).live = false := by
    rw [State.live_of_grouping (s.issued_grouping x l), hlive]
  simp [State.holidayRow, State.issueRow_issued hl ha, holidayScope, hscope, State.scopeLive, hissued]

end

/-- Settles O23: the row's BEGIN record and its watch leave the cuvee as it is for the quiesce it calls. -/
theorem holidayRow : Obligations.HolidayRow := by
  unfold Obligations.HolidayRow
  intro s x l hl ha hscope
  refine ⟨fun hlive hq => ?_, fun hlive => ?_⟩
  · have hg := (State.watchRow_grouping (s.issued x l) x false).trans (s.issued_grouping x l)
    have hcall := State.callQuiesce_fresh ((State.live_of_grouping hg (rowCuvee x.row)).trans hlive)
      ((State.quiesce_of_grouping hg (rowCuvee x.row)).trans hq) 0 (rowCuvee x.row) 1
      ((s.issued x l).watchRow x false).quiesceBy
    rw [← State.holidayRow_live hl ha hscope hlive] at hcall
    refine ⟨_, ⟨0, rowCuvee x.row, 1, some ((s.issued x l).watchRow x false).quiesceBy, false, none, none, false, [], false⟩,
      rfl, ?_, ?_, rfl, rfl, rfl, rfl⟩
    · rw [hcall, State.updCuvee_alm, State.watchRow_issue, State.issued_alm]
    · rw [hcall, State.cuvee_updCuvee]
  · have hu := State.holidayRow_skipped hl ha hscope hlive
    have halm : s.holidayRow.alm = ((s.issued x l).countSkip x.seg).alm := by rw [hu, State.rowEnd_alm]
    have hg : s.holidayRow.grouping = s.grouping := by
      rw [hu, State.rowEnd, State.daybook_grouping]
      exact s.issued_grouping x l
    refine ⟨_, rfl, by simp [halm, State.countSkip, State.updSeg], ?_, State.quiesce_of_grouping hg _⟩
    rw [State.seg_of_alm halm, State.countSkip, State.seg_updSeg, State.seg_issued]

end Sys2Proof.Machine

/-! # Hangs and shared engines (R437–R440, R448–R451) -/

namespace Sys2Proof.Machine

/-! ## What the daybook leaves of a cuvee -/

/-- The daybook changes of a cuvee its counters alone. -/
theorem State.daybook_cuvee {β : Type} {g : Cuvee → β} (hg : ∀ v n, g { v with counters := n } = g v)
    (s : State) (c kind engine unit code tag a0 a1 a2 d : Nat) :
    g ((s.daybook c kind engine unit code tag a0 a1 a2).cuvee d) = g (s.cuvee d) := by
  obtain h | ⟨k, n, h⟩ := s.daybook_cuvees c kind engine unit code tag a0 a1 a2
  · simp only [State.cuvee, h]
  · have hd : (s.daybook c kind engine unit code tag a0 a1 a2).cuvee d = (s.tally c k n).cuvee d := by
      simp only [State.cuvee, h]
    rw [hd, State.tally]
    split
    · rfl
    · by_cases hd : d = c
      · rw [hd, State.cuvee_updCuvee, hg]
      · rw [State.cuvee_updCuvee_ne s _ hd]

theorem State.bookTrigger_cuvee (s : State) (c src tag d : Nat) : (s.bookTrigger c src tag).cuvee d = s.cuvee d :=
  congrArg (fun m : Sparse Cuvee => m.getD d Cuvee.init) (s.bookTrigger_cuvees c src tag)

/-- A fault record counts a fault of its cuvee; the cuvee's state and quiesce stand. -/
theorem State.logCuvee_counts (s : State) (c kind cls flags unit arg0 arg1 detail : Nat) (tileUnit : Bool) :
    let v := (s.logCuvee c kind cls flags unit arg0 arg1 detail tileUnit).cuvee c
    v.faults = ((s.cuvee c).faults + 1) % 2 ^ 32 ∧ v.state = (s.cuvee c).state ∧ v.quiesce = (s.cuvee c).quiesce := by
  unfold State.logCuvee
  extract_lets own eu t v
  have hv : v = t.cuvee c := rfl
  rw [hv, State.cuvee_updCuvee]
  exact ⟨rfl, rfl, rfl⟩

/-! ## A hang is a contained fault (R437–R440) -/

/-- A cuvee's fault is counted and marked to act at the next slot, and its state stands until then. -/
def State.FaultPending (s u : State) (c : Nat) : Prop :=
  (u.cuvee c).faultNext = true ∧ (u.cuvee c).faults = ((s.cuvee c).faults + 1) % 2 ^ 32 ∧ (u.cuvee c).state = (s.cuvee c).state

section
variable {s : State} {c : Nat} (hlive : (s.cuvee c).live = true) (hq : (s.cuvee c).quiesce = none)
include hlive hq

theorem State.containedFault_pending (kind cls unit arg0 arg1 detail : Nat) (tileUnit : Bool) :
    s.FaultPending (s.containedFault c kind cls unit arg0 arg1 detail tileUnit) c := by
  unfold State.containedFault
  extract_lets v freezes t u w
  have hlogged : ∀ {β : Type} {g : Cuvee → β}, (∀ v n, g { v with counters := n } = g v) →
      g (w.cuvee c) = g (t.cuvee c) := fun hg =>
    (congrArg _ (u.bookTrigger_cuvee c 2 0 c)).trans (State.daybook_cuvee hg ..)
  obtain ⟨htf, hts, htq⟩ := s.logCuvee_counts c kind cls (b2n freezes) unit arg0 arg1 detail tileUnit
  have hw : (w.cuvee c).quiesce = none := ((hlogged (g := Cuvee.quiesce) fun _ _ => rfl).trans htq).trans hq
  have hfaults : (w.cuvee c).faults = ((s.cuvee c).faults + 1) % 2 ^ 32 :=
    (hlogged (g := Cuvee.faults) fun _ _ => rfl).trans htf
  have hstate : (w.cuvee c).state = (s.cuvee c).state := (hlogged (g := Cuvee.state) fun _ _ => rfl).trans hts
  rw [if_neg (by simp [freezes, v, hlive]), State.FaultPending, State.cuvee_updCuvee]
  simp only [hw, true_and]
  exact ⟨hfaults, hstate⟩

theorem State.hang_pending (unit cause arg1 : Nat) : s.FaultPending (s.hang c unit cause arg1) c := by
  rw [State.hang, if_pos hlive]
  exact State.containedFault_pending hlive hq ..

theorem State.hangDeadline_pending {id d : Nat} {w : Watch} (hw : s.watch id = some w) (hc : w.cuvee = c)
    (hd : w.deadline = some d) (hcomplete : w.complete = false) (hhung : w.hung = false)
    (hepochs : (s.val 0xB002 c).get 0 2 ≠ 0) (hlate : d + 4096 * (s.val 0xB002 c).get 0 2 ≤ s.slotCount) :
    s.FaultPending (s.hangDeadline id) c := by
  subst hc
  have hu : s.hangDeadline id =
      (s.updWatch id fun w => { w with hung := true }).hang w.cuvee (s.hangUnit w) 1 w.tag := by
    simp [State.hangDeadline, hw, hd, hcomplete, hhung, hepochs, Nat.not_lt.mpr hlate]
  rw [hu]
  exact State.hang_pending (s := s.updWatch id fun w => { w with hung := true }) hlive hq ..

theorem State.hangStall_pending {t : Nat} (ha : (s.tile t).act = .running) (ht : (s.tile t).cuvee = c) (hc : c ≠ 0)
    (hstall : ((s.val 0xB002 c).get 8 8 : Nat) ≤ s.slotStart s.time.slot - (s.tile t).progress) :
    s.FaultPending (s.hangStall t) c := by
  subst ht
  unfold State.hangStall
  extract_lets x tick limit
  rw [if_neg (by simp [x, tick, limit, ha, hc, not_lt.mpr hstall])]
  exact State.hang_pending hlive hq ..

theorem State.hangWatchdog_pending (hmiss : (s.val 0xB002 c).get 2 2 ≤ (s.cuvee c).missRun) (hcores : s.coresOf c = []) :
    s.FaultPending (s.hangWatchdog c) c := by
  unfold State.hangWatchdog
  extract_lets v
  rw [if_neg (by simp [v, hlive, Nat.not_lt.mpr hmiss])]
  simp only [hcores, List.find?_nil]
  exact State.hang_pending hlive hq ..

end

/-! ## Shared engines (R448–R451) -/

/-- Which engines are fenced or retired, and the suspects of those whose replay runs. -/
def State.replays (s : State) := (s.faults.engines, s.faults.suspects)

theorem State.bookTrigger_faults (s : State) (c src tag : Nat) : (s.bookTrigger c src tag).faults = s.faults :=
  congrArg (·.faults) (s.bookTrigger_beyondCuvees c src tag)

theorem State.nackHeld_faults (s : State) (router : Nat) : (s.nackHeld router).faults = s.faults :=
  State.each_frame State.faults _ _ _ fun s _ => State.each_frame State.faults _ _ s fun s _ => s.inject_faults _

/-- A shared engine that is not fenced yet is fenced, and its suspects are noted. -/
theorem State.sharedFault_faults {s : State} {e : Engine} (hk : e.kind ≤ 3)
    (he : s.faults.engines.getD (engineKey e) 0 = 0) :
    (s.sharedFault e).faults = { s.faults with
      engines := s.faults.engines.insert (engineKey e) 1
      suspects := s.faults.suspects.insert (engineKey e) (s.time.now, s.slotCount, s.suspectsOf e) } := by
  unfold State.sharedFault
  rw [if_neg (by simp [he]), if_neg (by omega)]
  extract_lets sus f t u v
  have hu : u.faults = t.faults := by
    unfold u
    split
    · exact t.nackHeld_faults e.unit
    · rfl
  have hv : v.faults = u.faults := by
    unfold v
    split
    · exact u.netError_faults 3
    · rfl
  exact (v.bookTrigger_faults 0 2 0).trans (hv.trans hu)

theorem State.logCuvee_replays (s : State) (c kind cls flags unit arg0 arg1 detail : Nat) (tileUnit : Bool) :
    (s.logCuvee c kind cls flags unit arg0 arg1 detail tileUnit).replays = s.replays := rfl

theorem State.containedFault_replays (s : State) (c kind cls unit arg0 arg1 detail : Nat) (tileUnit : Bool) :
    (s.containedFault c kind cls unit arg0 arg1 detail tileUnit).replays = s.replays := by
  unfold State.containedFault
  extract_lets v freezes t u w
  have hw : w.replays = s.replays :=
    (congrArg State.replays ((u.bookTrigger_beyondCuvees c 2 0).trans (t.daybook_beyondCuvees c 2 7 0 5 0 0 0 0)) :)
  split
  · exact hw
  · exact hw

theorem State.replayed_replays (s : State) (e : Engine) (delay c : Nat) : (s.replayed e delay c).replays = s.replays := by
  unfold State.replayed
  split
  · rfl
  · exact s.logCuvee_replays ..

theorem State.engineNamed_replays (s : State) (e : Engine) (c : Nat) : (s.engineNamed e c).replays = s.replays := by
  unfold State.engineNamed
  split
  · rfl
  · exact s.containedFault_replays ..

theorem State.retireEngine_replays {e : Engine} (hk : e.kind ≤ 3) (s : State) (sus : List Nat) :
    (s.retireEngine e sus).replays = (s.replayOver e 2).replays := by
  have hnamed : ((s.replayOver e 2).each sus fun s c => s.engineNamed e c).replays = (s.replayOver e 2).replays :=
    State.each_frame State.replays _ _ _ fun s c => s.engineNamed_replays e c
  unfold State.retireEngine
  extract_lets u
  split
  · exact hnamed
  · exact hnamed
  · omega
  · omega
  · exact hnamed

theorem State.replayDone_replays {s : State} {e : Engine} {x : Instant × Nat × List Nat}
    (hx : s.faults.suspects.find (engineKey e) = some x) :
    (s.replayDone e .transient).replays = (s.replayOver e 0).replays := by
  obtain ⟨start, at_, sus⟩ := x
  simp only [State.replayDone, hx]
  exact State.each_frame State.replays _ _ _ fun s c => s.replayed_replays e _ c

theorem State.replayLimit_replays {s : State} {e : Engine} {x : Instant × Nat × List Nat} (hk : e.kind ≤ 3)
    (hx : s.faults.suspects.find (engineKey e) = some x) :
    (s.replayLimit e).replays = (s.replayOver e 2).replays := by
  obtain ⟨start, at_, sus⟩ := x
  simp only [State.replayLimit, hx]
  rw [State.retireEngine_replays hk]
  simp [State.replays, State.replayOver]

/-- The end of an engine's replay leaves its status byte and no suspects. -/
theorem State.replayOver_ends {s t : State} {e : Engine} {st : Nat} (h : t.replays = (s.replayOver e st).replays) :
    t.faults.engines.getD (engineKey e) 0 = st ∧ t.faults.suspects.find (engineKey e) = none := by
  obtain ⟨hengines, hsuspects⟩ := Prod.mk.inj h
  rw [hengines, hsuspects]
  refine ⟨?_, Sparse.find_erase_self ..⟩
  by_cases hst : st = 0 <;> simp [State.replayOver, Sparse.getD, hst]

/-- Settles O37: a hang of a live cuvee is a contained fault, whose records change only counters; what follows a fence or an
engine's end leaves the engines and their suspects. -/
theorem hangsAndSharedEngines : Obligations.HangsAndSharedEngines := by
  unfold Obligations.HangsAndSharedEngines
  refine ⟨fun s c i hlive hq hi => ?_, fun s e hk => ⟨fun he => ?_, fun x hx => ⟨?_, ?_⟩⟩⟩
  · obtain ⟨id, w, d, rfl, hw, hc, hd, hcomplete, hhung, hepochs, hlate⟩ | ⟨t, rfl, ha, ht, hc, hstall⟩ | ⟨rfl, hmiss, hcores⟩ := hi
    · exact ⟨_, rfl, State.hangDeadline_pending hlive hq hw hc hd hcomplete hhung hepochs hlate⟩
    · exact ⟨_, rfl, State.hangStall_pending hlive hq ha ht hc hstall⟩
    · exact ⟨_, rfl, State.hangWatchdog_pending hlive hq hmiss hcores⟩
  · have hfaults := State.sharedFault_faults hk he
    exact ⟨_, rfl, by rw [hfaults, Sparse.find_insert_self], by rw [hfaults, Sparse.find_insert_self]⟩
  · exact ⟨_, rfl, State.replayOver_ends (State.replayDone_replays hx)⟩
  · exact ⟨_, rfl, State.replayOver_ends (State.replayLimit_replays hk hx)⟩

end Sys2Proof.Machine

/-! # The stages of a holiday (R441–R444, R262)

What a stage sets of its cuvee is set by a few updates; the records it writes, the messages it sends and the hand-overs it ends
leave all of that alone. -/

namespace Sys2Proof.Machine

/-! ## What the stages set -/

/-- The state of a cuvee, its PRIOR, FREEZE_CAUSE and CUT_INCOMPLETE, and its quiesce. -/
def Cuvee.stance (v : Cuvee) : CvState × Nat × Nat × Bool × Option Quiesce :=
  (v.state, v.prior, v.freezeCause, v.cutIncomplete, v.quiesce)

/-- The tiles, and the stance of cuvee d. -/
def State.stance (s : State) (d : Nat) : Sparse Tile × CvState × Nat × Nat × Bool × Option Quiesce :=
  (s.tiles, (s.cuvee d).stance)

section
variable {s t : State} {d : Nat} (h : t.stance d = s.stance d)
include h

theorem State.tiles_of_stance : t.tiles = s.tiles := congrArg (·.1) h
theorem State.quiesce_of_stance : (t.cuvee d).quiesce = (s.cuvee d).quiesce := congrArg (·.2.2.2.2.2) h
theorem State.state_of_stance : (t.cuvee d).state = (s.cuvee d).state := congrArg (·.2.1) h

end

@[simp] theorem State.stance_ite (p : Prop) [Decidable p] (s t : State) (d : Nat) :
    (if p then s else t).stance d = if p then s.stance d else t.stance d := apply_ite (State.stance · d) ..

theorem State.each_stance {α : Type} (s : State) (l : List α) (d : Nat) {f : State → α → State}
    (hf : ∀ s x, (f s x).stance d = s.stance d) : (s.each l f).stance d = s.stance d := State.each_frame (State.stance · d) f l s hf

/-- A change of one cuvee that keeps its stance keeps every cuvee's. -/
theorem State.updCuvee_stance (s : State) (c d : Nat) {f : Cuvee → Cuvee} (hf : ∀ v, (f v).stance = v.stance) :
    (s.updCuvee c f).stance d = s.stance d := by
  by_cases h : d = c
  · rw [State.stance, h, State.cuvee_updCuvee, hf]; rfl
  · rw [State.stance, State.cuvee_updCuvee_ne s f h]; rfl

/-! ## Records and messages -/

section
variable (s : State) (d : Nat)

@[simp] theorem State.tally_stance (c k n : Nat) : (s.tally c k n).stance d = s.stance d := by
  unfold State.tally
  split
  · rfl
  · exact s.updCuvee_stance c d fun _ => rfl

@[simp] theorem State.daybook_stance (c kind engine unit code tag a0 a1 a2 : Nat) :
    (s.daybook c kind engine unit code tag a0 a1 a2).stance d = s.stance d :=
  Prod.ext (State.daybook_tiles ..) (State.daybook_cuvee (g := Cuvee.stance) (fun _ _ => rfl) ..)

@[simp] theorem State.jobEnd_stance (c engine code tag arg0 status arg2 : Nat) :
    (s.jobEnd c engine code tag arg0 status arg2).stance d = s.stance d := by
  unfold State.jobEnd
  split
  · rfl
  · exact s.daybook_stance ..

@[simp] theorem State.cmdStatusIf_stance (c code phase result cause : Nat) :
    (s.cmdStatusIf c code phase result cause).stance d = s.stance d := by
  unfold State.cmdStatusIf
  split
  · exact s.updCuvee_stance c d fun _ => rfl
  · rfl

@[simp] theorem State.logCuvee_stance (c kind cls flags unit arg0 arg1 detail : Nat) (tileUnit : Bool) :
    (s.logCuvee c kind cls flags unit arg0 arg1 detail tileUnit).stance d = s.stance d := by
  unfold State.logCuvee
  extract_lets own eu t
  exact (s.updCuvee_stance c d fun _ => by rfl : t.stance d = s.stance d)

@[simp] theorem State.sendSquash_stance (c reason : Nat) : (s.sendSquash c reason).stance d = s.stance d :=
  s.each_stance _ d fun _ _ => rfl

@[simp] theorem State.raiseFlare_stance (g : Nat) : (s.raiseFlare g).stance d = s.stance d :=
  (State.each_stance _ _ d fun _ _ => by rfl).trans rfl

@[simp] theorem State.stopIfFrozen_stance : s.stopIfFrozen.stance d = s.stance d := by
  unfold State.stopIfFrozen
  split <;> rfl

@[simp] theorem State.signal_stance (kind payload : Nat) : (s.signal kind payload).stance d = s.stance d := rfl
@[simp] theorem State.holidayRecord_stance (scope target : Nat) (incomplete : Bool) :
    (s.holidayRecord scope target incomplete).stance d = s.stance d := rfl

/-! ## Writes into a cuvee's memory -/

@[simp] theorem State.hostWrite_stance (p : HostPort) (fn addr : Nat) (bs : List Byte) (noSnoop : Bool) (tee : Option Nat) :
    (s.hostWrite p fn addr bs noSnoop tee).stance d = s.stance d := by
  cases p <;> rfl

@[simp] theorem State.inject_stance (p : Packet) : (s.inject p).stance d = s.stance d :=
  calc (s.inject p).stance d
    _ = ((s.tally p.cuvee 12 (packetSize p)).tally p.cuvee 13 (packetSize p * crossings p.src p.dst)).stance d := rfl
    _ = s.stance d := by rw [State.tally_stance, State.tally_stance]

@[simp] theorem State.touchLine_stance (k line c mask policy sectors : Nat) (write : Bool) :
    (s.touchLine k line c mask policy sectors write).2.stance d = s.stance d := by
  unfold State.touchLine
  simp only []
  (repeat' split) <;> rfl

@[simp] theorem State.memTraffic_stance (k off n c label policy : Nat) (write : Bool) :
    (s.memTraffic k off n c label policy write).stance d = s.stance d := by
  unfold State.memTraffic
  extract_lets u v line secs r
  have hu : u.stance d = s.stance d := rfl
  have hv : v.stance d = s.stance d := by
    unfold v
    split
    · rw [State.updCuvee_stance _ c d fun _ => by rfl, State.tally_stance, hu]
    · exact hu
  rw [State.stance_ite, State.tally_stance, ite_self, State.touchLine_stance, hv]

@[simp] theorem State.memWrite_stance (k off : Nat) (bs : List Byte) (c label policy : Nat) :
    (s.memWrite k off bs c label policy).stance d = s.stance d := (State.memTraffic_stance ..).trans rfl

@[simp] theorem State.openSample_stance (k l : Nat) : (s.openSample k l).stance d = s.stance d := rfl

@[simp] theorem State.walkCounted_stance (c va k : Nat) : (s.walkCounted c va k).2.stance d = s.stance d := by
  unfold State.walkCounted
  extract_lets root r places u
  have hu : u.stance d = s.stance d := s.each_stance _ d fun s p => by simp
  exact (u.updCuvee_stance c d fun _ => by rfl).trans hu

@[simp] theorem State.resolved_stance (c va len label : Nat) (write : Bool) (r : Except Nat Leaf × State) :
    (State.resolved c va len label write r).2.stance d = r.2.stance d := by
  have hfault : (r.2.countXFault c).stance d = r.2.stance d := r.2.updCuvee_stance c d fun _ => rfl
  unfold State.resolved
  (repeat' split) <;> simp [hfault]

@[simp] theorem State.translate_stance (c va len label : Nat) (write : Bool) :
    (s.translate c va len label write).2.stance d = s.stance d := by
  simp [State.translate]

theorem State.vaWriteChunks_stance (c label : Nat) (l : List (Nat × Nat)) (bs : List Byte) :
    (s.vaWriteChunks c label l bs).2.stance d = s.stance d := by
  have hhost : ∀ (s : State) n, (s.hostTraffic c n).stance d = s.stance d := fun s n =>
    (State.updCuvee_stance _ c d fun _ => by rfl).trans (s.tally_stance ..)
  induction l generalizing s bs with
  | nil => rfl
  | cons e rest ih =>
    unfold State.vaWriteChunks
    simp only []
    split
    · exact s.translate_stance ..
    · rw [ih, State.memWrite_stance, State.translate_stance]
    · rw [ih, State.stance_ite, hhost, State.hostWrite_stance, ite_self, State.translate_stance]
    · rw [ih, State.inject_stance, State.translate_stance]

@[simp] theorem State.coreWrite_stance (c va : Nat) (bs : List Byte) : (s.coreWrite c va bs).stance d = s.stance d := by
  unfold State.coreWrite State.vaWrite
  simp only []
  split
  · exact s.vaWriteChunks_stance ..
  · rw [State.plainFault, State.logCuvee_stance, State.vaWriteChunks_stance]

/-! ## Hand-overs -/

@[simp] theorem State.updServing_stance (c : Nat) (f : Serving → Serving) : (s.updServing c f).stance d = s.stance d :=
  s.updCuvee_stance c d fun _ => rfl
@[simp] theorem State.caskCount_stance (c i : Nat) : (s.caskCount c i).stance d = s.stance d := s.updCuvee_stance c d fun _ => rfl
@[simp] theorem State.setCask_stance (c id : Nat) (x : Cask) : (s.setCask c id x).stance d = s.stance d := by
  simp [State.setCask]
@[simp] theorem State.dropXfer_stance (k : Nat) (mine : Bool) (tag : Nat) : (s.dropXfer k mine tag).stance d = s.stance d := rfl

@[simp] theorem State.completeJob_stance (c : Nat) (j : Job) (result units cask : Nat) :
    (s.completeJob c j result units cask).stance d = s.stance d := by
  unfold State.completeJob State.complete State.updRing
  extract_lets f b u
  have hu : u.stance d = s.stance d := by
    unfold u
    split
    · exact s.updCuvee_stance c d fun _ => rfl
    · rfl
  exact (u.updCuvee_stance c d fun _ => by rfl).trans hu

@[simp] theorem State.loseCask_stance (c id : Nat) : (s.loseCask c id).stance d = s.stance d :=
  (State.each_stance _ _ d fun s j => s.completeJob_stance d c j 2 0 noCask).trans (s.updServing_stance ..)

@[simp] theorem State.sendCask_stance (m : CaskMsg) : (s.sendCask m).stance d = s.stance d := by
  unfold State.sendCask State.forwardMsg
  split
  · split <;> rfl
  · rfl

@[simp] theorem State.logOutcome_stance (c uid vintage outcome receiver device : Nat) :
    (s.logOutcome c uid vintage outcome receiver device).stance d = s.stance d := by
  unfold State.logOutcome
  split
  · rfl
  · rw [State.setLog, State.coreWrite_stance, State.updServing_stance]

@[simp] theorem State.dropStream_stance (x : Cask) (st : Nat) : (s.dropStream x st).stance d = s.stance d := by
  unfold State.dropStream
  split
  · rfl
  · simp

@[simp] theorem State.refuseStream_stance (k tag : Nat) : (s.refuseStream k tag).stance d = s.stance d := by
  unfold State.refuseStream
  split <;> rfl

@[simp] theorem State.withdraw_stance (c id : Nat) (x : Cask) : (s.withdraw c id x).stance d = s.stance d := by
  unfold State.withdraw State.endOffer
  simp only []
  split <;> simp

@[simp] theorem State.declineIncoming_stance (c id : Nat) (x : Cask) (code : Nat) :
    (s.declineIncoming c id x code).stance d = s.stance d := by
  simp [State.declineIncoming, State.dropIncoming, State.freeCask, State.unfetch]

/-- The hand-overs of frozen cuvees end, and the tiles and every cuvee's stance stand. -/
@[simp] theorem State.casksCut_stance : s.casksCut.stance d = s.stance d :=
  s.each_stance _ d fun s c => by
    unfold State.caskCut
    split
    · rfl
    · exact s.each_stance _ d fun s e => by simp

end

/-! ## QUIESCE_START (R442) -/

/-- The scope of a cuvee's own quiesce is that cuvee. -/
theorem State.scopeHeld_own {s : State} {c : Nat} {q : Quiesce} (hq : (s.cuvee c).quiesce = some q) (hs : q.scope = 0) :
    s.scopeHeld (.cuvee c) = [c] := by
  simp [State.scopeHeld, hq, hs]

theorem Tile.hold_atBoundary (x : Tile) : x.hold.atBoundary = false := by
  unfold Tile.hold
  split
  · rfl
  · next h => exact Bool.eq_false_iff.mpr h

theorem Tile.hold_hold (x : Tile) : x.hold.hold = x.hold := by
  rw [Tile.hold, Tile.hold_atBoundary, if_neg Bool.false_ne_true]

/-- Holding the tiles of a list holds each of them once. -/
theorem State.each_hold {l : List Nat} {s : State} {k : Nat} (h : k ∈ l ∨ (s.tile k).hold = s.tile k) :
    (s.each l fun s t => s.updTile t Tile.hold).tile k = (s.tile k).hold := by
  unfold State.each
  induction l generalizing s with
  | nil => exact (h.resolve_left List.not_mem_nil).symm
  | cons q l ih =>
    by_cases hk : k = q
    · subst hk
      have htile : (s.updTile k Tile.hold).tile k = (s.tile k).hold := State.tile_updTile ..
      exact (ih (.inr (by rw [htile, Tile.hold_hold]))).trans (by rw [htile, Tile.hold_hold])
    · have htile : (s.updTile q Tile.hold).tile k = s.tile k := State.tile_updTile_ne _ _ hk
      refine (ih (h.imp (fun hm => (List.mem_cons.mp hm).resolve_left hk) fun hh => by rw [htile, hh])).trans ?_
      rw [htile]

theorem Tile.hold_act (x : Tile) : x.hold.act = if x.atBoundary then .held else x.act := by
  unfold Tile.hold
  split <;> rfl

theorem State.each_hold_cuvee (l : List Nat) (s : State) (c : Nat) :
    (s.each l fun s t => s.updTile t Tile.hold).cuvee c = s.cuvee c := State.each_frame (State.cuvee · c) _ l s fun _ _ => rfl

theorem State.quiesceStart_holds {s : State} {c : Nat} {q : Quiesce} (hq : (s.cuvee c).quiesce = some q) (hs : q.scope = 0)
    (hb : q.begun = false) :
    ((s.quiesceStart (.cuvee c)).cuvee c).quiesce = some { q with begun := true } ∧
      ∀ k ∈ s.cvTiles c, ((s.quiesceStart (.cuvee c)).tile k).act = if (s.tile k).atBoundary then .held else (s.tile k).act := by
  have hu : s.quiesceStart (.cuvee c) =
      (s.updQuiesce c fun q => { q with begun := true }).each (s.cvTiles c) fun s t => s.updTile t Tile.hold := by
    rw [State.quiesceStart, State.scopeHeld_own hq hs]
    simp only [State.each, List.foldl_cons, List.foldl_nil, hq, hb, Bool.false_eq_true, if_false]
    rfl
  rw [hu]
  refine ⟨?_, fun k hk => ?_⟩
  · rw [State.each_hold_cuvee, State.updQuiesce, State.cuvee_updCuvee, hq]; rfl
  · rw [State.each_hold (.inl hk), Tile.hold_act]
    rfl

/-! ## The cut (R443) -/

/-- A freeze records PRIOR, its cause and whether the cut was incomplete; the tiles and the quiesce stand. -/
theorem State.freezeCuvee_stance (s : State) (c cause : Nat) (incomplete : Bool) :
    (s.freezeCuvee c cause incomplete).stance c =
      (s.tiles, .frozen, (s.cuvee c).state.code, cause, incomplete || (s.cuvee c).cutIncomplete, (s.cuvee c).quiesce) := by
  unfold State.freezeCuvee
  extract_lets v t u w x y
  have ht : t.stance c = (s.tiles, .frozen, (s.cuvee c).state.code, cause, incomplete || (s.cuvee c).cutIncomplete,
      (s.cuvee c).quiesce) := by
    simp only [t, State.stance, State.cuvee_updCuvee]
    rfl
  have hw : w.stance c = t.stance c := by unfold w; split <;> simp [u]
  have hx : x.stance c = t.stance c := by
    unfold x
    split <;> simp [hw]
  have hy : y.stance c = t.stance c := by
    unfold y
    split <;> simp [hx]
  rw [State.stopIfFrozen_stance, hy, ht]

/-- The cut of a cuvee that is not in a plan's own quiesce freezes it at T. -/
theorem State.cutCuvee_stance {s : State} {c : Nat} {q : Quiesce} (hq : (s.cuvee c).quiesce = some q) (hs : q.scope = 0)
    (incomplete : Bool) :
    (s.cutCuvee c incomplete).stance c = (s.tiles, .frozen, (s.cuvee c).state.code, q.cause,
      incomplete || (s.cuvee c).cutIncomplete, some { q with cutAt := some s.stamp, apply := some s.applySlot }) := by
  unfold State.cutCuvee
  simp -zeta only [hq]
  extract_lets stamp apply t u v w x
  have hx : x.stance c = t.stance c := calc x.stance c
    _ = w.stance c := w.updCuvee_stance c c fun _ => by split <;> rfl
    _ = v.stance c := v.holidayRecord_stance ..
    _ = u.stance c := u.signal_stance ..
    _ = t.stance c := t.daybook_stance ..
  have ht : t.stance c = (s.tiles, (s.cuvee c).state, (s.cuvee c).prior, (s.cuvee c).freezeCause, (s.cuvee c).cutIncomplete,
      some { q with cutAt := some stamp, apply := some apply }) := by
    simp only [t, State.stance, State.updQuiesce, State.cuvee_updCuvee]
    simp only [Cuvee.stance, hq]
    rfl
  obtain ⟨htiles, hstate, -, -, hinc, hquiesce⟩ :
      x.tiles = s.tiles ∧ (x.cuvee c).state = (s.cuvee c).state ∧ (x.cuvee c).prior = (s.cuvee c).prior ∧
        (x.cuvee c).freezeCause = (s.cuvee c).freezeCause ∧ (x.cuvee c).cutIncomplete = (s.cuvee c).cutIncomplete ∧
        (x.cuvee c).quiesce = some { q with cutAt := some stamp, apply := some apply } := by
    simpa only [State.stance, Cuvee.stance, Prod.mk.injEq] using hx.trans ht
  rw [if_neg (by simp [hs]), State.freezeCuvee_stance, htiles, hstate, hinc, hquiesce]

/-- CUT with every tile held. -/
theorem State.cut_frozen {s : State} {c : Nat} {q : Quiesce} (hq : (s.cuvee c).quiesce = some q) (hs : q.scope = 0)
    (hb : q.begun = true) (hc : q.cutAt = none) (hh : s.allHeld c = true) :
    (s.cut (.cuvee c)).stance c = (s.tiles, .frozen, (s.cuvee c).state.code, q.cause,
      (s.cuvee c).cutIncomplete, some { q with cutAt := some s.stamp, apply := some s.applySlot }) := by
  have hu : s.cut (.cuvee c) = s.cutCuvee c false := by
    simp [State.cut, State.scopeHeld_own hq hs, hq, hb, hc, hh, State.each]
  rw [hu, State.cutCuvee_stance hq hs, Bool.false_or]

/-! ## QUIESCE_LIMIT (R262) -/

/-- A plan that meets a cuvee's own quiesce ends; the quiesce goes on, and no tile resumes. -/
theorem State.abandonPlan_stance {s : State} {c : Nat} {q : Quiesce} (hq : (s.cuvee c).quiesce = some q) (hs : q.scope = 0)
    (cause : Nat) :
    (s.abandonPlan c cause).stance c = s.stance c ∧ (s.abandonPlan c cause).dict.vals = s.dict.vals := by
  unfold State.abandonPlan
  extract_lets v own u w dests dict x y
  have hown : own = false := by simp [own, v, hq, hs]
  have hu : u.stance c = s.stance c := s.updCuvee_stance c c fun _ => by simp [hown, Cuvee.stance]
  have hw : w.stance c = u.stance c := State.each_stance _ _ c fun _ _ => rfl
  have hdict : w.dict = s.dict := State.each_frame State.dict _ _ u fun _ _ => rfl
  have hvals : x.dict.vals = s.dict.vals := (congrArg DictSt.vals hdict :)
  have hy : y = x := by simp [y, hown]
  rw [hy]
  split
  · exact ⟨hw.trans hu, hvals⟩
  · refine ⟨(x.cmdStatusIf_stance ..).trans (hw.trans hu), ?_⟩
    rw [State.dict_of_beyondCuvees (x.cmdStatusIf_beyondCuvees ..)]
    exact hvals

theorem State.squashTile_cuvee (s : State) (t : Nat) (act : TileAct) (c : Nat) :
    ((s.squashTile t act).cuvee c).stance = (s.cuvee c).stance := by
  unfold State.squashTile
  extract_lets x u
  have hu : (u.cuvee c).stance = (s.cuvee c).stance := by
    unfold u
    split
    · exact congrArg Prod.snd (s.daybook_stance ..)
    · rfl
  exact hu

/-- The squash of the tiles that are not held leaves none running, and the cuvee's stance. -/
theorem State.squashMid_squashes (s : State) (c : Nat) :
    ((s.squashMid c).cuvee c).stance = (s.cuvee c).stance ∧ ∀ k ∈ s.cvTiles c, ((s.squashMid c).tile k).act ≠ .running := by
  refine ⟨State.each_frame (fun s => (s.cuvee c).stance) _ _ _ fun s t => ?_, fun k hk => ?_⟩
  · split
    · rfl
    · exact s.squashTile_cuvee t .held c
  · refine State.each_reaches (P := fun s => (s.tile k).act ≠ .running) hk (fun s => ?_) (fun s t h => ?_) s
    · split
      · next hready =>
        simp only [Tile.cutReady, Bool.and_eq_true, bne_iff_ne] at hready
        exact hready.1
      · rw [(s.squashTile_openWork k .held k).2, if_pos rfl]
        simp
    · split
      · exact h
      · rw [(s.squashTile_openWork t .held k).2]
        split
        · simp
        · exact h

theorem State.at_stance (s : State) (l : Instant) (c : Nat) : (s.at_ l).stance c = s.stance c := by
  simp only [State.stance, State.cuvee, State.moveClock_tiles, State.moveClock_cuvees]

theorem State.allHeld_congr {s t : State} {c : Nat} (h : t.stance c = s.stance c) (hv : t.dict.vals = s.dict.vals) :
    t.allHeld c = s.allHeld c := by
  simp only [State.allHeld, State.tile, State.cvTiles, State.val, State.tiles_of_stance h, hv]

/-- QUIESCE_LIMIT with a tile not held, once a plan that it met has ended, squashes and cuts. -/
theorem State.quiesceLimit_eq {s : State} {c : Nat} {q : Quiesce} (hq : (s.cuvee c).quiesce = some q) (hs : q.scope = 0)
    (hc : q.cutAt = none) (hh : s.allHeld c = false) :
    ∃ u : State, s.quiesceLimit (.cuvee c) = (u.squashMid c).cutCuvee c true ∧ u.stance c = s.stance c ∧
      u.dict.vals = s.dict.vals := by
  unfold State.quiesceLimit
  extract_lets cs
  have hcs : cs = [c] := by simp [cs, State.scopeHeld_own hq hs, hq, hc]
  simp -zeta only [hcs, State.each, List.foldl_cons, List.foldl_nil, hq]
  extract_lets v incomplete u
  obtain ⟨hv, hvals⟩ : v.stance c = s.stance c ∧ v.dict.vals = s.dict.vals := by
    unfold v
    split
    · exact ⟨s.at_stance _ c, by rw [State.moveClock_dict]⟩
    · exact ⟨rfl, rfl⟩
  rw [if_neg (by simp [hs])]
  have hinc : incomplete = true := by simp [incomplete, State.allHeld_congr hv hvals, hh]
  obtain ⟨habandon, hdict⟩ := State.abandonPlan_stance ((State.quiesce_of_stance hv).trans hq) hs 3
  refine ⟨u, by rw [hinc], ?_⟩
  unfold u
  split
  · exact ⟨habandon.trans hv, hdict.trans hvals⟩
  · exact ⟨hv, hvals⟩

/-- QUIESCE_LIMIT with a tile not held cuts the cuvee all the same. -/
theorem State.quiesceLimit_cuts {s : State} {c : Nat} {q : Quiesce} (hq : (s.cuvee c).quiesce = some q) (hs : q.scope = 0)
    (hc : q.cutAt = none) (hh : s.allHeld c = false) :
    ((s.quiesceLimit (.cuvee c)).cuvee c).state = .frozen ∧ ((s.quiesceLimit (.cuvee c)).cuvee c).cutIncomplete = true ∧
      ∀ k ∈ s.cvTiles c, ((s.quiesceLimit (.cuvee c)).tile k).act ≠ .running := by
  obtain ⟨u, hu, hstance, hvals⟩ := State.quiesceLimit_eq hq hs hc hh
  obtain ⟨hmid, hstopped⟩ := u.squashMid_squashes c
  have hquiesce : ((u.squashMid c).cuvee c).quiesce = some q :=
    (congrArg (·.2.2.2.2) hmid).trans ((State.quiesce_of_stance hstance).trans hq)
  have hcut := State.cutCuvee_stance hquiesce hs true
  rw [← hu] at hcut
  have htiles : (s.quiesceLimit (.cuvee c)).tiles = (u.squashMid c).tiles := congrArg (·.1) hcut
  refine ⟨congrArg (·.2.1) hcut, congrArg (·.2.2.2.2.1) hcut, fun k hk => ?_⟩
  rw [State.tile_of_tiles htiles]
  refine hstopped k ?_
  simpa only [State.cvTiles, State.val, hvals] using hk

/-! ## APPLY_TICK (R443) -/

theorem State.cuvee_setFaults (s : State) (f : FaultSt) (c : Nat) : { s with faults := f }.cuvee c = s.cuvee c := rfl

/-- A cuvee's own holiday marks no port (R334). -/
theorem State.applyTick_applied {s : State} {c : Nat} {q : Quiesce} (hq : (s.cuvee c).quiesce = some q) (hs : q.scope = 0)
    (hc : q.cutAt.isSome = true) (ha : q.applied = false) (hslot : q.apply.getD 0 ≤ s.slotCount) :
    ((s.applyTick (.cuvee c)).cuvee c).quiesce = some { q with applied := true, marks := [] } := by
  unfold State.applyTick
  extract_lets cs stamp f u
  have hcs : cs = [c] := by simp [cs, State.scopeHeld_own hq hs, hq, hc, ha, hslot]
  simp -zeta only [hcs]
  extract_lets scope cutAt ports v
  have hports : ports = [] := by simp [ports, scope, State.markPorts, hq, hs]
  have hv : v.cuvee c = s.cuvee c := by
    have hmarks : v = u := by unfold v; rw [hports]; rfl
    rw [hmarks]
    exact s.cuvee_setFaults _ c
  simp only [State.each, List.foldl_cons, List.foldl_nil]
  rw [State.updQuiesce, State.cuvee_updCuvee, hv, hq, hports]
  rfl

/-! ## HOLIDAY_COMPLETE (R444) -/

theorem State.sendStates_stance (s : State) (c d : Nat) : (s.sendStates c).stance d = s.stance d := by
  unfold State.sendStates
  split
  · rfl
  · exact s.each_stance _ d fun s e => s.each_stance _ d fun s q => s.inject_stance d _

theorem State.workDone_stance (s : State) (w : Watch) (d : Nat) : (s.workDone w).stance d = s.stance d := by
  unfold State.workDone
  extract_lets r u
  exact (s.daybook_stance .. : u.stance d = s.stance d)

theorem State.holidaysEnd_stance (s : State) (d : Nat) : s.holidaysEnd.stance d = s.stance d :=
  s.each_stance _ d fun s w => by
    rw [State.stance_ite, State.workDone_stance, ite_self]

/-- The end of the drain ends a cuvee's own quiesce, and its state stands. -/
theorem State.holidayComplete_ends {s : State} {c : Nat} {q : Quiesce} (hq : (s.cuvee c).quiesce = some q) (hs : q.scope = 0)
    (ha : q.applied = true) (hm : q.marks = []) (hc : q.complete = false) (hd : s.drained c = true) :
    ((s.holidayComplete (.cuvee c)).cuvee c).quiesce = none ∧
      ((s.holidayComplete (.cuvee c)).cuvee c).state = (s.cuvee c).state := by
  unfold State.holidayComplete
  extract_lets cs flits f u
  have hcs : cs = [c] := by simp [cs, State.scopeHeld_own hq hs, hq, ha, hm, hc]
  have hu : u.cuvee c = s.cuvee c := s.cuvee_setFaults _ c
  rw [hcs, if_neg (by simp [hd])]
  simp only [State.each, List.foldl_cons, List.foldl_nil]
  rw [State.cuvee_updCuvee, hu]
  exact ⟨by simp [hq, hs], rfl⟩

/-- What follows the completion, the state records of a plan and the ends of rows, leaves it. -/
theorem State.holidayFinish_stance (s : State) (sc : Scope) (d : Nat) :
    (s.holidayFinish sc).stance d = (s.holidayComplete sc).stance d := by
  unfold State.holidayFinish State.holidayDone
  extract_lets open_ plans t
  rw [State.holidaysEnd_stance]
  exact t.each_stance plans d fun s c => by
    split
    · rfl
    · exact s.sendStates_stance c d

/-! ## The obligation -/

/-- Settles O24: each stage sets the cuvee's stance or its tiles, and what goes with it leaves them. -/
theorem stagesOfAHoliday : Obligations.StagesOfAHoliday := by
  unfold Obligations.StagesOfAHoliday
  refine fun s c q hq hs => ⟨fun hb => ?_, fun hb hc hh => ?_, fun hc hh => ?_, fun hc ha hslot => ?_, fun ha hm hc hd => ?_⟩
  · obtain ⟨hbegun, hheld⟩ := State.quiesceStart_holds hq hs hb
    exact ⟨_, rfl, by rw [hbegun]; rfl, hheld⟩
  · have hcut := ((s.cut (.cuvee c)).casksCut_stance c).trans (State.cut_frozen hq hs hb hc hh)
    have hquiesce : ((s.cut (.cuvee c)).casksCut.cuvee c).quiesce = _ := congrArg (·.2.2.2.2.2) hcut
    exact ⟨_, rfl, congrArg (·.2.1) hcut, congrArg (·.2.2.1) hcut, congrArg (·.2.2.2.1) hcut, by rw [hquiesce]; rfl⟩
  · obtain ⟨hstate, hincomplete, hstopped⟩ := State.quiesceLimit_cuts hq hs hc hh
    have hcasks := (s.quiesceLimit (.cuvee c)).casksCut_stance c
    refine ⟨_, rfl, (State.state_of_stance hcasks).trans hstate, (congrArg (·.2.2.2.2.1) hcasks).trans hincomplete, ?_⟩
    exact fun k hk => by rw [State.tile_of_tiles (State.tiles_of_stance hcasks)]; exact hstopped k hk
  · exact ⟨_, rfl, by rw [State.applyTick_applied hq hs hc ha hslot]; rfl⟩
  · obtain ⟨hquiesce, hstate⟩ := State.holidayComplete_ends hq hs ha hm hc hd
    have hfinish := s.holidayFinish_stance (.cuvee c) c
    exact ⟨_, rfl, (State.quiesce_of_stance hfinish).trans hquiesce, (State.state_of_stance hfinish).trans hstate⟩

end Sys2Proof.Machine
